-- ==== Sys2Proof/Word.lean ====
section
/-! DEFINITION. The word types of the XJ512 and their plainest arithmetic: bytes, 32-bit register words, field extraction
and insertion (R6), little-endian packing (R7). -/

namespace Sys2Proof

/-- A byte of the store (R579). -/
abbrev Byte := BitVec 8

/-- One register word (R578: registers are 32 bits wide). -/
abbrev Word := BitVec 32

/-- Bits [hi:lo] of a word, as a number (R6). -/
def Word.field (w : Word) (hi lo : Nat) : Nat :=
  (w.toNat / 2 ^ lo) % 2 ^ (hi + 1 - lo)

/-- The word with bits [hi:lo] replaced by the low bits of `v` (R6). -/
def Word.withField (w : Word) (hi lo v : Nat) : Word :=
  BitVec.ofNat 32 (w.toNat - w.field hi lo * 2 ^ lo + (v % 2 ^ (hi + 1 - lo)) * 2 ^ lo)

/-- One bit of a number. -/
def bit (n i : Nat) : Bool := Nat.testBit n i

/-- A number with bit `i` set. -/
def setBit (n i : Nat) : Nat := if bit n i then n else n + 2 ^ i

/-- A number with bit `i` clear. -/
def clearBit (n i : Nat) : Nat := if bit n i then n - 2 ^ i else n

/-- The indices below `n` of the set bits of a mask, in ascending order. -/
def bitsOf (mask n : Nat) : List Nat := (List.range n).filter (fun i => bit mask i)

/-- Two's complement reading of the low `w` bits. -/
def signed (w n : Nat) : Int :=
  let m := n % 2 ^ w
  if m < 2 ^ (w - 1) then (m : Int) else (m : Int) - (2 ^ w : Nat)

/-- Two's complement encoding of an integer in `w` bits. -/
def unsigned (w : Nat) (i : Int) : Nat := (i % ((2 ^ w : Nat) : Int)).toNat

/-- Little-endian number held by a list of bytes (R7). -/
def leNat : List Byte → Nat
  | [] => 0
  | b :: bs => b.toNat + 256 * leNat bs

/-- The `n` little-endian bytes of a number (R7). -/
def leBytes : Nat → Nat → List Byte
  | 0, _ => []
  | n + 1, v => BitVec.ofNat 8 v :: leBytes n (v / 256)

/-- Big-endian number held by a list of bytes (R22). -/
def beNat (bs : List Byte) : Nat := bs.foldl (fun a b => a * 256 + b.toNat) 0

/-- The `n` big-endian bytes of a number (R22). -/
def beBytes (n v : Nat) : List Byte := (leBytes n v).reverse

/-- Ceiling division. -/
def ceilDiv (a b : Nat) : Nat := (a + b - 1) / b

/-- A count that saturates at the largest value of `w` bits. -/
def satInc (w n : Nat) : Nat := if n + 1 < 2 ^ w then n + 1 else 2 ^ w - 1

end Sys2Proof
end

