-- ==== Sys2Proof/Syntax.lean ====
section
/-! DEFINITION. The commands of the XJ512: one constructor for each row of the opcode table. A command is a register access,
a message, an event on a ball or an instant at which the device acts. Its operands name the unit it concerns and carry what
comes from outside the digital machine: written values, messages, measured samples and outcomes of self-checks. -/

namespace Sys2Proof

/-- Path of a register access: 0 to 1,023 link endpoint, 0x400 service port, 0x401 + m micro-sequencer m (R578, R586). -/
abbrev Path := Nat
/-- Acceptance sequence number, which names one operation (R80). -/
abbrev Asn := Nat
/-- One 64-byte descriptor; byte i is bits [8i+7:8i] (R70). -/
abbrev Desc := BitVec 512
/-- One 128-byte flit; byte i is bits [8i+7:8i] (R496). -/
abbrev Flit := BitVec 1024

/-- A request or response message: source endpoint, ingress port, and the header and body of R504. -/
structure Msg where
  src : Nat
  dest : Nat
  vc : Nat
  op : Nat
  status : Nat
  tag : Nat
  mseq : Nat
  flowStart : Bool
  arg : Nat
  addr : Nat
  body : List Byte
  /-- the port it came in on; 16 for a message of the chip's own (R513) -/
  port : Nat
  /-- a word of the body carries a poison tag (R496) -/
  poison : Bool
  /-- RELAY and RELAY_PORT of its flits (R513) -/
  relay : Option Nat
  /-- MFLAGS bits [7:1] or the reserved byte of the header were not 0 (R504) -/
  bad : Bool
deriving DecidableEq, Repr, Inhabited

/-- One command: a row of the opcode table with its operands. -/
inductive Instr where
  -- register space (R13, R583, R590)
  | registerWrite (path : Path) (addr : Nat) (v : Word)
  | rcRegisterRead (path : Path) (addr : Nat)
  | loRegisterRead (path : Path) (addr : Nat)
  | glbEvqNext (upsets : List (Nat × Nat))
  -- configuration manager (R35 to R61)
  | verify
  | verificationComplete
  | activate
  | discard
  | abortVerify
  | configSwapDrainPoint
  | configSwapLate
  | swapTick
  | depUnmeetable
  | staleReload (island : Nat)
  | staleReloadEnd (island : Nat) (ok : Bool) (upsets : List (Nat × BitVec 128))
  -- work engine and dispatch engines (R75 to R101)
  | doorbell (path : Path) (q : Nat) (tail : Word)
  | submit (m : Msg)
  | descriptorAcceptance (q : Nat)
  | startCheckPoint (a : Asn)
  | dispatchStart (a : Asn)
  | deadline (a : Asn)
  | completionRecordWrite (a : Asn)
  | barrierComplete (a : Asn)
  | cqHeadWrite (path : Path) (q : Nat) (h : Word)
  | resume (q : Nat)
  | skip (q : Nat)
  | flush (q : Nat)
  | pause (q : Nat)
  | abortAll (q : Nat)
  | abortSeq (q : Nat)
  | wkePauseWrite (v : Word)
  -- fault continuity (R113 to R142)
  | deMismatch
  | deSelfCheckDone (aOk bOk : Bool) (resultWord : Word)
  | pcFault (pc corrected rebuilt : Nat) (failed : Bool)
  | mramBankFault (bank objects : Nat)
  | mramRecopyDone (bank : Nat)
  | islandCtlMismatch (cluster copy : Nat)
  | unitFault (cls ix : Nat)
  | powerFailStart (pfN detector : Bool)
  | pfSequenceEnd
  | abortedPowerDelivery (q : Nat)
  | discardOldest
  -- resets (R525 to R529)
  | warmCmd (key : Nat)
  | coldCmd (key : Nat)
  | hubFaultReset
  | resetNLow
  | warmResetStart
  | warmResetEnd (upsets : List (Nat × Nat × Nat)) (deFail ctlFail : Nat)
  -- timebase (R144 to R160)
  | trefLost
  | trefValid
  | arm
  | disarm
  | loadEdge (levels : List (Bool × Bool))
  | gccBroadcastCheck (differs : Nat)
  -- timing sets and channel levels (R171 to R221)
  | teCommit (cluster : Nat) (hi : Word)
  | tsetLoadWriteTick (a : Asn)
  | lvCommit (cluster : Nat) (mask : Word)
  | modeChangeComplete (ch : Nat)
  | forceSetWriteTick (a : Asn)
  | forceSetSettled (a : Asn)
  | levelsSetWriteTick (a : Asn)
  | levelsSetDone (a : Asn)
  | contactCheckMeasure (a : Asn) (samples : List (Nat × List Int))
  | contactCheckRestore (a : Asn)
  -- stored patterns (R226 to R255)
  | segmentLoadTake (a : Asn)
  | segmentLoadCrcDone (a : Asn)
  | vectorPlay (cluster : Nat)
  | needInstant (a : Asn)
  | decisionPoint (a : Asn)
  | segmentBoundary (a : Asn)
  | segtrigPulseEnd (seq : Nat)
  | patternRunStop (a : Asn)
  | feederDrainEnd (a : Asn)
  | hostRequest (seq : Nat) (bits : Word)
  | hostRequestClear (seq : Nat) (bits : Word)
  -- fountains (R273, R275)
  | fountainInstruction (f : Nat) (upsets : List (Nat × BitVec 128))
  | refreshInterval (f : Nat)
  -- capture (R288 to R308)
  | vectorResultComplete (cluster : Nat) (vec : Nat) (samples : List (Nat × List Int))
  | feederEntry (cluster : Nat)
  | basinRecordStore (cluster : Nat)
  | basinClear (site : Nat)
  | acqSample (cluster : Nat) (volts : List Int) (upsets : List (Nat × Nat))
  | acqFrameRearm (cluster : Nat)
  | acquireEnd (a : Asn)
  | acqNext (cluster : Nat) (upsets : List (Nat × Nat))
  | acqMark (cluster : Nat) (upsets : List (Nat × Nat))
  | acqRewind (cluster : Nat) (upsets : List (Nat × Nat))
  | acqOldest (cluster : Nat) (upsets : List (Nat × Nat))
  -- cross-trigger bus (R310 to R317)
  | xtbFire (mask : Word)
  | triggerLineFire (line : Nat)
  | lineRearm (line : Nat)
  | xtbArm (mask : Word)
  | xtbDisarm (mask : Word)
  | gpioPulseStart (pin : Nat)
  | gpioPulseEnd (pin : Nat)
  -- UPLOAD (R324, R325)
  | uploadPacket (a : Asn) (upsets : List (Nat × Nat))
  | uploadAck (a : Asn)
  -- measurement path (R333 to R345)
  | synchronizingReset (cluster : Nat)
  | measSync (cluster : Nat)
  | measSampleOutput (cluster ch : Nat) (value : Int) (outOfSpan : Bool)
  | measureEnd (a : Asn)
  -- analog channels (R349 to R369)
  | parkSave (ch : Nat)
  | parkSaveDone (ch : Nat)
  | outRangeWrite (ch : Nat) (v : Word)
  | rangeMuteEnd (ch : Nat)
  | awgPlayEnd (a : Asn)
  | bankSwap (ch : Nat) (v : Word)
  | bankSwapTakeEffect (ch : Nat)
  | fadeEnd (ch : Nat)
  | coefficientWrite (ch : Nat) (bankB : Bool) (index : Nat) (v : Word)
  | digitizerSample (a : Asn) (code : Int) (drained : Nat)
  | digitizeEnd (a : Asn)
  -- fast lanes (R376 to R385)
  | laneDirectionsOn (a : Asn) (locked : Bool)
  | countingWindowOpen (a : Asn)
  | countingWindowClose (a : Asn) (bits : List (Nat × List Bool))
  | eyePoint (a : Asn) (eye : List (Int × Int × List Nat))
  | laneTestEnd (a : Asn)
  | checkerLock (lane : Nat) (bits : List Bool)
  | checkerLockLoss (lane : Nat) (cdrLost : Bool) (bits : List Bool)
  | laneErr (lane : Nat) (bits : List Bool)
  | lanePllTimeout (group : Nat)
  -- power supply controllers (R390 to R405)
  | dpsStepStart (a : Asn) (site : Nat)
  | dpsStepEnd (a : Asn) (site : Nat)
  | pgoodTimeout (a : Asn) (site : Nat)
  | switchingPeriod (d : Nat) (vsns : Nat) (wave : List Int)
  | limitTrip (d cycle : Nat) (uv : Int)
  | dpsSample (d : Nat) (isns : Int) (vsns : Nat)
  | referenceUpdate (d : Nat)
  | dpsDisable (d : Nat)
  | clearTrip (d : Nat)
  | dpsSelfCheckFail (d : Nat)
  -- energy governor (R412 to R422)
  | admissionExamine
  | chargeExpiry
  | candidateHolding (a : Asn)
  | stepEnergyTimeout (a : Asn) (site : Nat)
  | monitorSample (rails : List Nat) (units : List (Nat × Nat))
  -- micro-sequencers (R429 to R458)
  | microWord (m : Nat) (upsets : List (Nat × BitVec 128))
  | waitEnd (m : Nat)
  | msqTrap (m : Nat)
  | unwindTimeout (m : Nat)
  | controlStoreRestoreDone (m : Nat) (upsets : List (Nat × BitVec 128))
  | controlStoreScrub (m : Nat) (upsets : List (Nat × BitVec 128))
  | msqLoad
  | msqLoadDone
  -- self-calibration and maintenance (R464 to R483)
  | temperatureCheck (u : Nat) (tNow : Int)
  | autoCalStart (u : Nat)
  | calQuietCheck (u : Nat) (samples : List (Nat × List Int)) (tNow : Int)
  | calPassEnd (u : Nat) (tNow : Int) (values : List (Nat × Int))
  | calAgreementTest (u : Nat) (tNow : Int)
  | calSlotCommit (u : Nat)
  | calApplyTick (u : Nat)
  | calRunEnd (u : Nat)
  | ctrain (noWait : Bool)
  | scrub (noWait : Bool)
  | scrubTimer
  | maintActivityEnd (kind ix : Nat)
  -- Apirasta links (R490 to R522)
  | portEnable (p : Nat)
  | portDisable (p : Nat)
  | signalDetect (p : Nat)
  | trainDone (p : Nat)
  | trainTimeout (p : Nat)
  | identTimeout (p : Nat)
  | identComplete (p : Nat)
  | signalLost (p : Nat)
  | portFailure (p : Nat) (alignmentLost : Bool)
  | retrain (p : Nat)
  | aplMeasure (p : Nat)
  | resync (p : Nat)
  | codewordReceive (p : Nat) (symbolErrors : Nat) (flits : List Flit)
  | dataFlit (p : Nat) (f : Flit)
  | nak (p : Nat) (expect : Nat)
  | credit (p : Nat) (freed : List Nat)
  | ident (p : Nat) (f : Flit)
  | tsReq (p : Nat) (f : Flit) (t2 t3 : Nat)
  | tsResp (p : Nat) (f : Flit) (t4 : Nat)
  | advert (p : Nat) (f : Flit)
  | routeLapse (endpoint p : Nat)
  | advertTimer
  | identTimer (p : Nat)
  | creditTimer (p : Nat)
  | timestampTimer (p : Nat)
  | flitTransmit (p : Nat)
  | regRd (m : Msg)
  | regWr (m : Msg)
  | storeWr (m : Msg)
  | storeRd (m : Msg)
  | trig (m : Msg)
  | timeQuery (m : Msg)
  | flowHoldTimeout (src vc : Nat)
  | dupClear (endpoint : Nat)
  | aplChipNumWrite (path : Path) (v : Word)
  | aplRtSelWrite (v : Word)
  -- power states and lifetime records (R524 to R545)
  | vaonRise
  | powerUpSequence (ready : Bool)
  | cisternTrained
  | vaonFall
  | vddCoreFall
  | islandModeRequest (v : Word)
  | islandWakeDone (island : Nat) (upsets : List (Nat × Nat))
  | deviceSleep
  | wake
  | wakingDone
  | rtcSet
  | rtcSecond
  | xtalFail
  | lifetimeMirror
  -- security (R553 to R561)
  | keyCmd
  | keyTableWritten
  | attest
  | attestDone
  | raiseCfgFloor
  | raiseCsFloor
  | floorWritten
  -- service port and general-purpose pins (R564 to R577)
  | selFall
  | svcStatus
  | svcRead (addr : Nat)
  | svcReadContinuation (cont late : Bool)
  | svcWrite (addr : Nat)
  | svcWriteData (v : Word)
  | svcBadOp
  | selRise
  | masterStart
  | masterStop
  | masterFrame (received : Nat)
  | masterTransferEnd
  | svcTxWrite (path : Path) (v : Word)
  | svcRxRead (path : Path)
  | gpioOutWrite (v : Word)
  | gpioInputEdge (pin : Nat) (rising : Bool)
  -- supplies and boundary scan (R594 to R606)
  | supplyOut (supply : Nat) (mv : Int)
  | testLogicReset
  | extest (cells : Nat)
  | samplePreload (cells : Nat)
  | idcode
  | clamp
  | highz
  | extestPulse
  | extestTrain
  | bypass
  -- rows added at the end of the table
  | cisternRetraining
  | xtalReturn
  | srefDerivedSecond
  | pmuClampEngage (ch : Nat) (engaged : Bool)
  | pmuSettlingEnd (ch : Nat)
  | driverCurrentLimit (ch : Nat)
  | clampHit (ch : Nat)
deriving DecidableEq, Repr

end Sys2Proof
end

