-- ==== Sys2Proof/Decode.lean ====
section
/-! DEFINITION. What a word spells. The opcode table gives no row of this block any bits: a command is a register access, a
message or an event, and its operands come beside it. No word spells a command (log entry 10). -/

namespace Sys2Proof

/-- The command that a word of the opcode table spells: the table gives no row bits, so none (log entry 10). -/
def decodeTableWord (_nbits _w : Nat) : Option Instr := none

end Sys2Proof
end

