-- ==== Sys2Proof/Config.lean ====
section
/-! DEFINITION. What one implementation fixes and the spec does not: the free values, the factory contents and the stepping.
None of these has a body, so no proof can rest on a value of them (log entries 2, 3 and 4). -/

namespace Sys2Proof.Config

/-- A value that the spec leaves open, at the n-th use of such a value (State.free counts the uses; log entry 2). -/
opaque freeValue : Nat → BitVec 64
/-- Levels of the balls that a boundary scan captures, at the n-th use of a free value (R606; log entry 2). -/
opaque ballLevels : Nat → Nat
/-- Stepping of this part: false is A0, true is B0 (R1; log entry 3). -/
opaque steppingB0 : Bool
/-- Factory value of APL_UID (R522). -/
opaque deviceUid : BitVec 64
/-- Bytes of the public identity key, x then y (R547). -/
opaque identityPub : Nat → Byte
/-- Length of the device certificate (R548). -/
opaque certLength : Nat
/-- Bytes of the device certificate (R548). -/
opaque certByte : Nat → Byte
/-- Signature of the private identity key over a message: r then s, 64 bytes as one big-endian number (R547, R561). -/
opaque identitySign : List Byte → BitVec 512
/-- Micro-word of the vendor region of a control store, as the mask ROM holds it: sequencer, address (R428). -/
opaque vendorWord : Nat → Nat → BitVec 120
/-- The parity group that holds a store address (R116). -/
opaque parityGroup : Nat → BitVec 2
/-- The parity group of journal copy 0, and how far that of copy 1 lies from it (R107). -/
opaque journalGroup : BitVec 2
opaque journalGroupStep : BitVec 2
/-- Order of the four groups in which copy 1 lies: never the group of copy 0 (R107). -/
def journalGroupOf (copy : Nat) : Nat :=
  if copy = 0 then journalGroup.toNat else (journalGroup.toNat + 1 + journalGroupStep.toNat % 3) % 4
/-- Cycle words that the buffers of the clusters hold, by which a generator may run ahead of play (R284). -/
opaque fountainBuffer : Nat
/-- Count of the island clock of the controllers when the GCC is 0 (R391; log entry 134). -/
opaque islandOffset : Nat
/-- Threshold in µV that the voltage loop commands, before it is held at 0: of KP, KI, the error and the sum of the errors in units of
10 µV (R392; log entry 134). -/
opaque loopThreshold : Nat → Nat → Int → Int → Int
/-- What the register of a PRBS transmitter of a code starts from (R375; log entry 133). -/
opaque prbsStart : Nat → Nat
/-- Factory calibration value: unit, register address (R463). -/
opaque factoryCal : Nat → Nat → Word

end Sys2Proof.Config
end

