-- ==== Sys2Proof/Machine/Names.lean ====
section
/-! DEFINITION. The addresses of the registers, under the names that the chapters give them (R578). A register that exists
once per unit takes the unit's number; one that exists several times in a block takes its index as well. -/

namespace Sys2Proof.Machine

abbrev GLB_ID : Nat := 0x00000000
abbrev GLB_ACCESS_STATUS : Nat := 0x00000004
abbrev GLB_ACCESS_ADDR : Nat := 0x00000008
abbrev GLB_ACCESS_SRC : Nat := 0x0000000C
abbrev GLB_IRQ_STATUS : Nat := 0x00000010
abbrev GLB_IRQ_MASK : Nat := 0x00000014
abbrev GLB_IRQ_CFG : Nat := 0x00000018
abbrev GLB_IRQ_CL : Nat := 0x0000001C
abbrev GLB_IRQ_FNT : Nat := 0x00000020
abbrev GLB_IRQ_AN_LG : Nat := 0x00000024
abbrev GLB_IRQ_DPS_LO : Nat := 0x00000028
abbrev GLB_IRQ_DPS_HI : Nat := 0x0000002C
abbrev GLB_IRQ_APL : Nat := 0x00000030
abbrev GLB_EVQ_CMD : Nat := 0x00000040
abbrev GLB_EVQ_STATUS : Nat := 0x00000044
abbrev GLB_EVQ_LOST : Nat := 0x00000048
abbrev GLB_EVQ_CFG : Nat := 0x0000004C
abbrev GLB_EVQ_RD (i : Nat) : Nat := 0x00000050 + i * 4
abbrev GLB_TB_STATUS : Nat := 0x00000100
abbrev GLB_TB_CTRL : Nat := 0x00000104
abbrev GLB_TB_LOAD_LO : Nat := 0x00000108
abbrev GLB_TB_LOAD_HI : Nat := 0x0000010C
abbrev GLB_GCC_LO : Nat := 0x00000110
abbrev GLB_GCC_HI : Nat := 0x00000114
abbrev GLB_TB_SYNC_CFG : Nat := 0x00000118
abbrev GLB_TB_SYNC_PERIOD : Nat := 0x0000011C
abbrev GLB_TB_CHIP_DESKEW : Nat := 0x00000120
abbrev GLB_TB_XLAT : Nat := 0x00000124
abbrev GLB_TB_LAST_SYNC_LO : Nat := 0x00000128
abbrev GLB_TB_LAST_SYNC_HI : Nat := 0x0000012C
abbrev GLB_TB_EVENTS : Nat := 0x00000130
abbrev GLB_TB_IRQ_EN : Nat := 0x00000134
abbrev GLB_TB_LATE_EVENTS : Nat := 0x00000138
abbrev GLB_TB_LATE_TAGS : Nat := 0x0000013C
abbrev GLB_SITE_ABSENT (i : Nat) : Nat := 0x00000200 + i * 4
abbrev GLB_CONTACT_KNOWN : Nat := 0x00000220
abbrev GLB_CONTACT_LIFTED : Nat := 0x00000224
abbrev GLB_CONTACT_GCC_LO : Nat := 0x00000228
abbrev GLB_CONTACT_GCC_HI : Nat := 0x0000022C
abbrev SEC_STATUS : Nat := 0x00010000
abbrev SEC_CMD : Nat := 0x00010004
abbrev SEC_CFG_FLOOR : Nat := 0x00010008
abbrev SEC_CS_FLOOR : Nat := 0x0001000C
abbrev SEC_KSEQ_LO : Nat := 0x00010010
abbrev SEC_KSEQ_HI : Nat := 0x00010014
abbrev SEC_EVENTS : Nat := 0x00010018
abbrev SEC_IRQ_EN : Nat := 0x0001001C
abbrev SEC_NONCE (i : Nat) : Nat := 0x00010020 + i * 4
abbrev SEC_DEVID_PUB (i : Nat) : Nat := 0x00010040 + i * 4
abbrev SEC_CERT_LEN : Nat := 0x00010080
abbrev SEC_KCMD (i : Nat) : Nat := 0x00010100 + i * 4
abbrev SEC_REPORT (i : Nat) : Nat := 0x00010200 + i * 4
abbrev SEC_CERT (i : Nat) : Nat := 0x00010400 + i * 4
abbrev SEC_KEY (i : Nat) : Nat := 0x00010800 + i * 4
abbrev CFG_CMD : Nat := 0x00020000
abbrev CFG_CMD_STATUS : Nat := 0x00020004
abbrev CFG_SHADOW_STATE : Nat := 0x00020008
abbrev CFG_VERIFY_ERROR : Nat := 0x0002000C
abbrev CFG_ACTIVE_GEN : Nat := 0x00020010
abbrev CFG_SWAP_FAIL : Nat := 0x00020014
abbrev CFG_SWAP_GCC_LO : Nat := 0x00020018
abbrev CFG_SWAP_GCC_HI : Nat := 0x0002001C
abbrev CFG_LAST_SWAP_GCC_LO : Nat := 0x00020020
abbrev CFG_LAST_SWAP_GCC_HI : Nat := 0x00020024
abbrev CFG_ACTIVE_IMAGE_ID : Nat := 0x00020028
abbrev CFG_ACTIVE_VERSION : Nat := 0x0002002C
abbrev CFG_SHADOW_IMAGE_ID : Nat := 0x00020030
abbrev CFG_SHADOW_VERSION : Nat := 0x00020034
abbrev CFG_STATUS : Nat := 0x00020038
abbrev CFG_STAGE_DROPS : Nat := 0x0002003C
abbrev CFG_STALE_ISLANDS : Nat := 0x00020040
abbrev CFG_PF_GEN : Nat := 0x00020044
abbrev CFG_IRQ_EN : Nat := 0x00020048
abbrev CFG_ACTIVE_DIGEST (i : Nat) : Nat := 0x00020060 + i * 4
abbrev CFG_SHADOW_DIGEST (i : Nat) : Nat := 0x00020080 + i * 4
abbrev NRG_STATUS : Nat := 0x00030000
abbrev NRG_CTRL : Nat := 0x00030004
abbrev NRG_WAITING : Nat := 0x00030008
abbrev NRG_HOLD_AFTER : Nat := 0x0003000C
abbrev NRG_STEP_WAIT : Nat := 0x00030010
abbrev NRG_DENIED : Nat := 0x00030014
abbrev NRG_NEVER_Q : Nat := 0x00030018
abbrev NRG_NEVER_SEQ_LO : Nat := 0x0003001C
abbrev NRG_NEVER_SEQ_HI : Nat := 0x00030020
abbrev NRG_EVENTS : Nat := 0x00030024
abbrev NRG_IRQ_EN : Nat := 0x00030028
abbrev NRG_R_PEAK_RES (i : Nat) : Nat := 0x00030100 + i * 32
abbrev NRG_R_W1_USED (i : Nat) : Nat := 0x00030104 + i * 32
abbrev NRG_R_W2_USED (i : Nat) : Nat := 0x00030108 + i * 32
abbrev NRG_R_W3_USED (i : Nat) : Nat := 0x0003010C + i * 32
abbrev NRG_R_MEAS_MW (i : Nat) : Nat := 0x00030110 + i * 32
abbrev NRG_R_OVER (i : Nat) : Nat := 0x00030114 + i * 32
abbrev NRG_K_A (i : Nat) : Nat := 0x00030208 + i * 8
abbrev NRG_K_B (i : Nat) : Nat := 0x0003020C + i * 8
abbrev NRG_SITE_RES (i : Nat) : Nat := 0x00030400 + i * 4
abbrev NRG_SITE_MEAS (i : Nat) : Nat := 0x00030800 + i * 4
abbrev AON_PWR_STATUS : Nat := 0x00040000
abbrev AON_RESET_CMD : Nat := 0x00040004
abbrev AON_CFG : Nat := 0x00040008
abbrev AON_SLEEP_CMD : Nat := 0x0004000C
abbrev AON_ISL_CMD : Nat := 0x00040010
abbrev AON_ISL_MODE0 : Nat := 0x00040014
abbrev AON_ISL_MODE1 : Nat := 0x00040018
abbrev AON_EVENTS : Nat := 0x0004001C
abbrev AON_IRQ_EN : Nat := 0x00040020
abbrev AON_RTC_LO : Nat := 0x00040030
abbrev AON_RTC_HI : Nat := 0x00040034
abbrev AON_RTC_SET_LO : Nat := 0x00040038
abbrev AON_RTC_SET_HI : Nat := 0x0004003C
abbrev AON_RTC_CMD : Nat := 0x00040040
abbrev AON_ALARM_LO : Nat := 0x00040044
abbrev AON_ALARM_HI : Nat := 0x00040048
abbrev AON_LT_LO (i : Nat) : Nat := 0x00040100 + i * 8
abbrev AON_LT_HI (i : Nat) : Nat := 0x00040104 + i * 8
abbrev SVC_CFG : Nat := 0x00050000
abbrev SVC_M_CTRL : Nat := 0x00050004
abbrev SVC_M_COUNT : Nat := 0x00050008
abbrev SVC_STATUS : Nat := 0x0005000C
abbrev SVC_TX : Nat := 0x00050010
abbrev SVC_RX : Nat := 0x00050014
abbrev SVC_CHAIN_LEN : Nat := 0x00050018
abbrev SVC_M_UNDERRUN : Nat := 0x0005001C
abbrev SVC_EVENTS : Nat := 0x00050020
abbrev SVC_IRQ_EN : Nat := 0x00050024
abbrev SVC_GPIO_DIR : Nat := 0x00050030
abbrev SVC_GPIO_OUT : Nat := 0x00050034
abbrev SVC_GPIO_IN : Nat := 0x00050038
abbrev SVC_CHAIN (i : Nat) : Nat := 0x00050100 + i * 4
abbrev MNT_STATUS : Nat := 0x00060000
abbrev MNT_CMD : Nat := 0x00060004
abbrev MNT_CMD_STATUS : Nat := 0x00060008
abbrev MNT_CONFLICTS : Nat := 0x0006000C
abbrev MNT_EVENTS : Nat := 0x00060010
abbrev MNT_IRQ_EN : Nat := 0x00060014
abbrev MNT_CAL_CFG : Nat := 0x00060018
abbrev MNT_CAL_AGREE : Nat := 0x0006001C
abbrev MNT_CAL_QUIET : Nat := 0x00060020
abbrev MNT_CAL_DUE : Nat := 0x00060024
abbrev MNT_CAL_VALID : Nat := 0x00060028
abbrev MNT_CAL_RUNNING : Nat := 0x0006002C
abbrev MNT_SCRUB_PERIOD : Nat := 0x00060030
abbrev MNT_U_STATUS (i : Nat) : Nat := 0x00060100 + i * 32
abbrev MNT_U_THRESH (i : Nat) : Nat := 0x00060104 + i * 32
abbrev MNT_U_TEMP (i : Nat) : Nat := 0x00060108 + i * 32
abbrev MNT_U_TREF (i : Nat) : Nat := 0x0006010C + i * 32
abbrev MNT_U_GEN (i : Nat) : Nat := 0x00060110 + i * 32
abbrev MNT_U_REJECTS (i : Nat) : Nat := 0x00060114 + i * 32
abbrev MNT_U_TIME_LO (i : Nat) : Nat := 0x00060118 + i * 32
abbrev MNT_U_TIME_HI (i : Nat) : Nat := 0x0006011C + i * 32
abbrev WKE_STATUS : Nat := 0x00080000
abbrev WKE_CTRL : Nat := 0x00080004
abbrev WKE_INFLIGHT : Nat := 0x00080008
abbrev WKE_PEAK_INFLIGHT : Nat := 0x0008000C
abbrev WKE_ASN_LO : Nat := 0x00080010
abbrev WKE_ASN_HI : Nat := 0x00080014
abbrev WKE_REJECTS : Nat := 0x00080018
abbrev WKE_EVENTS : Nat := 0x0008001C
abbrev WKE_IRQ_EN : Nat := 0x00080020
abbrev WKE_ATTN_SUM (i : Nat) : Nat := 0x00080040 + i * 4
abbrev WKE_ATTN (i : Nat) : Nat := 0x00080100 + i * 4
abbrev WKE_OPEN (i : Nat) : Nat := 0x00080300 + i * 4
abbrev MSQ_LOAD_CMD : Nat := 0x000A0200
abbrev MSQ_LOAD_TARGETS : Nat := 0x000A0204
abbrev MSQ_LOAD_RESULT : Nat := 0x000A0208
abbrev MSQ_LOAD_IMAGE_ID : Nat := 0x000A020C
/-- Base of the MSQ block of sequencer m (R460). -/
def msqBase (m : Nat) : Nat := if m = 16 then 0x000A0000 else 0x00200800 + m * 0x00100000
abbrev MSQ_STATUS (m : Nat) : Nat := msqBase m + 0x0
abbrev MSQ_CTRL (m : Nat) : Nat := msqBase m + 0x4
abbrev MSQ_PC (m : Nat) : Nat := msqBase m + 0x8
abbrev MSQ_EVFLAGS (m : Nat) : Nat := msqBase m + 0xC
abbrev MSQ_TRAP_EN (m : Nat) : Nat := msqBase m + 0x10
abbrev MSQ_WORDS_LO (m : Nat) : Nat := msqBase m + 0x14
abbrev MSQ_WORDS_HI (m : Nat) : Nat := msqBase m + 0x18
abbrev MSQ_ECC_CORR (m : Nat) : Nat := msqBase m + 0x1C
abbrev MSQ_ECC_UNCORR (m : Nat) : Nat := msqBase m + 0x20
abbrev MSQ_DEFER_LEVEL (m : Nat) : Nat := msqBase m + 0x24
abbrev MSQ_DEFER_DROPS (m : Nat) : Nat := msqBase m + 0x28
abbrev MSQ_UNWIND_LIMIT (m : Nat) : Nat := msqBase m + 0x2C
abbrev MSQ_EVENTS (m : Nat) : Nat := msqBase m + 0x30
abbrev MSQ_IRQ_EN (m : Nat) : Nat := msqBase m + 0x34
abbrev MSQ_FAULT (m : Nat) : Nat := msqBase m + 0x38
abbrev MSQ_G (m : Nat) (i : Nat) : Nat := msqBase m + 0x40 + i * 4
abbrev MSQ_FRAME0 (m : Nat) (i : Nat) : Nat := msqBase m + 0x80 + i * 4
abbrev MSQ_FRAME1 (m : Nat) (i : Nat) : Nat := msqBase m + 0xC0 + i * 4
abbrev MSQ_CNT (m : Nat) (i : Nat) : Nat := msqBase m + 0x100 + i * 4
abbrev WQ_SQ_TAIL (q : Nat) : Nat := 0x00100000 + q * 0x40 + 0x0
abbrev WQ_SQ_HEAD (q : Nat) : Nat := 0x00100000 + q * 0x40 + 0x4
abbrev WQ_CQ_TAIL (q : Nat) : Nat := 0x00100000 + q * 0x40 + 0x8
abbrev WQ_CQ_HEAD (q : Nat) : Nat := 0x00100000 + q * 0x40 + 0xC
abbrev WQ_STATUS (q : Nat) : Nat := 0x00100000 + q * 0x40 + 0x10
abbrev WQ_CTRL (q : Nat) : Nat := 0x00100000 + q * 0x40 + 0x14
abbrev WQ_ARG_LO (q : Nat) : Nat := 0x00100000 + q * 0x40 + 0x18
abbrev WQ_ARG_HI (q : Nat) : Nat := 0x00100000 + q * 0x40 + 0x1C
abbrev WQ_NEXT_SEQ_LO (q : Nat) : Nat := 0x00100000 + q * 0x40 + 0x20
abbrev WQ_NEXT_SEQ_HI (q : Nat) : Nat := 0x00100000 + q * 0x40 + 0x24
abbrev WQ_INFLIGHT (q : Nat) : Nat := 0x00100000 + q * 0x40 + 0x28
abbrev WQ_EVENTS (q : Nat) : Nat := 0x00100000 + q * 0x40 + 0x2C
abbrev WQ_IRQ_EN (q : Nat) : Nat := 0x00100000 + q * 0x40 + 0x30
abbrev WQ_REJECTS (q : Nat) : Nat := 0x00100000 + q * 0x40 + 0x34
abbrev WQ_NOTIFY_EP (q : Nat) : Nat := 0x00100000 + q * 0x40 + 0x38
/-- Base of cluster k (R4). -/
def clBase (k : Nat) : Nat := 0x00200000 + k * 0x00100000
abbrev TE_STATUS (k : Nat) : Nat := clBase k + 0x400
abbrev TE_COMMIT_LO (k : Nat) : Nat := clBase k + 0x404
abbrev TE_COMMIT_HI (k : Nat) : Nat := clBase k + 0x408
abbrev TE_COMMIT_STATUS (k : Nat) : Nat := clBase k + 0x40C
abbrev TE_COLLIDE (k : Nat) : Nat := clBase k + 0x410
abbrev TE_COLLIDE_PINS (k : Nat) : Nat := clBase k + 0x414
abbrev TE_LATE_TAG (k : Nat) : Nat := clBase k + 0x418
abbrev TE_PIN_DESKEW (k : Nat) (i : Nat) : Nat := clBase k + 0x500 + i * 4
abbrev TE_CAL_DESKEW (k : Nat) (i : Nat) : Nat := clBase k + 0x580 + i * 4
abbrev LV_COMMIT (k : Nat) : Nat := clBase k + 0x600
abbrev LV_COMMIT_STATUS (k : Nat) : Nat := clBase k + 0x604
abbrev LV_STATUS (k : Nat) : Nat := clBase k + 0x608
abbrev LV_BAND_VIOL_PINS (k : Nat) : Nat := clBase k + 0x60C
/-- Base of channel c (R4). -/
def chBase (c : Nat) : Nat := clBase (c / 32) + 0x00010000 + c % 32 * 0x400
abbrev CH_CFG (c : Nat) : Nat := chBase c + 0x0
abbrev CH_VIH (c : Nat) : Nat := chBase c + 0x4
abbrev CH_VIL (c : Nat) : Nat := chBase c + 0x8
abbrev CH_VOH (c : Nat) : Nat := chBase c + 0xC
abbrev CH_VOL (c : Nat) : Nat := chBase c + 0x10
abbrev CH_VCOM (c : Nat) : Nat := chBase c + 0x14
abbrev CH_IOH (c : Nat) : Nat := chBase c + 0x18
abbrev CH_IOL (c : Nat) : Nat := chBase c + 0x1C
abbrev CH_VCH (c : Nat) : Nat := chBase c + 0x20
abbrev CH_VCL (c : Nat) : Nat := chBase c + 0x24
abbrev CH_PMU_CTRL (c : Nat) : Nat := chBase c + 0x28
abbrev CH_PMU_FORCE (c : Nat) : Nat := chBase c + 0x2C
abbrev CH_PMU_VCLAMP (c : Nat) : Nat := chBase c + 0x30
abbrev CH_PMU_ICLAMP (c : Nat) : Nat := chBase c + 0x34
abbrev CH_STATUS (c : Nat) : Nat := chBase c + 0x40
abbrev CH_PMU_STATUS (c : Nat) : Nat := chBase c + 0x44
abbrev CH_EVENTS (c : Nat) : Nat := chBase c + 0x48
abbrev CH_IRQ_EN (c : Nat) : Nat := chBase c + 0x4C
abbrev CH_CONTACT (c : Nat) : Nat := chBase c + 0x50
abbrev CH_BAD_SYM (c : Nat) : Nat := chBase c + 0x54
/-- Base of timing set t of cluster k (R4). -/
def tsBase (k t : Nat) : Nat := clBase k + 0x00020000 + t * 0x400
abbrev TS_PERIOD (k : Nat) (t : Nat) : Nat := tsBase k t + 0x0
abbrev TS_DE_ON (k : Nat) (t : Nat) (i : Nat) : Nat := tsBase k t + 0x100 + i * 24
abbrev TS_DATA (k : Nat) (t : Nat) (i : Nat) : Nat := tsBase k t + 0x104 + i * 24
abbrev TS_RTN (k : Nat) (t : Nat) (i : Nat) : Nat := tsBase k t + 0x108 + i * 24
abbrev TS_DE_OFF (k : Nat) (t : Nat) (i : Nat) : Nat := tsBase k t + 0x10C + i * 24
abbrev TS_WIN_OPEN (k : Nat) (t : Nat) (i : Nat) : Nat := tsBase k t + 0x110 + i * 24
abbrev TS_WIN_CLOSE (k : Nat) (t : Nat) (i : Nat) : Nat := tsBase k t + 0x114 + i * 24
abbrev MEAS_CFG (k : Nat) : Nat := clBase k + 0x30000 + 0x0
abbrev MEAS_CTRL (k : Nat) : Nat := clBase k + 0x30000 + 0x4
abbrev MEAS_STATUS (k : Nat) : Nat := clBase k + 0x30000 + 0x8
abbrev MEAS_MON_PINS (k : Nat) : Nat := clBase k + 0x30000 + 0xC
abbrev MEAS_MASK_FAIL_PINS (k : Nat) : Nat := clBase k + 0x30000 + 0x10
abbrev MEAS_EVENTS (k : Nat) : Nat := clBase k + 0x30000 + 0x14
abbrev MEAS_IRQ_EN (k : Nat) : Nat := clBase k + 0x30000 + 0x18
abbrev MEAS_SYNC_GCC_LO (k : Nat) : Nat := clBase k + 0x30000 + 0x1C
abbrev MEAS_SYNC_GCC_HI (k : Nat) : Nat := clBase k + 0x30000 + 0x20
abbrev MEAS_LAST (k : Nat) (i : Nat) : Nat := clBase k + 0x30000 + 0x100 + i * 4
abbrev MEAS_MASK_LO (k : Nat) (i : Nat) : Nat := clBase k + 0x30000 + 0x200 + i * 4
abbrev MEAS_MASK_HI (k : Nat) (i : Nat) : Nat := clBase k + 0x30000 + 0x280 + i * 4
abbrev ACQ_STATUS (k : Nat) : Nat := clBase k + 0x40000 + 0x0
abbrev ACQ_LOST (k : Nat) : Nat := clBase k + 0x40000 + 0x4
abbrev ACQ_HELD (k : Nat) : Nat := clBase k + 0x40000 + 0x8
abbrev ACQ_RD_CMD (k : Nat) : Nat := clBase k + 0x40000 + 0xC
abbrev ACQ_RD_STATUS (k : Nat) : Nat := clBase k + 0x40000 + 0x10
abbrev ACQ_MISSED (k : Nat) : Nat := clBase k + 0x40000 + 0x14
abbrev ACQ_RD (k : Nat) (i : Nat) : Nat := clBase k + 0x40000 + 0x20 + i * 4
abbrev ACQ_MATCH_CARE (k : Nat) : Nat := clBase k + 0x40000 + 0x30
abbrev ACQ_MATCH_HIGH (k : Nat) : Nat := clBase k + 0x40000 + 0x34
abbrev ACQ_EVENTS (k : Nat) : Nat := clBase k + 0x40000 + 0x38
abbrev ACQ_IRQ_EN (k : Nat) : Nat := clBase k + 0x40000 + 0x3C
abbrev CMP_FEED_LEVEL (k : Nat) : Nat := clBase k + 0x40000 + 0x40
abbrev CMP_FEED_OVERFLOW (k : Nat) : Nat := clBase k + 0x40000 + 0x44
abbrev ACQ_FR (k : Nat) (i : Nat) : Nat := clBase k + 0x40000 + 0x100 + i * 4
abbrev CMP_FAILCNT (k : Nat) (i : Nat) : Nat := clBase k + 0x40000 + 0x200 + i * 4
abbrev CAL_STATUS (k : Nat) : Nat := clBase k + 0x50000 + 0x0
abbrev CAL_CMP_SEL (k : Nat) (i : Nat) : Nat := clBase k + 0x50000 + 0x100 + i * 4
abbrev CAL_SPARE (k : Nat) (i : Nat) : Nat := clBase k + 0x50000 + 0x200 + i * 4
abbrev CAL_TAP (k : Nat) (i : Nat) : Nat := clBase k + 0x50000 + 0x300 + i * 4
abbrev FNT_STATUS (f : Nat) : Nat := 0x02000000 + f * 0x10000 + 0x0
abbrev FNT_PROG_ADDR_LO (f : Nat) : Nat := 0x02000000 + f * 0x10000 + 0x4
abbrev FNT_PROG_ADDR_HI (f : Nat) : Nat := 0x02000000 + f * 0x10000 + 0x8
abbrev FNT_PROG_LEN (f : Nat) : Nat := 0x02000000 + f * 0x10000 + 0xC
abbrev FNT_PROG_CRC (f : Nat) : Nat := 0x02000000 + f * 0x10000 + 0x10
abbrev FNT_PROG_RESULT (f : Nat) : Nat := 0x02000000 + f * 0x10000 + 0x14
abbrev FNT_CYCLES_LO (f : Nat) : Nat := 0x02000000 + f * 0x10000 + 0x18
abbrev FNT_CYCLES_HI (f : Nat) : Nat := 0x02000000 + f * 0x10000 + 0x1C
abbrev FNT_X (f : Nat) : Nat := 0x02000000 + f * 0x10000 + 0x20
abbrev FNT_Y (f : Nat) : Nat := 0x02000000 + f * 0x10000 + 0x24
abbrev FNT_Z (f : Nat) : Nat := 0x02000000 + f * 0x10000 + 0x28
abbrev FNT_REF_STATUS (f : Nat) : Nat := 0x02000000 + f * 0x10000 + 0x2C
abbrev FNT_REF_LATE (f : Nat) : Nat := 0x02000000 + f * 0x10000 + 0x30
abbrev FNT_ECC_CORR (f : Nat) : Nat := 0x02000000 + f * 0x10000 + 0x34
abbrev FNT_EVENTS (f : Nat) : Nat := 0x02000000 + f * 0x10000 + 0x38
abbrev FNT_IRQ_EN (f : Nat) : Nat := 0x02000000 + f * 0x10000 + 0x3C
abbrev FNT_LC (f : Nat) (i : Nat) : Nat := 0x02000000 + f * 0x10000 + 0x40 + i * 4
abbrev FNT_JET_EN (f : Nat) (i : Nat) : Nat := 0x02000000 + f * 0x10000 + 0x60 + i * 4
abbrev FNT_JET_INV (f : Nat) (i : Nat) : Nat := 0x02000000 + f * 0x10000 + 0x80 + i * 4
abbrev SEG_RD_BUDGET : Nat := 0x02400000 + 0x0
abbrev SEG_RD_RESERVED : Nat := 0x02400000 + 0x4
abbrev SEG_WR_DROPS : Nat := 0x02400000 + 0x8
abbrev SEG_EVENTS : Nat := 0x02400000 + 0xC
abbrev SEG_IRQ_EN : Nat := 0x02400000 + 0x10
abbrev SEG_JUMP_DEFERRED : Nat := 0x02400000 + 0x14
abbrev SEG_UNDERRUNS : Nat := 0x02400000 + 0x18
abbrev SEG_LOADING : Nat := 0x02400000 + 0x1C
abbrev SEG_Q_STATUS (i : Nat) : Nat := 0x02400000 + 0x1000 + i * 64
abbrev SEG_Q_REQ (i : Nat) : Nat := 0x02400000 + 0x1004 + i * 64
abbrev SEG_Q_REQ_CLR (i : Nat) : Nat := 0x02400000 + 0x1008 + i * 64
abbrev SEG_Q_TRIG (i : Nat) : Nat := 0x02400000 + 0x100C + i * 64
abbrev SEG_Q_VADDR_LO (i : Nat) : Nat := 0x02400000 + 0x1010 + i * 64
abbrev SEG_Q_VADDR_HI (i : Nat) : Nat := 0x02400000 + 0x1014 + i * 64
abbrev SEG_Q_VECTORS_LO (i : Nat) : Nat := 0x02400000 + 0x1018 + i * 64
abbrev SEG_Q_VECTORS_HI (i : Nat) : Nat := 0x02400000 + 0x101C + i * 64
abbrev SEG_Q_LOOP0 (i : Nat) : Nat := 0x02400000 + 0x1020 + i * 64
abbrev SEG_Q_LOOP1 (i : Nat) : Nat := 0x02400000 + 0x1024 + i * 64
abbrev SEG_Q_LOOP2 (i : Nat) : Nat := 0x02400000 + 0x1028 + i * 64
abbrev SEG_Q_LOOP3 (i : Nat) : Nat := 0x02400000 + 0x102C + i * 64
abbrev SEG_Q_TRIG_CFG (i : Nat) : Nat := 0x02400000 + 0x1030 + i * 64
abbrev SEG_D_INFO (i : Nat) : Nat := 0x02400000 + 0x10000 + i * 16
abbrev SEG_D_VCOUNT (i : Nat) : Nat := 0x02400000 + 0x10004 + i * 16
abbrev SEG_D_BASE_LO (i : Nat) : Nat := 0x02400000 + 0x10008 + i * 16
abbrev SEG_D_BASE_HI (i : Nat) : Nat := 0x02400000 + 0x1000C + i * 16
abbrev AN_STATUS (a : Nat) : Nat := 0x03000000 + a * 0x10000 + 0x0
abbrev AN_SRC_CFG (a : Nat) : Nat := 0x03000000 + a * 0x10000 + 0x4
abbrev AN_FTW_LO (a : Nat) : Nat := 0x03000000 + a * 0x10000 + 0x8
abbrev AN_FTW_HI (a : Nat) : Nat := 0x03000000 + a * 0x10000 + 0xC
abbrev AN_PHASE (a : Nat) : Nat := 0x03000000 + a * 0x10000 + 0x10
abbrev AN_GAIN (a : Nat) : Nat := 0x03000000 + a * 0x10000 + 0x14
abbrev AN_OFFSET (a : Nat) : Nat := 0x03000000 + a * 0x10000 + 0x18
abbrev AN_NOISE_SEED_LO (a : Nat) : Nat := 0x03000000 + a * 0x10000 + 0x1C
abbrev AN_NOISE_SEED_HI (a : Nat) : Nat := 0x03000000 + a * 0x10000 + 0x20
abbrev AN_RS_RATIO (a : Nat) : Nat := 0x03000000 + a * 0x10000 + 0x24
abbrev AN_RS_CMD (a : Nat) : Nat := 0x03000000 + a * 0x10000 + 0x28
abbrev AN_RS_STATUS (a : Nat) : Nat := 0x03000000 + a * 0x10000 + 0x2C
abbrev AN_OUT_CFG (a : Nat) : Nat := 0x03000000 + a * 0x10000 + 0x30
abbrev AN_PARK_CODE (a : Nat) : Nat := 0x03000000 + a * 0x10000 + 0x34
abbrev AN_PARK_CMD (a : Nat) : Nat := 0x03000000 + a * 0x10000 + 0x38
abbrev AN_DIG_CFG (a : Nat) : Nat := 0x03000000 + a * 0x10000 + 0x3C
abbrev AN_DIG_MASK (a : Nat) : Nat := 0x03000000 + a * 0x10000 + 0x40
abbrev AN_EVENTS (a : Nat) : Nat := 0x03000000 + a * 0x10000 + 0x44
abbrev AN_IRQ_EN (a : Nat) : Nat := 0x03000000 + a * 0x10000 + 0x48
abbrev AN_SAMPLES_LO (a : Nat) : Nat := 0x03000000 + a * 0x10000 + 0x4C
abbrev AN_SAMPLES_HI (a : Nat) : Nat := 0x03000000 + a * 0x10000 + 0x50
abbrev AN_COEF_DROPS (a : Nat) : Nat := 0x03000000 + a * 0x10000 + 0x54
abbrev AN_DIG_LAST (a : Nat) : Nat := 0x03000000 + a * 0x10000 + 0x58
abbrev AN_COEF_A (a : Nat) (i : Nat) : Nat := 0x03000000 + a * 0x10000 + 0x4000 + i * 4
abbrev AN_COEF_B (a : Nat) (i : Nat) : Nat := 0x03000000 + a * 0x10000 + 0x6000 + i * 4
abbrev LG_STATUS (g : Nat) : Nat := 0x03100000 + g * 0x10000 + 0x0
abbrev LG_TX_CFG (g : Nat) : Nat := 0x03100000 + g * 0x10000 + 0x4
abbrev LG_TX_POL (g : Nat) : Nat := 0x03100000 + g * 0x10000 + 0x8
abbrev LG_RX_POL (g : Nat) : Nat := 0x03100000 + g * 0x10000 + 0xC
abbrev LG_USER_LEN (g : Nat) : Nat := 0x03100000 + g * 0x10000 + 0x10
abbrev LG_EVENTS (g : Nat) : Nat := 0x03100000 + g * 0x10000 + 0x14
abbrev LG_IRQ_EN (g : Nat) : Nat := 0x03100000 + g * 0x10000 + 0x18
abbrev LG_USER (g : Nat) (i : Nat) : Nat := 0x03100000 + g * 0x10000 + 0x20 + i * 4
abbrev LN_STATUS (g : Nat) (i : Nat) : Nat := 0x03100000 + g * 0x10000 + 0x100 + i * 32
abbrev LN_BITS_LO (g : Nat) (i : Nat) : Nat := 0x03100000 + g * 0x10000 + 0x104 + i * 32
abbrev LN_BITS_HI (g : Nat) (i : Nat) : Nat := 0x03100000 + g * 0x10000 + 0x108 + i * 32
abbrev LN_ERR_LO (g : Nat) (i : Nat) : Nat := 0x03100000 + g * 0x10000 + 0x10C + i * 32
abbrev LN_ERR_HI (g : Nat) (i : Nat) : Nat := 0x03100000 + g * 0x10000 + 0x110 + i * 32
abbrev LN_LOCK_LOSS (g : Nat) (i : Nat) : Nat := 0x03100000 + g * 0x10000 + 0x114 + i * 32
abbrev DPS_STATUS (d : Nat) : Nat := 0x03200000 + d * 0x400 + 0x0
abbrev DPS_CTRL (d : Nat) : Nat := 0x03200000 + d * 0x400 + 0x4
abbrev DPS_CFG (d : Nat) : Nat := 0x03200000 + d * 0x400 + 0x8
abbrev DPS_SCOMP (d : Nat) : Nat := 0x03200000 + d * 0x400 + 0xC
abbrev DPS_RSENSE (d : Nat) : Nat := 0x03200000 + d * 0x400 + 0x10
abbrev DPS_LOOP (d : Nat) : Nat := 0x03200000 + d * 0x400 + 0x14
abbrev DPS_OV (d : Nat) : Nat := 0x03200000 + d * 0x400 + 0x18
abbrev DPS_PG (d : Nat) : Nat := 0x03200000 + d * 0x400 + 0x1C
abbrev DPS_SETPOINT (d : Nat) : Nat := 0x03200000 + d * 0x400 + 0x20
abbrev DPS_VREF (d : Nat) : Nat := 0x03200000 + d * 0x400 + 0x24
abbrev DPS_VMEAS (d : Nat) : Nat := 0x03200000 + d * 0x400 + 0x28
abbrev DPS_ISNS (d : Nat) : Nat := 0x03200000 + d * 0x400 + 0x2C
abbrev DPS_IMEAS (d : Nat) : Nat := 0x03200000 + d * 0x400 + 0x30
abbrev DPS_ILIM (d : Nat) : Nat := 0x03200000 + d * 0x400 + 0x34
abbrev DPS_ENERGY_LO (d : Nat) : Nat := 0x03200000 + d * 0x400 + 0x38
abbrev DPS_ENERGY_HI (d : Nat) : Nat := 0x03200000 + d * 0x400 + 0x3C
abbrev DPS_WEIR_TRIPS (d : Nat) : Nat := 0x03200000 + d * 0x400 + 0x40
abbrev DPS_EVENTS (d : Nat) : Nat := 0x03200000 + d * 0x400 + 0x44
abbrev DPS_IRQ_EN (d : Nat) : Nat := 0x03200000 + d * 0x400 + 0x48
abbrev XTB_STATUS : Nat := 0x03400000
abbrev XTB_ARM : Nat := 0x03400004
abbrev XTB_DISARM : Nat := 0x03400008
abbrev XTB_FIRE : Nat := 0x0340000C
abbrev XTB_EVENTS : Nat := 0x03400010
abbrev XTB_IRQ_EN : Nat := 0x03400014
abbrev XTB_MISSED (i : Nat) : Nat := 0x03400040 + i * 4
abbrev XTB_FIRE_GCC_LO (i : Nat) : Nat := 0x03400080 + i * 8
abbrev XTB_FIRE_GCC_HI (i : Nat) : Nat := 0x03400084 + i * 8
abbrev XTB_BASIN_CMD : Nat := 0x03400100
abbrev XTB_BASIN_RESULT : Nat := 0x03400104
abbrev XTB_BASIN_HWM (i : Nat) : Nat := 0x03400120 + i * 4
abbrev XTB_BASIN_STOP (i : Nat) : Nat := 0x03400140 + i * 4
abbrev XTB_FLUSH_PARTIAL : Nat := 0x03400160
abbrev XTB_UPL_LOST : Nat := 0x03400164
abbrev APL_STATUS (p : Nat) : Nat := 0x04000000 + p * 0x10000 + 0x0
abbrev APL_CTRL (p : Nat) : Nat := 0x04000000 + p * 0x10000 + 0x4
abbrev APL_CMD (p : Nat) : Nat := 0x04000000 + p * 0x10000 + 0x8
abbrev APL_PEER_UID_LO (p : Nat) : Nat := 0x04000000 + p * 0x10000 + 0xC
abbrev APL_PEER_UID_HI (p : Nat) : Nat := 0x04000000 + p * 0x10000 + 0x10
abbrev APL_LAT (p : Nat) : Nat := 0x04000000 + p * 0x10000 + 0x14
abbrev APL_SKEW (p : Nat) : Nat := 0x04000000 + p * 0x10000 + 0x18
abbrev APL_FEC_CORR (p : Nat) : Nat := 0x04000000 + p * 0x10000 + 0x1C
abbrev APL_FEC_UNCORR (p : Nat) : Nat := 0x04000000 + p * 0x10000 + 0x20
abbrev APL_REPLAYS (p : Nat) : Nat := 0x04000000 + p * 0x10000 + 0x24
abbrev APL_FAILS (p : Nat) : Nat := 0x04000000 + p * 0x10000 + 0x28
abbrev APL_EVENTS (p : Nat) : Nat := 0x04000000 + p * 0x10000 + 0x2C
abbrev APL_IRQ_EN (p : Nat) : Nat := 0x04000000 + p * 0x10000 + 0x30
abbrev APL_CHIP_NUM : Nat := 0x04100000
abbrev APL_UID_LO : Nat := 0x04100004
abbrev APL_UID_HI : Nat := 0x04100008
abbrev APL_ROUTES : Nat := 0x0410000C
abbrev APL_G_EVENTS : Nat := 0x04100010
abbrev APL_G_IRQ_EN : Nat := 0x04100014
abbrev APL_DROPS : Nat := 0x04100018
abbrev APL_DUPS : Nat := 0x0410001C
abbrev APL_RT_SEL : Nat := 0x04100020
abbrev APL_RT_INFO : Nat := 0x04100024
abbrev APL_RT_LAT : Nat := 0x04100028
abbrev APL_RT_UID_LO : Nat := 0x0410002C
abbrev APL_RT_UID_HI : Nat := 0x04100030
abbrev APL_GAPS : Nat := 0x04100034
abbrev MEM_STATUS : Nat := 0x05000000
abbrev MEM_PC_FAULT : Nat := 0x05000004
abbrev MEM_GROUP_LOST : Nat := 0x05000008
abbrev MEM_ECC_CORR : Nat := 0x0500000C
abbrev MEM_ECC_RECON : Nat := 0x05000010
abbrev MEM_CONT_STATUS : Nat := 0x05000014
abbrev MEM_ISLAND_FENCED : Nat := 0x05000018
abbrev MEM_MRAM_BANK_FAULT : Nat := 0x0500001C
abbrev MEM_DE_RESYNC : Nat := 0x05000020
abbrev MEM_PF_STATUS : Nat := 0x05000024
abbrev MEM_PF_PENDING : Nat := 0x05000028
abbrev MEM_PF_EPOCH : Nat := 0x0500002C
abbrev MEM_PF_GCC_LO : Nat := 0x05000030
abbrev MEM_PF_GCC_HI : Nat := 0x05000034
abbrev MEM_PF_CMD : Nat := 0x05000038
abbrev MEM_EVENTS : Nat := 0x0500003C
abbrev MEM_IRQ_EN : Nat := 0x05000040

end Sys2Proof.Machine
end

