-- ==== Sys2Proof/Machine/Maps.lean ====
section
/-! DEFINITION. Sparse maps: what is held at a number, as a list of pairs in one canonical form. A key that the list does not
name holds the value of a default function, so registers at their reset value, zero bytes and idle units take no room. -/

namespace Sys2Proof.Machine

/-- Pairs of a key and a value. -/
abbrev Map (β : Type) := List (Nat × β)

/-- The value at a key; an unlisted key holds its default. -/
def Map.get {β : Type} (d : Nat → β) : Map β → Nat → β
  | [], k => d k
  | (a, v) :: r, k => if a = k then v else Map.get d r k

/-- The map without a key. -/
def Map.del {β : Type} : Map β → Nat → Map β
  | [], _ => []
  | (a, v) :: r, k => if a = k then Map.del r k else (a, v) :: Map.del r k

/-- Insertion in ascending order of a key that the map does not list. -/
def Map.ins {β : Type} : Map β → Nat → β → Map β
  | [], k, v => [(k, v)]
  | (a, w) :: r, k, v => if k < a then (k, v) :: (a, w) :: r else (a, w) :: Map.ins r k v

/-- The map with a value at a key. Writing the default removes the entry, which keeps the form canonical. -/
def Map.set {β : Type} [DecidableEq β] (d : Nat → β) (m : Map β) (k : Nat) (v : β) : Map β :=
  if v = d k then m.del k else (m.del k).ins k v

/-- Strictly rising keys. -/
def Map.rising {β : Type} : Map β → Bool
  | [] => true
  | [_] => true
  | (a, _) :: (b, w) :: r => decide (a < b) && Map.rising ((b, w) :: r)

/-- The canonical form: keys strictly rising, and no entry equal to what an unlisted key holds. -/
def Map.wf {β : Type} [DecidableEq β] (d : Nat → β) (m : Map β) : Bool :=
  Map.rising m && m.all (fun e => decide (e.2 ≠ d e.1))

end Sys2Proof.Machine
end

