-- ==== Sys2Proof/Machine/Regs.lean ====
section
/-! DEFINITION. The register space of R578: every block, every register and every field of the chapters' tables, with its
access code (R13), its reset value (R14) and the codes a host write may carry. -/

namespace Sys2Proof.Machine

/-- The access codes of R13. A bit that no field covers is RSV. -/
inductive Acc where
  | rw | ro | wo | w1c | w1s | rc | rwl
deriving DecidableEq, Repr

/-- One field: bits [hi:lo], access code, and the least and greatest code a write may carry. -/
structure Fld where
  hi : Nat
  lo : Nat
  acc : Acc
  min : Nat
  max : Nat
deriving DecidableEq, Repr

/-- One register row: name, offset in its block, number of copies and their spacing, reset word, fields. -/
structure Row where
  name : String
  off : Nat
  n : Nat
  stride : Nat
  reset : Nat
  flds : List Fld
deriving DecidableEq, Repr

/-- One block: name, rule, first address, number of instances, spacing, last register offset, rows. -/
structure Blk where
  name : String
  rule : String
  base : Nat
  n : Nat
  stride : Nat
  last : Nat
  rows : List Row
deriving DecidableEq, Repr

/-- A field that takes every code of its width. -/
def fld (hi lo : Nat) (a : Acc) : Fld := ⟨hi, lo, a, 0, 2 ^ (hi + 1 - lo) - 1⟩
/-- A field whose legal codes run from `mn` to `mx`. -/
def fldIn (hi lo : Nat) (a : Acc) (mn mx : Nat) : Fld := ⟨hi, lo, a, mn, mx⟩
/-- One register with the given fields. -/
def reg1 (name : String) (off reset : Nat) (fs : List Fld) : Row := ⟨name, off, 1, 4, reset, fs⟩
/-- `n` registers `stride` apart. -/
def regN (name : String) (off n stride reset : Nat) (fs : List Fld) : Row := ⟨name, off, n, stride, reset, fs⟩
/-- A register that is one field at [31:0]. -/
def whole (a : Acc) : List Fld := [fld 31 0 a]

/-- GLB block (R591): part, access status, interrupts, event queue. -/
def rowsGlb : List Row := [
  reg1 "GLB_ID" 0x000 0x05120000 [fld 31 16 .ro, fld 3 0 .ro],
  reg1 "GLB_ACCESS_STATUS" 0x004 0 [fld 2 0 .w1c],
  reg1 "GLB_ACCESS_ADDR" 0x008 0 (whole .ro),
  reg1 "GLB_ACCESS_SRC" 0x00C 0 [fld 10 0 .ro],
  reg1 "GLB_IRQ_STATUS" 0x010 0 [fld 18 0 .ro],
  reg1 "GLB_IRQ_MASK" 0x014 0 [fld 18 0 .rw],
  reg1 "GLB_IRQ_CFG" 0x018 0 [fld 5 5 .rw, fld 4 4 .rwl, fld 2 0 .rwl],
  reg1 "GLB_IRQ_CL" 0x01C 0 [fld 15 0 .ro],
  reg1 "GLB_IRQ_FNT" 0x020 0 (whole .ro),
  reg1 "GLB_IRQ_AN_LG" 0x024 0 [fld 23 0 .ro],
  reg1 "GLB_IRQ_DPS_LO" 0x028 0 (whole .ro),
  reg1 "GLB_IRQ_DPS_HI" 0x02C 0 (whole .ro),
  reg1 "GLB_IRQ_APL" 0x030 0 [fld 16 0 .ro],
  reg1 "GLB_EVQ_CMD" 0x040 0 [fld 3 0 .wo],
  reg1 "GLB_EVQ_STATUS" 0x044 0 [fld 31 24 .ro, fld 12 0 .ro],
  reg1 "GLB_EVQ_LOST" 0x048 0 (whole .rc),
  reg1 "GLB_EVQ_CFG" 0x04C 1 [fldIn 10 0 .rw 1 1024],
  regN "GLB_EVQ_RD" 0x050 4 4 0 (whole .ro)]

/-- GLB timebase registers (R180). -/
def rowsTb : List Row := [
  reg1 "GLB_TB_STATUS" 0x100 0 [fld 11 8 .ro, fld 4 3 .ro, fld 1 0 .ro],
  reg1 "GLB_TB_CTRL" 0x104 0 [fld 3 0 .wo],
  reg1 "GLB_TB_LOAD_LO" 0x108 0 (whole .rw),
  reg1 "GLB_TB_LOAD_HI" 0x10C 0 (whole .rw),
  reg1 "GLB_GCC_LO" 0x110 0 (whole .ro),
  reg1 "GLB_GCC_HI" 0x114 0 (whole .ro),
  reg1 "GLB_TB_SYNC_CFG" 0x118 0 [fld 9 8 .rw, fld 5 0 .rw],
  reg1 "GLB_TB_SYNC_PERIOD" 0x11C 0x00100000 [fldIn 31 0 .rw 1 0xFFFFFFFF],
  reg1 "GLB_TB_CHIP_DESKEW" 0x120 0 [fld 15 0 .rw],
  reg1 "GLB_TB_XLAT" 0x124 0x400 [fldIn 15 0 .rw 1 65535],
  reg1 "GLB_TB_LAST_SYNC_LO" 0x128 0 (whole .ro),
  reg1 "GLB_TB_LAST_SYNC_HI" 0x12C 0 (whole .ro),
  reg1 "GLB_TB_EVENTS" 0x130 0 [fld 7 0 .w1c],
  reg1 "GLB_TB_IRQ_EN" 0x134 0 [fld 7 0 .rw],
  reg1 "GLB_TB_LATE_EVENTS" 0x138 0 (whole .rc),
  reg1 "GLB_TB_LATE_TAGS" 0x13C 0 (whole .rc)]

/-- GLB site presence registers (R222). -/
def rowsSite : List Row := [
  regN "GLB_SITE_ABSENT" 0x200 8 4 0 (whole .rw),
  reg1 "GLB_CONTACT_KNOWN" 0x220 0 [fld 15 0 .ro],
  reg1 "GLB_CONTACT_LIFTED" 0x224 0 [fld 15 0 .ro],
  reg1 "GLB_CONTACT_GCC_LO" 0x228 0 (whole .ro),
  reg1 "GLB_CONTACT_GCC_HI" 0x22C 0 (whole .ro)]

/-- SEC block (R563). -/
def rowsSec : List Row := [
  reg1 "SEC_STATUS" 0x000 0 [fld 19 0 .ro],
  reg1 "SEC_CMD" 0x004 0 [fld 3 0 .wo],
  reg1 "SEC_CFG_FLOOR" 0x008 0 (whole .ro),
  reg1 "SEC_CS_FLOOR" 0x00C 0 (whole .ro),
  reg1 "SEC_KSEQ_LO" 0x010 0 (whole .ro),
  reg1 "SEC_KSEQ_HI" 0x014 0 (whole .ro),
  reg1 "SEC_EVENTS" 0x018 0 [fld 3 0 .w1c],
  reg1 "SEC_IRQ_EN" 0x01C 0 [fld 3 0 .rw],
  regN "SEC_NONCE" 0x020 8 4 0 (whole .rw),
  regN "SEC_DEVID_PUB" 0x040 16 4 0 (whole .ro),
  reg1 "SEC_CERT_LEN" 0x080 0 [fld 10 0 .ro],
  regN "SEC_KCMD" 0x100 64 4 0 (whole .rw),
  regN "SEC_REPORT" 0x200 64 4 0 (whole .ro),
  regN "SEC_CERT" 0x400 256 4 0 (whole .ro),
  regN "SEC_KEY" 0x800 64 4 0 (whole .ro)]

/-- CFG block (R63, R64). -/
def rowsCfg : List Row := [
  reg1 "CFG_CMD" 0x00 0 [fld 7 0 .wo],
  reg1 "CFG_CMD_STATUS" 0x04 0 [fld 8 0 .ro],
  reg1 "CFG_SHADOW_STATE" 0x08 0 [fld 2 0 .ro],
  reg1 "CFG_VERIFY_ERROR" 0x0C 0 (whole .ro),
  reg1 "CFG_ACTIVE_GEN" 0x10 0 (whole .ro),
  reg1 "CFG_SWAP_FAIL" 0x14 0 [fld 7 0 .ro],
  reg1 "CFG_SWAP_GCC_LO" 0x18 0 (whole .rw),
  reg1 "CFG_SWAP_GCC_HI" 0x1C 0 (whole .rw),
  reg1 "CFG_LAST_SWAP_GCC_LO" 0x20 0 (whole .ro),
  reg1 "CFG_LAST_SWAP_GCC_HI" 0x24 0 (whole .ro),
  reg1 "CFG_ACTIVE_IMAGE_ID" 0x28 0 (whole .ro),
  reg1 "CFG_ACTIVE_VERSION" 0x2C 0 (whole .ro),
  reg1 "CFG_SHADOW_IMAGE_ID" 0x30 0 (whole .ro),
  reg1 "CFG_SHADOW_VERSION" 0x34 0 (whole .ro),
  reg1 "CFG_STATUS" 0x38 0 [fld 3 0 .w1c],
  reg1 "CFG_STAGE_DROPS" 0x3C 0 (whole .rc),
  reg1 "CFG_STALE_ISLANDS" 0x40 0 [fld 25 0 .ro],
  reg1 "CFG_PF_GEN" 0x44 0 (whole .ro),
  reg1 "CFG_IRQ_EN" 0x48 0 [fld 3 0 .rw],
  regN "CFG_ACTIVE_DIGEST" 0x60 8 4 0 (whole .ro),
  regN "CFG_SHADOW_DIGEST" 0x80 8 4 0 (whole .ro)]

/-- NRG block (R425). -/
def rowsNrg : List Row := [
  reg1 "NRG_STATUS" 0x00 0 [fld 3 0 .ro],
  reg1 "NRG_CTRL" 0x04 0 [fld 1 0 .rw],
  reg1 "NRG_WAITING" 0x08 0 [fld 16 0 .ro],
  reg1 "NRG_HOLD_AFTER" 0x0C 0x3E8 [fldIn 31 0 .rw 1 0xFFFFFFFF],
  reg1 "NRG_STEP_WAIT" 0x10 0x186A0 [fldIn 31 0 .rw 1 0xFFFFFFFF],
  reg1 "NRG_DENIED" 0x14 0 (whole .rc),
  reg1 "NRG_NEVER_Q" 0x18 0 [fld 11 0 .ro],
  reg1 "NRG_NEVER_SEQ_LO" 0x1C 0 (whole .ro),
  reg1 "NRG_NEVER_SEQ_HI" 0x20 0 [fld 15 0 .ro],
  reg1 "NRG_EVENTS" 0x24 0 [fld 5 0 .w1c],
  reg1 "NRG_IRQ_EN" 0x28 0 [fld 5 0 .rw],
  regN "NRG_R_PEAK_RES" 0x100 6 0x20 0 (whole .ro),
  regN "NRG_R_W1_USED" 0x104 6 0x20 0 (whole .ro),
  regN "NRG_R_W2_USED" 0x108 6 0x20 0 (whole .ro),
  regN "NRG_R_W3_USED" 0x10C 6 0x20 0 (whole .ro),
  regN "NRG_R_MEAS_MW" 0x110 6 0x20 0 (whole .ro),
  regN "NRG_R_OVER" 0x114 6 0x20 0 (whole .rc),
  regN "NRG_K_A" 0x208 18 8 0x04000400 [fld 28 16 .ro, fld 12 0 .ro],
  regN "NRG_K_B" 0x20C 18 8 0x400 [fld 12 0 .ro],
  regN "NRG_SITE_RES" 0x400 256 4 0 [fld 23 0 .ro],
  regN "NRG_SITE_MEAS" 0x800 256 4 0 [fld 23 0 .ro]]

/-- AON block (R546). -/
def rowsAon : List Row := [
  reg1 "AON_PWR_STATUS" 0x00 0 [fld 31 28 .ro, fld 19 16 .ro, fld 11 8 .ro, fld 2 0 .ro],
  reg1 "AON_RESET_CMD" 0x04 0 [fld 31 16 .wo, fld 3 0 .wo],
  reg1 "AON_CFG" 0x08 0x303 [fld 14 12 .rw, fld 10 8 .rw, fld 2 0 .rw],
  reg1 "AON_SLEEP_CMD" 0x0C 0 [fld 3 0 .wo],
  reg1 "AON_ISL_CMD" 0x10 0 [fld 9 8 .wo, fld 4 0 .wo],
  reg1 "AON_ISL_MODE0" 0x14 0 (whole .ro),
  reg1 "AON_ISL_MODE1" 0x18 0 [fld 19 0 .ro],
  reg1 "AON_EVENTS" 0x1C 0 [fld 5 0 .w1c],
  reg1 "AON_IRQ_EN" 0x20 0 [fld 5 0 .rw],
  reg1 "AON_RTC_LO" 0x30 0 (whole .ro),
  reg1 "AON_RTC_HI" 0x34 0 [fld 30 0 .ro],
  reg1 "AON_RTC_SET_LO" 0x38 0 (whole .rw),
  reg1 "AON_RTC_SET_HI" 0x3C 0 [fld 15 0 .rw],
  reg1 "AON_RTC_CMD" 0x40 0 [fld 3 0 .wo],
  reg1 "AON_ALARM_LO" 0x44 0 (whole .rw),
  reg1 "AON_ALARM_HI" 0x48 0 [fld 15 0 .rw],
  regN "AON_LT_LO" 0x100 32 8 0 (whole .ro),
  regN "AON_LT_HI" 0x104 32 8 0 (whole .ro)]

/-- SVC block (R577). -/
def rowsSvc : List Row := [
  reg1 "SVC_CFG" 0x00 0x00032000 [fldIn 23 16 .rw 1 255, fldIn 13 8 .rw 4 32, fld 5 4 .rw, fld 3 3 .rw, fld 2 2 .rw, fld 0 0 .rw],
  reg1 "SVC_M_CTRL" 0x04 0 [fld 3 0 .wo],
  reg1 "SVC_M_COUNT" 0x08 1 [fldIn 15 0 .rw 1 65535],
  reg1 "SVC_STATUS" 0x0C 0 [fld 31 28 .ro, fld 20 16 .ro, fld 12 0 .ro],
  reg1 "SVC_TX" 0x10 0 (whole .wo),
  reg1 "SVC_RX" 0x14 0 (whole .rc),
  reg1 "SVC_CHAIN_LEN" 0x18 0 [fld 11 0 .rw],
  reg1 "SVC_M_UNDERRUN" 0x1C 0 (whole .rc),
  reg1 "SVC_EVENTS" 0x20 0 [fld 2 0 .w1c],
  reg1 "SVC_IRQ_EN" 0x24 0 [fld 2 0 .rw],
  reg1 "SVC_GPIO_DIR" 0x30 0 [fld 7 0 .rw],
  reg1 "SVC_GPIO_OUT" 0x34 0 [fld 7 0 .rw],
  reg1 "SVC_GPIO_IN" 0x38 0 [fld 7 0 .ro],
  regN "SVC_CHAIN" 0x100 128 4 0 (whole .rw)]

/-- MNT block (R486). -/
def rowsMnt : List Row := [
  reg1 "MNT_STATUS" 0x00 0 [fld 13 8 .ro, fld 5 0 .ro],
  reg1 "MNT_CMD" 0x04 0 [fld 8 8 .wo, fld 3 0 .wo],
  reg1 "MNT_CMD_STATUS" 0x08 0 [fld 3 0 .ro],
  reg1 "MNT_CONFLICTS" 0x0C 0 (whole .rc),
  reg1 "MNT_EVENTS" 0x10 0 [fld 3 0 .w1c],
  reg1 "MNT_IRQ_EN" 0x14 0 [fld 3 0 .rw],
  reg1 "MNT_CAL_CFG" 0x18 0x03E80001 [fldIn 31 16 .rw 1 65535, fld 6 4 .rw, fld 0 0 .rw],
  reg1 "MNT_CAL_AGREE" 0x1C 0x00320064 [fldIn 31 16 .rw 1 1000, fldIn 15 0 .rw 1 1000],
  reg1 "MNT_CAL_QUIET" 0x20 0x00140032 [fldIn 31 16 .rw 1 1000, fldIn 15 0 .rw 1 1000],
  reg1 "MNT_CAL_DUE" 0x24 0x3FFFF [fld 17 0 .ro],
  reg1 "MNT_CAL_VALID" 0x28 0 [fld 17 0 .ro],
  reg1 "MNT_CAL_RUNNING" 0x2C 0 [fld 17 0 .ro],
  reg1 "MNT_SCRUB_PERIOD" 0x30 0x18 [fld 15 0 .rw],
  regN "MNT_U_STATUS" 0x100 18 0x20 0 [fld 17 0 .ro],
  regN "MNT_U_THRESH" 0x104 18 0x20 0x1E [fldIn 7 0 .rw 5 200],
  regN "MNT_U_TEMP" 0x108 18 0x20 0 [fld 15 0 .ro],
  regN "MNT_U_TREF" 0x10C 18 0x20 0 [fld 15 0 .ro],
  regN "MNT_U_GEN" 0x110 18 0x20 0 (whole .ro),
  regN "MNT_U_REJECTS" 0x114 18 0x20 0 (whole .rc),
  regN "MNT_U_TIME_LO" 0x118 18 0x20 0 (whole .ro),
  regN "MNT_U_TIME_HI" 0x11C 18 0x20 0 [fld 15 0 .ro]]

/-- WKE block (chapter 02, "WKE register block"). -/
def rowsWke : List Row := [
  reg1 "WKE_STATUS" 0x00 0 [fld 5 0 .ro],
  reg1 "WKE_CTRL" 0x04 0 [fld 0 0 .rw],
  reg1 "WKE_INFLIGHT" 0x08 0 [fld 16 0 .ro],
  reg1 "WKE_PEAK_INFLIGHT" 0x0C 0 [fld 16 0 .rc],
  reg1 "WKE_ASN_LO" 0x10 1 (whole .ro),
  reg1 "WKE_ASN_HI" 0x14 0 (whole .ro),
  reg1 "WKE_REJECTS" 0x18 0 (whole .rc),
  reg1 "WKE_EVENTS" 0x1C 0 [fld 2 0 .w1c],
  reg1 "WKE_IRQ_EN" 0x20 0 [fld 2 0 .rw],
  regN "WKE_ATTN_SUM" 0x40 4 4 0 (whole .ro),
  regN "WKE_ATTN" 0x100 128 4 0 (whole .ro),
  regN "WKE_OPEN" 0x300 128 4 0 (whole .ro)]

/-- WQ block of one queue (R102). -/
def rowsWq : List Row := [
  reg1 "WQ_SQ_TAIL" 0x00 0 (whole .rw),
  reg1 "WQ_SQ_HEAD" 0x04 0 (whole .ro),
  reg1 "WQ_CQ_TAIL" 0x08 0 (whole .ro),
  reg1 "WQ_CQ_HEAD" 0x0C 0 (whole .rw),
  reg1 "WQ_STATUS" 0x10 0 [fld 23 4 .ro, fld 2 0 .ro],
  reg1 "WQ_CTRL" 0x14 0 [fld 3 0 .wo],
  reg1 "WQ_ARG_LO" 0x18 0 (whole .rw),
  reg1 "WQ_ARG_HI" 0x1C 0 (whole .rw),
  reg1 "WQ_NEXT_SEQ_LO" 0x20 0 (whole .ro),
  reg1 "WQ_NEXT_SEQ_HI" 0x24 0 [fld 15 0 .ro],
  reg1 "WQ_INFLIGHT" 0x28 0 [fld 16 0 .ro],
  reg1 "WQ_EVENTS" 0x2C 0 [fld 2 0 .w1c],
  reg1 "WQ_IRQ_EN" 0x30 0 [fld 8 8 .rw, fld 2 0 .rw],
  reg1 "WQ_REJECTS" 0x34 0 (whole .rc),
  reg1 "WQ_NOTIFY_EP" 0x38 0 [fld 15 15 .rw, fld 9 0 .rw]]

/-- MSQ block of one micro-sequencer (R460). -/
def rowsMsqAt (o : Nat) : List Row := [
  reg1 "MSQ_STATUS" (o + 0x000) 0 [fld 31 16 .ro, fld 7 0 .ro],
  reg1 "MSQ_CTRL" (o + 0x004) 0 [fld 3 0 .wo],
  reg1 "MSQ_PC" (o + 0x008) 0 [fld 12 0 .ro],
  reg1 "MSQ_EVFLAGS" (o + 0x00C) 0 [fld 15 0 .w1c],
  reg1 "MSQ_TRAP_EN" (o + 0x010) 0 [fld 16 0 .ro],
  reg1 "MSQ_WORDS_LO" (o + 0x014) 0 (whole .ro),
  reg1 "MSQ_WORDS_HI" (o + 0x018) 0 [fld 15 0 .ro],
  reg1 "MSQ_ECC_CORR" (o + 0x01C) 0 (whole .rc),
  reg1 "MSQ_ECC_UNCORR" (o + 0x020) 0 (whole .rc),
  reg1 "MSQ_DEFER_LEVEL" (o + 0x024) 0 [fld 5 0 .ro],
  reg1 "MSQ_DEFER_DROPS" (o + 0x028) 0 (whole .rc),
  reg1 "MSQ_UNWIND_LIMIT" (o + 0x02C) 0x64 [fldIn 15 0 .rw 1 65535],
  reg1 "MSQ_EVENTS" (o + 0x030) 0 [fld 5 0 .w1c],
  reg1 "MSQ_IRQ_EN" (o + 0x034) 0 [fld 5 0 .rw],
  reg1 "MSQ_FAULT" (o + 0x038) 0 [fld 23 0 .ro],
  regN "MSQ_G" (o + 0x040) 16 4 0 (whole .ro),
  regN "MSQ_FRAME0" (o + 0x080) 16 4 0 (whole .ro),
  regN "MSQ_FRAME1" (o + 0x0C0) 16 4 0 (whole .ro),
  regN "MSQ_CNT" (o + 0x100) 4 4 0 (whole .ro)]

/-- Load registers of MSQ16 (R461). -/
def rowsMsqLoad : List Row := [
  reg1 "MSQ_LOAD_CMD" 0x200 0 [fld 3 0 .wo],
  reg1 "MSQ_LOAD_TARGETS" 0x204 0 [fld 16 0 .rw],
  reg1 "MSQ_LOAD_RESULT" 0x208 0 [fld 27 16 .ro, fld 8 0 .ro],
  reg1 "MSQ_LOAD_IMAGE_ID" 0x20C 0 (whole .ro)]

/-- Cluster control space: timing engine (chapter 04), level commits (chapter 05), sequencer (R460). -/
def rowsCl : List Row := [
  reg1 "TE_STATUS" 0x400 0 [fld 13 8 .ro, fld 2 0 .ro],
  reg1 "TE_COMMIT_LO" 0x404 0 (whole .wo),
  reg1 "TE_COMMIT_HI" 0x408 0 (whole .wo),
  reg1 "TE_COMMIT_STATUS" 0x40C 0 [fld 31 8 .ro, fld 1 0 .ro],
  reg1 "TE_COLLIDE" 0x410 0 (whole .rc),
  reg1 "TE_COLLIDE_PINS" 0x414 0 (whole .w1c),
  reg1 "TE_LATE_TAG" 0x418 0 (whole .rc),
  regN "TE_PIN_DESKEW" 0x500 32 4 0 [fld 31 16 .rw, fld 15 0 .rw],
  regN "TE_CAL_DESKEW" 0x580 32 4 0 [fld 31 16 .ro, fld 15 0 .ro],
  reg1 "LV_COMMIT" 0x600 0 (whole .wo),
  reg1 "LV_COMMIT_STATUS" 0x604 0 [fld 31 24 .ro, fld 15 8 .ro, fld 1 0 .ro],
  reg1 "LV_STATUS" 0x608 0 [fld 1 0 .ro],
  reg1 "LV_BAND_VIOL_PINS" 0x60C 0 (whole .w1c)] ++ rowsMsqAt 0x800

/-- Channel registers (R221), with the legal codes of R187. -/
def rowsCh : List Row := [
  reg1 "CH_CFG" 0x00 0 [fld 8 8 .rw, fldIn 5 4 .rw 0 2, fld 1 0 .rw],
  reg1 "CH_VIH" 0x04 0x3A98 [fldIn 15 0 .rw 5000 60000],
  reg1 "CH_VIL" 0x08 0x3A98 [fldIn 15 0 .rw 5000 60000],
  reg1 "CH_VOH" 0x0C 0x3A98 [fldIn 15 0 .rw 5000 60000],
  reg1 "CH_VOL" 0x10 0x3A98 [fldIn 15 0 .rw 5000 60000],
  reg1 "CH_VCOM" 0x14 0x3A98 [fldIn 15 0 .rw 5000 60000],
  reg1 "CH_IOH" 0x18 0 [fldIn 15 0 .rw 0 48000],
  reg1 "CH_IOL" 0x1C 0 [fldIn 15 0 .rw 0 48000],
  reg1 "CH_VCH" 0x20 0xFDE8 [fldIn 15 0 .rw 0 65000],
  reg1 "CH_VCL" 0x24 0 [fldIn 15 0 .rw 0 65000],
  reg1 "CH_PMU_CTRL" 0x28 0 [fldIn 6 4 .rw 0 4, fldIn 2 0 .rw 0 5],
  reg1 "CH_PMU_FORCE" 0x2C 0 [fld 15 0 .rw],
  reg1 "CH_PMU_VCLAMP" 0x30 0xEA601388 [fldIn 31 16 .rw 5000 60000, fldIn 15 0 .rw 5000 60000],
  reg1 "CH_PMU_ICLAMP" 0x34 0x7FFF [fldIn 15 0 .rw 1 32767],
  reg1 "CH_STATUS" 0x40 0 [fld 7 0 .ro],
  reg1 "CH_PMU_STATUS" 0x44 0 [fld 2 0 .ro],
  reg1 "CH_EVENTS" 0x48 0 [fld 4 0 .w1c],
  reg1 "CH_IRQ_EN" 0x4C 0 [fld 4 0 .rw],
  reg1 "CH_CONTACT" 0x50 3 (whole .ro),
  reg1 "CH_BAD_SYM" 0x54 0 (whole .rc)]

/-- Timing set registers (chapter 04, "Timing set registers", R172). -/
def rowsTs : List Row := [
  reg1 "TS_PERIOD" 0x000 0x2000 [fldIn 31 0 .rw 1024 0xFFFFFFFF],
  regN "TS_DE_ON" 0x100 32 0x18 0 [fld 23 0 .rw],
  regN "TS_DATA" 0x104 32 0x18 0 [fldIn 26 24 .rw 0 4, fld 23 0 .rw],
  regN "TS_RTN" 0x108 32 0x18 0 [fld 23 0 .rw],
  regN "TS_DE_OFF" 0x10C 32 0x18 0 [fld 23 0 .rw],
  regN "TS_WIN_OPEN" 0x110 32 0x18 0 [fld 23 0 .rw],
  regN "TS_WIN_CLOSE" 0x114 32 0x18 0 [fldIn 26 24 .rw 0 3, fld 23 0 .rw]]

/-- Measurement registers (R346). -/
def rowsMeas : List Row := [
  reg1 "MEAS_CFG" 0x000 0 [fld 19 16 .rw, fld 9 8 .rw, fld 1 0 .rw],
  reg1 "MEAS_CTRL" 0x004 0 [fld 3 0 .wo],
  reg1 "MEAS_STATUS" 0x008 0 [fld 7 4 .ro, fld 2 0 .ro],
  reg1 "MEAS_MON_PINS" 0x00C 0 (whole .rw),
  reg1 "MEAS_MASK_FAIL_PINS" 0x010 0 (whole .w1c),
  reg1 "MEAS_EVENTS" 0x014 0 [fld 2 0 .w1c],
  reg1 "MEAS_IRQ_EN" 0x018 0 [fld 2 0 .rw],
  reg1 "MEAS_SYNC_GCC_LO" 0x01C 0 (whole .ro),
  reg1 "MEAS_SYNC_GCC_HI" 0x020 0 (whole .ro),
  regN "MEAS_LAST" 0x100 32 4 0x04000000 (whole .ro),
  regN "MEAS_MASK_LO" 0x200 32 4 0x00800000 [fld 23 0 .rw],
  regN "MEAS_MASK_HI" 0x280 32 4 0x007FFFFF [fld 23 0 .rw]]

/-- Capture registers (R327). -/
def rowsAcq : List Row := [
  reg1 "ACQ_STATUS" 0x000 0 [fld 13 8 .ro, fld 5 0 .ro],
  reg1 "ACQ_LOST" 0x004 0 (whole .rc),
  reg1 "ACQ_HELD" 0x008 0 [fld 14 0 .ro],
  reg1 "ACQ_RD_CMD" 0x00C 0 [fld 3 0 .wo],
  reg1 "ACQ_RD_STATUS" 0x010 0 [fld 10 0 .ro],
  reg1 "ACQ_MISSED" 0x014 0 (whole .rc),
  regN "ACQ_RD" 0x020 4 4 0 (whole .ro),
  reg1 "ACQ_MATCH_CARE" 0x030 0 (whole .rw),
  reg1 "ACQ_MATCH_HIGH" 0x034 0 (whole .rw),
  reg1 "ACQ_EVENTS" 0x038 0 [fld 5 0 .w1c],
  reg1 "ACQ_IRQ_EN" 0x03C 0 [fld 5 0 .rw],
  reg1 "CMP_FEED_LEVEL" 0x040 0 [fld 11 0 .ro],
  reg1 "CMP_FEED_OVERFLOW" 0x044 0 (whole .rc),
  regN "ACQ_FR" 0x100 64 4 0 (whole .ro),
  regN "CMP_FAILCNT" 0x200 32 4 0 (whole .ro)]

/-- Cluster calibration registers (R487). -/
def rowsCal : List Row := [
  reg1 "CAL_STATUS" 0x000 0 [fld 6 4 .ro, fld 2 0 .ro],
  regN "CAL_CMP_SEL" 0x100 32 4 0 [fld 31 24 .ro, fld 18 16 .ro, fld 15 8 .ro, fld 2 0 .ro],
  regN "CAL_SPARE" 0x200 32 4 0 [fld 23 0 .ro],
  regN "CAL_TAP" 0x300 32 4 0 [fld 31 16 .ro, fld 15 0 .ro]]

/-- Fountain registers (R284). -/
def rowsFnt : List Row := [
  reg1 "FNT_STATUS" 0x00 0 [fld 31 19 .ro, fld 15 8 .ro, fld 3 0 .ro],
  reg1 "FNT_PROG_ADDR_LO" 0x04 0 (whole .rw),
  reg1 "FNT_PROG_ADDR_HI" 0x08 0 [fld 15 0 .rw],
  reg1 "FNT_PROG_LEN" 0x0C 0 [fld 15 0 .rw],
  reg1 "FNT_PROG_CRC" 0x10 0 (whole .rw),
  reg1 "FNT_PROG_RESULT" 0x14 0 [fld 17 0 .ro],
  reg1 "FNT_CYCLES_LO" 0x18 0 (whole .ro),
  reg1 "FNT_CYCLES_HI" 0x1C 0 [fld 15 0 .ro],
  reg1 "FNT_X" 0x20 0 [fld 19 0 .ro],
  reg1 "FNT_Y" 0x24 0 [fld 19 0 .ro],
  reg1 "FNT_Z" 0x28 0 [fld 5 0 .ro],
  reg1 "FNT_REF_STATUS" 0x2C 0 [fld 7 0 .ro],
  reg1 "FNT_REF_LATE" 0x30 0 (whole .rc),
  reg1 "FNT_ECC_CORR" 0x34 0 (whole .rc),
  reg1 "FNT_EVENTS" 0x38 0 [fld 4 0 .w1c],
  reg1 "FNT_IRQ_EN" 0x3C 0 [fld 4 0 .rw],
  regN "FNT_LC" 0x40 8 4 0 (whole .ro),
  regN "FNT_JET_EN" 0x60 8 4 0 (whole .rw),
  regN "FNT_JET_INV" 0x80 8 4 0 (whole .rw)]

/-- SEG block (R255): device registers, sequencer registers, segment directory. -/
def rowsSeg : List Row := [
  reg1 "SEG_RD_BUDGET" 0x0000 0x20D0 [fldIn 13 0 .rw 1 8750],
  reg1 "SEG_RD_RESERVED" 0x0004 0 [fld 15 0 .ro],
  reg1 "SEG_WR_DROPS" 0x0008 0 (whole .rc),
  reg1 "SEG_EVENTS" 0x000C 0 [fld 5 0 .w1c],
  reg1 "SEG_IRQ_EN" 0x0010 0 [fld 5 0 .rw],
  reg1 "SEG_JUMP_DEFERRED" 0x0014 0 (whole .rc),
  reg1 "SEG_UNDERRUNS" 0x0018 0 (whole .rc),
  reg1 "SEG_LOADING" 0x001C 0 [fld 14 0 .ro],
  regN "SEG_Q_STATUS" 0x1000 16 0x40 0 [fld 31 20 .ro, fld 3 0 .ro],
  regN "SEG_Q_REQ" 0x1004 16 0x40 0 [fld 7 0 .w1s],
  regN "SEG_Q_REQ_CLR" 0x1008 16 0x40 0 [fld 7 0 .wo],
  regN "SEG_Q_TRIG" 0x100C 16 0x40 0 [fld 15 0 .ro],
  regN "SEG_Q_VADDR_LO" 0x1010 16 0x40 0 (whole .ro),
  regN "SEG_Q_VADDR_HI" 0x1014 16 0x40 0 [fld 7 0 .ro],
  regN "SEG_Q_VECTORS_LO" 0x1018 16 0x40 0 (whole .ro),
  regN "SEG_Q_VECTORS_HI" 0x101C 16 0x40 0 [fld 15 0 .ro],
  regN "SEG_Q_LOOP0" 0x1020 16 0x40 0 (whole .ro),
  regN "SEG_Q_LOOP1" 0x1024 16 0x40 0 (whole .ro),
  regN "SEG_Q_LOOP2" 0x1028 16 0x40 0 (whole .ro),
  regN "SEG_Q_LOOP3" 0x102C 16 0x40 0 (whole .ro),
  regN "SEG_Q_TRIG_CFG" 0x1030 16 0x40 8 [fld 9 9 .rw, fld 8 8 .rw, fldIn 7 0 .rw 1 255],
  regN "SEG_D_INFO" 0x10000 16384 0x10 0 [fld 23 12 .ro, fld 10 8 .ro, fld 2 0 .ro],
  regN "SEG_D_VCOUNT" 0x10004 16384 0x10 0 [fld 28 0 .ro],
  regN "SEG_D_BASE_LO" 0x10008 16384 0x10 0 (whole .ro),
  regN "SEG_D_BASE_HI" 0x1000C 16384 0x10 0 [fld 15 0 .ro]]

/-- Analog channel registers (R371). -/
def rowsAn : List Row := [
  reg1 "AN_STATUS" 0x00 6 [fld 15 12 .ro, fld 10 0 .ro],
  reg1 "AN_SRC_CFG" 0x04 0 [fldIn 2 0 .rw 0 5],
  reg1 "AN_FTW_LO" 0x08 0 (whole .rw),
  reg1 "AN_FTW_HI" 0x0C 0 [fld 14 0 .rw],
  reg1 "AN_PHASE" 0x10 0 [fld 15 0 .rw],
  reg1 "AN_GAIN" 0x14 0x8000 [fld 15 0 .rw],
  reg1 "AN_OFFSET" 0x18 0 [fld 15 0 .rw],
  reg1 "AN_NOISE_SEED_LO" 0x1C 1 (whole .rw),
  reg1 "AN_NOISE_SEED_HI" 0x20 0 (whole .rw),
  reg1 "AN_RS_RATIO" 0x24 0x10000000 [fldIn 31 0 .rw 1 0x40000000],
  reg1 "AN_RS_CMD" 0x28 0 [fld 31 28 .wo, fld 24 24 .wo, fld 16 0 .wo],
  reg1 "AN_RS_STATUS" 0x2C 0 [fld 31 28 .ro, fld 25 22 .ro, fld 16 0 .ro],
  reg1 "AN_OUT_CFG" 0x30 0 [fld 1 0 .rw],
  reg1 "AN_PARK_CODE" 0x34 0 [fld 15 0 .rw],
  reg1 "AN_PARK_CMD" 0x38 0 [fld 3 0 .wo],
  reg1 "AN_DIG_CFG" 0x3C 3 [fld 1 0 .rw],
  reg1 "AN_DIG_MASK" 0x40 0x07FF0800 [fld 27 16 .rw, fld 11 0 .rw],
  reg1 "AN_EVENTS" 0x44 0 [fld 6 0 .w1c],
  reg1 "AN_IRQ_EN" 0x48 0 [fld 6 0 .rw],
  reg1 "AN_SAMPLES_LO" 0x4C 0 (whole .ro),
  reg1 "AN_SAMPLES_HI" 0x50 0 [fld 15 0 .ro],
  reg1 "AN_COEF_DROPS" 0x54 0 (whole .rc),
  reg1 "AN_DIG_LAST" 0x58 0 [fld 15 0 .ro],
  regN "AN_COEF_A" 0x4000 2048 4 0 [fld 17 0 .rw],
  regN "AN_COEF_B" 0x6000 2048 4 0 [fld 17 0 .rw]]

/-- Lane group registers (R387). -/
def rowsLg : List Row := [
  reg1 "LG_STATUS" 0x00 0 [fld 15 8 .ro, fld 2 0 .ro],
  reg1 "LG_TX_CFG" 0x04 0xA [fldIn 10 8 .rw 0 6, fld 3 0 .rw],
  reg1 "LG_TX_POL" 0x08 0 [fld 15 0 .rw],
  reg1 "LG_RX_POL" 0x0C 0 [fld 15 0 .rw],
  reg1 "LG_USER_LEN" 0x10 0x40 [fldIn 8 0 .rw 8 256],
  reg1 "LG_EVENTS" 0x14 0 [fld 2 0 .w1c],
  reg1 "LG_IRQ_EN" 0x18 0 [fld 2 0 .rw],
  regN "LG_USER" 0x20 8 4 0 (whole .rw),
  regN "LN_STATUS" 0x100 16 0x20 0 [fld 4 0 .ro],
  regN "LN_BITS_LO" 0x104 16 0x20 0 (whole .ro),
  regN "LN_BITS_HI" 0x108 16 0x20 0 (whole .ro),
  regN "LN_ERR_LO" 0x10C 16 0x20 0 (whole .ro),
  regN "LN_ERR_HI" 0x110 16 0x20 0 (whole .ro),
  regN "LN_LOCK_LOSS" 0x114 16 0x20 0 (whole .rc)]

/-- Power supply controller registers (R407). -/
def rowsDps : List Row := [
  reg1 "DPS_STATUS" 0x00 0 [fld 9 6 .ro, fld 4 0 .ro],
  reg1 "DPS_CTRL" 0x04 0 [fld 3 0 .wo],
  reg1 "DPS_CFG" 0x08 0x7D0 [fld 16 16 .rw, fldIn 12 0 .rw 500 4000],
  reg1 "DPS_SCOMP" 0x0C 0 [fldIn 15 0 .rw 0 32000],
  reg1 "DPS_RSENSE" 0x10 0xC8 [fldIn 15 0 .rw 1 65535],
  reg1 "DPS_LOOP" 0x14 0x2010 [fldIn 15 8 .rw 1 255, fldIn 7 0 .rw 1 255],
  reg1 "DPS_OV" 0x18 0xEA60 [fldIn 15 0 .rw 3000 60000],
  reg1 "DPS_PG" 0x1C 0x03E801F4 [fldIn 31 16 .rw 1 65535, fldIn 15 0 .rw 1 5000],
  reg1 "DPS_SETPOINT" 0x20 0 [fld 15 0 .ro],
  reg1 "DPS_VREF" 0x24 0 [fld 15 0 .ro],
  reg1 "DPS_VMEAS" 0x28 0 [fld 15 0 .ro],
  reg1 "DPS_ISNS" 0x2C 0 [fld 15 0 .ro],
  reg1 "DPS_IMEAS" 0x30 0 [fld 23 0 .ro],
  reg1 "DPS_ILIM" 0x34 0 [fld 15 0 .ro],
  reg1 "DPS_ENERGY_LO" 0x38 0 (whole .ro),
  reg1 "DPS_ENERGY_HI" 0x3C 0 (whole .ro),
  reg1 "DPS_WEIR_TRIPS" 0x40 0 (whole .rc),
  reg1 "DPS_EVENTS" 0x44 0 [fld 4 0 .w1c],
  reg1 "DPS_IRQ_EN" 0x48 0 [fld 4 0 .rw]]

/-- XTB block (R328). -/
def rowsXtb : List Row := [
  reg1 "XTB_STATUS" 0x000 0 (whole .ro),
  reg1 "XTB_ARM" 0x004 0 [fld 15 0 .w1s],
  reg1 "XTB_DISARM" 0x008 0 [fld 15 0 .wo],
  reg1 "XTB_FIRE" 0x00C 0 [fld 15 0 .wo],
  reg1 "XTB_EVENTS" 0x010 0 [fld 19 0 .w1c],
  reg1 "XTB_IRQ_EN" 0x014 0 [fld 19 0 .rw],
  regN "XTB_MISSED" 0x040 16 4 0 (whole .rc),
  regN "XTB_FIRE_GCC_LO" 0x080 16 8 0 (whole .ro),
  regN "XTB_FIRE_GCC_HI" 0x084 16 8 0 (whole .ro),
  reg1 "XTB_BASIN_CMD" 0x100 0 [fld 31 24 .wo, fld 7 0 .wo],
  reg1 "XTB_BASIN_RESULT" 0x104 0 [fld 7 0 .ro],
  regN "XTB_BASIN_HWM" 0x120 8 4 0 (whole .ro),
  regN "XTB_BASIN_STOP" 0x140 8 4 0 (whole .ro),
  reg1 "XTB_FLUSH_PARTIAL" 0x160 0 (whole .rc),
  reg1 "XTB_UPL_LOST" 0x164 0 (whole .rc)]

/-- APL port registers (R521). -/
def rowsApl : List Row := [
  reg1 "APL_STATUS" 0x00 0 [fld 27 16 .ro, fld 9 4 .ro, fld 2 0 .ro],
  reg1 "APL_CTRL" 0x04 1 [fld 0 0 .rw],
  reg1 "APL_CMD" 0x08 0 [fld 3 0 .wo],
  reg1 "APL_PEER_UID_LO" 0x0C 0 (whole .ro),
  reg1 "APL_PEER_UID_HI" 0x10 0 (whole .ro),
  reg1 "APL_LAT" 0x14 0 (whole .ro),
  reg1 "APL_SKEW" 0x18 0 [fld 16 0 .ro],
  reg1 "APL_FEC_CORR" 0x1C 0 (whole .rc),
  reg1 "APL_FEC_UNCORR" 0x20 0 (whole .rc),
  reg1 "APL_REPLAYS" 0x24 0 (whole .rc),
  reg1 "APL_FAILS" 0x28 0 (whole .rc),
  reg1 "APL_EVENTS" 0x2C 0 [fld 3 0 .w1c],
  reg1 "APL_IRQ_EN" 0x30 0 [fld 3 0 .rw]]

/-- APL common registers (R522). -/
def rowsAplG : List Row := [
  reg1 "APL_CHIP_NUM" 0x00 0 [fld 31 31 .rw, fld 9 0 .rw],
  reg1 "APL_UID_LO" 0x04 0 (whole .ro),
  reg1 "APL_UID_HI" 0x08 0 (whole .ro),
  reg1 "APL_ROUTES" 0x0C 0 [fld 10 0 .ro],
  reg1 "APL_G_EVENTS" 0x10 0 [fld 4 0 .w1c],
  reg1 "APL_G_IRQ_EN" 0x14 0 [fld 4 0 .rw],
  reg1 "APL_DROPS" 0x18 0 (whole .rc),
  reg1 "APL_DUPS" 0x1C 0 (whole .rc),
  reg1 "APL_RT_SEL" 0x20 0 [fld 9 0 .rw],
  reg1 "APL_RT_INFO" 0x24 0x3F [fld 18 8 .ro, fld 5 0 .ro],
  reg1 "APL_RT_LAT" 0x28 0 [fld 15 0 .ro],
  reg1 "APL_RT_UID_LO" 0x2C 0 (whole .ro),
  reg1 "APL_RT_UID_HI" 0x30 0 (whole .ro),
  reg1 "APL_GAPS" 0x34 0 (whole .rc)]

/-- MEM block (R141). -/
def rowsMem : List Row := [
  reg1 "MEM_STATUS" 0x00 0 [fld 3 0 .ro],
  reg1 "MEM_PC_FAULT" 0x04 0 (whole .ro),
  reg1 "MEM_GROUP_LOST" 0x08 0 [fld 3 0 .ro],
  reg1 "MEM_ECC_CORR" 0x0C 0 (whole .rc),
  reg1 "MEM_ECC_RECON" 0x10 0 (whole .rc),
  reg1 "MEM_CONT_STATUS" 0x14 0 [fld 4 0 .ro],
  reg1 "MEM_ISLAND_FENCED" 0x18 0 [fld 15 0 .ro],
  reg1 "MEM_MRAM_BANK_FAULT" 0x1C 0 [fld 15 0 .ro],
  reg1 "MEM_DE_RESYNC" 0x20 0 (whole .rc),
  reg1 "MEM_PF_STATUS" 0x24 0 [fld 3 0 .ro],
  reg1 "MEM_PF_PENDING" 0x28 0 [fld 17 0 .ro],
  reg1 "MEM_PF_EPOCH" 0x2C 0 [fld 15 0 .ro],
  reg1 "MEM_PF_GCC_LO" 0x30 0 (whole .ro),
  reg1 "MEM_PF_GCC_HI" 0x34 0 (whole .ro),
  reg1 "MEM_PF_CMD" 0x38 0 [fld 3 0 .wo],
  reg1 "MEM_EVENTS" 0x3C 0 [fld 4 0 .w1c],
  reg1 "MEM_IRQ_EN" 0x40 0 [fld 4 0 .rw]]

/-- The blocks of R578, in address order. -/
def blocks : List Blk := [
  ⟨"GLB", "R591", 0x00000000, 1, 0x10000, 0x27C, rowsGlb ++ rowsTb ++ rowsSite⟩,
  ⟨"SEC", "R563", 0x00010000, 1, 0x10000, 0xFFC, rowsSec⟩,
  ⟨"CFG", "R63", 0x00020000, 1, 0x10000, 0x9C, rowsCfg⟩,
  ⟨"NRG", "R425", 0x00030000, 1, 0x10000, 0xFFFC, rowsNrg⟩,
  ⟨"AON", "R546", 0x00040000, 1, 0x10000, 0x2FC, rowsAon⟩,
  ⟨"SVC", "R577", 0x00050000, 1, 0x10000, 0xFFFC, rowsSvc⟩,
  ⟨"MNT", "R486", 0x00060000, 1, 0x10000, 0x3FC, rowsMnt⟩,
  ⟨"WKE", "R578", 0x00080000, 1, 0x10000, 0x4FC, rowsWke⟩,
  ⟨"MSQ16", "R460", 0x000A0000, 1, 0x10000, 0x20C, rowsMsqAt 0 ++ rowsMsqLoad⟩,
  ⟨"CS16", "R428", 0x000C0000, 1, 0x20000, 0x1FFFC, []⟩,
  ⟨"WQ", "R102", 0x00100000, 4096, 0x40, 0x3C, rowsWq⟩,
  ⟨"CL", "R578", 0x00200000, 16, 0x100000, 0x9FC, rowsCl⟩,
  ⟨"FNT", "R284", 0x02000000, 32, 0x10000, 0xFFFC, rowsFnt⟩,
  ⟨"SEG", "R255", 0x02400000, 1, 0x50000, 0x4FFFC, rowsSeg⟩,
  ⟨"AN", "R371", 0x03000000, 16, 0x10000, 0xFFFC, rowsAn⟩,
  ⟨"LG", "R387", 0x03100000, 8, 0x10000, 0xFFFC, rowsLg⟩,
  ⟨"DPS", "R407", 0x03200000, 64, 0x400, 0x3FC, rowsDps⟩,
  ⟨"XTB", "R328", 0x03400000, 1, 0x10000, 0x1FC, rowsXtb⟩,
  ⟨"APL", "R521", 0x04000000, 16, 0x10000, 0xFFFC, rowsApl⟩,
  ⟨"APLG", "R522", 0x04100000, 1, 0x10000, 0xFFFC, rowsAplG⟩,
  ⟨"MEM", "R141", 0x05000000, 1, 0x10000, 0xFC, rowsMem⟩]

/-- The blocks inside a cluster's 1 MiB span beside its control space (R578): channels, timing sets, measurement,
capture, calibration and control store, at their offsets from the cluster base. -/
def clusterBlocks : List Blk := [
  ⟨"CL", "R578", 0x00000, 1, 0x10000, 0x9FC, rowsCl⟩,
  ⟨"CH", "R221", 0x10000, 32, 0x400, 0x3FC, rowsCh⟩,
  ⟨"TS", "R171", 0x20000, 64, 0x400, 0x3FC, rowsTs⟩,
  ⟨"MEAS", "R346", 0x30000, 1, 0x10000, 0xFFFC, rowsMeas⟩,
  ⟨"ACQ", "R327", 0x40000, 1, 0x10000, 0xFFFC, rowsAcq⟩,
  ⟨"CAL", "R487", 0x50000, 1, 0x10000, 0xFFFC, rowsCal⟩,
  ⟨"CS", "R428", 0x80000, 1, 0x20000, 0x1FFFC, []⟩]

/-- Where an address lies in a block list: the block, its instance and the offset inside the instance. -/
def findBlk : List Blk → Nat → Option (Blk × Nat × Nat)
  | [], _ => none
  | b :: bs, a =>
    if b.base ≤ a ∧ a < b.base + b.n * b.stride ∧ (a - b.base) % b.stride ≤ b.last + 3
    then some (b, (a - b.base) / b.stride, (a - b.base) % b.stride)
    else findBlk bs a

/-- The block that holds an address (R578); for a cluster the instance is numbered inside its kind. -/
def blockAt (a : Nat) : Option (Blk × Nat × Nat) :=
  if 0x00200000 ≤ a ∧ a < 0x01200000 then findBlk clusterBlocks ((a - 0x00200000) % 0x100000)
  else findBlk blocks a

/-- The row at an offset of a block. -/
def rowAt : List Row → Nat → Option Row
  | [], _ => none
  | r :: rs, o =>
    if r.off ≤ o ∧ o < r.off + r.n * r.stride ∧ (o - r.off) % r.stride = 0 then some r else rowAt rs o

/-- The register at an address, when a chapter defines one there. -/
def regAt (a : Nat) : Option Row :=
  match blockAt a with
  | some (b, _, o) => rowAt b.rows o
  | none => none

/-- Is the address inside some block of R578? -/
def mapped (a : Nat) : Bool := (blockAt a).isSome

/-- The last register address of the block that holds `a` (R584). -/
def blockEnd (a : Nat) : Nat :=
  match blockAt a with
  | some (b, _, o) => a - o + b.last
  | none => 0

/-- Reset word of the register at an address (R14). Coefficient banks hold 0x1_0000 at tap 16 of every phase (R362). -/
def resetWord (a : Nat) : Word :=
  match blockAt a with
  | some (b, _, o) =>
    if b.base = 0x03000000 ∧ 0x4000 ≤ o ∧ o < 0x8000 then (if (o / 4) % 32 = 16 then 0x10000 else 0)
    else match rowAt b.rows o with
      | some r => BitVec.ofNat 32 r.reset
      | none => 0
  | none => 0

end Sys2Proof.Machine
end

