-- ==== Sys2Proof/Machine/State.lean ====
section
/-! DEFINITION. The state of one XJ512 as plain data: its register file, the store, the parsed configuration sets, the
operations in flight and everything the chapters give the machine beside its registers. -/

namespace Sys2Proof.Machine

/-- Why a run stops with a fault. No command of this block ends in one: every access outside the spaces has an effect the
spec gives (R579, R584). The constructor is raised by nobody; it keeps the type inhabited. Safe. -/
inductive Fault where
  | noSuchPlace
deriving DecidableEq, Repr

/-- Why a command is refused. `notModelled` is raised by an arm of exec that has no meaning yet. Safe. -/
inductive Refusal where
  | notModelled (mnemonic : String)
deriving DecidableEq, Repr

/-! Parsed image sections (R18). -/

/-- SITE_MAP entry (R24). -/
structure SiteEnt where
  site : Nat
  anMask : Nat
  chMask : Nat
deriving DecidableEq, Repr, Inhabited

/-- CLUSTER_ROUTING entry (R28). -/
structure Route where
  seq : Nat
  ports : List Nat
deriving DecidableEq, Repr, Inhabited

/-- Pin map entry (R259). -/
structure PinEnt where
  pin : Nat
  mode : Nat
  src : Nat
deriving DecidableEq, Repr, Inhabited

/-- Jet record (R259). -/
structure Jet where
  fountain : Nat
  jet : Nat
  site : Nat
  map : Nat
  flags : Nat
deriving DecidableEq, Repr, Inhabited

/-- STORE_LAYOUT record (R32). -/
structure Region where
  kind : Nat
  owner : Nat
  mode : Nat
  hwm : Nat
  base : Nat
  size : Nat
deriving DecidableEq, Repr, Inhabited

/-- QUEUE_TABLE class record (R66). -/
structure QClass where
  opmask : Nat
  prioMax : Nat
deriving DecidableEq, Repr, Inhabited

/-- QUEUE_TABLE queue record (R66). -/
structure QRec where
  queue : Nat
  cls : Nat
  mode : Nat
  sqLog2 : Nat
  cqLog2 : Nat
  sqBase : Nat
  cqBase : Nat
deriving DecidableEq, Repr, Inhabited

/-- ENERGY_TABLE limits of one ledger (R409, R423); RUN_MW is a site's only. -/
structure Limits where
  peak : Nat
  idle : Nat
  run : Nat
  w1 : Nat
  w2 : Nat
  w3 : Nat
deriving DecidableEq, Repr, Inhabited

/-- ENERGY_TABLE opcode record (R423). -/
structure OpcRec where
  opcode : Nat
  die : Bool
  shares : List Nat
  defMw : Nat
  defUj : Nat
deriving DecidableEq, Repr, Inhabited

/-- ENERGY_TABLE (R423). -/
structure Energy where
  refine : Bool
  rails : List Limits
  opcs : List OpcRec
  sites : List (Nat × Limits)
deriving DecidableEq, Repr, Inhabited

/-- TSET_DEFAULTS entry: the 256 words of a set image (R179). -/
structure TsDef where
  cluster : Nat
  set : Nat
  words : List Word
deriving DecidableEq, Repr, Inhabited

/-- TRIGGER_MATRIX source or target entry (R315). -/
structure XtEnt where
  line : Nat
  kind : Nat
  unit : Nat
  arg : Nat
deriving DecidableEq, Repr, Inhabited

/-- TRIGGER_MATRIX (R315): (mode, flags) of each line, sources and targets. -/
structure TrigMatrix where
  lines : List (Nat × Nat)
  sources : List XtEnt
  targets : List XtEnt
deriving DecidableEq, Repr, Inhabited

/-- DPS_MAP entry (R30). -/
structure DpsEnt where
  site : Nat
  rail : Nat
deriving DecidableEq, Repr, Inhabited

/-- LANE_MAP entry (R31). -/
structure LaneEnt where
  site : Nat
  ix : Nat
  flags : Nat
deriving DecidableEq, Repr, Inhabited

/-- SECURITY_POLICY (R558): hosts as (UID, rights). -/
structure Policy where
  svcLock : Bool
  floorMin : Nat
  csFloorMin : Nat
  hosts : List (Nat × Nat)
deriving DecidableEq, Repr, Inhabited

/-- One parsed configuration set (R16, R18). -/
structure ImageSet where
  imageId : Nat
  version : Nat
  keySlot : Nat
  digest : List Byte
  sites : List SiteEnt
  routing : List Route
  maps : List (List PinEnt)
  jets : List Jet
  regions : List Region
  classes : List QClass
  queues : List QRec
  energy : Energy
  tsets : List TsDef
  triggers : TrigMatrix
  dpsMap : List DpsEnt
  laneMap : List LaneEnt
  policy : Policy
deriving DecidableEq, Repr, Inhabited

/-! Operations in flight. -/

/-- Members of resource sets (R85, R348, R453). -/
inductive Res where
  | cluster (k : Nat) | site (n : Nat) | fountain (f : Nat) | dps (d : Nat)
  | anSrc (a : Nat) | anDig (a : Nat) | lane (g : Nat) | msq16
deriving DecidableEq, Repr

/-- States of an accepted operation (R82): WAITING; start conditions held and its exact start instant to come (R85, R161);
RUNNING; ended, its completion record still to be written (R92). -/
inductive Phase where
  | waiting | scheduled | running | ended
deriving DecidableEq, Repr, Inhabited

/-- An AFTER dependency (R87). -/
inductive Dep where
  | absent | pending | met | failed
deriving DecidableEq, Repr, Inhabited

/-- Segment table entry (R239). -/
structure TabEnt where
  op : Nat
  flags : Nat
  seg : Nat
  count : Nat
  target : Nat
  cond : Nat
  arg : Nat
deriving DecidableEq, Repr, Inhabited

/-- Where a resolution leads: the PLAY entry, or the end of the run, and the loops open there (R240). Loops stand innermost
first, as their LOOP_BEGIN entry and the iterations that remain, the one in progress included. -/
structure PlayAt where
  entry : Option Nat
  loops : List (Nat × Nat)
deriving DecidableEq, Repr, Inhabited

/-- What the resolution of a boundary found (R248): the conditional jump that it passed (COND, ARG), if any, and where play
goes when the jump is not taken and when it is. -/
structure Resolved where
  cond : Option (Nat × Nat)
  no : PlayAt
  yes : PlayAt
deriving DecidableEq, Repr, Inhabited

/-- A segment boundary ahead that has been resolved (R248), with what its decision point latched (R242). -/
structure Bound where
  res : Resolved
  /-- where play goes, once no condition is open -/
  chosen : Option PlayAt
  /-- segments armed for it, and those judged unavailable at the resolution instant with their state codes (R249) -/
  armed : List Nat
  lacking : List (Nat × Nat)
  /-- its entries are resolved: candidates are judged and armed; that came after its need instant (R248) -/
  judged : Bool
  late : Bool
  /-- the decision point has passed, at this GCC; the conditional jump is taken -/
  decided : Bool
  decidedAt : Nat
  taken : Bool
  /-- lines and host bits that came after the decision point (R243) -/
  lateTrig : Nat
  lateReq : Nat
deriving DecidableEq, Repr, Inhabited

/-- One segment that a run has played or plays, with the geometry that its directory entry had at its start. -/
structure Play where
  /-- number of the segment's first vector since S(0) -/
  base : Nat
  entry : Nat
  seg : Nat
  /-- SEG_D_INFO, VCOUNT and BASE at the start of the segment -/
  info : Word
  vcount : Nat
  addr : Nat
deriving DecidableEq, Repr, Inhabited

/-- A PATTERN_RUN at work (R245 to R254). -/
structure RunWork where
  seqMask : Nat
  fntMask : Nat
  clusters : List Nat
  /-- sites present at the start (R219) -/
  sites : List Nat
  table : List TabEnt
  /-- jets latched at the check point: fountain, place among the set's jets, INVERT (R278) -/
  jets : List (Nat × Nat × Bool)
  /-- GCC of the first vector start (R162, R247) -/
  s0 : Nat
  /-- segments started, oldest first, and the loops open in the last -/
  plays : List Play
  loops : List (Nat × Nat)
  /-- boundaries ahead, the next first; the start of the first segment counts as one -/
  ahead : List Bound
  /-- earliest instant, in fine units, at which a fail that the latch holds was evaluated (R242) -/
  failLatch : Option Nat
  failed : Bool
  /-- instant of the last CLEAR_FAIL, in fine units (R240) -/
  clearedAt : Nat
  /-- fails of the vectors in compare that have made their FAIL_SITE event: vector, site (R313) -/
  siteFails : List (Nat × Nat)
  /-- an event of R252 has decided the end: status, reason, rank in the list -/
  ending : Option (Nat × Nat × Nat)
  /-- number of vectors after which the run stops (R252) -/
  stopAt : Option Nat
  /-- segment found unavailable, with its state code (R253) -/
  lack : Option (Nat × Nat)
  /-- vectors started in the leading cluster, and the address of the last one (R253) -/
  vectors : Nat
  vaddr : Option Nat
  /-- GCC of the stop point, once every pin has its hold state (R294) -/
  stop : Option Nat
deriving DecidableEq, Repr, Inhabited

/-- A SEGMENT_LOAD at work (R231, R232). -/
structure LoadWork where
  took : Bool
  /-- STREAM: 64-byte blocks fully written, and bytes seen of the others (block, mask) -/
  counted : Nat
  partials : List (Nat × Nat)
  done : List Nat
deriving DecidableEq, Repr, Inhabited

/-- Running statistics of one named channel of a MEASURE (R341). -/
structure ChStat where
  ch : Nat
  kept : Nat
  signal : Nat
  sum : Int
  lo : Int
  hi : Int
  flags : Nat
  range : Nat
  maskLo : Int
  maskHi : Int
deriving DecidableEq, Repr, Inhabited

/-- A MEASURE at work (R340 to R344). -/
structure MeasWork where
  chans : List ChStat
  /-- MASK_STOP: kept-sample index and channel of the first violation (R342) -/
  violation : Option (Nat × Nat)
  stopRound : Option Nat
deriving DecidableEq, Repr, Inhabited

/-- FORCE_SET, LEVELS_SET, TSET_LOAD and CONTACT_CHECK at work (R177, R204, R208, R212). -/
structure LevWork where
  /-- channels named, fixed at the start (R219) -/
  chans : List Nat
  wrote : Bool
  count : Nat
  /-- saved modes: channel, mode, PPMU control, force, voltage clamp, current clamp (R212) -/
  saved : List (Nat × List Word)
  /-- voltages: channel, V in 100 µV, clamped (R212) -/
  volts : List (Nat × Int × Bool)
deriving DecidableEq, Repr, Inhabited

/-- A step record of DPS_SEQUENCE (R400). -/
structure DpsStep where
  rail : Nat
  action : Nat
  flags : Nat
  setpoint : Nat
  slope : Nat
  gap : Nat
  ilim : Nat
deriving DecidableEq, Repr, Inhabited

/-- Where one site stands in a DPS_SEQUENCE (R402). `st`: 0 waiting for its gap, 1 asked the interlock, 2 ready for the
governor, 3 running, 4 finished, 5 failed. -/
structure SiteProg where
  site : Nat
  step : Nat
  st : Nat
  /-- GCC from which the step may start, or since when it is ready -/
  since : Nat
  /-- GCC at which the reference arrived, for the PGOOD wait -/
  arrived : Option Nat
  /-- ledger reservations were taken for the running step -/
  admitted : Bool
deriving DecidableEq, Repr, Inhabited

/-- A DPS_SEQUENCE at work (R402 to R404). -/
structure DpsWork where
  steps : List DpsStep
  sites : List SiteProg
  firstFail : Nat
  pairs : Nat
  trips : Nat
  skipped : Nat
deriving DecidableEq, Repr, Inhabited

/-- An AWG_PLAY at work: the sources latched at the check point (R353, R358). -/
structure PlayWork where
  source : Nat
  ftw : Nat
  phase : Nat
  gain : Nat
  offset : Nat
  seed : Nat
  ratio : Nat
  /-- start instant; whether the play waits for its line, and whether the start instant has passed -/
  s : Nat
  armed : Bool
  begun : Bool
deriving DecidableEq, Repr, Inhabited

/-- A DIGITIZE at work (R366 to R369). -/
structure DigWork where
  s : Nat
  armed : Bool
  /-- samples taken, those of them stored, and the words that wait in the island's buffer (R367) -/
  taken : Nat
  stored : Nat
  buf : List Nat
  settling : Bool
  overs : Bool
  /-- AN_DIG_MASK as latched at s: LO and HI (R368) -/
  mask : Option (Int × Int)
  violation : Option Nat
  /-- the buffer has overflowed (R367) -/
  behind : Bool
deriving DecidableEq, Repr, Inhabited

/-- One named lane of a LANE_TEST (R382). -/
structure LaneStat where
  lane : Nat
  /-- the directions that the test has turned on (R380, step 2) -/
  txOn : Bool
  rxOn : Bool
  /-- the checker: the last bits received before LOCKED and the last bits of the pattern, newest first, the next bit of a USER
  pattern, and which of the last 256 compared bits were errors, newest first (R375, R376) -/
  hist : List Bool
  pattern : List Bool
  pos : Nat
  span : List Bool
  everLocked : Bool
  lockedAtClose : Bool
  firstErr : Nat
  present : Bool
  /-- counts of the window (R382) -/
  lockLoss : Nat
  bits : Nat
  errors : Nat
deriving DecidableEq, Repr, Inhabited

/-- A LANE_TEST at work (R380). `step`: 1 before the directions are on, 2 on, 3 window open, 4 window closed. -/
structure LaneWork where
  step : Nat
  tPll : Nat
  openGcc : Nat
  lanes : List LaneStat
  points : Nat
  /-- errors of the named lanes at each eye point so far (R381) -/
  eye : List (List Nat)
  /-- LG_TX_CFG, LG_TX_POL, LG_RX_POL, LG_USER_LEN and LG_USER0 to 7 as latched at the start (R380) -/
  latched : List Word
deriving DecidableEq, Repr, Inhabited

/-- An ACQUIRE at work (R300, R307). -/
structure AcqWork where
  a : Nat
  records : Nat
  valid : Nat
  clamped : Bool
  tagEnd : Bool
  closed : List Nat
deriving DecidableEq, Repr, Inhabited

/-- An item of a staging FIFO: its place in the source, its bytes, and by 64-bit word its parity bits and the poison tags that
it came with (R306, R324). -/
structure UplItem where
  ix : Nat
  bytes : List Byte
  par : Nat
  pois : Nat
deriving DecidableEq, Repr, Inhabited

/-- An UPLOAD at work (R320 to R326). -/
structure UplWork where
  ep : Nat
  /-- next source item, and the end of a source without FOLLOW -/
  next : Nat
  limit : Nat
  /-- waiting items, oldest first; then the packets in flight -/
  fifo : List UplItem
  flight : List (List UplItem)
  delivered : Nat
  lost : Nat
  poison : Bool
  srcEnded : Bool
  producer : Option Nat
  /-- a warm reset has lost an item that had left the ring (R326) -/
  gone : Bool
deriving DecidableEq, Repr, Inhabited

/-- The work of an operation, by opcode. -/
inductive Work where
  | nothing
  | run (w : RunWork)
  | load (w : LoadWork)
  | measure (w : MeasWork)
  | levels (w : LevWork)
  | dps (w : DpsWork)
  | play (w : PlayWork)
  | digitize (w : DigWork)
  | lanes (w : LaneWork)
  | acquire (w : AcqWork)
  | upload (w : UplWork)
deriving DecidableEq, Repr, Inhabited

/-- An accepted operation until its completion record is written (R80, R82). -/
structure Op where
  asn : Nat
  queue : Nat
  seq : Nat
  desc : Desc
  acceptGcc : Nat
  phase : Phase
  dep0 : Dep
  dep1 : Dep
  /-- BARRIER: operations it waited for, counted at acceptance (R89) -/
  waited : Nat
  /-- admitted by the governor, and since when it is a candidate (R414, R416) -/
  admitted : Bool
  candSince : Option Nat
  holding : Bool
  /-- found never to fit (R417) -/
  never : Bool
  /-- the interlock has permitted it (R83, R483) -/
  permitted : Bool
  /-- judged under R27 -/
  judged : Bool
  /-- exact start instant (R161) -/
  startAt : Nat
  startGcc : Nat
  /-- last GCC at which it acted (R124, R137) -/
  lastGcc : Nat
  started : Bool
  resumed : Bool
  /-- effective priority class, settled at acceptance (R86) -/
  eff : Nat
  /-- place in the order in which the operations in flight ended (R93); 0 while its work has not ended -/
  endNo : Nat
  status : Nat
  reason : Nat
  gcc : Nat
  detail : Nat
  /-- progress marker (R109, R124) -/
  progress : Nat
  /-- a host abort waits for the stop point (R101) -/
  aborting : Bool
  /-- a resource fault waits for the stop point (R122) -/
  faulting : Bool
  /-- its journal entries are lost: it gets no completion record (R111) -/
  lost : Bool
  /-- AWG_PLAY: SOURCE was STREAM at acceptance (R357); MEASURE: channels named at acceptance (R339) -/
  atAccept : List Nat
  work : Work
deriving DecidableEq, Repr, Inhabited

/-- A written record that the host has not retired: its status still decides REQUIRE_OK dependencies (R87). -/
structure Kept where
  queue : Nat
  seq : Nat
  status : Nat
  count : Nat
deriving DecidableEq, Repr, Inhabited

/-! The timebase and the clusters. -/

/-- Timebase state that no register shows (R148 to R155). -/
structure Tb where
  /-- the global cycle counter that every copy holds -/
  gcc : Nat
  /-- state before ARMED -/
  before : Nat
  lastLoaded : Nat
  /-- TREF was lost since the last cold reset, and is not valid again (R154) -/
  lost : Bool
  /-- SYNC was high when last sampled; the load edges to come, as the GCC that each would give without a load (R152) -/
  syncHigh : Bool
  loadAt : List Nat
deriving DecidableEq, Repr, Inhabited

/-- A scheduled drive transition: fine-unit instant before the deskew and the ball delay, vector, kind, level. Kinds: 0 off,
1 on, 2 level; 3 a pattern takes the pin over; 4 + h it gives the pin up to hold state h (R170). -/
structure Edge where
  due : Int
  vec : Nat
  kind : Nat
  level : Bool
deriving DecidableEq, Repr, Inhabited

/-- The parts of a mode that a channel has left but that still overlap with those of its new mode (R182): the old mode, the GCC
at which they disconnect, and its driver and load as they stood. -/
structure Leave where
  mode : Nat
  till : Nat
  driving : Bool
  load : Bool
deriving DecidableEq, Repr, Inhabited

/-- A channel's state beside its registers (R181 to R199). -/
structure Chan where
  /-- mode change in progress until this GCC, and the parts that it has still to disconnect (R182) -/
  switching : Option Nat
  leaving : Option Leave
  /-- in the reset pin state until a mode is committed (R183) -/
  pinReset : Bool
  /-- hold state of the pin (R170, R186) -/
  hold : Nat
  /-- a pattern governs the pin at the ball; the last vector drove; level last driven; driver state at the ball -/
  inRun : Bool
  drove : Bool
  level : Bool
  driving : Bool
  /-- level that the driver puts out while it is on -/
  out : Bool
  /-- transitions still to come, those past that later ones could still collide with (R168), and those past that have not
  reached the ball (R164) -/
  edges : List Edge
  recent : List Edge
  due : List Edge
  /-- PPMU settling until, and the old range still connected (R199) -/
  settle : Option Nat
  oldRange : Option Nat
  /-- samples still flagged SETTLING after a change (R335) -/
  settleLeft : Nat
deriving DecidableEq, Repr, Inhabited

/-- One evaluated strobe: local pin, symbol, recorded state, failed. -/
structure Result where
  pin : Nat
  sym : Nat
  code : Nat
  failed : Bool
deriving DecidableEq, Repr, Inhabited

/-- A vector on a cluster whose strobes are not all evaluated (R285). Pins as (pin, symbol, windowed). -/
structure Strobes where
  vec : Nat
  asn : Nat
  vpos : Nat
  tset : Nat
  pins : List (Nat × Nat × Bool)
  /-- FADDR and FNT_VALID per site (R289) -/
  faddr : List (Nat × Nat)
  /-- instant of the last sample by pin, before deskew (R313) -/
  lastAt : List (Nat × Int)
  /-- results of the strobes that have been evaluated -/
  got : List Result
deriving DecidableEq, Repr, Inhabited

/-- A Basin record: its site, vector and 32 bytes as one number (R289). -/
structure Rec32 where
  site : Nat
  asn : Nat
  vec : Nat
  /-- index of the record in its Basin, once it has entered the feeder (R291) -/
  ix : Nat
  bits : BitVec 256
deriving DecidableEq, Repr, Inhabited

/-- A frame of an acquisition ring (R303): 0 PRE, 1 POST, 2 REARM, 3 closed. -/
structure Ring where
  asn : Option Nat
  /-- records held, oldest first, with the parity bits of their two words above them (R306) -/
  recs : List (BitVec 130)
  /-- records of the frames already closed -/
  closed : List (List (BitVec 130))
  frame : Nat
  st : Nat
  postLeft : Nat
  pre : Nat
  post : Nat
  seq : Nat
  k : Nat
  lastStates : Nat
  matched : Bool
  rearmAt : Nat
  /-- read position and rewind mark, as record numbers from the oldest ever held -/
  pos : Nat
  mark : Option Nat
  base : Nat
  /-- the last NEXT found no further record (R308) -/
  past : Bool
  uploader : Option Nat
deriving DecidableEq, Repr, Inhabited

/-- A cluster beside its registers. -/
structure Clu where
  commitLo : Nat
  /-- masks of the deferred commits, if any (R171, R191) -/
  pendTe : Option Nat
  pendLv : Option Nat
  /-- operation whose run plays here, next vector, its start instant, last set, last vector's start -/
  run : Option Nat
  vec : Nat
  sNext : Nat
  lastSet : Nat
  lastS : Nat
  /-- its pins have their hold state of the run scheduled (R170, R615) -/
  stopped : Bool
  strobes : List Strobes
  /-- complete records that wait for records of earlier vectors, then the fail feeder (R288, R291) -/
  formed : List Rec32
  feeder : List Rec32
  ring : Ring
  /-- measurement engine: preset in force since the last synchronizing reset, scheduled resets, next sample number by channel
  (R333, R334) -/
  clock : Nat
  syncAt : List Nat
  sampleNo : List (Nat × Nat)
deriving DecidableEq, Repr, Inhabited

/-- A cycle word of a fountain (R270). -/
structure CycleWord where
  x : Nat
  y : Nat
  z : Nat
  data : Nat
  cmd : Nat
  dir : Nat
  tset : Nat
  mark : Bool
  instr : Nat
deriving DecidableEq, Repr, Inhabited

/-- A generator register set of a fountain: value, minimum, maximum, step, save (R265). -/
structure Gen where
  v : Nat
  min : Nat
  max : Nat
  step : Nat
  save : Nat
deriving DecidableEq, Repr, Inhabited

/-- What a refresh call saves (R276). -/
structure FntSave where
  x : Gen
  y : Gen
  z : Gen
  dg0 : Nat
  dg1 : Nat
  lcs : List Nat
  carries : Nat
  pc : Nat
  depth : Nat
deriving DecidableEq, Repr, Inhabited

/-- A fountain beside its registers (R256, R273 to R276). -/
structure Fnt where
  asn : Option Nat
  prog : List (BitVec 128)
  tables : List (Nat × List Nat)
  scrCfg : List Nat
  topo : List (Nat × Nat × Nat × Bool × Nat)
  x : Gen
  y : Gen
  z : Gen
  dg0 : Nat
  dg1 : Nat
  dg0Seed : Nat
  dg1Seed : Nat
  dg0Init : Nat
  dg1Init : Nat
  lcs : List Nat
  carries : Nat
  stack : List Nat
  pc : Nat
  refCount : Nat
  refInterval : Nat
  refEntry : Nat
  refMax : Nat
  inRefresh : Option FntSave
  /-- bits of the instruction memory that soft errors have flipped: word, and mask (R281) -/
  flips : List (Nat × BitVec 128)
  halted : Bool
  faulted : Nat
  /-- cycle words emitted that some cluster has not played yet, their number since S(0), and the last one emitted -/
  words : List CycleWord
  emitted : Nat
  last : CycleWord
deriving DecidableEq, Repr, Inhabited

/-- An entry of the segment directory beside SEG_D registers (R223, R227). -/
structure Seg where
  crc : Nat
  size : Nat
  dataLen : Nat
  loader : Option Nat
  /-- runs that armed it (with the state before) and runs that play it -/
  armedBy : List (Nat × Nat)
  playedBy : List Nat
deriving DecidableEq, Repr, Inhabited

/-! Triggers, analog channels, lanes, controllers, governor. -/

/-- A source event on its way to its fire tick (R310). -/
structure Fire where
  line : Nat
  due : Nat
  system : Bool
deriving DecidableEq, Repr, Inhabited

/-- Triggers and GPIO pulses (R311, R314). -/
structure Trg where
  fires : List Fire
  rearmAt : List (Nat × Nat)
  rearmTo : Nat
  flags : List Nat
  modes : List Nat
  /-- GPIO pulses to come: pin, start GCC, steps -/
  pulses : List (Nat × Nat × Nat)
  pulseEnd : List (Nat × Nat)
  /-- SEGTRIG pulses: sequencer, start and end GCC (R254) -/
  segPulses : List (Nat × Nat × Nat)
deriving DecidableEq, Repr, Inhabited

/-- An analog channel beside its registers (R349, R350, R361). -/
structure Ana where
  /-- park code copies in MRAM: sequence, code, valid -/
  park : List (Nat × Nat × Bool)
  saving : Option Nat
  muteUntil : Option Nat
  /-- swap requests under way: due GCC, target, fade -/
  swaps : List (Nat × Bool × Nat)
  pend : Option (Bool × Nat)
  /-- first output sample after the fade in progress, and first one of it -/
  fadeEnd : Option Nat
  fadeStart : Nat
  /-- GCC of the last change of the digitizer's range (R364) -/
  digChanged : Option Nat
deriving DecidableEq, Repr, Inhabited

/-- A power supply controller beside its registers (R391 to R397). References in units of 10 µV. -/
structure Dps where
  ref : Nat
  /-- reference and GCC at which the motion in progress began, its target and slope (R393) -/
  start : Nat
  since : Nat
  target : Nat
  slope : Nat
  fast : Bool
  elapsed : Nat
  /-- switching periods still to begin before the weir is released (R394) -/
  blank : Nat
  /-- the latest switching period: island clock count at its start, and how long PWM is high in it, in tenths of a cycle (R391, R392) -/
  cycle : Nat
  onFor : Nat
  /-- voltage loop: sum of the errors in units of 10 µV, and threshold in µV (R392) -/
  errors : Int
  threshold : Int
  weir : Bool
  limited : Bool
  ovCount : Nat
  /-- energy count in 10^-4 nJ (R397) -/
  energy : Int
  /-- latched at ENABLE (R396): FSW, SCOMP, RSENSE, LOOP -/
  fsw : Nat
  scomp : Nat
  rsense : Nat
  loop : Nat
deriving DecidableEq, Repr, Inhabited

/-- A reservation (R410 to R413). `owner`: operation, step of a site, or standing reservation of a site. -/
structure Resv where
  /-- 0 operation asn, 1 step of site ix, 2 standing reservation of site ix -/
  kind : Nat
  ix : Nat
  /-- 0 to 5 rail, 6 + s site -/
  ledger : Nat
  p : Nat
  e : Option Nat
  since : Nat
  release : Option Nat
deriving DecidableEq, Repr, Inhabited

/-- The energy governor beside its registers. -/
structure Gov where
  resvs : List Resv
  reads : List (Nat × Nat)
  samples : Map (List Nat)
  /-- energy measured since the start, by operation and rail: (asn, rail, nJ) (R421) -/
  meas : List (Nat × Nat × Nat)
  siteOver : List Nat
  /-- rails whose mean lay above PEAK_MW at the last sample (R422) -/
  railOver : List Nat
deriving DecidableEq, Repr, Inhabited

/-- An entry record of a control-store image (R457). -/
structure MsqEntry where
  start : Nat
  unwind : Nat
  trap : Nat
  trapEn : Nat
  own : Nat
deriving DecidableEq, Repr, Inhabited

/-- A loaded control-store image: the hub's copy (R459). -/
structure MsqImage where
  imageId : Nat
  version : Nat
  keySlot : Nat
  digest : List Byte
  base : Nat
  entries : List MsqEntry
  words : List (BitVec 128)
deriving DecidableEq, Repr, Inhabited

/-- A micro-sequencer beside its registers (R431, R442 to R449). The trap frames are MSQ_FRAME0 and MSQ_FRAME1 (R444). -/
structure Msq where
  asn : Option Nat
  entry : MsqEntry
  /-- customer words that are not zero, as they were written -/
  store : Map (BitVec 128)
  /-- bits of the control store that differ from what was written: address and mask (R429) -/
  flips : List (Nat × BitVec 128)
  image : Option MsqImage
  /-- call stack, top first, and the flags V, C, N, Z in bits [3:0] -/
  stack : List Nat
  flags : Nat
  hostCause : Bool
  deferred : List (Nat × Word)
  /-- wait in progress: kind 1 until GCC, 2 event mask -/
  wait : Option (Nat × Nat)
  unwindSince : Option Nat
  /-- status, reason and detail decided by a stop or fault before the unwind ends -/
  ending : Option (Nat × Nat × Nat)
  restoring : Bool
deriving DecidableEq, Repr, Inhabited

/-- A calibration slot in MRAM (R473): values by key (Cal.lean). -/
structure CalSlot where
  gen : Nat
  parts : Nat
  tRef : Nat
  time : Nat
  values : List (Nat × Int)
  commit : Bool
deriving DecidableEq, Repr, Inhabited

/-- A calibrated unit beside its registers (R469 to R480). `st`: 0 idle, 1 first quiet check, 2 pass 1, 3 pass 2,
4 second quiet check, 5 agreement test, 6 storage, 7 waiting for the apply tick, 8 restoring, 9 dropped by a warm reset. -/
structure Cal where
  st : Nat
  asn : Option Nat
  auto : Bool
  parts : Nat
  due : Nat
  t1 : Int
  t2 : Int
  pass1 : List (Nat × Int)
  pass2 : List (Nat × Int)
  /-- channels with their live CH_CFG and CH_PMU_CTRL (R469) -/
  saved : List (Nat × Word × Word)
  slots : List CalSlot
  /-- live values: none for factory values (R463) -/
  live : Option (List (Nat × Int))
  /-- comparators changed and channels faulted by the run that took effect (R478) -/
  changed : Nat
  faults : Nat
  retryAt : Nat
  /-- operations accepted before the unit became due (R480) -/
  dueAsn : Nat
  aborting : Bool
deriving DecidableEq, Repr, Inhabited

/-- A maintenance activity: kind (rank of R481), unit, GCC at which it asked. -/
structure Act where
  kind : Nat
  ix : Nat
  asked : Nat
deriving DecidableEq, Repr, Inhabited

/-- Maintenance interlock (R481 to R484) and scrub timer. -/
structure Mnt where
  running : List Act
  waiting : List Act
deriving DecidableEq, Repr, Inhabited

/-- A link port beside its registers (R491 to R503). Lists by VC have five members. -/
structure Port where
  /-- GCC at which the state was entered; codewords in a row that could not be corrected (R491, R500) -/
  since : Nat
  badRow : Nat
  /-- codewords received in a row, in TRAIN or RETRAIN, without an uncorrectable error; flits put on the line (R489, R491) -/
  cleanRow : Nat
  flitsOut : Nat
  /-- transmitter: next LSEQ; unacknowledged flits, oldest first, with the GCC at which they were sent; acknowledged flits of
  messages whose LAST flit is not; flits to be sent again; SENT and FREED; last NAKed LSEQ and how often (R498, R501) -/
  lseq : Nat
  unacked : List (Flit × Nat)
  kept : List (List Flit)
  resend : List Flit
  sent : List Nat
  freed : List Nat
  nakAt : Nat
  nakCount : Nat
  /-- receiver: expected LSEQ, whether a flit was accepted since UP, NAK sent for the gap in progress; released flits by VC,
  and in all since the last CREDIT (R498, R501) -/
  expect : Nat
  accepted : Bool
  gap : Bool
  released : List Nat
  sinceCredit : Nat
  /-- control flits to send; flits of each VC to send, the ingress port whose message enters the queue, messages that wait for
  that message to be whole; whether the message being sent is a response; last VC of the round robin (R499, R503) -/
  ctrl : List Flit
  queue : List (List Flit)
  opened : List (Option Nat)
  waitq : List (List Flit)
  resp : List Bool
  rr : Nat
  /-- message being received, by VC: its flits so far, or its first one while it leaves by another port already -/
  partials : List (List Flit)
  /-- identity exchange: last IDENT, equal ones in a row; timestamp exchanges left and the next number, values of L, least
  (T4 − T1) with its OFFSET and whether both ends were ALIGNED; the condition of R517 holds -/
  lastIdent : Option Flit
  same : Nat
  exchanges : Nat
  lats : List Nat
  best : Option (Nat × Int × Bool)
  skewed : Bool
  /-- the flit last put on the line -/
  line : Flit
deriving DecidableEq, Repr, Inhabited

/-- A route candidate (R510): endpoint, port, distance, latency, UID, host, when last refreshed. -/
structure Cand where
  ep : Nat
  port : Nat
  dist : Nat
  lat : Nat
  uid : Nat
  host : Bool
  dup : Bool
  seen : Nat
deriving DecidableEq, Repr, Inhabited

/-- A receiving flow (R508): last delivered MSEQ and held messages with the GCC they arrived. -/
structure Flow where
  src : Nat
  dest : Nat
  vc : Nat
  last : Nat
  held : List (Msg × Nat)
deriving DecidableEq, Repr, Inhabited

/-- Routing and message state of the chip. -/
structure Net where
  cands : List Cand
  /-- entries as last chosen: endpoint, distance, primary port -/
  chosen : List (Nat × Nat × Nat)
  dups : List (Nat × Nat)
  flows : List Flow
  /-- sending side: next MSEQ and FLOW_START due, by (dest, vc) as dest * 8 + vc -/
  txSeq : List (Nat × Nat × Bool)
  /-- messages delivered to this chip and waiting to be served -/
  inbox : List Msg
  /-- route entries that changed and are still to be advertised (R511) -/
  changed : List Nat
deriving DecidableEq, Repr, Inhabited

/-! Continuity, power, security, service port. -/

/-- An ABORTED_POWER record that is owed (R131, R137). -/
structure Owed where
  queue : Nat
  seq : Nat
  opcode : Nat
  tag : Nat
  started : Bool
  gcc : Nat
  detail : Nat
deriving DecidableEq, Repr, Inhabited

/-- A power-fail slot in MRAM (R136). -/
structure PfSlot where
  valid : Bool
  epoch : Nat
  gcc : Nat
  order : Nat
  owed : List Owed
  /-- records that it held at first (R139) -/
  total : Nat
  nextSeqs : List (Nat × Nat)
deriving DecidableEq, Repr, Inhabited

/-- Fault continuity (R113 to R138). -/
structure Cont where
  mismatch : Bool
  resyncs : List Nat
  hubFaultAt : Option Nat
  /-- MRAM banks whose objects get new copies: bank, objects (R120) -/
  recopying : List (Nat × Nat)
  fencedCopies : List (Nat × Nat)
  /-- faulted units: class of R140 and index -/
  faulted : List (Nat × Nat)
  /-- GCC at step 1 of the power-fail sequence, and the first of the free values that set the instants of R614 -/
  pfStart : Nat
  pfFree : Nat
  /-- GCC at the end of step 2 (R614) -/
  pfQuiet : Nat
  /-- bursts rebuilt from parity: pseudo-channel, GCC, how many (R117) -/
  rebuilt : List (Nat × Nat × Nat)
  slots : List PfSlot
  /-- generation in the power-fail state of MRAM (R62) -/
  pfGen : Nat
  pfOrder : Nat
deriving DecidableEq, Repr, Inhabited

/-- A pending swap (R43, R54): tick, operation or none for ACTIVATE, generation drawn. -/
structure Swap where
  tick : Nat
  asn : Option Nat
  gen : Nat
deriving DecidableEq, Repr, Inhabited

/-- Configuration manager beside its registers. -/
structure Cfg where
  active : Option ImageSet
  shadow : Option ImageSet
  /-- state of the shadow set before it became ARMED (R39, R52) -/
  before : Nat
  swap : Option Swap
  /-- MRAM generation counter (R58) -/
  genCounter : Nat
  /-- generation of each island (R59); one that is not listed holds 0 -/
  gens : Map Nat
  /-- generation an island held when it left ON (R534); islands whose reload runs (R60); islands that lost retention
  since they left ON, or at the last warm reset (R529) -/
  leftGen : Map Nat
  reloading : List Nat
  lostRetention : List Nat
  locked : Bool
deriving DecidableEq, Repr, Inhabited

/-- Always-on domain (R523 to R545). -/
structure Aon where
  vaon : Bool
  vddCore : Bool
  resetN : Bool
  /-- RTC seconds, and a load that waits for the crystal (R541, R542) -/
  rtcSec : Nat
  /-- crystal cycles that the last read found counted within the second (R541) -/
  rtcSub : Nat
  rtcLoad : Option Nat
  /-- lifetime counters by index (R544) -/
  lt : Map Nat
  /-- MRAM mirror slots: sequence number, valid, counters (R545) -/
  mirror : List (Nat × Bool × Map Nat)
  /-- a power-fail sequence reached step 7 before the core went down (R525) -/
  pfDone : Bool
  /-- reset in progress: 0 none, 1 warm with the pins still live, 3 warm from step 5 of R528, 2 cold (power-up sequence) -/
  resetting : Nat
  /-- steps of the power-up sequence done (R531) -/
  powerStep : Nat
  /-- islands waking, requests waiting for ON: island, mode (R535) -/
  waking : List Nat
  after : List (Nat × Nat)
deriving DecidableEq, Repr, Inhabited

/-- Security (R549 to R561). -/
structure Sec where
  /-- key slots: state and key -/
  keys : List (Nat × BitVec 512)
  /-- key table being written, and a floor write under way (which floor, value) -/
  writing : Option (List (Nat × BitVec 512))
  floorWrite : Option (Nat × Nat)
  /-- MRAM key table: KSEQ and floors -/
  kseq : Nat
  cfgFloor : Nat
  csFloor : Nat
  /-- report being built -/
  report : Option (List Byte)
  /-- VERSION of the last control-store image loaded since cold reset -/
  csVersion : Option Nat
  /-- key table used by a running verification or load -/
  verifyKeys : List (Nat × BitVec 512)
  /-- control-store load under way: targets and image -/
  load : Option (Nat × MsqImage)
deriving DecidableEq, Repr, Inhabited

/-- A slave transaction (R567, R568): frames so far, OP, address of the first word, words accessed, whether the read goes on, the
reply of the next frame (none is the status word), and whether the flags clear once it is sent. -/
structure SlvTx where
  frames : Nat
  op : Nat
  addr : Nat
  count : Nat
  reading : Bool
  reply : Option Word
  clears : Bool
deriving DecidableEq, Repr, Inhabited

/-- Service port and GPIO (R564 to R577). -/
structure Svc where
  tx : List Nat
  rx : List Nat
  slave : Option SlvTx
  /-- level of SVC_SEL_IN_N is low -/
  selLow : Bool
  /-- last word shifted out on SVC_DO -/
  sent : Word
  /-- master transfer: frames left, chain mode, last frame sent, received frame that a full FIFO keeps out -/
  left : Nat
  chain : Bool
  lastFrame : Option Nat
  paused : Option Nat
  /-- sampled levels of the GPIO balls are in SVC_GPIO_IN; levels driven now -/
  driven : Nat
deriving DecidableEq, Repr, Inhabited

/-- Test access port (R605, R606). -/
structure Jtag where
  /-- the instruction register -/
  ir : Nat
  /-- the boundary register: bit i is cell i -/
  cells : Nat
  /-- what the selected data register captured last -/
  captured : Nat
deriving DecidableEq, Repr, Inhabited

/-- The event queue (R589): records as 128-bit numbers, oldest first. -/
structure Evq where
  recs : List (BitVec 130)
deriving DecidableEq, Repr, Inhabited

/-- The machine. `regs` is the register file (a staged copy where two exist) by register address; `live` holds live copies
at the address of the staged register; `store` is the store space of R579; `hold` the holding copies of R583. -/
structure State where
  regs : Map Word
  live : Map Word
  store : Map Byte
  /-- 8-byte words of the store that carry a poison tag -/
  poison : List Nat
  hold : Map Word
  /-- word that the last register read returned, and the flag it set (for the response) -/
  rdata : Word
  flagged : Bool
  tb : Tb
  cfg : Cfg
  ops : List Op
  kept : List Kept
  /-- CONFIG_SWAP records held for a queue that the new set does not open (R51) -/
  heldRecs : List Op
  /-- queue whose descriptor the work engine took last (R77) -/
  served : Nat
  chans : Map Chan
  clus : Map Clu
  fnts : Map Fnt
  segs : Map Seg
  trg : Trg
  /-- records that a reset has dropped from fail feeders: site and index (R297) -/
  basinGaps : List (Nat × Nat)
  anas : Map Ana
  /-- lane groups whose PLL relocks, with the GCC of the rate change (R380, R385) -/
  relocks : List (Nat × Nat)
  dpss : Map Dps
  gov : Gov
  msqs : Map Msq
  cals : Map Cal
  mnt : Mnt
  ports : Map Port
  net : Net
  cont : Cont
  aon : Aon
  sec : Sec
  svc : Svc
  jtag : Jtag
  evq : Evq
  /-- the model's own count of uses of free values -/
  free : Nat
  /-- commands that wait, first in first out -/
  pending : List Instr
deriving DecidableEq, Repr

/-! What an unlisted unit holds. -/

/-- Registers at their reset value (R14). -/
def regDefault : Nat → Word := resetWord
/-- A store byte that nothing has written (log entry 5). -/
def byteDefault : Nat → Byte := fun _ => 0
/-- A holding copy with no earlier LO read (R583). -/
def holdDefault : Nat → Word := fun _ => 0
/-- A channel in the reset pin state (R183). -/
def chanDefault : Nat → Chan := fun _ => { (default : Chan) with pinReset := true }
/-- An idle cluster. -/
def cluDefault : Nat → Clu := fun _ => default
/-- An idle fountain. -/
def fntDefault : Nat → Fnt := fun _ => default
/-- An EMPTY segment (R223). -/
def segDefault : Nat → Seg := fun _ => default
/-- An analog channel as it leaves the factory: no valid park code copy (R350). -/
def anaDefault : Nat → Ana := fun _ => default
/-- A controller that is OFF. -/
def dpsDefault : Nat → Dps := fun _ => default
/-- A rail or site monitor without samples. -/
def monDefault : Nat → List Nat := fun _ => []
/-- A sequencer with no image and an all-zero customer region (R428). -/
def msqDefault : Nat → Msq := fun _ => default
/-- A customer word that holds zero (R428). -/
def csDefault : Nat → BitVec 128 := fun _ => 0
/-- A unit with no valid slot (R463). -/
def calDefault : Nat → Cal := fun _ => default
/-- A port that is OFF with nothing sent or received. -/
def portDefault : Nat → Port := fun _ =>
  { (default : Port) with sent := [0, 0, 0, 0, 0], freed := [0, 0, 0, 0, 0], released := [0, 0, 0, 0, 0],
                          kept := [[], [], [], [], []], queue := [[], [], [], [], []], waitq := [[], [], [], [], []],
                          opened := [none, none, none, none, none], resp := [false, false, false, false, false],
                          partials := [[], [], [], [], []] }
/-- A counter at 0. -/
def natDefault : Nat → Nat := fun _ => 0
/-- An empty power-fail slot. -/
def pfSlotEmpty : PfSlot := default

/-- The state right after reset (R14, R57, R149, R223, R531; log entries 5 and 6): supplies in range and RESET_N high, the
power-up sequence still to run, every register at its reset value, no set active, nothing in flight, the Cistern empty, MRAM
as it leaves the factory. -/
def State.reset : State where
  regs := []
  live := []
  store := []
  poison := []
  hold := []
  rdata := 0
  flagged := false
  tb := { gcc := 0, before := 0, lastLoaded := 0, lost := false, syncHigh := false, loadAt := [] }
  cfg := { active := none, shadow := none, before := 0, swap := none, genCounter := 0, gens := [], leftGen := [],
           reloading := [], lostRetention := [], locked := false }
  ops := []
  kept := []
  heldRecs := []
  served := 4095
  chans := []
  clus := []
  fnts := []
  segs := []
  basinGaps := []
  relocks := []
  trg := { fires := [], rearmAt := [], rearmTo := 0, flags := List.replicate 16 0, modes := List.replicate 16 0,
           pulses := [], pulseEnd := [], segPulses := [] }
  anas := []
  dpss := []
  gov := { resvs := [], reads := [], samples := [], meas := [], siteOver := [], railOver := [] }
  msqs := []
  cals := []
  mnt := { running := [], waiting := [] }
  ports := []
  net := { cands := [], chosen := [], dups := [], flows := [], txSeq := [], inbox := [], changed := [] }
  cont := { mismatch := false, resyncs := [], hubFaultAt := none, recopying := [], fencedCopies := [], faulted := [],
            pfStart := 0, pfFree := 0, pfQuiet := 0, rebuilt := [], slots := [pfSlotEmpty, pfSlotEmpty], pfGen := 0, pfOrder := 0 }
  aon := { vaon := true, vddCore := true, resetN := true, rtcSec := 0, rtcSub := 0, rtcLoad := none, lt := [],
           mirror := [(0, false, []), (0, false, [])], pfDone := false, resetting := 2, powerStep := 0, waking := [],
           after := [] }
  sec := { keys := List.replicate 4 (0, 0), writing := none, floorWrite := none, kseq := 0, cfgFloor := 0, csFloor := 0,
           report := none, csVersion := none, verifyKeys := [], load := none }
  svc := { tx := [], rx := [], slave := none, selLow := false, sent := 0, left := 0, chain := false, lastFrame := none,
           paused := none, driven := 0 }
  jtag := { ir := 2, cells := 0, captured := 0 }
  evq := { recs := [] }
  free := 0
  pending := []

end Sys2Proof.Machine
end

