-- ==== Sys2Proof/Machine/Ops.lean ====
section
/-! DEFINITION. The named operations over the state that every command uses: registers and their fields, the store, time,
units, event records, lifetime counters and free values. -/

namespace Sys2Proof.Machine

/-! Registers. -/

/-- The value of a register (the staged copy where two exist). -/
def State.reg (s : State) (a : Nat) : Word := Map.get regDefault s.regs a
/-- A register takes a value. -/
def State.setReg (s : State) (a : Nat) (v : Word) : State := { s with regs := Map.set regDefault s.regs a v }
/-- Bits [hi:lo] of a register. -/
def State.fld (s : State) (a hi lo : Nat) : Nat := (s.reg a).field hi lo
/-- Bits [hi:lo] of a register take a value. -/
def State.setFld (s : State) (a hi lo v : Nat) : State := s.setReg a ((s.reg a).withField hi lo v)
/-- One bit of a register. -/
def State.bitAt (s : State) (a i : Nat) : Bool := (s.reg a).getLsbD i
/-- One bit of a register takes a value. -/
def State.setBitAt (s : State) (a i : Nat) (b : Bool) : State := s.setFld a i i (if b then 1 else 0)
/-- The bits of a mask set in a register. -/
def State.orReg (s : State) (a m : Nat) : State := s.setReg a (s.reg a ||| BitVec.ofNat 32 m)
/-- The bits of a mask clear in a register. -/
def State.clrReg (s : State) (a m : Nat) : State := s.setReg a (s.reg a &&& ~~~ BitVec.ofNat 32 m)
/-- A 32-bit count rises by `n` and saturates. -/
def State.addSat (s : State) (a n : Nat) : State :=
  s.setReg a (BitVec.ofNat 32 (min ((s.reg a).toNat + n) (2 ^ 32 - 1)))
/-- A 32-bit count rises by one and saturates. -/
def State.incSat (s : State) (a : Nat) : State := s.addSat a 1
/-- The 64-bit value of a LO and HI pair. -/
def State.reg64 (s : State) (lo hi : Nat) : Nat := (s.reg lo).toNat + 2 ^ 32 * (s.reg hi).toNat
/-- A LO and HI pair takes a value. -/
def State.setReg64 (s : State) (lo hi v : Nat) : State :=
  (s.setReg lo (BitVec.ofNat 32 v)).setReg hi (BitVec.ofNat 32 (v / 2 ^ 32))
/-- The live copy at a staged register's address (R171, R191). -/
def State.liveReg (s : State) (a : Nat) : Word := Map.get regDefault s.live a
/-- A live copy takes a value. -/
def State.setLive (s : State) (a : Nat) (v : Word) : State := { s with live := Map.set regDefault s.live a v }
/-- Device state of R523: 0 RESET, 1 ACTIVE, 2 SLEEP, 3 WAKING, 4 PF_SEQUENCE, 5 PF_IDLE. -/
def State.deviceState (s : State) : Nat := s.fld AON_PWR_STATUS 2 0
/-- Bits [hi:lo] of a live copy. -/
def State.liveFld (s : State) (a hi lo : Nat) : Nat := (s.liveReg a).field hi lo
/-- Both copies take a value (R173, R192). -/
def State.setBoth (s : State) (a : Nat) (v : Word) : State := (s.setReg a v).setLive a v
/-- Every register from `a`, `n` words, back at its reset value. -/
def State.resetWords (s : State) (a n : Nat) : State :=
  { s with regs := s.regs.filter (fun e => e.1 < a || a + 4 * n ≤ e.1),
           live := s.live.filter (fun e => e.1 < a || a + 4 * n ≤ e.1) }
/-- Key of a holding copy: the path and the HI register (R583). -/
def holdKey (path a : Nat) : Nat := path * 2 ^ 32 + a

/-! Time. -/

/-- The GCC that every copy holds (R148). -/
def State.now (s : State) : Nat := s.tb.gcc
/-- The GCC counts: the timebase is not in NO_TREF (R150). -/
def State.counting (s : State) : Bool := s.fld GLB_TB_STATUS 1 0 != 0
/-- The machine at the instant `g`, or now when `g` has passed. In NO_TREF the GCC holds (R150; log entry 7). -/
def State.advanceTo (s : State) (g : Nat) : State :=
  if s.counting ∧ s.tb.gcc < g then { s with tb := { s.tb with gcc := g } } else s

/-- One tick of the system timebase with no command: the GCC rises by one where it counts (R148, R150; log entry 1). -/
def tick (s : State) : State :=
  if s.counting then { s with tb := { s.tb with gcc := (s.tb.gcc + 1) % 2 ^ 64 } } else s

/-- Bits of a stored word that soft errors have flipped, from a list of upsets by address (log entry 84). -/
def flippedBits (l : List (Nat × BitVec 128)) (a : Nat) : BitVec 128 :=
  (l.filter (fun e => e.1 == a)).foldl (fun m e => m ^^^ e.2) 0

/-! Free values. -/

/-- The next free value, below 2^w, and the state that has used it. -/
def State.fresh (s : State) (w : Nat) : Nat × State :=
  ((Config.freeValue s.free).toNat % 2 ^ w, { s with free := s.free + 1 })

/-- The RTC read on one edge: seconds in bits [47:0], and above them the crystal cycles counted within the second. No command
gives a crystal edge, so the cycles since the last read, or since the second began, are free; the count never falls within a
second, and holds while no edge arrives (R541 to R543; log entry 46). -/
def State.rtcNow (s : State) : Nat × State :=
  let p := s.fresh 15
  let n := s.aon.rtcSub + (if s.bitAt AON_PWR_STATUS 10 then p.1 % (32768 - s.aon.rtcSub) else 0)
  (s.aon.rtcSec % 2 ^ 48 + 2 ^ 48 * n, { p.2 with aon := { p.2.aon with rtcSub := n } })

/-! The store (R579). -/

/-- One byte as it is held. -/
def State.byte (s : State) (a : Nat) : Byte := Map.get byteDefault s.store a
/-- One byte takes a value. -/
def State.setByte (s : State) (a : Nat) (v : Byte) : State := { s with store := Map.set byteDefault s.store a v }
/-- `n` bytes from `a`. -/
def State.bytes (s : State) (a n : Nat) : List Byte := (List.range n).map (fun i => s.byte (a + i))
/-- Bytes put from `a` onward; poison tags stay. -/
def State.writeFrom (s : State) (a : Nat) : List Byte → State
  | [] => s
  | b :: bs => (s.setByte a b).writeFrom (a + 1) bs
/-- Bytes written from `a` onward; a word that they cover whole loses its poison tag (log entry 14). -/
def State.writeBytes (s : State) (a : Nat) (bs : List Byte) : State :=
  { s.writeFrom a bs with poison := s.poison.filter (fun w => !(decide (a ≤ 8 * w) && decide (8 * w + 8 ≤ a + bs.length))) }
/-- A little-endian number of `n` bytes at `a` (R7). -/
def State.le (s : State) (a n : Nat) : Nat := leNat (s.bytes a n)

/-- A byte of the store carries a poison tag: it was stored with one, or its parity group is lost (R119, R496; log
entry 14). -/
def State.poisonAt (s : State) (a : Nat) : Bool :=
  s.poison.contains (a / 8) || (s.reg MEM_GROUP_LOST).getLsbD (Config.parityGroup a).toNat
/-- Some byte of a range carries a poison tag. -/
def State.poisonIn (s : State) (a n : Nat) : Bool := (List.range n).any (fun i => s.poisonAt (a + i))
/-- The word at an address of the store (R7). -/
def State.storeWord (s : State) (a : Nat) : Word := BitVec.ofNat 32 (s.le a 4)

/-! Units. -/

def State.chan (s : State) (c : Nat) : Chan := Map.get chanDefault s.chans c
def State.setChan (s : State) (c : Nat) (v : Chan) : State := { s with chans := Map.set chanDefault s.chans c v }
def State.clu (s : State) (k : Nat) : Clu := Map.get cluDefault s.clus k
def State.setClu (s : State) (k : Nat) (v : Clu) : State := { s with clus := Map.set cluDefault s.clus k v }
def State.fnt (s : State) (f : Nat) : Fnt := Map.get fntDefault s.fnts f
def State.setFnt (s : State) (f : Nat) (v : Fnt) : State := { s with fnts := Map.set fntDefault s.fnts f v }
def State.seg (s : State) (n : Nat) : Seg := Map.get segDefault s.segs n
def State.setSeg (s : State) (n : Nat) (v : Seg) : State := { s with segs := Map.set segDefault s.segs n v }
def State.ana (s : State) (a : Nat) : Ana := Map.get anaDefault s.anas a
def State.setAna (s : State) (a : Nat) (v : Ana) : State := { s with anas := Map.set anaDefault s.anas a v }
def State.ctl (s : State) (d : Nat) : Dps := Map.get dpsDefault s.dpss d
def State.setCtl (s : State) (d : Nat) (v : Dps) : State := { s with dpss := Map.set dpsDefault s.dpss d v }
def State.msq (s : State) (m : Nat) : Msq := Map.get msqDefault s.msqs m
def State.setMsq (s : State) (m : Nat) (v : Msq) : State := { s with msqs := Map.set msqDefault s.msqs m v }
def State.cal (s : State) (u : Nat) : Cal := Map.get calDefault s.cals u
def State.setCal (s : State) (u : Nat) (v : Cal) : State := { s with cals := Map.set calDefault s.cals u v }
def State.port (s : State) (p : Nat) : Port := Map.get portDefault s.ports p
def State.setPort (s : State) (p : Nat) (v : Port) : State := { s with ports := Map.set portDefault s.ports p v }

/-- Apply a change for each member of a list, in order. -/
def State.forEach {α : Type} (s : State) (l : List α) (f : State → α → State) : State := l.foldl f s

/-! Lifetime counters and event records. -/

/-- Lifetime counter i (R544). -/
def State.lifetime (s : State) (i : Nat) : Nat := Map.get natDefault s.aon.lt i
/-- A lifetime counter rises and saturates (R544). -/
def State.ltAdd (s : State) (i n : Nat) : State :=
  { s with aon := { s.aon with lt := Map.set natDefault s.aon.lt i (min (s.lifetime i + n) (2 ^ 64 - 1)) } }

/-- One MRAM object is written (R544; log entry 37). -/
def State.mramWrite (s : State) : State := s.ltAdd 15 1

/-- Parity of the low `n` bits of a number. -/
def oddOnes (x n : Nat) : Bool := (List.range n).foldl (fun b i => b != bit x i) false
/-- The retention check of an island: `upsets` gives the bits of its retained memories that have flipped, by 64-bit word and bit. A
word fails when the parity bit kept for it no longer matches (R529; log entry 84). -/
def retentionHolds (upsets : List (Nat × Nat)) : Bool :=
  upsets.all (fun x => (upsets.filter (fun y => y.1 == x.1)).length % 2 == 0)
/-- A record of 16 bytes as a ring or the event queue keeps it: one parity bit per 64-bit word (R306, R589). -/
def withParity (b : BitVec 128) : BitVec 130 :=
  BitVec.ofNat 130 (b.toNat + (if oddOnes b.toNat 64 then 2 ^ 128 else 0) + (if oddOnes (b.toNat / 2 ^ 64) 64 then 2 ^ 129 else 0))
/-- Words of a record that fail their parity check, as a mask (R306, R589). -/
def badWords (r : BitVec 130) : Nat :=
  let bad := fun (i : Nat) => if oddOnes (r.toNat / 2 ^ (64 * i)) 64 != bit r.toNat (128 + i) then 1 else 0
  bad 0 + 2 * bad 1
/-- The record without its parity bits. -/
def recordBits (r : BitVec 130) : Nat := r.toNat % 2 ^ 128
/-- An event record: GCC, CODE, UNIT and DATA (R139). -/
def eventRecord (gcc code unit data : Nat) : BitVec 128 :=
  BitVec.ofNat 128 (gcc % 2 ^ 64 + 2 ^ 64 * (code % 2 ^ 16) + 2 ^ 80 * (unit % 2 ^ 16) + 2 ^ 96 * (data % 2 ^ 32))
/-- An event record enters the event queue; a full queue loses its oldest record (R589). Codes 0x0301 to 0x030B count as
fault events (R544). -/
def State.logEvent (s : State) (code unit data : Nat) : State :=
  let r := eventRecord s.now code unit data
  let s := if 0x0301 ≤ code ∧ code ≤ 0x030B then s.ltAdd 14 1 else s
  if s.evq.recs.length < 1024 then { s with evq := { recs := s.evq.recs ++ [withParity r] } }
  else ({ s with evq := { recs := s.evq.recs.drop 1 ++ [withParity r] } }).incSat GLB_EVQ_LOST

/-! Bits of the presence and contact registers. -/

/-- Bit n of a mask spread over consecutive registers from `a`. -/
def State.maskBit (s : State) (a n : Nat) : Bool := s.bitAt (a + 4 * (n / 32)) (n % 32)
/-- Bit n of a mask spread over consecutive registers takes a value. -/
def State.setMaskBit (s : State) (a n : Nat) (b : Bool) : State := s.setBitAt (a + 4 * (n / 32)) (n % 32) b
/-- The site is marked absent (R219). -/
def State.absent (s : State) (site : Nat) : Bool := s.maskBit (GLB_SITE_ABSENT 0) site

/-! Operations in flight. -/

/-- The operation with an acceptance sequence number. -/
def State.op? (s : State) (a : Asn) : Option Op := s.ops.find? (fun o => o.asn == a)
/-- An operation takes a new value in place. -/
def State.setOp (s : State) (o : Op) : State := { s with ops := s.ops.map (fun p => if p.asn == o.asn then o else p) }
/-- An operation changes, if it is in flight. -/
def State.modOp (s : State) (a : Asn) (f : Op → Op) : State :=
  { s with ops := s.ops.map (fun p => if p.asn == a then f p else p) }
/-- Opcode of an operation (R70). -/
def Op.opcode (o : Op) : Nat := o.desc.toNat % 256

end Sys2Proof.Machine
end

