-- ==== Sys2Proof/Machine/Image.lean ====
section
/-! DEFINITION. Questions to a configuration set: which site owns a unit, which region holds a range, which queue record a
queue has, which clusters a sequencer or a fountain reaches (R24 to R33, R246, R257). -/

namespace Sys2Proof.Machine

/-- Entry of a site. -/
def ImageSet.siteEnt (g : ImageSet) (n : Nat) : Option SiteEnt := g.sites.find? (fun e => e.site == n)
/-- The site that owns a channel (R24). -/
def ImageSet.siteOfCh (g : ImageSet) (c : Nat) : Option Nat := (g.sites.find? (fun e => bit e.chMask c)).map SiteEnt.site
/-- The site that owns an analog channel. -/
def ImageSet.siteOfAn (g : ImageSet) (a : Nat) : Option Nat := (g.sites.find? (fun e => bit e.anMask a)).map SiteEnt.site
/-- The site of a controller (R30). -/
def ImageSet.siteOfDps (g : ImageSet) (d : Nat) : Option Nat :=
  (g.dpsMap[d]?).bind (fun e => if e.site == 0xFFFF then none else some e.site)
/-- The site of a lane (R31). -/
def ImageSet.siteOfLane (g : ImageSet) (l : Nat) : Option Nat :=
  (g.laneMap[l]?).bind (fun e => if e.site == 0xFFFF then none else some e.site)
/-- Channels of a site in ascending order; the site pin index is the position (R26). -/
def ImageSet.chansOf (g : ImageSet) (n : Nat) : List Nat :=
  match g.siteEnt n with
  | some e => bitsOf e.chMask 512
  | none => []
/-- Channels of a site whose pin index lies from `p` to `p + n − 1` (R202, R339). -/
def ImageSet.pinsOf (g : ImageSet) (site p n : Nat) : List Nat := ((g.chansOf site).drop p).take n
/-- Controllers of a site. -/
def ImageSet.dpsOf (g : ImageSet) (n : Nat) : List Nat := (List.range 64).filter (fun d => g.siteOfDps d == some n)
/-- Controller of a site's rail. -/
def ImageSet.railOf (g : ImageSet) (n r : Nat) : Option Nat :=
  (List.range 64).find? (fun d => g.siteOfDps d == some n && (g.dpsMap[d]?).map DpsEnt.rail == some r)
/-- The queue record of a queue (R66). -/
def ImageSet.queueRec (g : ImageSet) (q : Nat) : Option QRec := g.queues.find? (fun r => r.queue == q)
/-- The class of a queue. -/
def ImageSet.classOf (g : ImageSet) (q : QRec) : QClass := (g.classes[q.cls]?).getD ⟨0, 0⟩
/-- A range lies wholly inside one region of the kinds (R73). -/
def ImageSet.inRegion (g : ImageSet) (kinds : List Nat) (a n : Nat) : Bool :=
  g.regions.any (fun r => kinds.contains r.kind && r.base ≤ a && a + n ≤ r.base + r.size)
/-- The BASIN region of a site (R33). -/
def ImageSet.basin (g : ImageSet) (site : Nat) : Option Region :=
  g.regions.find? (fun r => r.kind == 3 && r.owner == site)
/-- The JOURNAL region (R33). -/
def ImageSet.journal (g : ImageSet) : Option Region := g.regions.find? (fun r => r.kind == 7)
/-- Clusters fed by the sequencers of a mask (R28). -/
def ImageSet.clustersOfSeq (g : ImageSet) (mask : Nat) : List Nat :=
  (List.range 16).filter (fun k => match g.routing[k]? with
    | some r => r.seq < 16 && bit mask r.seq
    | none => false)
/-- Channels that a jet's map names on its site (R277). -/
def ImageSet.jetChans (g : ImageSet) (j : Jet) : List (Nat × PinEnt) :=
  let cs := g.chansOf j.site
  ((g.maps[j.map]?).getD []).filterMap (fun e => (cs[e.pin]?).map (fun c => (c, e)))
/-- The fountain reaches the cluster: a port names it and a jet of it names a channel there (R257). -/
def ImageSet.reaches (g : ImageSet) (f k : Nat) : Bool :=
  (match g.routing[k]? with
    | some r => r.ports.contains f
    | none => false) &&
  g.jets.any (fun j => j.fountain == f && (g.jetChans j).any (fun x => x.1 / 32 == k))
/-- Clusters that the fountains of a mask reach (R246). -/
def ImageSet.clustersOfFnt (g : ImageSet) (mask : Nat) : List Nat :=
  (List.range 16).filter (fun k => (bitsOf mask 32).any (fun f => g.reaches f k))
/-- Sites that own a channel of one of the clusters, ascending (R246). -/
def ImageSet.sitesOn (g : ImageSet) (ks : List Nat) : List Nat :=
  (g.sites.filter (fun e => ks.any (fun k => e.chMask / 2 ^ (32 * k) % 2 ^ 32 != 0))).map SiteEnt.site
/-- Channels of a cluster that some site owns (R216). -/
def ImageSet.assignedOn (g : ImageSet) (k : Nat) : List Nat :=
  (List.range 32).filterMap (fun j => if (g.siteOfCh (32 * k + j)).isSome then some (32 * k + j) else none)
/-- Clusters that hold channels, ascending. -/
def clustersOf (cs : List Nat) : List Nat := (List.range 16).filter (fun k => cs.any (fun c => c / 32 == k))

/-- Whether a queue is open (R65). -/
def State.openQ (s : State) (q : Nat) : Bool :=
  match s.cfg.active with
  | some g => (g.queueRec q).isSome
  | none => false
/-- Record of an open queue. -/
def State.queueRec (s : State) (q : Nat) : Option QRec := s.cfg.active.bind (fun g => g.queueRec q)
/-- The channel belongs to a site of the active set (R27). -/
def State.assigned (s : State) (c : Nat) : Bool :=
  match s.cfg.active with
  | some g => (g.siteOfCh c).isSome
  | none => false
/-- The unit is faulted: class of R140 and index (R122). -/
def State.isFaulted (s : State) (cls ix : Nat) : Bool := s.cont.faulted.contains (cls, ix)

/-- Power mode of island i (R532). -/
def State.islandMode (s : State) (i : Nat) : Nat :=
  if i < 16 then s.fld AON_ISL_MODE0 (2 * i + 1) (2 * i) else s.fld AON_ISL_MODE1 (2 * (i - 16) + 1) (2 * (i - 16))
/-- The power mode of an island takes a value. -/
def State.setIslandMode (s : State) (i m : Nat) : State :=
  if i < 16 then s.setFld AON_ISL_MODE0 (2 * i + 1) (2 * i) m
  else s.setFld AON_ISL_MODE1 (2 * (i - 16) + 1) (2 * (i - 16)) m
/-- The generation that an island holds (R59). -/
def State.genOf (s : State) (i : Nat) : Nat := Map.get natDefault s.cfg.gens i
/-- An island takes a generation. -/
def State.setGen (s : State) (i g : Nat) : State := { s with cfg := { s.cfg with gens := Map.set natDefault s.cfg.gens i g } }
/-- CFG_ACTIVE_GEN (R58). -/
def State.activeGen (s : State) : Nat := (s.reg CFG_ACTIVE_GEN).toNat
/-- The island is stale (R59). -/
def State.stale (s : State) (i : Nat) : Bool := s.genOf i != s.activeGen
/-- The island that holds a register address, if one outside the hub does (R536). -/
def islandOfAddr (a : Nat) : Option Nat :=
  if 0x00200000 ≤ a ∧ a < 0x01200000 then some ((a - 0x00200000) / 0x100000)
  else if 0x03000000 ≤ a ∧ a < 0x03100000 then some 16
  else if 0x03100000 ≤ a ∧ a < 0x03180000 then some (17 + (a - 0x03100000) / 0x10000)
  else if 0x03200000 ≤ a ∧ a < 0x03210000 then some 25
  else none

/-- GCC at which a channel takes the reset pin state in a power-fail sequence: an open value between the end of step 2 and
100 µs after the start (R614). -/
def State.pfInstant (s : State) (c : Nat) : Nat :=
  s.cont.pfQuiet + (Config.freeValue (s.cont.pfFree + c)).toNat % (s.cont.pfStart + 80001 - s.cont.pfQuiet)
/-- A reset holds the channel in the reset pin state: a warm reset from step 5 on, a cold one, or step 5 of the power-fail
sequence (R525, R528, R614). -/
def State.pinsHeld (s : State) (c : Nat) : Bool :=
  s.aon.resetting == 2 || s.aon.resetting == 3 || s.deviceState == 5 ||
  (s.deviceState == 4 && decide (s.pfInstant c ≤ s.now))
/-- The channel is in the reset pin state (R183). -/
def State.inPinReset (s : State) (c : Nat) : Bool :=
  (s.chan c).pinReset || !s.assigned c || s.isFaulted 1 c || s.isFaulted 6 (c / 32) || s.islandMode (c / 32) != 0 ||
  s.pinsHeld c
/-- Live mode of a channel; 0 in the reset pin state (CH_STATUS.MODE). -/
def State.liveMode (s : State) (c : Nat) : Nat := if s.inPinReset c then 0 else s.liveFld (CH_CFG c) 1 0

end Sys2Proof.Machine
end

