-- ==== Sys2Proof/Machine/Flags.lean ====
section
/-! DEFINITION. The flags of the block: the access flags of R585 and R586, and the interrupt lines of R587, R589. -/

namespace Sys2Proof.Machine

/-- Path of the service port. -/
def svcPath : Path := 0x400
/-- Path of micro-sequencer m. -/
def msqPath (m : Nat) : Path := 0x401 + m

/-- An access at address `a` on a path sets flag `b` of GLB_ACCESS_STATUS: 0 RANGE, 1 LOCKED, 2 PAST_END (R585). The first
flag while the register reads 0 records address and path (R586); the service port notes it in its status word (R572); an
access of a micro-sequencer sets MSQ_EVENTS.ACCESS instead (R435). An endpoint is recorded in ten bits (log entry 36). -/
def State.accessFlag (s : State) (path : Path) (a b : Nat) : State :=
  if 0x401 ≤ path ∧ path < 0x412 then ({ s with flagged := true }).setBitAt (MSQ_EVENTS (path - 0x401)) 3 true
  else
    let s := if s.reg GLB_ACCESS_STATUS = 0 then
        (s.setReg GLB_ACCESS_ADDR (BitVec.ofNat 32 a)).setReg GLB_ACCESS_SRC
          (BitVec.ofNat 32 (if path = svcPath then path else path % 1024))
      else s
    let s := ({ s with flagged := true }).setBitAt GLB_ACCESS_STATUS b true
    if path = svcPath then s.setBitAt SVC_STATUS (16 + b) true else s
/-- A write outside a legal range (R585). -/
def State.rangeFlag (s : State) (path : Path) (a : Nat) : State := s.accessFlag path a 0

/-- An enabled event bit of a block is set (R587). -/
def State.raised (s : State) (events irqEn : Nat) : Bool := (s.reg events &&& s.reg irqEn) != 0

/-- A cluster raises: channel, capture, measurement or sequencer (R587, R591). -/
def State.raisedCl (s : State) (k : Nat) : Bool :=
  s.raised (MSQ_EVENTS k) (MSQ_IRQ_EN k) || s.raised (ACQ_EVENTS k) (ACQ_IRQ_EN k) ||
  s.raised (MEAS_EVENTS k) (MEAS_IRQ_EN k) ||
  (List.range 32).any (fun j => s.raised (CH_EVENTS (32 * k + j)) (CH_IRQ_EN (32 * k + j)))
/-- The event queue interrupt (R589). -/
def State.raisedEvq (s : State) : Bool := decide (s.fld GLB_EVQ_CFG 10 0 ≤ s.evq.recs.length)
/-- Number whose bit i is `f i`, for i below n. -/
def maskOf (n : Nat) (f : Nat → Bool) : Nat :=
  (List.range n).foldl (fun m i => if f i then m + 2 ^ i else m) 0

/-- GLB_IRQ_CL. -/
def State.irqCl (s : State) : Nat := maskOf 16 s.raisedCl
/-- GLB_IRQ_FNT. -/
def State.irqFnt (s : State) : Nat := maskOf 32 (fun f => s.raised (FNT_EVENTS f) (FNT_IRQ_EN f))
/-- GLB_IRQ_AN_LG. -/
def State.irqAnLg (s : State) : Nat :=
  maskOf 24 (fun i => if i < 16 then s.raised (AN_EVENTS i) (AN_IRQ_EN i) else s.raised (LG_EVENTS (i - 16)) (LG_IRQ_EN (i - 16)))
/-- GLB_IRQ_DPS, both words. -/
def State.irqDps (s : State) : Nat := maskOf 64 (fun d => s.raised (DPS_EVENTS d) (DPS_IRQ_EN d))
/-- GLB_IRQ_APL. -/
def State.irqApl (s : State) : Nat :=
  maskOf 17 (fun p => if p < 16 then s.raised (APL_EVENTS p) (APL_IRQ_EN p) else s.raised APL_G_EVENTS APL_G_IRQ_EN)
/-- GLB_IRQ_STATUS (R587, R591). -/
def State.irqStatus (s : State) : Nat :=
  maskOf 19 (fun i => match i with
    | 0 => s.raised CFG_STATUS CFG_IRQ_EN
    | 1 => s.raised WKE_EVENTS WKE_IRQ_EN
    | 2 => s.raised MEM_EVENTS MEM_IRQ_EN
    | 3 => s.raised GLB_TB_EVENTS GLB_TB_IRQ_EN
    | 4 => s.raised SEG_EVENTS SEG_IRQ_EN
    | 5 => s.raised XTB_EVENTS XTB_IRQ_EN
    | 6 => s.raised NRG_EVENTS NRG_IRQ_EN
    | 7 => s.raised MNT_EVENTS MNT_IRQ_EN
    | 8 => s.raised AON_EVENTS AON_IRQ_EN
    | 9 => s.raised SEC_EVENTS SEC_IRQ_EN
    | 10 => s.raised SVC_EVENTS SVC_IRQ_EN
    | 11 => s.raisedEvq
    | 12 => s.irqCl != 0
    | 13 => s.irqFnt != 0
    | 14 => s.irqAnLg % 2 ^ 16 != 0
    | 15 => s.irqAnLg / 2 ^ 16 != 0
    | 16 => s.irqDps != 0
    | 17 => s.irqApl != 0
    | _ => s.raised (MSQ_EVENTS 16) (MSQ_IRQ_EN 16))
/-- The device interrupt is asserted (R587). -/
def State.deviceIrq (s : State) : Bool := (BitVec.ofNat 32 s.irqStatus &&& s.reg GLB_IRQ_MASK) != 0
/-- The pin that carries the device interrupt (R588). -/
def State.irqPin (s : State) : Option Nat := if s.bitAt GLB_IRQ_CFG 4 then some (s.fld GLB_IRQ_CFG 2 0) else none

/-- The event flag that an interrupt line watches, for WQ events of queue q (R103): setting an enabled bit sets
WKE_EVENTS.ATTN. Bits: 0 COMPLETION, 1 HALTED, 2 DB_REJECT. -/
def State.wqEvent (s : State) (q b : Nat) : State :=
  let s := s.setBitAt (WQ_EVENTS q) b true
  if s.bitAt (WQ_IRQ_EN q) b then s.setBitAt WKE_EVENTS 0 true else s

/-- Vendor routines run on a sequencer: during a calibration of its unit, of a unit of the hub's for MSQ16, and during the stale
reload of its island, or of one that the hub's sequencer serves (chapter 14; log entry 32). -/
def State.vendorRuns (s : State) (m : Nat) : Bool :=
  let cal := fun (u : Nat) => (s.cal u).st != 0 && (s.cal u).st != 9
  if m < 16 then cal m || s.cfg.reloading.contains m else cal 16 || cal 17 || s.cfg.reloading.any (fun i => decide (16 ≤ i))

/-- The role in force of the service port follows SVC_CFG.ROLE, when SVC_SEL_IN_N is high and no master transfer runs (R564). -/
def State.settleRole (s : State) : State :=
  if s.svc.selLow || s.bitAt SVC_STATUS 0 then s else s.setBitAt SVC_STATUS 1 (s.bitAt SVC_CFG 0)

/-- Event bits set in a register. -/
def State.event (s : State) (a b : Nat) : State := s.setBitAt a b true

end Sys2Proof.Machine
end

