-- ==== Sys2Proof/Machine/Operands.lean ====
section
/-! DEFINITION. The operand forms of the block: the fields of a 64-byte descriptor (R70 to R73, and the payload of every
opcode), the acceptance checks of R78 on them, and the resource sets of R85. -/

namespace Sys2Proof.Machine

/-- `n` bytes of a descriptor at an offset, as a little-endian number (R7). -/
def Desc.at (d : Desc) (off n : Nat) : Nat := d.toNat / 2 ^ (8 * off) % 2 ^ (8 * n)
/-- `n` bytes of the payload area at an offset (R70). -/
def Op.pay (o : Op) (off n : Nat) : Nat := Desc.at o.desc (0x20 + off) n
/-- Payload bytes of a bare descriptor. -/
def Desc.pay (d : Desc) (off n : Nat) : Nat := Desc.at d (0x20 + off) n
/-- Requested priority class (R70). -/
def Op.prio (o : Op) : Nat := Desc.at o.desc 2 1 % 8
/-- USER_TAG (R70). -/
def Op.tag (o : Op) : Nat := Desc.at o.desc 4 4
/-- DEADLINE instant, if one is set (R70, R88). -/
def Op.deadlineAt (o : Op) : Option Nat :=
  let n := Desc.at o.desc 3 1
  if n = 0 then none else some (o.acceptGcc + 2 ^ n)
/-- IRQ flag (R70). -/
def Op.irq (o : Op) : Bool := bit (Desc.at o.desc 1 1) 2
/-- AFTER0 or AFTER1: queue, SEQ, REQUIRE_OK (R71). -/
def Op.after (o : Op) (i : Nat) : Nat × Nat × Bool :=
  let v := Desc.at o.desc (8 + 8 * i) 8
  (v / 2 ^ 48 % 2 ^ 12, v % 2 ^ 48, bit v 63)

/-- Opcodes whose payload holds START_GCC, all at payload offset 8 (R161 and the chapters). -/
def hasStart (opc : Nat) : Bool := [1, 3, 4, 5, 6, 7, 8, 9, 0xA, 0xC, 0xD, 0x11].contains opc
/-- START_GCC of the payload; 0 where the opcode has none (R161). -/
def Op.startField (o : Op) : Nat := if hasStart o.opcode then o.pay 8 8 else 0
/-- LATE_OK of the payload (R161; each chapter places it). -/
def Op.lateOk (o : Op) : Bool :=
  match o.opcode with
  | 1 => bit (o.pay 2 1) 0
  | 3 => bit (o.pay 0x11 1) 0
  | 4 => bit (o.pay 0x12 1) 0
  | 5 => bit (o.pay 7 1) 0
  | 6 => bit (o.pay 5 1) 0
  | 7 | 8 | 9 => bit (o.pay 1 1) 0
  | 0xA => bit (o.pay 3 1) 0
  | 0xC | 0xD => bit (o.pay 2 1) 0
  | 0x11 => bit (o.pay 4 1) 0
  | _ => false

/-- All of a list of conditions. -/
def allOf (l : List Bool) : Bool := l.all id
/-- The number lies from `a` to `b`. -/
def within (a b n : Nat) : Bool := decide (a ≤ n) && decide (n ≤ b)
/-- Payload bytes from `a` up to `b` are 0. -/
def payZero (d : Desc) (a b : Nat) : Bool := Desc.pay d a (b - a) == 0
/-- First site and count of a payload that names sites at offset 0 (R201, R209, R338, R400). -/
def sitesField (d : Desc) : Bool :=
  let f := Desc.pay d 0 2; let n := Desc.pay d 2 2
  within 0 255 f && within 1 256 n && f + n ≤ 256
/-- First pin index and count at offset 4 (R201, R338). -/
def pinsField (d : Desc) : Bool :=
  let f := Desc.pay d 4 2; let n := Desc.pay d 6 2
  within 0 511 f && within 1 512 n && f + n ≤ 512
/-- A level code from 5,000 to 60,000 (R187). -/
def levelCode (n : Nat) : Bool := within 5000 60000 n

/-- Codes of FORCE, VCLAMP and ICLAMP lie within R187 for the PPMU mode: voltage modes 1 and 3, current modes 2 and 5. -/
def forceCode (mode f : Nat) : Bool :=
  if mode = 1 ∨ mode = 3 then levelCode f else if mode = 2 ∨ mode = 5 then f != 0x8000 else true

/-- Check 4 of R78: the payload fields lie within their encodings. `stream` says whether AN_SRC_CFG.SOURCE of the channel is
STREAM at this instant (R357). -/
def payloadOk (d : Desc) (stream : Bool) : Bool :=
  let p := Desc.pay d
  match Desc.at d 0 1 with
  | 0x01 => -- R245; a fountain-only run has no table, and ENTRY must be 0 in it: the model's choice (log entry 131)
    let seqs := p 0 2; let fnts := p 4 4
    allOf [p 2 1 ≤ 1, p 3 1 == 0, seqs != 0 || fnts != 0, payZero d 0x1C 0x20,
      if seqs = 0 then p 0x10 8 == 0 && p 0x18 2 == 0 && p 0x1A 2 == 0
      else p 0x10 8 % 16 == 0 && within 1 4096 (p 0x18 2) && decide (p 0x1A 2 < p 0x18 2)]
  | 0x02 => -- R229
    allOf [p 0 2 < 16384, p 2 1 ≤ 1, within 1 5 (p 3 1 % 8), p 4 1 < 64, !bit (p 3 1) 7 || p 4 1 == 0, p 5 1 ≤ 1,
      p 6 2 == 0, within 1 0x10000000 (p 8 4), p 0x10 8 % 4096 == 0,
      if p 2 1 = 0 then p 0x18 8 % 64 == 0 else p 0x18 8 == 0]
  | 0x03 => -- R338
    let fl := p 0x11 1
    allOf [sitesField d, pinsField d, p 0x10 1 ≤ 3, fl < 32, bit fl 2 || (!bit fl 3 && !bit fl 4), p 0x12 2 != 0,
      if bit fl 4 then decide (p 0x16 1 < 16) else p 0x16 1 == 0, p 0x17 1 == 0, payZero d 0x1C 0x20]
  | 0x04 => -- R201
    let m := p 0x10 1
    allOf [sitesField d, pinsField d, m ≤ 5, p 0x11 1 ≤ 4, p 0x12 1 < 8, p 0x13 1 == 0, forceCode m (p 0x14 2),
      levelCode (p 0x16 2), levelCode (p 0x18 2), within 1 32767 (p 0x1A 2), payZero d 0x1C 0x20]
  | 0x05 => -- R209
    let f := signed 16 (p 4 2)
    allOf [sitesField d, decide (-20000 ≤ f), decide (f ≤ 20000), decide (f ≠ 0), p 6 1 ≤ 3, p 7 1 < 4,
      within 1 949 (p 0x10 2), decide (p 0x10 2 < p 0x12 2), p 0x12 2 ≤ 950, p 0x14 2 != 0, p 0x16 2 == 0,
      p 0x18 8 % 64 == 0]
  | 0x06 => -- R400
    allOf [sitesField d, within 1 64 (p 4 1), p 5 1 ≤ 1, p 6 2 == 0, p 0x10 8 % 16 == 0, payZero d 0x18 0x20]
  | 0x07 => -- R357
    allOf [p 0 1 < 16, p 1 1 < 4, if bit (p 1 1) 1 then decide (p 2 1 < 16) else p 2 1 == 0, p 3 1 == 0,
      if stream then p 0x10 8 % 64 == 0 && within 32 0xFFFFFFE0 (p 0x18 4) && p 0x18 4 % 32 == 0
      else p 0x10 8 == 0 && p 0x18 4 == 0, payZero d 0x1C 0x20]
  | 0x08 => -- R365
    let fl := p 1 1
    allOf [p 0 1 < 16, fl < 32, bit fl 2 || (!bit fl 3 && !bit fl 4),
      if bit fl 1 then decide (p 2 1 < 16) else p 2 1 == 0, if bit fl 4 then decide (p 3 1 < 16) else p 3 1 == 0,
      within 32 0xFFFFFFE0 (p 4 4), p 4 4 % 32 == 0, p 0x10 8 % 64 == 0, payZero d 0x18 0x20]
  | 0x09 => -- R378
    let fl := p 1 1; let eye := bit fl 3
    allOf [p 0 1 < 8, fl < 16, bit fl 1 || bit fl 2, !eye || bit fl 2, within 5 128 (p 2 1), p 3 1 ≤ 4, p 4 2 != 0,
      p 6 2 == 0, p 0x10 4 != 0,
      if eye then within 1 16 (p 0x14 1) && within 1 16 (p 0x15 1) && within 10 40 (p 0x16 1)
      else p 0x14 1 == 0 && p 0x15 1 == 0 && p 0x16 1 == 0, p 0x17 1 == 0, payZero d 0x1C 0x20]
  | 0x0A => -- R298
    let st := p 2 1 == 1
    allOf [p 0 2 != 0, p 2 1 ≤ 1, p 3 1 ≤ 1, p 4 1 < 16 || (st && p 4 1 == 0xFF),
      if st then p 5 1 == 0 else decide (p 5 1 ≤ 6), p 6 2 == 0, p 0x10 4 != 0, within 1024 16777216 (p 0x14 4),
      if st then p 0x18 4 == 0 else p 0x18 4 != 0]
  | 0x0B => -- R320
    let k := p 0 1; let fl := p 1 1
    allOf [within 1 3 k, fl < 4, !(k == 1 && bit fl 0), !bit fl 1 || (k == 2 && !bit fl 0), within 1 32 (p 2 1),
      within 12 24 (p 3 1), if k = 1 then p 4 2 == 0 else if k = 2 then decide (p 4 2 < 256) else decide (p 4 2 < 16),
      p 6 2 < 1024 || p 6 2 == 0xFFFF, p 8 8 % 32 == 0, k != 3 || p 0x10 8 == 0, p 0x18 4 != 0 || bit fl 0]
  | 0x0C => -- R452
    allOf [p 0 1 ≤ 16, p 2 1 ≤ 1, payZero d 3 8]
  | 0x0D => -- R476
    let u := p 0 1
    allOf [u ≤ 17, if u ≤ 15 then within 1 7 (p 1 1) else p 1 1 == 1, p 2 1 < 8, p 3 1 == 0, p 4 2 ≤ 1000,
      p 6 2 ≤ 1000, payZero d 0x10 0x20]
  | 0x0E => -- R40
    allOf [p 0xC 4 < 4, payZero d 0x10 0x20]
  | 0x0F => -- R89
    allOf [p 0 1 ≤ 1, payZero d 1 0x20]
  | 0x10 => payZero d 0 0x20 -- R90
  | 0x11 => -- R206
    let f := p 0 2; let n := p 2 2
    allOf [f < 512, within 1 512 n, f + n ≤ 512, p 4 1 < 8, payZero d 5 8, p 0x10 8 % 64 == 0, payZero d 0x18 0x20]
  | 0x12 => -- R176
    allOf [p 0 2 != 0, p 2 1 < 64, within 1 64 (p 3 1), p 2 1 + p 3 1 ≤ 64, p 4 4 == 0, p 8 8 % 64 == 0,
      payZero d 0x10 0x20]
  | _ => false

/-- Named channels of a MEASURE or FORCE_SET payload under a set, absent sites included (R202, R339). -/
def namedPins (g : ImageSet) (d : Desc) : List Nat :=
  ((List.range (Desc.pay d 2 2)).map (fun i => g.pinsOf (Desc.pay d 0 2 + i) (Desc.pay d 4 2) (Desc.pay d 6 2))).flatten
/-- Sites a payload names by SITE_FIRST and SITE_COUNT. -/
def namedSites (d : Desc) : List Nat := (List.range (Desc.pay d 2 2)).map (fun i => Desc.pay d 0 2 + i)
/-- Channels a LEVELS_SET names (R207). -/
def levelChans (g : ImageSet) (d : Desc) : List Nat :=
  let cs := (List.range (Desc.pay d 2 2)).map (fun i => Desc.pay d 0 2 + i)
  if bit (Desc.pay d 4 1) 2 then cs.filter (fun c => (g.siteOfCh c).isSome) else cs

/-- DATA_LEN of a SEGMENT_LOAD payload (R224). -/
def loadDataLen (d : Desc) : Nat :=
  let geom := Desc.pay d 3 1
  let v := Desc.pay d 8 4
  v * (geom / 8 % 16 + 1) * (2 ^ (geom % 8) / 2) + (if bit geom 7 then v else 0)
/-- SIZE of a segment: DATA_LEN rounded up to 4 KiB (R224). -/
def sizeOf4k (n : Nat) : Nat := ceilDiv n 4096 * 4096
/-- Eye points of a LANE_TEST: P × V (R379). -/
def eyePoints (d : Desc) : Nat :=
  if bit (Desc.pay d 1 1) 3 then ceilDiv 64 (Desc.pay d 0x14 1) * (126 / Desc.pay d 0x15 1 + 1) else 0
/-- Bits set in a mask of `n` bits. -/
def popCount (m n : Nat) : Nat := (bitsOf m n).length
/-- Record capacity of a BASIN region (R290). -/
def basinCap (r : Region) : Nat := (r.size - 4096) / 32

/-- Check 5 of R78: the objects that the payload names exist in the active set. -/
def objectsOk (g : ImageSet) (d : Desc) : Bool :=
  let p := Desc.pay d
  match Desc.at d 0 1 with
  | 0x01 => -- R245
    (bitsOf (p 0 2) 16).all (fun q => !(g.clustersOfSeq (2 ^ q)).isEmpty) &&
    (bitsOf (p 4 4) 32).all (fun f => g.jets.any (fun j => j.fountain == f))
  | 0x0B => p 0 1 != 2 || (g.basin (p 4 2)).isSome -- R321
  | _ => true

/-- Check 6 of R78: the buffers of R73 in the regions that each chapter permits. -/
def lengthsOk (g : ImageSet) (d : Desc) (stream : Bool) : Bool :=
  let p := Desc.pay d
  match Desc.at d 0 1 with
  | 0x01 => p 0 2 == 0 || g.inRegion [1] (p 0x10 8) (p 0x18 2 * 16) -- R246
  | 0x02 => -- R230
    let n := loadDataLen d; let sz := sizeOf4k n
    sz ≤ 2 ^ 28 && g.inRegion [1] (p 0x10 8) sz &&
    (p 2 1 == 1 || (g.inRegion [1, 4] (p 0x18 8) n && (p 0x18 8 + n ≤ p 0x10 8 || p 0x10 8 + sz ≤ p 0x18 8)))
  | 0x03 => -- R339
    let m := (namedPins g d).length
    m != 0 && g.inRegion [4] (p 0x18 4 * 64) (if bit (p 0x11 1) 1 then m * p 0x12 2 * 4 else m * 16)
  | 0x05 => p 0x18 8 == 0 || g.inRegion [4] (p 0x18 8) 2048 -- R210
  | 0x06 => g.inRegion [1, 4] (p 0x10 8) (p 4 1 * 16) -- R400
  | 0x07 => !stream || g.inRegion [1, 4] (p 0x10 8) (p 0x18 4 * 2) -- R357
  | 0x08 => g.inRegion [4] (p 0x10 8) (p 4 4 * 2) -- R365
  | 0x09 => -- R379
    let l := popCount (p 4 2) 16
    g.inRegion [4] (p 0x18 4 * 64) (l * (32 + eyePoints d * 4))
  | 0x0B => -- R321
    let len := p 0x18 4
    g.inRegion [4] (p 0x1C 4 * 4096) (2 ^ p 3 1) &&
    (match p 0 1 with
     | 1 => g.inRegion [1, 3, 2, 4] (p 0x10 8) len
     | 2 => len % 32 == 0 && (match g.basin (p 4 2) with
        | some r => decide (p 0x10 8 * 32 + len ≤ basinCap r * 32)
        | none => false)
     | _ => len % 16 == 0 && (bit (p 1 1) 0 || len ≤ 262144))
  | 0x11 => g.inRegion [1, 4] (p 0x10 8) (if bit (p 4 1) 1 then 64 else p 2 2 * 64) -- R207
  | 0x12 => g.inRegion [1, 4] (p 8 8) (p 3 1 * 1024) -- R176
  | _ => true

/-- SEQ a is earlier than SEQ b (R80). -/
def seqEarlier (a b : Nat) : Bool := within 1 (2 ^ 47 - 1) ((b + 2 ^ 48 - a) % 2 ^ 48)

/-- One valid AFTER field (R71, check 3 of R78): `q` and `next` are the descriptor's queue and the SEQ it would receive. -/
def afterOk (open? : Nat → Bool) (q next v : Nat) : Bool :=
  let aq := v / 2 ^ 48 % 2 ^ 12; let sq := v % 2 ^ 48
  open? aq && sq != 0 && (aq != q || seqEarlier sq next)

/-- The checks of R78 in order: 0 when all pass, else the rejection code 0x01 BAD_OPCODE, 0x02 BAD_LENGTH, 0x05 BAD_HANDLE. -/
def acceptCheck (g : ImageSet) (qr : QRec) (next : Nat) (stream : Bool) (d : Desc) : Nat :=
  let opc := Desc.at d 0 1
  let fl := Desc.at d 1 1
  let a0 := Desc.at d 8 8; let a1 := Desc.at d 0x10 8
  let open? := fun q => (g.queueRec q).isSome
  if !(within 1 0x12 opc && bit (g.classOf qr).opmask opc) then 1
  else if !allOf [fl < 8, Desc.at d 2 1 < 8, Desc.at d 3 1 ≤ 40, Desc.at d 0x1F 1 == 0,
      if bit fl 0 then a0 / 2 ^ 60 % 8 == 0 else a0 == 0, if bit fl 1 then a1 / 2 ^ 60 % 8 == 0 else a1 == 0] then 1
  else if !((!bit fl 0 || afterOk open? qr.queue next a0) && (!bit fl 1 || afterOk open? qr.queue next a1)) then 5
  else if !payloadOk d stream then 1
  else if !objectsOk g d then 5
  else if !lengthsOk g d stream then 2
  else 0

/-- Sites that an operation names (R219): empty for opcodes that name none. -/
def Op.sites (o : Op) (g : ImageSet) : List Nat :=
  match o.opcode with
  | 1 => g.sitesOn (g.clustersOfSeq (o.pay 0 2) ++ g.clustersOfFnt (o.pay 4 4))
  | 3 | 4 | 5 | 6 => namedSites o.desc
  | 7 | 8 => (g.siteOfAn (o.pay 0 1)).toList
  | 9 => ((bitsOf (o.pay 4 2) 16).filterMap (fun i => g.siteOfLane (16 * o.pay 0 1 + i))).eraseDups
  | _ => []

/-- Clusters that a PATTERN_RUN feeds (R246). -/
def Op.fed (o : Op) (g : ImageSet) : List Nat :=
  let a := g.clustersOfSeq (o.pay 0 2); let b := g.clustersOfFnt (o.pay 4 4)
  (List.range 16).filter (fun k => a.contains k || b.contains k)

/-- The entry that a MICRO_CALL names, in the image loaded now (R453). -/
def State.callEntry (s : State) (o : Op) : Option MsqEntry :=
  ((s.msq (o.pay 0 1)).image).bind (fun im => im.entries[o.pay 1 1]?)

/-- Channels that a FORCE_SET sets: once it runs, those of the sites present at its start; before, of those present now
(R202, R219). -/
def State.forceChans (s : State) (g : ImageSet) (o : Op) : List Nat :=
  match o.work with
  | .levels w => w.chans
  | _ => (namedSites o.desc).flatMap (fun n => if s.absent n then [] else g.pinsOf n (o.pay 4 2) (o.pay 6 2))
/-- Channels on which a PATTERN_RUN acts: those of its sites on the clusters that it feeds, but for sites absent at its start
(R219, R246). -/
def State.runChans (s : State) (g : ImageSet) (o : Op) : List Nat :=
  let on := match o.work with
    | .run w => w.sites
    | _ => (o.sites g).filter (fun n => !s.absent n)
  let fed := o.fed g
  on.flatMap (fun n => (g.chansOf n).filter (fun c => fed.contains (c / 32)))
/-- The resource set of a calibration of unit u (R477, R480). -/
def calRes (g : ImageSet) (u : Nat) : List Res :=
  if u < 16 then Res.cluster u :: (g.sitesOn [u]).map Res.site
  else if u = 16 then (List.range 16).flatMap (fun a => [Res.anSrc a, Res.anDig a])
  else (List.range 64).map Res.dps

/-- The resource set of an operation (R85 and the chapters), under the active set and the loaded images. -/
def State.resources (s : State) (o : Op) : List Res :=
  match s.cfg.active with
  | none => []
  | some g =>
    let cl := fun ks => List.map Res.cluster ks
    let st := fun ns => List.map Res.site ns
    match o.opcode with
    | 1 => cl (o.fed g) ++ st (o.sites g) ++ (bitsOf (o.pay 4 4) 32).map Res.fountain
    | 3 => cl (clustersOf o.atAccept) ++ st (namedSites o.desc)
    | 4 => cl (clustersOf (s.forceChans g o)) ++ st (namedSites o.desc)
    | 5 => cl (clustersOf ((namedSites o.desc).flatMap g.chansOf)) ++ st (namedSites o.desc) ++
           ((namedSites o.desc).flatMap g.dpsOf).map Res.dps
    | 6 => st (namedSites o.desc) ++ ((namedSites o.desc).flatMap g.dpsOf).map Res.dps
    | 7 => [Res.anSrc (o.pay 0 1)]
    | 8 => [Res.anDig (o.pay 0 1)]
    | 9 => [Res.lane (o.pay 0 1)]
    | 0xC =>
      let m := o.pay 0 1
      let own := ((s.callEntry o).map MsqEntry.own).getD 0
      if m < 16 then
        Res.cluster m :: st ((bitsOf own 32).filterMap (fun j => g.siteOfCh (32 * m + j))).eraseDups
      else
        Res.msq16 :: ((bitsOf own 32).map Res.fountain ++
          (bitsOf (own / 2 ^ 32) 16).flatMap (fun a => [Res.anSrc a, Res.anDig a]) ++
          (bitsOf (own / 2 ^ 48) 8).map Res.lane ++
          (bitsOf (own / 2 ^ 56) 4).flatMap (fun n => (List.range 16).map (fun i => Res.dps (16 * n + i))))
    | 0xD => calRes g (o.pay 0 1)
    | 0x11 =>
      let cs := levelChans g o.desc
      cl (clustersOf cs) ++ st (cs.filterMap g.siteOfCh).eraseDups
    | 0x12 => cl (bitsOf (o.pay 0 2) 16)
    | _ => []

/-- Islands that an operation needs: those that hold its clusters, analog channels, lane groups and controllers, and the
rings it reads or fills (condition 5 of R83; log entry 9). -/
def State.islandsOf (s : State) (o : Op) : List Nat :=
  ((s.resources o).filterMap (fun r => match r with
    | .cluster k => some k
    | .anSrc _ | .anDig _ => some 16
    | .lane g => some (17 + g)
    | .dps _ => some 25
    | _ => none)).eraseDups ++
  (if o.opcode = 0xA then bitsOf (o.pay 0 2) 16 else if o.opcode = 0xB ∧ o.pay 0 1 = 3 then [o.pay 4 2] else [])

/-- Units of R140 that an operation needs: its faulted members make it complete with RESOURCE_FAULT (R122). Unit (7, 16) is
the hub's sequencer (R429); class 8 is the digitizer half of an analog channel (R363). -/
def State.unitsOf (s : State) (o : Op) : List (Nat × Nat) :=
  let chans := match s.cfg.active with
    | some g => match o.opcode with
      | 1 => s.runChans g o
      | 3 => o.atAccept.filter (fun c => !(((g.siteOfCh c).map s.absent).getD false))
      | 4 => s.forceChans g o
      | 0x11 => levelChans g o.desc
      | _ => []
    | none => []
  (s.resources o).filterMap (fun r => match r with
    | .cluster k => some (6, k)
    | .fountain f => some (2, f)
    | .anSrc a => some (3, a)
    | .anDig a => some (8, a)
    | .lane g => some (4, g)
    | .dps d => some (5, d)
    | .msq16 => some (7, 16)
    | _ => none) ++ chans.map (fun c => (1, c)) ++ (s.islandsOf o).filterMap (fun i => if i < 16 then some (6, i) else none)

/-- The operation holds its resource set: its start conditions held, and its work has not ended (R85). -/
def Op.holds (o : Op) : Bool := o.phase == .scheduled || o.phase == .running

/-- Resources of a calibration that the hub started of itself (R480). -/
def State.autoHeld (s : State) : List Res :=
  match s.cfg.active with
  | none => []
  | some g => (List.range 18).flatMap (fun u =>
      if (s.cal u).st != 0 && (s.cal u).auto then calRes g u else [])
/-- A cluster is held as a member of a resource set (R171). -/
def State.clusterHeld (s : State) (k : Nat) : Bool :=
  s.ops.any (fun o => o.holds && (s.resources o).contains (.cluster k)) || s.autoHeld.contains (.cluster k)

end Sys2Proof.Machine
end

