-- ==== Sys2Proof/Machine/Interlock.lean ====
section
/-! DEFINITION. The maintenance interlock (R481 to R484): which activities conflict, how an activity asks, and how the waiting
ones start when a running one ends. Kinds are the ranks of R481: 1 SWAP, 2 CTRAIN, 3 SCRUB, 4 LRETRAIN of a port, 5 DRAMP of
a site (index site + 256 × operation), 6 CAL of a unit. -/

namespace Sys2Proof.Machine

/-- The pairs of R482 that conflict. -/
def conflicts (k i l j : Nat) : Bool :=
  match k, l with
  | 1, 1 | 1, 2 | 1, 3 | 1, 5 | 1, 6 | 2, 1 | 3, 1 | 5, 1 | 6, 1 => true
  | 2, 2 | 2, 6 | 6, 2 | 3, 3 | 3, 6 | 6, 3 | 5, 6 | 6, 5 => true
  | 4, 4 | 6, 6 => i == j
  | _, _ => false

/-- The activity meets a conflicting one that runs, or one that asked earlier and still waits (R483). -/
def State.mntConflict (s : State) (k i : Nat) : Bool :=
  s.mnt.running.any (fun a => conflicts k i a.kind a.ix) || s.mnt.waiting.any (fun a => conflicts k i a.kind a.ix)
/-- The activity runs. -/
def State.mntRuns (s : State) (k i : Nat) : Bool := s.mnt.running.any (fun a => a.kind == k && a.ix == i)
/-- The activity waits. -/
def State.mntWaits (s : State) (k i : Nat) : Bool := s.mnt.waiting.any (fun a => a.kind == k && a.ix == i)

/-- An activity asks: it runs when nothing conflicts, else it waits its turn (R483). -/
def State.mntAsk (s : State) (k i : Nat) : State :=
  if s.mntRuns k i ∨ s.mntWaits k i then s
  else
    let act : Act := ⟨k, i, s.now⟩
    if s.mntConflict k i then
      -- asks of one tick stand in order of rank, then of unit number
      let before := fun (a : Act) => a.asked < act.asked || (a.asked == act.asked && (a.kind < k || (a.kind == k && a.ix ≤ i)))
      { s with mnt := { s.mnt with waiting := s.mnt.waiting.filter before ++ [act] ++ s.mnt.waiting.filter (fun a => !before a) } }
    else { s with mnt := { s.mnt with running := s.mnt.running ++ [act] } }

/-- Waiting activities that can start now, in the order in which they asked: those that start and those that still wait. -/
def mntGrant : List Act → List Act → List Act → List Act × List Act
  | running, still, [] => (running, still)
  | running, still, a :: rest =>
    if running.any (fun b => conflicts a.kind a.ix b.kind b.ix) || still.any (fun b => conflicts a.kind a.ix b.kind b.ix)
    then mntGrant running (still ++ [a]) rest
    else mntGrant (running ++ [a]) still rest

/-- An activity ends or withdraws; waiting ones start in the order in which they asked (R483). -/
def State.mntEnd (s : State) (k i : Nat) : State :=
  let other := fun (a : Act) => !(a.kind == k && a.ix == i)
  let p := mntGrant (s.mnt.running.filter other) [] (s.mnt.waiting.filter other)
  { s with mnt := { running := p.1, waiting := p.2 } }

/-- A request that does not queue met a conflict (R484). -/
def State.mntRefuse (s : State) : State := (s.incSat MNT_CONFLICTS).event MNT_EVENTS 0

end Sys2Proof.Machine
end

