-- ==== Sys2Proof/Machine/Gov.lean ====
section
/-! DEFINITION. The energy governor's arithmetic (R408 to R419): declarations, reservations, window charges, the order of
admission, and whether a candidate fits. Ledgers 0 to 5 are the rails; ledger 6 + s is site s. -/

namespace Sys2Proof.Machine

/-- The three windows: length in µs (R409). -/
def windows : List Nat := [10, 1000, 1000000]
/-- GCC steps of a microsecond (R409). -/
def usSteps : Nat := 800

/-- ENERGY_TABLE of the active set. -/
def State.energy (s : State) : Energy := (s.cfg.active.map ImageSet.energy).getD default
/-- Limits of a ledger: every rail has them, a site has them when it has a record (R408, R419). -/
def State.limits (s : State) (l : Nat) : Option Limits :=
  if l < 6 then s.energy.rails[l]? else (s.energy.sites.find? (fun e => e.1 + 6 == l)).map Prod.snd
/-- Background power of a ledger; site ledgers have none (R413). -/
def idleMw (l : Nat) (m : Limits) : Nat := if l < 6 then m.idle else 0
/-- Window budget in nJ (R409). -/
def budgetNj (m : Limits) (us : Nat) : Nat := (if us = 10 then m.w1 else if us = 1000 then m.w2 else m.w3) * 1000
/-- Cost of a reservation in a window (R412). -/
def Resv.cost (r : Resv) (us : Nat) : Nat :=
  match r.e with
  | some e => min e (r.p * us)
  | none => r.p * us
/-- The reservation is charged to the window at GCC t (R412). -/
def Resv.charged (r : Resv) (us t : Nat) : Bool :=
  match r.release with
  | some g => decide (t < g + us * usSteps)
  | none => true
/-- Peaks of the unreleased reservations of a ledger (R413). -/
def State.peakRes (s : State) (l : Nat) : Nat :=
  ((s.gov.resvs.filter (fun r => r.ledger == l && r.release.isNone)).map Resv.p).sum
/-- Charge of a window of a ledger at this instant, without IDLE_MW (R413). -/
def State.windowCharge (s : State) (l us : Nat) : Nat :=
  ((s.gov.resvs.filter (fun r => r.ledger == l && r.charged us s.now)).map (fun r => r.cost us)).sum

/-- Refinement factor of an opcode on a device rail (R421). -/
def State.kOf (s : State) (opc rail : Nat) : Nat :=
  match rail with
  | 1 => s.fld (NRG_K_A (opc - 1)) 12 0
  | 2 => s.fld (NRG_K_A (opc - 1)) 28 16
  | 3 => s.fld (NRG_K_B (opc - 1)) 12 0
  | _ => 1024
/-- The record of an opcode. -/
def State.opcRec (s : State) (opc : Nat) : Option OpcRec := s.energy.opcs.find? (fun r => r.opcode == opc)
/-- Declared peak power in mW (R410). -/
def State.declP (s : State) (o : Op) : Nat :=
  let v := Desc.at o.desc 0x1C 3
  if v = 0 then ((s.opcRec o.opcode).map OpcRec.defMw).getD 0 else v
/-- Declared energy in nJ (R410). -/
def State.declE (s : State) (o : Op) : Nat :=
  let v := Desc.at o.desc 0x18 4
  (if v = 0 then ((s.opcRec o.opcode).map OpcRec.defUj).getD 0 else v) * 1000
/-- Sites that an operation names and that are present (R219). -/
def State.presentSites (s : State) (o : Op) : List Nat :=
  match s.cfg.active with
  | some g => (o.sites g).filter (fun n => !s.absent n)
  | none => []
/-- The reservations of an operation, were it admitted now (R410, R411). -/
def State.opResvs (s : State) (o : Op) : List Resv :=
  let p := s.declP o; let e := s.declE o
  let mk := fun l p e => ({ kind := 0, ix := o.asn, ledger := l, p := p, e := e, since := s.now, release := none } : Resv)
  match s.opcRec o.opcode with
  | none => if p = 0 ∧ e = 0 then [] else [mk 0 p (some e)]
  | some r =>
    (List.range 5).filterMap (fun i =>
      let f := r.shares.getD i 0 * s.kOf o.opcode i
      let pr := ceilDiv (p * f) 262144; let er := ceilDiv (e * f) 262144
      if pr = 0 ∧ er = 0 then none else some (mk i pr (some er))) ++
    (if r.die then
      (s.presentSites o).flatMap (fun n => match s.limits (6 + n) with
        | some m => [mk (6 + n) m.run none, mk 5 m.run none]
        | none => [])
     else [])

/-! Means of the monitors (R422). -/

/-- A sample joins the last ten of a monitor. -/
def State.addSample (s : State) (k mw : Nat) : State :=
  let l := Map.get monDefault s.gov.samples k
  { s with gov := { s.gov with samples := Map.set monDefault s.gov.samples k ((l ++ [mw]).drop (l.length - 9)) } }
/-- Mean of the last ten samples of a monitor (R422). -/
def State.monMean (s : State) (k : Nat) : Nat :=
  let l := Map.get monDefault s.gov.samples k
  if l.isEmpty then 0 else l.sum / l.length
/-- The mean of the last ten samples of a monitor lies above a limit, fractions of a milliwatt included (R422). -/
def State.monAbove (s : State) (k limit : Nat) : Bool :=
  let l := Map.get monDefault s.gov.samples k
  decide (limit * l.length < l.sum)
/-- Whether the last mean of a rail lay above its PEAK_MW (R422). -/
def State.setRailOver (s : State) (r : Nat) (above : Bool) : State :=
  let others := s.gov.railOver.filter (fun x => x != r)
  { s with gov := { s.gov with railOver := if above then others ++ [r] else others } }

/-- A list of reservations fits one ledger together with those already there (R413, R422); `over` says that the rail is
barred. -/
def State.fitsLedger (s : State) (rs : List Resv) (l : Nat) : Bool :=
  match s.limits l with
  | none => true
  | some m =>
    let mine := rs.filter (fun r => r.ledger == l)
    mine.isEmpty ||
    (!(l < 6 && s.monAbove l m.peak) &&
     decide (idleMw l m + s.peakRes l + (mine.map Resv.p).sum ≤ m.peak) &&
     windows.all (fun us =>
       decide (idleMw l m * us + s.windowCharge l us + (mine.map (fun r => r.cost us)).sum ≤ budgetNj m us)))
/-- Ledgers that a list of reservations touches. -/
def ledgersOf (rs : List Resv) : List Nat := (rs.map Resv.ledger).eraseDups
/-- Every reservation of the list fits (R414). -/
def State.fits (s : State) (rs : List Resv) : Bool := (ledgersOf rs).all (fun l => s.fitsLedger rs l)
/-- It would not fit with every other reservation released and every charge expired (R417). -/
def State.neverFits (s : State) (rs : List Resv) : Bool :=
  let bare := { s with gov := { s.gov with resvs := [] } }
  !(ledgersOf rs).all (fun l => match s.limits l with
    | none => true
    | some m => decide (idleMw l m + ((rs.filter (fun r => r.ledger == l)).map Resv.p).sum ≤ m.peak) &&
        windows.all (fun us => decide (idleMw l m * us + bare.windowCharge l us +
          ((rs.filter (fun r => r.ledger == l)).map (fun r => r.cost us)).sum ≤ budgetNj m us)))

/-! The Cistern read budget (R236, R359). -/

/-- Smallest live PERIOD among the timing sets of the clusters (R236). -/
def State.minPeriod (s : State) (ks : List Nat) : Nat :=
  (ks.flatMap (fun k => (List.range 64).map (fun t => (s.liveReg (TS_PERIOD k t)).toNat))).foldl
    (fun m p => if m = 0 then p else min m p) 0
/-- The segment table of a run holds a JUMP_IF whose COND is not ALWAYS (R236, R239). -/
def State.hasJumps (s : State) (o : Op) : Bool :=
  (List.range (o.pay 0x18 2)).any (fun i =>
    let a := o.pay 0x10 8 + 16 * i
    s.le a 1 == 4 && s.le (a + 0xA) 1 != 0)
/-- Read units that an operation reserves, in 100 MB/s (R236, R359). -/
def State.readUnits (s : State) (o : Op) : Nat :=
  match s.cfg.active with
  | none => 0
  | some g =>
    if o.opcode = 1 then
      let l := popCount (o.pay 0 2) 16
      if l = 0 then 0
      else
        let pm := max 1 (s.minPeriod (o.fed g))
        ceilDiv ((16 * l + 1) * 3276800000000 * (if s.hasJumps o then 2 else 1)) (pm * 100000000)
    else if o.opcode = 7 ∧ o.atAccept = [1] then ceilDiv (240 * (s.reg (AN_RS_RATIO (o.pay 0 1))).toNat) (2 ^ 32)
    else 0
/-- Sum of the read reservations in force (SEG_RD_RESERVED). -/
def State.readsTaken (s : State) : Nat := (s.gov.reads.map Prod.snd).sum
/-- A read reservation fits (R236, R359). -/
def State.readFits (s : State) (n : Nat) : Bool := n == 0 || decide (s.readsTaken + n ≤ (s.reg SEG_RD_BUDGET).toNat)

/-- Reservations of an owner are released now (R414, R419). -/
def State.release (s : State) (kind ix : Nat) : State :=
  { s with gov := { s.gov with resvs := s.gov.resvs.map (fun r =>
      if r.kind == kind && r.ix == ix && r.release.isNone then { r with release := some s.now } else r) } }
/-- Reservations are taken now. -/
def State.take (s : State) (rs : List Resv) : State := { s with gov := { s.gov with resvs := s.gov.resvs ++ rs } }
/-- The read reservation of an operation is taken, or released. -/
def State.takeReads (s : State) (a n : Nat) : State :=
  if n = 0 then s else { s with gov := { s.gov with reads := s.gov.reads ++ [(a, n)] } }
/-- The read reservation of an operation is released (R236). -/
def State.releaseReads (s : State) (a : Nat) : State :=
  { s with gov := { s.gov with reads := s.gov.reads.filter (fun x => x.1 != a) } }

/-! Refinement (R421). -/

/-- Energy measured for an operation on a rail, in nJ. -/
def State.measured (s : State) (a rail : Nat) : Nat :=
  ((s.gov.meas.filter (fun x => x.1 == a && x.2.1 == rail)).map (fun x => x.2.2)).sum
/-- Write K of an opcode on a rail. -/
def State.setK (s : State) (opc rail v : Nat) : State :=
  match rail with
  | 1 => s.setFld (NRG_K_A (opc - 1)) 12 0 v
  | 2 => s.setFld (NRG_K_A (opc - 1)) 28 16 v
  | _ => s.setFld (NRG_K_B (opc - 1)) 12 0 v
/-- Refinement of one rail at a completion (R421). -/
def State.refineRail (s : State) (o : Op) (rail : Nat) : State :=
  match s.opcRec o.opcode with
  | none => s
  | some r =>
    let ed := s.declE o * r.shares.getD rail 0
    if ed < 256 then s
    else
      let m := s.measured o.asn rail
      let k := s.kOf o.opcode rail
      let q : Int := (ceilDiv (1024 * m * 256) ed : Nat)
      let k' := (k : Int) + (q - k).tdiv 8
      let s' := s.setK o.opcode rail (min 4096 (max 1024 k'.toNat))
      let reserved := (s.gov.resvs.find? (fun x => x.kind == 0 && x.ix == o.asn && x.ledger == rail)).bind Resv.e
      if reserved.getD 0 < m then s'.event NRG_EVENTS 4 else s'
/-- Refinement at the completion of an operation that started (R421). -/
def State.refine (s : State) (o : Op) : State :=
  let s' := if s.energy.refine ∧ !s.bitAt NRG_CTRL 1 ∧ o.started then s.forEach [1, 2, 3] (fun s r => s.refineRail o r) else s
  { s' with gov := { s'.gov with meas := s'.gov.meas.filter (fun x => x.1 != o.asn) } }

end Sys2Proof.Machine
end

