-- ==== Sys2Proof/Machine/Crypto.lean ====
section
/-! DEFINITION. The algorithms that the spec names by reference: CRC-32 with the parameters of R23, SHA-256 (FIPS 180) and the
verification of an ECDSA P-256 signature (FIPS 186), as R22, R36, R456, R553 and R561 use them. -/

namespace Sys2Proof.Machine

/-- One bit of the reflected CRC-32. -/
def crcBit (c : BitVec 32) : BitVec 32 :=
  if c.getLsbD 0 then (c >>> 1) ^^^ 0xEDB88320#32 else c >>> 1
/-- One byte of the reflected CRC-32. -/
def crcByte (c : BitVec 32) (b : Byte) : BitVec 32 :=
  crcBit (crcBit (crcBit (crcBit (crcBit (crcBit (crcBit (crcBit (c ^^^ b.setWidth 32))))))))
/-- CRC-32 of a byte sequence (R23). -/
def crc32 (bs : List Byte) : Nat := ((bs.foldl crcByte 0xFFFFFFFF#32) ^^^ 0xFFFFFFFF#32).toNat

/-! SHA-256. -/

/-- Largest `r` below `2 ^ n` whose power `e` is at most `x`, found bit by bit. -/
def rootBits (e x : Nat) : Nat → Nat → Nat
  | 0, r => r
  | n + 1, r => rootBits e x n (if (r + 2 ^ n) ^ e ≤ x then r + 2 ^ n else r)
/-- First 32 bits of the fraction of the `e`-th root of `p`; the root is below 32 (FIPS 180 so defines its constants). -/
def rootFraction (e p : Nat) : BitVec 32 := BitVec.ofNat 32 (rootBits e (p * 2 ^ (32 * e)) 37 0)
/-- Primes below 312: the first 64. -/
def smallPrimes : List Nat :=
  (List.range 312).filter (fun n => decide (2 ≤ n) && (List.range 18).all (fun d => decide (d < 2 ∨ n ≤ d ∨ n % d ≠ 0)))
/-- The 64 round constants: fractions of the cube roots of the first 64 primes. -/
def shaK : List (BitVec 32) := smallPrimes.map (rootFraction 3)
/-- Initial hash value: fractions of the square roots of the first 8 primes. -/
def shaInit : List (BitVec 32) := (smallPrimes.take 8).map (rootFraction 2)

/-- XOR of a word turned right by each of some amounts. -/
def turns (l : List Nat) (x : BitVec 32) : BitVec 32 := l.foldl (fun y n => y ^^^ x.rotateRight n) 0
/-- A word mixed for the message schedule: two turns and a shift. -/
def spread (a b n : Nat) (x : BitVec 32) : BitVec 32 := turns [a, b] x ^^^ x >>> n

/-- The message schedule: from the 16 words of a block, the words of the remaining rounds, newest first. -/
def shaSchedule : Nat → List (BitVec 32) → List (BitVec 32)
  | 0, w => w
  | n + 1, w =>
    shaSchedule n ((spread 17 19 10 (w.getD 1 0) + w.getD 6 0 + spread 7 18 3 (w.getD 14 0) + w.getD 15 0) :: w)

/-- One round on the eight working variables. -/
def shaRound : List (BitVec 32) → BitVec 32 × BitVec 32 → List (BitVec 32)
  | [a, b, c, d, e, f, g, h], (k, w) =>
    let t1 := h + turns [6, 11, 25] e + (g ^^^ (e &&& (f ^^^ g))) + k + w
    let t2 := turns [2, 13, 22] a + ((a &&& (b ||| c)) ||| (b &&& c))
    [t1 + t2, a, b, c, d + t1, e, f, g]
  | v, _ => v

/-- One block of 16 words. -/
def shaBlock (h : List (BitVec 32)) (ws : List (BitVec 32)) : List (BitVec 32) :=
  let sch := (shaSchedule 48 ws.reverse).reverse
  let v := (List.zip shaK sch).foldl shaRound h
  List.zipWith (· + ·) h v

/-- Words of a byte list, big-endian, at most `n` of them. -/
def beWords : Nat → List Byte → List (BitVec 32)
  | 0, _ => []
  | _, [] => []
  | n + 1, bs => BitVec.ofNat 32 (beNat (bs.take 4)) :: beWords n (bs.drop 4)

/-- Blocks of 16 words, at most `n` of them. -/
def shaBlocks : Nat → List (BitVec 32) → List (BitVec 32) → List (BitVec 32)
  | 0, h, _ => h
  | n + 1, h, ws => if ws.isEmpty then h else shaBlocks n (shaBlock h (ws.take 16)) (ws.drop 16)

/-- SHA-256 of a byte sequence, as its 32 output bytes (FIPS 180). -/
def sha256 (bs : List Byte) : List Byte :=
  let n := bs.length
  let pad := (119 - n % 64) % 64
  let msg := bs ++ (0x80 :: List.replicate pad 0) ++ beBytes 8 (8 * n)
  (shaBlocks (n / 64 + 2) shaInit (beWords (n / 4 + 32) msg)).flatMap (fun w => beBytes 4 w.toNat)

/-! ECDSA P-256. Points are affine; none is the point at infinity. -/

/-- Field prime of P-256. -/
def p256P : Nat := 0xffffffff00000001000000000000000000000000ffffffffffffffffffffffff
/-- Order of the base point. -/
def p256N : Nat := 0xffffffff00000000ffffffffffffffffbce6faada7179e84f3b9cac2fc632551
/-- Coefficient b. -/
def p256B : Nat := 0x5ac635d8aa3a93e7b3ebbd55769886bc651d06b0cc53b0f63bce3c3e27d2604b
/-- Base point. -/
def p256G : Nat × Nat :=
  (0x6b17d1f2e12c4247f8bce6e563a440f277037d812deb33a0f4a13945d898c296,
   0x4fe342e2fe1a7f9b8ee7eb4a7c0f9e162bce33576b315ececbb6406837bf51f5)

/-- `b ^ e mod m`, from `n` bits of the exponent. -/
def powMod (m : Nat) : Nat → Nat → Nat → Nat
  | 0, _, _ => 1 % m
  | n + 1, b, e =>
    let h := powMod m n (b * b % m) (e / 2)
    if e % 2 = 1 then h * b % m else h
/-- Inverse modulo a prime. -/
def invMod (m a : Nat) : Nat := powMod m 256 (a % m) (m - 2)

/-- Sum of two points of the curve. -/
def ecAdd (a b : Option (Nat × Nat)) : Option (Nat × Nat) :=
  match a, b with
  | none, q => q
  | q, none => q
  | some (x, y), some (u, v) =>
    if x = u ∧ (y + v) % p256P = 0 then none
    else
      let l := if x = u then (3 * x * x + (p256P - 3)) * invMod p256P (2 * y) % p256P
               else (v + p256P - y) * invMod p256P (u + p256P - x) % p256P
      let z := (l * l + 2 * p256P - x - u) % p256P
      some (z, (l * (x + p256P - z) + p256P - y) % p256P)

/-- Multiple of a point, from `n` bits of the factor. -/
def ecMul : Nat → Nat → Option (Nat × Nat) → Option (Nat × Nat)
  | 0, _, _ => none
  | n + 1, k, p =>
    let r := ecMul n (k / 2) (ecAdd p p)
    if k % 2 = 1 then ecAdd p r else r

/-- A public key x · 2^256 + y names a point of the curve (FIPS 186; R553). -/
def keyOk (key : Nat) : Bool :=
  let x := key / 2 ^ 256 % 2 ^ 256; let y := key % 2 ^ 256
  decide (x < p256P) && decide (y < p256P) &&
  (y * y) % p256P == (x * x * x + (p256P - 3) * x + p256B) % p256P

/-- The signature (r, s) over the bytes verifies under the key (FIPS 186). -/
def ecdsaVerify (key : Nat) (bs : List Byte) (r sg : Nat) : Bool :=
  let e := beNat (sha256 bs)
  if !keyOk key ∨ r = 0 ∨ p256N ≤ r ∨ sg = 0 ∨ p256N ≤ sg then false
  else
    let w := invMod p256N sg
    match ecAdd (ecMul 256 (e * w % p256N) (some p256G))
        (ecMul 256 (r * w % p256N) (some (key / 2 ^ 256 % 2 ^ 256, key % 2 ^ 256))) with
    | none => false
    | some (x, _) => x % p256N == r

end Sys2Proof.Machine
end

