-- ==== Sys2Proof/Machine/Net.lean ====
section
/-! DEFINITION. Messages, flits and routes (R496 to R513): the operations that put a message of this chip, or one it
forwards, into the transmit queues of its ports. -/

namespace Sys2Proof.Machine

/-- Bytes `off` to `off + n − 1` of a flit, as a little-endian number (R496). -/
def flitAt (f : Flit) (off n : Nat) : Nat := f.toNat / 2 ^ (8 * off) % 2 ^ (8 * n)
/-- A flit from the bytes before its CRC, which is appended (R496). -/
def sealFlit (bs : List Byte) : Flit :=
  let body := (bs ++ List.replicate 124 0).take 124
  BitVec.ofNat 1024 (leNat (body ++ leBytes 4 (crc32 body)))
/-- The CRC of a received flit checks (R496). -/
def flitCrcOk (f : Flit) : Bool := crc32 (leBytes 124 f.toNat) == flitAt f 0x7C 4
/-- A flit with its link sequence number and acknowledgment, sealed anew (R496, R498). -/
def stampFlit (f : Flit) (lseq ack : Nat) : Flit :=
  let bs := leBytes 124 f.toNat
  sealFlit (bs.take 8 ++ leBytes 2 lseq ++ leBytes 2 ack ++ bs.drop 12)

/-- Flags of a DATA flit (R496). -/
structure FlitFlags where
  first : Bool
  last : Bool
  poison : Bool
  relay : Option Nat
  abort : Bool
deriving DecidableEq, Repr, Inhabited

/-- A DATA flit before it has a link sequence number. -/
def dataFlit (vc dest src hops : Nat) (fl : FlitFlags) (payload : List Byte) : Flit :=
  let kind := 1 + 4 * vc + (if fl.abort then 32 else 0)
  let flags := fl.relay.getD 0 % 16 + (if fl.first then 16 else 0) + (if fl.last then 32 else 0) +
    (if fl.poison then 64 else 0) + (if fl.relay.isSome then 128 else 0)
  sealFlit (leBytes 1 kind ++ leBytes 1 flags ++ leBytes 2 dest ++ leBytes 2 src ++ leBytes 1 hops ++
    leBytes 1 payload.length ++ leBytes 4 0 ++ payload)
/-- A CTRL flit to the neighbour at the other end of a port (R497). -/
def ctrlFlit (payload : List Byte) : Flit := sealFlit (leBytes 1 2 ++ List.replicate 11 0 ++ payload)

/-- The bytes of a message: header of R504, then the body. -/
def msgBytes (m : Msg) : List Byte :=
  leBytes 1 m.op ++ leBytes 1 m.status ++ leBytes 2 m.tag ++ leBytes 2 m.mseq ++
  leBytes 1 (if m.flowStart then 1 else 0) ++ leBytes 1 0 ++ leBytes 4 m.body.length ++ leBytes 4 m.arg ++
  leBytes 8 m.addr ++ m.body

/-- The flits of a message, `n` at most: 112 bytes each, the first FIRST and the last LAST (R499, R504). -/
def chunks : Nat → Nat → List Byte → List (Nat × List Byte)
  | 0, _, _ => []
  | n + 1, off, bs =>
    if bs.length ≤ 112 then [(off, bs)] else (off, bs.take 112) :: chunks n (off + 112) (bs.drop 112)
/-- The flits of a message; `pois` says which message bytes belong to poison-tagged words. -/
def msgFlits (m : Msg) (hops : Nat) (pois : Nat → Bool) : List Flit :=
  let bs := msgBytes m
  (chunks 40 0 bs).map (fun c => dataFlit m.vc m.dest m.src hops
    { first := c.1 == 0, last := decide (bs.length ≤ c.1 + 112), relay := m.relay, abort := false,
      poison := (List.range c.2.length).any (fun i => pois (c.1 + i)) } c.2)

/-! Routes (R510). -/

/-- Number of this chip, if it has one (R513). -/
def State.chipNum (s : State) : Option Nat := if s.bitAt APL_CHIP_NUM 31 then some (s.fld APL_CHIP_NUM 9 0) else none
/-- SRC of this chip's flits: its number, or 0xFFFF (R496). -/
def State.srcNum (s : State) : Nat := s.chipNum.getD 0xFFFF
/-- The port is UP (R491). -/
def State.portUp (s : State) (p : Nat) : Bool := s.fld (APL_STATUS p) 2 0 == 4
/-- The port faces a host (R495). -/
def State.facesHost (s : State) (p : Nat) : Bool := s.bitAt (APL_STATUS p) 8
/-- Chip-facing ports in UP, ascending. -/
def State.chipPorts (s : State) : List Nat := (List.range 16).filter (fun p => s.portUp p && !s.facesHost p)
/-- The better of two candidates: least distance, then the lower port (R510). -/
def betterCand (a b : Cand) : Cand :=
  if a.dist < b.dist ∨ (a.dist = b.dist ∧ a.port ≤ b.port) then a else b
/-- The best of a list of candidates that reach their endpoint. -/
def bestCand : List Cand → Option Cand
  | [] => none
  | c :: cs =>
    if 63 ≤ c.dist then bestCand cs
    else match bestCand cs with
      | none => some c
      | some d => some (betterCand c d)
/-- The candidate an entry takes (R510). -/
def State.primary (s : State) (e : Nat) : Option Cand := bestCand (s.net.cands.filter (fun c => c.ep == e))
/-- The best candidate through another port (R510). -/
def State.alt (s : State) (e : Nat) : Option Cand :=
  (s.primary e).bind (fun c => bestCand (s.net.cands.filter (fun d => d.ep == e && d.port != c.port)))
/-- The entry is DUP: two UIDs were learned for it, or it is advertised as DUP (R514). -/
def State.isDup (s : State) (e : Nat) : Bool :=
  s.net.dups.any (fun d => d.1 == e) || s.net.cands.any (fun c => c.ep == e && c.dup)
/-- Distance of an entry: 0 for this chip, 63 unreachable (R510). -/
def State.dist (s : State) (e : Nat) : Nat :=
  if s.chipNum = some e then 0 else ((s.primary e).map Cand.dist).getD 63
/-- Port by which a flit for an endpoint leaves, if it has a route (R512). -/
def State.routePort (s : State) (e : Nat) : Option Nat := if s.isDup e then none else (s.primary e).map Cand.port

/-! Sending. -/

/-- The flits of whole messages join the transmit queue of a port's VC; while a message that is still arriving enters it, they
wait, so that messages of one VC never interleave (R499). -/
def State.enqueue (s : State) (p vc : Nat) (fs : List Flit) : State :=
  let t := s.port p
  if (t.opened.getD vc none).isSome then s.setPort p { t with waitq := t.waitq.modify vc (· ++ fs) }
  else s.setPort p { t with queue := t.queue.modify vc (· ++ fs) }
/-- A control flit joins a port's transmit queue. -/
def State.sendCtrl (s : State) (p : Nat) (payload : List Byte) : State :=
  let t := s.port p
  s.setPort p { t with ctrl := t.ctrl ++ [ctrlFlit payload] }
/-- A flit, or each flit of a message, finds no route: discarded and counted (R512). -/
def State.noRoute (s : State) (n : Nat) : State := (s.addSat APL_DROPS n).event APL_G_EVENTS 3

/-- Key of a sending flow (R508). -/
def flowKey (dest vc : Nat) : Nat := dest * 8 + vc
/-- MSEQ and FLOW_START of the next message of a sending flow; a flow starts at MSEQ 0 (log entry 11). -/
def State.nextMseq (s : State) (dest vc : Nat) : Nat × Bool :=
  match s.net.txSeq.find? (fun x => x.1 == flowKey dest vc) with
  | some x => x.2
  | none => (0, true)
/-- A sending flow has used a sequence number; the next message carries FLOW_START or not (R508, R509). -/
def State.setMseq (s : State) (dest vc n : Nat) (start : Bool) : State :=
  { s with net := { s.net with
      txSeq := (flowKey dest vc, n % 2 ^ 16, start) :: s.net.txSeq.filter (fun x => x.1 != flowKey dest vc) } }

/-- Send a message of this chip to an endpoint by its route; one that finds no route is discarded, and the next message of
the flow carries FLOW_START (R508, R509, R512). -/
def State.send (s : State) (dest vc op status tag arg addr : Nat) (body : List Byte) (pois : Nat → Bool) : State :=
  let q := s.nextMseq dest vc
  let m : Msg := { src := s.srcNum, dest := dest, vc := vc, op := op, status := status, tag := tag, mseq := q.1,
                   flowStart := q.2, arg := arg, addr := addr, body := body, port := 16, poison := false, relay := none,
                   bad := false }
  let fs := msgFlits m 63 (fun i => 24 ≤ i && pois (i - 24))
  if s.chipNum = some dest then
    { s.setMseq dest vc (q.1 + 1) false with net := { (s.setMseq dest vc (q.1 + 1) false).net with inbox := s.net.inbox ++ [m] } }
  else match s.routePort dest with
    | some p => (s.enqueue p vc fs).setMseq dest vc (q.1 + 1) false
    | none => (s.noRoute fs.length).setMseq dest vc (q.1 + 1) true
/-- The same out of one port, to the neighbour or to the endpoint behind it (R513). -/
def State.sendOut (s : State) (p dest vc op status tag arg addr : Nat) (body : List Byte) (pois : Nat → Bool) : State :=
  let q := s.nextMseq dest vc
  let m : Msg := { src := s.srcNum, dest := dest, vc := vc, op := op, status := status, tag := tag, mseq := q.1,
                   flowStart := q.2, arg := arg, addr := addr, body := body, port := 16, poison := false, relay := none,
                   bad := false }
  (s.enqueue p vc (msgFlits m 63 (fun i => 24 ≤ i && pois (i - 24)))).setMseq dest vc (q.1 + 1) false

/-- NEIGHBOUR and BROADCAST destinations (R496). -/
def epNeighbour : Nat := 0xFFFE
def epBroadcast : Nat := 0xFFFF

/-- Answer a request (R505, R513): a chip without a number, or one whose requester has none, answers out of the port on
which the request arrived. A message of the chip's own path has no port and no answer. -/
def State.reply (s : State) (m : Msg) (op status arg : Nat) (body : List Byte) (pois : Nat → Bool) : State :=
  if m.port < 16 ∧ (s.chipNum = none ∨ m.src = 0xFFFF) then
    s.sendOut m.port (if m.src = 0xFFFF then epNeighbour else m.src) m.vc op status m.tag arg m.addr body pois
  else if m.src < 1024 then s.send m.src m.vc op status m.tag arg m.addr body pois
  else s
/-- No byte of the message is poison-tagged. -/
def clean : Nat → Bool := fun _ => false

/-- Send a message to every chip-facing port in UP except one (R515). -/
def State.broadcast (s : State) (op arg addr : Nat) : State :=
  let q := s.nextMseq epBroadcast 4
  let m : Msg := { src := s.srcNum, dest := epBroadcast, vc := 4, op := op, status := 0, tag := 0, mseq := q.1,
                   flowStart := q.2, arg := arg, addr := addr, body := [], port := 16, poison := false, relay := none,
                   bad := false }
  (s.forEach s.chipPorts (fun s p => s.enqueue p 4 (msgFlits m 63 clean))).setMseq epBroadcast 4 (q.1 + 1) false

end Sys2Proof.Machine
end

