-- ==== Sys2Proof/Machine/Pins.lean ====
section
/-! DEFINITION. Timing sets and level sets: the checks of R169 and R190, the live copies, and the commits of R171 and R191.
A set or block is read through a function from its byte offset to the word there. -/

namespace Sys2Proof.Machine

/-- Channels of a cluster named by a mask. -/
def maskChans (k mask : Nat) : List Nat := (bitsOf mask 32).map (fun j => 32 * k + j)

/-! Timing sets. -/

/-- First failing pin of a check over the 32 pins, in ascending order. -/
def firstPin (ok : Nat → Bool) : Option Nat := (List.range 32).find? (fun j => !ok j)
/-- Offset field of register `i` (0 DE_ON to 5 WIN_CLOSE) of pin j in a set image. -/
def tsOff (w : Nat → Word) (j i : Nat) : Nat := (w (0x100 + 0x18 * j + 4 * i)).field 23 0
/-- FMT of pin j. -/
def tsFmt (w : Nat → Word) (j : Nat) : Nat := (w (0x104 + 0x18 * j)).field 26 24
/-- HOLD of pin j. -/
def tsHold (w : Nat → Word) (j : Nat) : Nat := (w (0x114 + 0x18 * j)).field 26 24

/-- The checks of R169 that concern one pin, codes 0x02 to 0x08. -/
def tsPinCheck (w : Nat → Word) (code j : Nat) : Bool :=
  let per := (w 0).toNat
  let on := tsOff w j 0; let dat := tsOff w j 1; let rtn := tsOff w j 2; let off := tsOff w j 3
  let f := tsFmt w j
  match code with
  | 2 => decide (f ≤ 4) && decide (tsHold w j ≤ 3) &&
      (List.range 6).all (fun i => (w (0x100 + 0x18 * j + 4 * i)).field 31 (if i = 1 ∨ i = 5 then 27 else 24) == 0)
  | 3 => (List.range 6).all (fun i => decide (tsOff w j i < 3 * per))
  | 4 => decide (on ≤ dat) && (f == 0 || decide (dat < rtn))
  | 5 => if f = 0 then true
      else if f = 3 then decide (on + 512 ≤ dat) && decide (dat + 512 ≤ rtn) && decide (rtn + 512 ≤ on + per)
      else decide (dat + 512 ≤ rtn) && decide (rtn + 512 ≤ dat + per)
  | 6 => if f = 0 then decide (dat ≤ off) else decide (rtn ≤ off)
  | 7 => decide (tsOff w j 4 ≤ tsOff w j 5)
  | 8 => f != 4 || decide (2048 ≤ per)
  | _ => true

/-- First failure of R169 in a set image: its code and pin, 0xFF for a set-wide check (log entry 13). -/
def tsCheck (w : Nat → Word) : Option (Nat × Nat) :=
  if (w 0).toNat < 1024 then some (1, 0xFF)
  else if !(List.range 63).all (fun i => w (4 + 4 * i) == 0) then some (2, 0xFF)
  else (List.range 7).findSome? (fun i => (firstPin (tsPinCheck w (i + 2))).map (fun j => (i + 2, j)))

/-- First register of a set (R171). -/
def tsAddr (k t : Nat) : Nat := TS_PERIOD k t
/-- First failure among the staged sets of a cluster: code, set, pin. -/
def State.tsFirst (s : State) (k : Nat) (sets : List Nat) : Option (Nat × Nat × Nat) :=
  sets.findSome? (fun t => (tsCheck (fun o => s.reg (tsAddr k t + o))).map (fun r => (r.1, t, r.2)))
/-- The words of a set image that registers hold: PERIOD and the pins' registers. -/
def tsOffsets : List Nat := 0 :: (List.range 192).map (fun i => 0x100 + 4 * i)
/-- Staged copies of a set become live. -/
def State.tsLive (s : State) (k t : Nat) : State :=
  s.forEach tsOffsets (fun s o => s.setLive (tsAddr k t + o) (s.reg (tsAddr k t + o)))
/-- Both copies of a set take an image (R173). -/
def State.tsWrite (s : State) (k t : Nat) (w : Nat → Word) : State :=
  s.forEach tsOffsets (fun s o => s.setBoth (tsAddr k t + o) (w o))
/-- Both copies of a set take their reset values (R179). -/
def State.tsReset (s : State) (k t : Nat) : State := s.resetWords (tsAddr k t) 256

/-- Status word of a commit that failed a check. -/
def rejectedWord (pin set code : Nat) : Word := BitVec.ofNat 32 (pin * 2 ^ 24 + set * 2 ^ 16 + code * 2 ^ 8 + 2)

/-- A commit of timing sets, when an operation holds the cluster or when none does (R171). -/
def State.commitTe (s : State) (held : Bool) (k mask : Nat) : State :=
  let sets := bitsOf mask 64
  match s.tsFirst k sets with
  | some (code, t, pin) => s.setReg (TE_COMMIT_STATUS k) (rejectedWord pin t code)
  | none =>
    if held then
      let c := s.clu k
      (s.setClu k { c with pendTe := some (c.pendTe.getD 0 ||| mask) }).setReg (TE_COMMIT_STATUS k) 1
    else (s.forEach sets (fun s t => s.tsLive k t)).setReg (TE_COMMIT_STATUS k) 0
/-- A pending commit of timing sets is checked again and applied or rejected (R171). -/
def State.settleTe (s : State) (k : Nat) : State :=
  let c := s.clu k
  match c.pendTe with
  | none => s
  | some mask =>
    let sets := bitsOf mask 64
    let s := s.setClu k { c with pendTe := none }
    match s.tsFirst k sets with
    | some (code, t, pin) => s.setReg (TE_COMMIT_STATUS k) (rejectedWord pin t code)
    | none => (s.forEach sets (fun s t => s.tsLive k t)).setReg (TE_COMMIT_STATUS k) 0

/-! The measurement path of a cluster (R329 to R336). -/

/-- Output interval of a preset in GCC steps (R329). -/
def presetTout (p : Nat) : Nat := [800, 3200, 25600, 204800].getD p 800
/-- SETTLING samples of a preset (R329). -/
def presetN (p : Nat) : Nat := [6, 10, 16, 22].getD p 6
/-- The running MEASURE or CONTACT_CHECK that holds a cluster's measurement path (R336). -/
def State.measHolder (s : State) (k : Nat) : Option Op :=
  s.ops.find? (fun o => o.phase == .running && (o.opcode == 3 || o.opcode == 5) && (s.resources o).contains (.cluster k))
/-- Preset that a synchronizing reset of a cluster starts: the holder's, else that of MEAS_CFG (R334, R336). -/
def State.preset (s : State) (k : Nat) : Nat :=
  match s.measHolder k with
  | some o => if o.opcode = 3 then o.pay 0x10 1 else o.pay 6 1
  | none => s.fld (MEAS_CFG k) 1 0
/-- A synchronizing reset of a cluster now (R334). -/
def State.syncReset (s : State) (k : Nat) : State :=
  let u := s.clu k
  let s := s.setClu k { u with clock := s.preset k, sampleNo := [] }
  let s := (s.setReg64 (MEAS_SYNC_GCC_LO k) (MEAS_SYNC_GCC_HI k) s.now).event (MEAS_EVENTS k) 0
  s.forEach (maskChans k (2 ^ 32 - 1)) (fun s c =>
    let ch := s.chan c
    if ch.settleLeft = 0 then s else s.setChan c { ch with settleLeft := 0 })

/-- A number takes its place in an ascending list. -/
def insertNat (n : Nat) : List Nat → List Nat
  | [] => [n]
  | m :: l => if n ≤ m then n :: m :: l else m :: insertNat n l
/-- The synchronizing resets of a cluster that are scheduled up to an instant take place, in order (R334). -/
def State.runSync (s : State) (k till : Nat) : State :=
  let l := (s.clu k).syncAt
  let s := ((l.filter (fun g => decide (g ≤ till))).foldr insertNat []).foldl (fun s g => (s.advanceTo g).syncReset k) s
  s.setClu k { s.clu k with syncAt := l.filter (fun g => !decide (g ≤ till)) }

/-! Level sets. -/

/-- Byte offsets of the registers that have a staged and a live copy. -/
def lvOffsets : List Nat := (List.range 14).map (fun i => 4 * i)
/-- Largest swing of a BAND, in codes (R188). -/
def bandSwing (b : Nat) : Nat := if b = 0 then 40000 else if b = 1 then 28000 else 16000
/-- Shortest period of a BAND (R188). -/
def bandPeriod (b : Nat) : Nat := if b = 0 then 4096 else if b = 1 then 2048 else 1024
/-- The checks of R190 by code, and the encodings of R187 and R188 as code 8 (R208). -/
def lvCheck (w : Nat → Word) (code : Nat) : Bool :=
  let c := fun o => (w o).field 15 0
  let cfg := w 0; let ctl := w 0x28; let force := c 0x2C
  let lo := (w 0x30).field 15 0; let hi := (w 0x30).field 31 16
  let mode := ctl.field 2 0
  let volt := mode == 1 || mode == 3; let cur := mode == 2 || mode == 5
  match code with
  | 1 => decide (c 0x08 ≤ c 0x04)
  | 2 => decide (c 0x04 - c 0x08 ≤ bandSwing (cfg.field 5 4))
  | 3 => decide (c 0x10 ≤ c 0x0C)
  | 4 => decide (c 0x24 + 5000 ≤ c 0x20) && decide (c 0x24 ≤ c 0x08) && decide (c 0x24 ≤ c 0x10) &&
      decide (c 0x24 ≤ c 0x14) && decide (c 0x04 ≤ c 0x20) && decide (c 0x0C ≤ c 0x20) && decide (c 0x14 ≤ c 0x20)
  | 5 => decide (lo + 2000 ≤ hi)
  | 6 => decide (mode ≤ 5) && decide (ctl.field 6 4 ≤ 4) &&
      (!volt || (levelCode force && decide (lo ≤ force) && decide (force ≤ hi))) && (!cur || force != 0x8000)
  | 7 => (cfg.field 1 0 != 3 || mode == 4) && (cfg.field 1 0 != 2 || mode != 0)
  | 8 => [0x04, 0x08, 0x0C, 0x10, 0x14].all (fun o => levelCode (w o).toNat) &&
      [0x18, 0x1C].all (fun o => decide ((w o).toNat ≤ 48000)) && [0x20, 0x24].all (fun o => decide ((w o).toNat ≤ 65000)) &&
      cfg &&& 0xFFFFFECC == 0 && cfg.field 5 4 != 3 && ctl &&& 0xFFFFFF88 == 0 && (w 0x2C).field 31 16 == 0 &&
      levelCode lo && levelCode hi && decide (1 ≤ (w 0x34).toNat) && decide ((w 0x34).toNat ≤ 32767) &&
      w 0x38 == 0 && w 0x3C == 0
  | _ => true
/-- First failure of the checks from code 1 to `n` over channels with their words, check by check: code and channel. -/
def lvFirst (n : Nat) (chs : List (Nat × (Nat → Word))) : Option (Nat × Nat) :=
  (List.range n).findSome? (fun i => (chs.find? (fun e => !lvCheck e.2 (i + 1))).map (fun e => (i + 1, e.1)))
/-- Staged words of a channel. -/
def State.staged (s : State) (c : Nat) : Nat → Word := fun o => s.reg (CH_CFG c + o)
/-- Live words of a channel. -/
def State.liveWords (s : State) (c : Nat) : Nat → Word := fun o => s.liveReg (CH_CFG c + o)

/-- Settling time of a PPMU range in GCC steps (R198). -/
def settleSteps (range : Nat) : Nat := ([200, 50, 20, 10, 10].getD range 10) * 800
/-- The PPMU is connected in this mode (R181). -/
def pmuOn (mode : Nat) : Bool := mode == 2 || mode == 3
/-- Whether a committed mode can take the channel out of the reset pin state (R183). -/
def State.mayLeaveReset (s : State) (c : Nat) : Bool :=
  s.assigned c && !s.isFaulted 1 c && !s.isFaulted 6 (c / 32) && s.islandMode (c / 32) == 0 && !s.stale (c / 32) &&
  !s.pinsHeld c

/-! What the ball shows (R164 to R170, R181, R182). -/

/-- Deskew of a pin's drive edges, or of its compare strobes, in fine units (R159, R164). -/
def State.deskew (s : State) (c : Nat) (strobe : Bool) : Int :=
  let r := s.reg (TE_PIN_DESKEW (c / 32) (c % 32))
  signed 16 (if strobe then r.field 31 16 else r.field 15 0) + signed 16 (s.fld GLB_TB_CHIP_DESKEW 15 0)
/-- Ball instant of a drive edge or a strobe: GCC, and fine units after its reference instant (R164). -/
def State.ballInstant (s : State) (c : Nat) (strobe : Bool) (due : Int) : Int × Int :=
  let e := due + s.deskew c strobe
  (e.fdiv 4096 + 64, e.fmod 4096)
/-- Ball instant, in fine units, at which a strobe of a cluster with its last sample at an instant before deskew has been
evaluated (R164, R285). -/
def State.evaluatedFine (s : State) (k : Nat) (x : Nat × Int) : Nat :=
  let p := s.ballInstant (32 * k + x.1) true x.2
  (p.1 * 4096 + p.2).toNat
/-- The unit holds a temperature within its calibration trigger threshold (R464, R465). -/
def State.tempNear (s : State) (u : Nat) : Bool :=
  let d := signed 16 (s.fld (MNT_U_TEMP u) 15 0) - signed 16 (s.fld (MNT_U_TREF u) 15 0)
  decide (5 * d.natAbs ≤ 8 * s.fld (MNT_U_THRESH u) 7 0)
/-- Accuracy of the comparator thresholds of a cluster at a setting, in µV; none where R197 states no limit. -/
def State.thresholdError (s : State) (k setting : Nat) : Option Nat :=
  let v := (((setting : Int) - 15000) * 100).natAbs
  let t := signed 16 (s.fld (MNT_U_TEMP k) 15 0)
  if !s.bitAt MNT_CAL_VALID k then some (v / 100 + 30000)
  else if s.tempNear k && decide (0 ≤ t) && decide (t ≤ 105 * 16) then some (v / 1000 + 3000)
  else none
/-- A ball voltage in µV exceeds a threshold; within its accuracy either answer may come (R195, R197). -/
def overThreshold (err : Option Nat) (setting : Nat) (uv : Int) (free : Bool) : Bool :=
  let t := ((setting : Int) - 15000) * 100
  match err with
  | none => free
  | some e => if (uv - t).natAbs ≤ e then free else decide (t < uv)
/-- State code of a comparator sample: 2 HIGH above VOH, 1 LOW below VOL, 0 MID otherwise (R195). -/
def State.compare (s : State) (c : Nat) (uv : Int) : Nat × State :=
  let p := s.fresh 2
  let voh := s.liveFld (CH_VOH c) 15 0; let vol := s.liveFld (CH_VOL c) 15 0
  (if overThreshold (s.thresholdError (c / 32) voh) voh uv (bit p.1 0) then 2
   else if overThreshold (s.thresholdError (c / 32) vol) vol uv (bit p.1 1) then 0 else 1, p.2)
/-- State codes of a list of comparator samples of one channel. -/
def State.compareAll (s : State) (c : Nat) : List Int → List Nat × State
  | [] => ([], s)
  | v :: l =>
    let p := s.compare c v
    let q := p.2.compareAll c l
    (p.1 :: q.1, q.2)
/-- Drive edges of a channel before this instant have reached the ball by now (R164). -/
def State.ballLimit (s : State) (c : Nat) : Int := ((s.now : Int) - 64) * 4096 - s.deskew c false + 1
/-- An edge stands before another: by instant, then by cycle. -/
def Edge.before (a b : Edge) : Bool := decide (a.due < b.due) || (a.due == b.due && decide (a.vec < b.vec))
/-- Insertion in time order; equal ones keep the order in which they were scheduled. -/
def Edge.insert (e : Edge) : List Edge → List Edge
  | [] => [e]
  | a :: l => if e.before a then e :: a :: l else a :: Edge.insert e l
/-- One transition takes effect at the ball (R165, R166, R170). -/
def Chan.apply (ch : Chan) (e : Edge) : Chan :=
  match e.kind with
  | 0 => { ch with driving := false }
  | 1 => { ch with driving := true, out := e.level }
  | 2 => { ch with out := e.level }
  | 3 => { ch with inRun := true, hold := 0, driving := false }
  | 5 => { ch with inRun := false, hold := 1, driving := true, out := false }
  | 6 => { ch with inRun := false, hold := 2, driving := true, out := true }
  | 7 => { ch with inRun := false, hold := 3, driving := false }
  | _ => { ch with inRun := false, hold := 0, driving := false }
/-- A transition is past: it counts its collisions, and it goes on to the ball unless one of a later cycle falls on the same
fine unit (R168). -/
def passEdge (all : List Edge) (p : Chan × Nat) (e : Edge) : Chan × Nat :=
  let near := p.1.recent.filter (fun r => decide (e.due < r.due + 512))
  let hits := (near.filter (fun r => r.vec != e.vec)).length
  let ch := { p.1 with recent := near ++ [e] }
  (if all.any (fun x => x.due == e.due && decide (e.vec < x.vec)) then ch else { ch with due := ch.due ++ [e] }, p.2 + hits)
/-- The transitions before an instant are past, in time order; the others wait. -/
def Chan.passEdges (ch : Chan) (lim : Int) : Chan × Nat :=
  let ready := (ch.edges.filter (fun e => decide (e.due < lim))).foldl (fun l e => e.insert l) []
  ready.foldl (passEdge ready) ({ ch with edges := ch.edges.filter (fun e => !decide (e.due < lim)) }, 0)
/-- What has reached the ball before an instant takes effect there. -/
def Chan.reach (ch : Chan) (lim : Int) : Chan :=
  (ch.due.filter (fun e => decide (e.due < lim))).foldl Chan.apply { ch with due := ch.due.filter (fun e => !decide (e.due < lim)) }
/-- A channel as its ball shows it now. -/
def State.atBall (s : State) (c : Nat) : Chan := ((s.chan c).passEdges (s.ballLimit c)).1.reach (s.ballLimit c)
/-- All that is past has reached the ball, and nothing is still to come. -/
def Chan.flush (ch : Chan) : Chan := { ch.due.foldl Chan.apply ch with edges := [], recent := [], due := [] }
/-- Everything on its way to the balls is there: with no TREF no edge is timed any more (R154), and a load of the GCC finds none
(R151). -/
def State.flushEdges (s : State) : State :=
  s.forEach (s.chans.map Prod.fst) (fun s c => s.setChan c (s.chan c).flush)
/-- Driver of the parts of the mode in force, at the ball (R166, R186). -/
def State.driverOn (s : State) (c : Nat) : Bool := [1, 3].contains (s.liveMode c) && (s.atBall c).driving
/-- Active load of the parts of the mode in force (R196). -/
def State.loadOn (s : State) (c : Nat) : Bool :=
  let ch := s.atBall c
  [1, 3].contains (s.liveMode c) &&
    (if ch.inRun then s.liveFld (CH_CFG c) 8 8 == 1 && !ch.driving else ch.hold == 3)

/-- A clamp of the PPMU can be in force: 1 current, 2 voltage, 0 none (R198). -/
def clampKind (pmuMode : Nat) : Nat := match pmuMode with
  | 1 | 3 => 1
  | 2 | 5 => 2
  | _ => 0
/-- The PPMU is connected in its live mode with a clamp in force. -/
def State.clampNow (s : State) (c : Nat) : Nat := if pmuOn (s.liveMode c) then clampKind (s.liveFld (CH_PMU_CTRL c) 2 0) else 0
/-- CH_PMU_STATUS.CLAMPED (R199). -/
def State.clamped (s : State) (c : Nat) : Bool := s.clampNow c != 0 && s.bitAt (CH_PMU_STATUS c) 1
/-- A channel's mode has changed: 10 µs of switching, the overlap of 1.0 µs ± 0.2 µs in which the old parts stay connected (its
length is free), and hold state OFF until the next pattern (R182, R186). -/
def State.switchMode (s : State) (c old : Nat) (driving load : Bool) : State :=
  let p := s.fresh 9
  p.2.setChan c { s.chan c with
    switching := some (s.now + 8000), leaving := some ⟨old, s.now + 640 + p.1 % 321, driving, load⟩,
    hold := 0, inRun := false, driving := false, drove := false, edges := [], recent := [], due := [] }
/-- The live copy of a channel's levels takes new words; a change of mode starts a switching time of 10 µs, a change of
force or range a settling time, a change of mode, PMU_MODE or RANGE flags the next N samples SETTLING. A clamp that is no longer
in force releases, and the old range stays until the new one has settled (R182, R186, R198, R199, R335, R544). -/
def State.goLive (s : State) (c : Nat) (w : Nat → Word) : State :=
  let mode0 := s.liveMode c
  let drv := s.driverOn c; let load := s.loadOn c; let clamp0 := s.clampNow c
  let force0 := s.liveReg (CH_PMU_FORCE c); let ctl0 := s.liveReg (CH_PMU_CTRL c)
  let s := s.forEach lvOffsets (fun s o => s.setLive (CH_CFG c + o) (w o))
  let leave := (w 0).field 1 0 != 0 && s.mayLeaveReset c
  let s := s.setChan c { s.chan c with pinReset := (s.chan c).pinReset && !leave }
  let mode1 := s.liveMode c
  let s := if mode0 = mode1 then s else s.switchMode c mode0 drv load
  let s := if pmuOn mode0 != pmuOn mode1 then s.ltAdd (16 + c / 32) 1 else s
  let s := if mode0 = mode1 ∧ ctl0 = s.liveReg (CH_PMU_CTRL c) then s
    else s.setChan c { s.chan c with settleLeft := presetN (s.clu (c / 32)).clock }
  let s := if s.clampNow c ≠ 0 ∧ s.clampNow c = clamp0 then s else s.setBitAt (CH_PMU_STATUS c) 1 false
  if !pmuOn mode1 then s.setChan c { s.chan c with settle := none, oldRange := none }
  else if pmuOn mode0 = false ∨ force0 ≠ s.liveReg (CH_PMU_FORCE c) ∨ ctl0 ≠ s.liveReg (CH_PMU_CTRL c) then
    let ch := s.chan c
    let old := if pmuOn mode0 ∧ ctl0.field 6 4 ≠ (w 0x28).field 6 4 then some (ctl0.field 6 4) else ch.oldRange
    (s.setChan c { ch with settle := some (s.now + settleSteps ((w 0x28).field 6 4)), oldRange := old }).setBitAt
      (CH_PMU_STATUS c) 2 false
  else s
/-- Channels that leave a connected mode without a commit, because their unit, island or site goes: the PPMU's transition counts,
no clamp stays engaged, and the next N samples carry SETTLING (R183, R199, R335, R544). To be asked before the channels go. -/
def State.pmuLeaves (s : State) (cs : List Nat) : State :=
  s.forEach (cs.filter (fun c => s.liveMode c != 0)) (fun s c =>
    let s := if pmuOn (s.liveMode c) then (s.ltAdd (16 + c / 32) 1).setBitAt (CH_PMU_STATUS c) 1 false else s
    s.setChan c { s.chan c with settleLeft := presetN (s.clu (c / 32)).clock, settle := none, oldRange := none })
/-- Both copies take new words (R192). -/
def State.writeLevels (s : State) (c : Nat) (w : Nat → Word) : State :=
  (s.forEach lvOffsets (fun s o => s.setReg (CH_CFG c + o) (w o))).goLive c w

/-- A commit of levels, when an operation holds the cluster or when none does (R191). -/
def State.commitLv (s : State) (held : Bool) (k mask : Nat) : State :=
  let cs := maskChans k mask
  match lvFirst 7 (cs.map (fun c => (c, s.staged c))) with
  | some (code, c) => s.setReg (LV_COMMIT_STATUS k) (rejectedWord (c % 32) 0 code)
  | none =>
    if held then
      let u := s.clu k
      (s.setClu k { u with pendLv := some (u.pendLv.getD 0 ||| mask) }).setReg (LV_COMMIT_STATUS k) 1
    else (s.forEach cs (fun s c => s.goLive c (s.staged c))).setReg (LV_COMMIT_STATUS k) 0
/-- A pending commit of levels is checked again and applied or rejected (R191). -/
def State.settleLv (s : State) (k : Nat) : State :=
  let u := s.clu k
  match u.pendLv with
  | none => s
  | some mask =>
    let cs := maskChans k mask
    let s := s.setClu k { u with pendLv := none }
    match lvFirst 7 (cs.map (fun c => (c, s.staged c))) with
    | some (code, c) => s.setReg (LV_COMMIT_STATUS k) (rejectedWord (c % 32) 0 code)
    | none => (s.forEach cs (fun s c => s.goLive c (s.staged c))).setReg (LV_COMMIT_STATUS k) 0
/-- Pending commits of a cluster, when no operation holds it any more (R171, R191). -/
def State.settleCommits (s : State) (k : Nat) : State := if s.clusterHeld k then s else (s.settleTe k).settleLv k

end Sys2Proof.Machine
end

