-- ==== Sys2Proof/Machine/Outputs.lean ====
section
/-! DEFINITION. The source half of an analog channel: its output states, its live range, and what becomes of a fade (R349, R352,
R361). -/

namespace Sys2Proof.Machine

/-- Output state of a channel. -/
def State.anState (s : State) (a : Nat) : Nat := s.fld (AN_STATUS a) 10 8
/-- The output state of a channel takes a value. -/
def State.setAnState (s : State) (a v : Nat) : State := s.setFld (AN_STATUS a) 10 8 v
/-- The AWG_PLAY that holds the source half of a channel. -/
def State.awgOp (s : State) (a : Nat) : Option Op := s.ops.find? (fun o => o.holds && o.opcode == 7 && o.pay 0 1 == a)
/-- The live range takes the staged one through RANGE_MUTE, if they differ (R352). -/
def State.takeRange (s : State) (a : Nat) : State :=
  let r := s.fld (AN_OUT_CFG a) 1 0
  if r = s.fld (AN_STATUS a) 4 3 then s
  else ((s.setFld (AN_STATUS a) 4 3 r).setAnState a 2).setAna a { s.ana a with muteUntil := some (s.now + 1600) }
/-- The channel is PARKED, or FAULTED when its source half is faulted; a staged range applies at once when no play holds the source
half (R349, R352; log entry 94). -/
def State.parkAn (s : State) (a : Nat) : State :=
  if s.isFaulted 3 a then s.setAnState a 5
  else
  let s := (s.setAnState a 1).setAna a { s.ana a with muteUntil := none }
  if (s.awgOp a).isSome then s else s.takeRange a
/-- The fade of a channel is over; a pending request that differs takes its turn as a fade or, with no play, at once
(R361). -/
def State.fadeOver (s : State) (a : Nat) (playing : Bool) : State :=
  let u := s.ana a
  let s := (((s.setFld (AN_RS_STATUS a) 25 23 0).setFld (AN_RS_STATUS a) 16 0 0).event (AN_EVENTS a) 3)
  let bank := s.bitAt (AN_RS_STATUS a) 22
  match u.pend with
  | some (t, f) =>
    if t = bank then s.setAna a { u with pend := none, fadeEnd := none }
    else if playing then
      let e := u.fadeEnd.getD 0
      (((s.setAna a { u with pend := none, fadeStart := e, fadeEnd := some (e + f) }).setBitAt (AN_RS_STATUS a) 22 t).setBitAt
        (AN_RS_STATUS a) 23 true).setFld (AN_RS_STATUS a) 16 0 f
    else (s.setAna a { u with pend := none, fadeEnd := none }).setBitAt (AN_RS_STATUS a) 22 t
  | none => s.setAna a { u with fadeEnd := none }
/-- A play has given up the source half: a fade ends, the output takes its park code, and a stored range applies (R349, R352,
R361). -/
def State.awgFree (s : State) (a : Nat) : State :=
  let s := if (s.ana a).fadeEnd.isSome then s.fadeOver a false else s
  match s.anState a with
  | 3 | 4 => s.parkAn a
  | 1 => s.takeRange a
  | _ => s

end Sys2Proof.Machine
end

