-- ==== Sys2Proof/Machine/Life.lean ====
section
/-! DEFINITION. The life cycle of an operation (R82 to R101): dependencies, the conditions of R83, how its work begins and
ends, its completion record, and the stop requests that make it end early. -/

namespace Sys2Proof.Machine

/-! Where an operation stands. -/

/-- It holds, or is about to take, a run slot (R84). -/
def Op.slot (o : Op) : Bool :=
  o.opcode != 0xE && o.opcode != 0xF && (o.phase == .scheduled || o.phase == .running || (o.phase == .ended && o.started))
/-- PRIO_CLAMPED of the record (R86). -/
def Op.prioClamped (o : Op) : Bool := decide (o.eff < o.prio)
/-- Operations in ascending acceptance order. -/
def insertByAsn (o : Op) : List Op → List Op
  | [] => [o]
  | p :: ps => if o.asn < p.asn then o :: p :: ps else p :: insertByAsn o ps
/-- The operations in flight, in ascending acceptance sequence number. -/
def State.byAsn (s : State) : List Op := s.ops.foldr insertByAsn []
/-- SEQ of the next descriptor of a queue (R80). -/
def State.nextSeq (s : State) (q : Nat) : Nat := s.reg64 (WQ_NEXT_SEQ_LO q) (WQ_NEXT_SEQ_HI q)
/-- Operations of a queue in flight (WQ_INFLIGHT). -/
def State.queueOps (s : State) (q : Nat) : List Op := s.ops.filter (fun o => o.queue == q)
/-- A count advanced by one, modulo 2^32 (R68). -/
def wrapAdd (n k : Nat) : Nat := (n + k) % 2 ^ 32
/-- (a − b) mod 2^32. -/
def wrapSub (a b : Nat) : Nat := (a + 2 ^ 32 - b % 2 ^ 32) % 2 ^ 32

/-! Dependencies (R87). -/

/-- How an AFTER field of an operation stands now (R87). -/
def State.depNow (s : State) (o : Op) (i : Nat) : Dep :=
  let (q, n, ok) := o.after i
  if !bit (Desc.at o.desc 1 1) i then .absent
  else if (s.ops ++ s.heldRecs).any (fun p => p.queue == q && p.seq == n) then .pending
  else if !seqEarlier n (s.nextSeq q) then .pending
  else if !ok then .met
  else match s.kept.find? (fun k => k.queue == q && k.seq == n) with
    | some k => if k.status ≤ 1 then .met else .failed
    | none => .met
/-- A dependency once decided stays decided (R87). -/
def Dep.decide (old new : Dep) : Dep := if old == .pending then new else old
/-- The operation with its dependencies evaluated. -/
def State.evalDeps (s : State) (o : Op) : Op :=
  { o with dep0 := o.dep0.decide (s.depNow o 0), dep1 := o.dep1.decide (s.depNow o 1) }
/-- Condition 2 of R83. -/
def Op.depsMet (o : Op) : Bool := (o.dep0 == .absent || o.dep0 == .met) && (o.dep1 == .absent || o.dep1 == .met)
/-- A dependency has failed (R87). -/
def Op.depFailed (o : Op) : Bool := o.dep0 == .failed || o.dep1 == .failed

/-! Ends. -/

/-- The FOLLOW uploads of what an operation produces have seen its end (R323): the first PATTERN_RUN that names the site of a
Basin, or the ACQUIRE that a ring's upload follows. -/
def State.producerEnds (s : State) (o : Op) : State :=
  if o.opcode ≠ 1 ∧ o.opcode ≠ 0xA then s
  else
    let sites := ((s.cfg.active).map o.sites).getD []
    { s with ops := s.ops.map (fun (p : Op) => match p.work with
        | .upload u =>
          if bit (p.pay 1 1) 0 && (if o.opcode = 1 then p.pay 0 1 == 2 && sites.contains (p.pay 4 2) else u.producer == some o.asn)
          then { p with work := .upload { u with srcEnded := true } } else p
        | _ => p) }

/-- Place of the next end in the order of ends (R93): after every ended operation whose record is still to be written. -/
def State.nextEnd (s : State) : Nat := s.ops.foldl (fun m o => max m o.endNo) 0 + 1
/-- The work of an operation ends: its outcome is decided, its resources and reservations are free, and its record follows
(R82, R85, R414). -/
def State.endOpAt (s : State) (a status reason gcc detail : Nat) : State :=
  match s.op? a with
  | none => s
  | some o =>
    if o.phase = .ended then s
    else
      let s := s.setOp { o with phase := .ended, endNo := s.nextEnd, status := status, reason := reason, gcc := gcc,
                                detail := detail % 2 ^ 64, lastGcc := s.now, candSince := none, holding := false,
                                admitted := false, aborting := false, faulting := false }
      let s := (((s.producerEnds o).release 0 a).releaseReads a).forEach (s.resources o) (fun s r => match r with
        | .cluster k => (if o.started ∧ (o.opcode = 3 ∨ o.opcode = 5) then s.syncReset k else s).settleCommits k
        | .anSrc c => if o.opcode = 7 ∧ o.holds ∧ c < 16 then s.awgFree c else s
        | _ => s)
      let s := if status = 0xA then (s.incSat NRG_DENIED).event NRG_EVENTS 0 else s
      let other := fun (p : Op) => p.asn != a && p.phase != .ended && p.permitted && p.opcode == o.opcode && p.pay 0 1 == o.pay 0 1
      if o.opcode = 0xD ∧ o.permitted ∧ !s.ops.any other then s.mntEnd 6 (o.pay 0 1)
      else if o.opcode = 0xE ∧ o.permitted then s.mntEnd 1 0 else s
/-- The work ends now. -/
def State.endOp (s : State) (a status reason detail : Nat) : State := s.endOpAt a status reason s.now detail

/-- The operation runs from now on (R83). -/
def State.beginOp (s : State) (o : Op) : State :=
  s.setOp { o with phase := .running, started := true, startGcc := s.now, lastGcc := s.now }
/-- The work of an operation in flight takes a new value; it acted now (R124). -/
def State.setWork (s : State) (a : Asn) (w : Work) : State :=
  s.modOp a (fun o => { o with work := w, lastGcc := s.now })
/-- The progress marker of an operation (R109). -/
def State.setProgress (s : State) (a : Asn) (n : Nat) : State := s.modOp a (fun o => { o with progress := n, lastGcc := s.now })
/-- The running operation with an acceptance sequence number, of an opcode. -/
def State.running? (s : State) (a : Asn) (opc : Nat) : Option Op :=
  (s.op? a).bind (fun o => if o.phase == .running && o.opcode == opc then some o else none)
/-- Status of an end that was asked from outside: a host abort (R101) or a faulted resource (R122), else the given one. -/
def Op.endStatus (o : Op) (status : Nat) : Nat := if o.faulting then 6 else if o.aborting then 4 else status

/-- Waiting operations whose dependency has failed complete without starting (R87). -/
def State.settleDeps (s : State) : State :=
  let s : State := { s with ops := s.ops.map (fun (o : Op) => if o.phase = .waiting then s.evalDeps o else o) }
  s.forEach (s.ops.filter (fun (o : Op) => o.phase == .waiting && o.depFailed)) (fun (s : State) (o : Op) => s.endOp o.asn 9 0x80 0)

/-! Completion records. -/

/-- The 32 bytes of a completion record (R91). -/
def recordBytes (q seq phase status opc flags reason tag gcc detail : Nat) : List Byte :=
  leBytes 6 seq ++ leBytes 2 (q % 4096 + 32768 * phase) ++ leBytes 1 status ++ leBytes 1 opc ++ leBytes 1 flags ++
  leBytes 1 reason ++ leBytes 4 tag ++ leBytes 8 gcc ++ leBytes 8 detail
/-- PHASE of the record at a completion count (R94). -/
def phaseOf (m cqLog2 : Nat) : Nat := 1 - (m / 2 ^ cqLog2) % 2
/-- A ring of the queue has a free completion slot (R79, R134). -/
def State.cqRoom (s : State) (r : QRec) : Bool :=
  decide (wrapSub (s.reg (WQ_CQ_TAIL r.queue)).toNat (s.reg (WQ_CQ_HEAD r.queue)).toNat < 2 ^ r.cqLog2)
/-- A record of a queue goes into its completion ring, CQ_TAIL advances, and with NOTIFY a copy leaves (R92, R94, R98). -/
def State.putRecord (s : State) (r : QRec) (bytes : Nat → List Byte) : State :=
  let m := (s.reg (WQ_CQ_TAIL r.queue)).toNat
  let bs := bytes (phaseOf m r.cqLog2)
  let s := s.writeBytes (r.cqBase + 32 * (m % 2 ^ r.cqLog2)) bs
  let s := s.setReg (WQ_CQ_TAIL r.queue) (BitVec.ofNat 32 (m + 1))
  if s.bitAt (WQ_IRQ_EN r.queue) 8 ∧ s.bitAt (WQ_NOTIFY_EP r.queue) 15 then
    s.send (s.fld (WQ_NOTIFY_EP r.queue) 9 0) 2 0x20 0 0 0 r.queue bs clean
  else s
/-- FLAGS of a record (R91). -/
def Op.recordFlags (o : Op) : Nat :=
  (if o.started then 1 else 0) + (if o.resumed then 2 else 0) + (if o.prioClamped then 4 else 0)

/-- Completion records may be written: no warm reset is in progress, and no power-fail sequence has begun (R125, R129). -/
def State.recordsFlow (s : State) : Bool := s.aon.resetting == 0 && !s.bitAt WKE_STATUS 3

/-- Reservations that an operation has kept over a warm reset are released with its record (R420). A step of a DPS_SEQUENCE has
the site and the operation in its index. -/
def State.releaseKept (s : State) (a : Asn) : State :=
  let s := (s.release 0 a).releaseReads a
  s.forEach (s.gov.resvs.filter (fun r => r.kind == 1 && r.ix / 256 == a)) (fun s r => s.release 1 r.ix)
/-- The completion record of an ended operation is written; the operation leaves flight (R92, R87, R98, R420, R421). -/
def State.writeRecord (s : State) (o : Op) (r : QRec) : State :=
  let s := s.releaseKept o.asn
  let m := (s.reg (WQ_CQ_TAIL r.queue)).toNat
  let fl := o.recordFlags
  let s := s.putRecord r (fun ph => recordBytes o.queue o.seq ph o.status o.opcode fl o.reason o.tag o.gcc o.detail)
  let s := if o.irq then s.wqEvent o.queue 0 else s
  let s := if o.opcode = 0xE then s else s.refine o
  let s : State := { s with ops := s.ops.filter (fun (p : Op) => p.asn != o.asn), kept := s.kept ++ [⟨o.queue, o.seq, o.status, m⟩] }
  s.settleDeps

/-! Conditions of R83. -/

/-- Condition 1: queue order. -/
def State.queueOrderOk (s : State) (o : Op) : Bool :=
  let earlier := (s.queueOps o.queue).filter (fun p => p.asn < o.asn)
  let strict := ((s.queueRec o.queue).map QRec.mode).getD 0 == 0
  !earlier.any (fun p => p.opcode == 0xF) &&
  (if strict then earlier.isEmpty
   else !earlier.any (fun p => (s.resources p).any (fun r => (s.resources o).contains r)))
/-- Condition 3: no earlier CONFIG_SWAP and no earlier BARRIER of scope DEVICE is incomplete. A CONFIG_SWAP that succeeded
holds nothing back from its swap tick on (R41; log entry 34). -/
def State.deviceOrderOk (s : State) (o : Op) : Bool :=
  !s.ops.any (fun p => p.asn < o.asn && ((p.opcode == 0xE && !(p.phase == .ended && p.status == 0)) || (p.opcode == 0xF && p.pay 0 1 == 1)))
/-- Conditions 1 to 3, at which R27 is judged. -/
def State.ordered (s : State) (o : Op) : Bool := s.queueOrderOk o && o.depsMet && s.deviceOrderOk o

/-- Every resource of a set is free of other operations (R85). -/
def State.resFree (s : State) (a : Asn) (rs : List Res) : Bool :=
  !(s.ops.any (fun p => p.asn != a && p.holds && (s.resources p).any rs.contains)) && !(s.autoHeld.any rs.contains)
/-- A sequencer takes no routine: its store is being restored, or a LOAD writes it (R429, R458). -/
def State.msqClosed (s : State) (m : Nat) : Bool :=
  (s.msq m).restoring || (match s.sec.load with
    | some x => bit x.1 m
    | none => false)
/-- Condition 5: its islands are ON and hold the active generation, a calibration has the interlock's permission, and a
sequencer can take a routine. -/
def State.islandsOk (s : State) (o : Op) : Bool :=
  (s.islandsOf o).all (fun i => s.islandMode i == 0 && !s.stale i) &&
  (o.opcode != 0xD || s.mntRuns 6 (o.pay 0 1)) && (o.opcode != 0xC || !s.msqClosed (o.pay 0 1))
/-- Condition 7: a run slot is free (R84). -/
def State.slotFree (s : State) (o : Op) : Bool :=
  o.opcode == 0xE || o.opcode == 0xF || decide ((s.ops.filter Op.slot).length < 1024)
/-- A timed operation is no candidate before its check point (R415). -/
def State.checkPassed (s : State) (o : Op) : Bool := o.startField == 0 || decide (o.startField ≤ s.now + 3200)
/-- Dispatch runs: the device is ACTIVE, a set is active, no hub fault and no unresolved mismatch (R113), and TREF is valid
(R154: waiting operations stay waiting; log entry 33). -/
def State.dispatching (s : State) : Bool :=
  s.deviceState == 1 && s.cfg.active.isSome && s.counting && !s.cont.mismatch && !s.bitAt MEM_CONT_STATUS 3
/-- Conditions of R83 apart from energy and the second half of condition 4. -/
def State.bareOk (s : State) (o : Op) : Bool :=
  o.phase == .waiting && s.dispatching && s.ordered o && s.resFree o.asn (s.resources o) && s.islandsOk o && s.slotFree o &&
  s.checkPassed o
/-- The candidates of R415 in acceptance order: the bare conditions hold, and no earlier waiting operation of the same or a
higher class needs a member of the resource set, unless it is itself a candidate (R416 lets later ones pass it). -/
def State.candidates (s : State) : List Asn :=
  (s.byAsn.foldl (fun (acc : List Op × List Asn) o =>
    if o.phase != .waiting then acc
    else
      let rs := s.resources o
      let blocked := acc.1.any (fun w => o.eff ≤ w.eff && (s.resources w).any rs.contains)
      if s.bareOk o && !blocked then (acc.1, acc.2 ++ [o.asn]) else (acc.1 ++ [o], acc.2)) ([], [])).2

end Sys2Proof.Machine
end

