-- ==== Sys2Proof/Machine/Events.lean ====
section
/-! DEFINITION. Source events of the cross-trigger bus (R309 to R313, R515). -/

namespace Sys2Proof.Machine

/-- What a meaning answers: the command completes with a next state. -/
abbrev Out := Host.Outcome State Fault Refusal

/-- The state that a meaning answers. -/
def State.took (s : State) : Out → State
  | .next t => t
  | _ => s
/-- The block that holds an address belongs to an island that is not ON (R536). -/
def State.asleepAt (s : State) (a : Nat) : Bool :=
  match islandOfAddr a with
  | some i => s.islandMode i != 0
  | none => false
/-- A register write whose meaning is `f`: to a block of an island that is not ON it is discarded (R536). -/
def State.gated (s : State) (path : Path) (a : Nat) (f : State → Out) : Out :=
  if s.asleepAt a then .next (s.rangeFlag path a) else f s

/-- Mode of a trigger line: 0 OFF, 1 LOCAL, 2 SYSTEM (R309). -/
def State.lineMode (s : State) (l : Nat) : Nat := s.trg.modes.getD l 0
/-- Flags of a trigger line: bit 0 AUTO_REARM, bit 1 ARM_AT_SWAP (R315). -/
def State.lineFlags (s : State) (l : Nat) : Nat := s.trg.flags.getD l 0
/-- An event is on its way to its fire tick; one that is late fires on the next TREF edge (R160, R310). -/
def State.addFire (s : State) (l due : Nat) (system : Bool) : State :=
  if s.now ≤ due then { s with trg := { s.trg with fires := s.trg.fires ++ [⟨l, due, system⟩] } }
  else
    let s := (s.incSat GLB_TB_LATE_EVENTS).event GLB_TB_EVENTS 4
    { s with trg := { s.trg with fires := s.trg.fires ++ [⟨l, s.now + 1, system⟩] } }
/-- A source event on a line with source tick t (R310, R515). -/
def State.lineEvent (s : State) (l t : Nat) : State :=
  match s.lineMode l with
  | 1 => s.addFire l (t + 32) false
  | 2 => (if s.chipNum.isSome then s.broadcast 0x40 l t else s).addFire l (t + s.fld GLB_TB_XLAT 15 0) true
  | _ => s
/-- A source event of a kind and unit, on every line whose TRIGGER_MATRIX names it (R313). -/
def State.source (s : State) (kind unit arg t : Nat) : State :=
  match s.cfg.active with
  | none => s
  | some g =>
    s.forEach (g.triggers.sources.filter (fun e => e.kind == kind && e.unit == unit && e.arg == arg))
      (fun s e => s.lineEvent e.line t)
/-- The line is armed. -/
def State.armed (s : State) (l : Nat) : Bool := s.bitAt XTB_STATUS l
/-- The line is within its re-arm time. -/
def State.rearming (s : State) (l : Nat) : Bool := s.bitAt XTB_STATUS (16 + l)

end Sys2Proof.Machine
end

