-- ==== Sys2Proof/Machine/Basins.lean ====
section
/-! DEFINITION. What is captured and how it leaves: Basin headers (R290 to R296), the records that a ring holds (R303 to
R308), and UPLOAD (R320 to R326). -/

namespace Sys2Proof.Machine

/-! Basins. -/

/-- The Basin of a site under the active set. -/
def State.basinOf (s : State) (site : Nat) : Option Region := s.cfg.active.bind (fun g => g.basin site)
/-- High-water count H (R290). -/
def basinH (r : Region) : Nat := max 1 (r.hwm * basinCap r / 256)
/-- A header field of a Basin: offset and width (R290). -/
def State.bhead (s : State) (r : Region) (off n : Nat) : Nat := s.le (r.base + off) n
/-- A header field takes a value. -/
def State.setBhead (s : State) (r : Region) (off n v : Nat) : State := s.writeBytes (r.base + off) (leBytes n v)
/-- A header count rises. -/
def State.bumpBhead (s : State) (r : Region) (off k : Nat) : State := s.setBhead r off 8 (s.bhead r off 8 + k)
/-- A header flag sets: 0 HWM_REACHED, 1 FULL, 2 FEED_OVERFLOW, 3 HALTED. -/
def State.setBflag (s : State) (r : Region) (b : Nat) : State := s.setBhead r 0x29 1 (setBit (s.bhead r 0x29 1) b)
/-- A Basin is cleared: counts and flags 0, CLEAR_GCC the present GCC, the site's XTB bits clear (R296). -/
def State.clearBasin (s : State) (r : Region) : State :=
  let s := (((s.setBhead r 0 8 0).setBhead r 8 8 0).setBhead r 0x10 8 0).setBhead r 0x18 8 0
  let s := (s.setBhead r 0x29 1 0).setBhead r 0x30 8 s.now
  let s : State := { s with basinGaps := s.basinGaps.filter (fun x => x.1 != r.owner) }
  (s.setMaskBit (XTB_BASIN_HWM 0) r.owner false).setMaskBit (XTB_BASIN_STOP 0) r.owner false
/-- A Basin of a new set starts cleared, with its constant header fields (R290, R297). -/
def State.newBasin (s : State) (r : Region) : State :=
  let s := s.writeBytes r.base (List.replicate 4096 0)
  let s := ((s.setBhead r 0x20 4 (basinCap r)).setBhead r 0x24 4 (basinH r)).setBhead r 0x28 1 r.mode
  (s.setBhead r 0x2A 2 r.owner).clearBasin r
/-- An UPLOAD that reads the Basin of a site is running. -/
def State.basinRead (s : State) (site : Nat) : Bool :=
  s.ops.any (fun o => o.phase == .running && o.opcode == 0xB && o.pay 0 1 == 2 && o.pay 4 2 == site)
/-- A running PATTERN_RUN names the site. -/
def State.basinRun (s : State) (site : Nat) : Bool :=
  s.ops.any (fun o => o.phase == .running && o.opcode == 1 && (match s.cfg.active with
    | some g => (o.sites g).contains site
    | none => false))
/-- CLEAR is permitted (R296). -/
def State.mayClear (s : State) (site : Nat) : Bool := !s.basinRun site && !s.basinRead site

/-! Rings. -/

/-- Records of a ring in the order of R308: closed frames, then the frame in progress. -/
def Ring.all (r : Ring) : List (BitVec 130) := r.closed.flatten ++ r.recs
/-- The oldest `n` records leave a ring. -/
def Ring.drop (r : Ring) (n : Nat) : Ring :=
  let rec go : Nat → List (List (BitVec 130)) → List (BitVec 130) → List (List (BitVec 130)) × List (BitVec 130)
    | n, [], cur => ([], cur.drop n)
    | n, f :: fs, cur => if f.length ≤ n then go (n - f.length) fs cur else (f.drop n :: fs, cur)
  let p := go n r.closed r.recs
  let b := r.base + n
  { r with closed := p.1, recs := p.2, base := b, pos := max r.pos b, past := r.past && decide (b ≤ r.pos),
           mark := match r.mark with
             | some m => if m < b then none else some m
             | none => none }
/-- A bit of record i flips in a list of frames. -/
def flipIn : List (List (BitVec 130)) → Nat → Nat → List (List (BitVec 130))
  | [], _, _ => []
  | f :: fs, i, b => if i < f.length then f.modify i (fun r => r ^^^ BitVec.ofNat 130 (2 ^ b)) :: fs else f :: flipIn fs (i - f.length) b
/-- A soft error flips a bit of the record that stands at a place from the oldest (R306; log entry 84). -/
def Ring.flip (r : Ring) (i b : Nat) : Ring :=
  let l := flipIn (r.closed ++ [r.recs]) i b
  { r with closed := l.dropLast, recs := l.getLast?.getD [] }
/-- The ring of a cluster. -/
def State.ring (s : State) (k : Nat) : Ring := (s.clu k).ring
/-- The ring of a cluster takes a value. -/
def State.setRing (s : State) (k : Nat) (r : Ring) : State := s.setClu k { s.clu k with ring := r }
/-- Soft errors have flipped bits of a ring: record from the oldest, and bit. -/
def State.upsetRing (s : State) (k : Nat) (l : List (Nat × Nat)) : State :=
  if l.isEmpty then s else s.setRing k (l.foldl (fun r e => r.flip e.1 e.2) (s.ring k))
/-- The ACQUIRE that holds a ring. -/
def State.ringOp (s : State) (k : Nat) : Option Op := (s.ring k).asn.bind s.op?
/-- A TRIGGERED ACQUIRE holds the ring. -/
def State.ringTriggered (s : State) (k : Nat) : Bool := match s.ringOp k with
  | some o => o.pay 2 1 == 0
  | none => false

/-! UPLOAD. -/

/-- Bytes of an item (R324). -/
def uplItem (o : Op) : Nat := if o.pay 0 1 = 1 then 64 else if o.pay 0 1 = 2 then 32 else 16
/-- FOLLOW flag. -/
def uplFollow (o : Op) : Bool := bit (o.pay 1 1) 0
/-- Items that the staging FIFO holds (R320, R324). -/
def uplCap (o : Op) : Nat := 2 ^ o.pay 3 1 / uplItem o
/-- Items waiting or in flight. -/
def UplWork.held (w : UplWork) : Nat := w.fifo.length + (w.flight.map List.length).sum
/-- Bytes of a list of items. -/
def itemBytes (l : List UplItem) : Nat := (l.map (fun i => i.bytes.length)).sum
/-- Parity of 64-bit word j of a list of bytes. -/
def wordParity (bs : List Byte) (j : Nat) : Bool := oddOnes (leNat ((bs.drop (8 * j)).take 8)) 64
/-- An item as the staging FIFO keeps it: parity per 64-bit word, and the poison tags of its words (R324). -/
def stagedItem (ix : Nat) (bytes : List Byte) (pois : Nat) : UplItem :=
  { ix := ix, bytes := bytes, par := maskOf 8 (wordParity bytes), pois := pois }
/-- Words of an item that are sent with a poison tag: those that came with one, and those that fail their parity check (R306,
R324). -/
def UplItem.tags (i : UplItem) : Nat := maskOf 8 (fun j => bit i.pois j || wordParity i.bytes j != bit i.par j)
/-- A soft error flips a bit of the staging FIFO: byte from its oldest unsent one, and bit (R324; log entry 84). -/
def flipStaged : List UplItem → Nat → Nat → List UplItem
  | [], _, _ => []
  | i :: l, n, b =>
    if n < i.bytes.length then { i with bytes := i.bytes.modify n (fun x => x ^^^ BitVec.ofNat 8 (2 ^ b)) } :: l
    else i :: flipStaged l (n - i.bytes.length) b
/-- Poison tags by 64-bit word of bytes in the store. -/
def State.poisonWords (s : State) (a n : Nat) : Nat := maskOf 8 (fun j => decide (8 * j < n) && s.poisonIn (a + 8 * j) (min 8 (n - 8 * j)))
/-- The UPLOAD with an acceptance sequence number, while it runs. -/
def State.uplOf (s : State) (a : Asn) : Option (Op × UplWork) :=
  match s.running? a 0xB with
  | some o => match o.work with
    | .upload w => some (o, w)
    | _ => none
  | none => none
/-- The work of an UPLOAD takes a new value. -/
def State.setUpl (s : State) (a : Asn) (w : UplWork) : State := s.setWork a (.upload w)
/-- An item enters the staging FIFO of a FOLLOW upload; a full FIFO loses its oldest unsent item. With the transfer of every item
begun the entering one is lost, since the source never waits (R323, R324; log entry 128). -/
def State.enterItem (s : State) (a : Asn) (bytes : List Byte) (pois : Nat) : State :=
  match s.uplOf a with
  | none => s
  | some (o, w) =>
    let it := stagedItem w.next bytes pois
    if w.held < uplCap o then s.setUpl a { w with fifo := w.fifo ++ [it], next := w.next + 1 }
    else
      let kept := if w.fifo.isEmpty then [] else w.fifo.drop 1 ++ [it]
      ((s.setUpl a { w with fifo := kept, next := w.next + 1, lost := w.lost + 1 }).incSat XTB_UPL_LOST).event XTB_EVENTS 19
/-- Item i of the source of an UPLOAD: its bytes and the poison tags of its words (R306, R322). -/
def State.sourceItem (s : State) (o : Op) (i : Nat) : List Byte × Nat :=
  match o.pay 0 1 with
  | 1 => let n := min 64 (o.pay 0x18 4 - 64 * i)
    (s.bytes (o.pay 0x10 8 + 64 * i) n, s.poisonWords (o.pay 0x10 8 + 64 * i) n)
  | 2 => match s.basinOf (o.pay 4 2) with
    | some r => let a := r.base + 4096 + 32 * (o.pay 0x10 8 + i)
      (s.bytes a 32, s.poisonWords a 32)
    | none => ([], 0)
  | _ => let r := (s.ring (o.pay 4 2)).all.headD 0
    (leBytes 16 (recordBits r), badWords r)
/-- The source is read while the FIFO has room, `n` items at most (R322). -/
def State.fillUpload (s : State) (a : Asn) (o : Op) : Nat → State
  | 0 => s
  | n + 1 =>
    match s.uplOf a with
    | none => s
    | some (_, w) =>
      if uplFollow o || w.limit ≤ w.next || uplCap o ≤ w.held then s
      else
        let it := s.sourceItem o w.next
        let s' := s.setUpl a { w with fifo := w.fifo ++ [stagedItem w.next it.1 it.2], next := w.next + 1,
                                      srcEnded := w.next + 1 == w.limit }
        (if o.pay 0 1 = 3 then s'.setRing (o.pay 4 2) ((s'.ring (o.pay 4 2)).drop 1) else s').fillUpload a o n
/-- Items that a FOLLOW upload has not read yet enter as they appear (R323): records of a Basin in index order, records of a
ring from the oldest; `n` items at most. -/
def State.followUpload (s : State) (a : Asn) (o : Op) : Nat → State
  | 0 => s
  | n + 1 =>
    match s.uplOf a with
    | none => s
    | some (_, w) =>
      if !uplFollow o then s
      else if o.pay 0 1 = 2 then
        match s.basinOf (o.pay 4 2) with
        | some r =>
          let i := o.pay 0x10 8 + w.next
          if i < s.bhead r 0 8 then
            let it := s.sourceItem o w.next
            (s.enterItem a it.1 it.2).followUpload a o n
          else s
        | none => s
      else
        match (s.ring (o.pay 4 2)).all with
        | [] => s
        | _ :: _ =>
          let it := s.sourceItem o w.next
          ((s.enterItem a it.1 it.2).setRing (o.pay 4 2) ((s.ring (o.pay 4 2)).drop 1)).followUpload a o n
/-- Every FOLLOW upload of a source takes what has appeared there: kind 2 a Basin, 3 a ring. -/
def State.feedUploads (s : State) (kind unit n : Nat) : State :=
  s.forEach (s.ops.filter (fun o => o.phase == .running && o.opcode == 0xB && o.pay 0 1 == kind && o.pay 4 2 == unit))
    (fun s o => s.followUpload o.asn o n)
/-- DETAIL of UPLOAD (R325). -/
def uplDetail (w : UplWork) (cleared : Bool) : Nat :=
  w.delivered % 2 ^ 40 + 2 ^ 40 * min w.lost (2 ^ 22 - 1) + (if cleared then 2 ^ 62 else 0)
/-- An UPLOAD ends: its ring is no longer read, and CLEAR_AFTER clears its Basin where R325 and R296 permit. -/
def State.endUpload (s : State) (o : Op) (w : UplWork) (status reason : Nat) : State :=
  let k := o.pay 4 2
  let s := if o.pay 0 1 = 3 ∧ (s.ring k).uploader = some o.asn then
      (s.setRing k { s.ring k with uploader := none }).setBitAt (ACQ_STATUS k) 5 false
    else s
  let clear : Bool := match s.basinOf k with
    | some r => bit (o.pay 1 1) 1 && w.lost == 0 && o.pay 0x10 8 == 0 && s.bhead r 0 8 == w.delivered / 32 &&
        !s.basinRun k && !s.ops.any (fun p => p.asn != o.asn && p.phase == .running && p.opcode == 0xB && p.pay 0 1 == 2 &&
          p.pay 4 2 == k)
    | none => false
  let s := match s.basinOf k with
    | some r => if clear then s.clearBasin r else s
    | none => s
  s.endOp o.asn status reason (uplDetail w clear)
/-- A stop or a flush finds an item partly in the staging FIFO, or none: an open choice while the source has not ended. Such an
item is discarded whole and counted (R326; log entry 129). -/
def State.flushPartial (s : State) (w : UplWork) : State :=
  if w.srcEnded then s
  else
    let p := s.fresh 1
    if p.1 = 1 then p.2.incSat XTB_FLUSH_PARTIAL else p.2
/-- The UPLOAD has delivered all it will deliver (R322, R323). -/
def uplDone (o : Op) (w : UplWork) : Bool :=
  (w.srcEnded && w.fifo.isEmpty && w.flight.isEmpty) ||
  (uplFollow o && o.pay 0x18 4 != 0 && o.pay 0x18 4 ≤ w.delivered && w.flight.isEmpty)
/-- The UPLOAD completes when its data is delivered, or when it was asked to stop and nothing is in flight (R325, R326). -/
def State.settleUpload (s : State) (a : Asn) : State :=
  match s.uplOf a with
  | none => s
  | some (o, w) =>
    if (o.aborting || o.faulting) && w.flight.isEmpty then (s.flushPartial w).endUpload o w (o.endStatus 4) 0
    else if uplDone o w then s.endUpload o w (if w.poison then 0xE else 0) 0
    else s

/-- Endpoint of an UPLOAD as it starts, if it has one (R320). -/
def State.uplEndpoint (s : State) (o : Op) : Option Nat :=
  if o.pay 6 2 = 0xFFFF then
    (if s.bitAt (WQ_NOTIFY_EP o.queue) 15 then some (s.fld (WQ_NOTIFY_EP o.queue) 9 0) else none)
  else some (o.pay 6 2)
/-- An endpoint can be reached (R325, R512). -/
def State.reachable (s : State) (e : Nat) : Bool := s.chipNum == some e || (s.routePort e).isSome
/-- UPLOAD starts (R320 to R323). -/
def startUpload (s : State) (o : Op) : State :=
  let k := o.pay 4 2
  if o.pay 0 1 = 3 ∧ ((s.ring k).uploader.isSome ∨ s.ringTriggered k) then s.endOp o.asn 9 1 0
  else match s.uplEndpoint o with
    | none => s.endOp o.asn 9 2 0
    | some e =>
      let len := o.pay 0x18 4
      let limit := match o.pay 0 1 with
        | 1 => ceilDiv len 64
        | 2 => match s.basinOf k with
          | some r => min (len / 32) (s.bhead r 0 8 - o.pay 0x10 8)
          | none => 0
        | _ => min (len / 16) (s.ring k).all.length
      let w : UplWork := { (default : UplWork) with ep := e, limit := limit, srcEnded := !uplFollow o && limit == 0,
                                                    producer := (s.ring k).asn }
      let s := (s.beginOp o).setUpl o.asn w
      let s := if o.pay 0 1 = 3 then (s.setRing k { s.ring k with uploader := some o.asn }).setBitAt (ACQ_STATUS k) 5 true else s
      if !s.reachable e then s.endUpload o w 9 2
      else
        let s := if uplFollow o then s.followUpload o.asn o (2 ^ 24) else s.fillUpload o.asn o (uplCap o)
        s.settleUpload o.asn

/-- The items of the next packet: whole items, 4,096 bytes at most (R324). -/
def packetItems (o : Op) (w : UplWork) : List UplItem :=
  let room := if uplFollow o ∧ o.pay 0x18 4 ≠ 0 then
      o.pay 0x18 4 - (w.delivered + (w.flight.map itemBytes).sum) else 4096
  w.fifo.take (min room 4096 / uplItem o)
/-- UPLOAD_PACKET: a packet of whole items leaves once CUT × 128 bytes wait or the source has ended. Each word is checked as it is
sent; `upsets` are the soft errors that the waiting items have taken: byte and bit (R324). -/
def execUploadPacket (a : Asn) (upsets : List (Nat × Nat)) (s : State) : Out :=
  match s.uplOf a with
  | none => .next s
  | some (o, w0) =>
    let w : UplWork := { w0 with fifo := upsets.foldl (fun l e => flipStaged l e.1 e.2) w0.fifo }
    let s := s.setUpl a w
    if s.aon.resetting ≠ 0 then .next s
    else if o.aborting || o.faulting then .next (s.settleUpload a)
    else if !s.reachable w.ep then .next (s.endUpload o w 9 2)
    else if itemBytes w.fifo < o.pay 2 1 * 128 && !w.srcEnded then .next s
    else
      let it := if o.pay 0 1 = 1 then w.fifo.take 64 else packetItems o w
      if it.isEmpty then .next (s.settleUpload a)
      else
        let bs := (it.map UplItem.bytes).flatten
        let pois := it.flatMap (fun i => (List.range i.bytes.length).map (fun n => bit i.tags (n / 8)))
        let ad := o.pay 8 8 + w.delivered + (w.flight.map itemBytes).sum
        let s := s.setUpl a { w with fifo := w.fifo.drop it.length, flight := w.flight ++ [it] }
        let s := s.send w.ep 3 0x30 0 (a % 2 ^ 16) 0 ad bs (fun i => pois.getD i false)
        .next (if uplFollow o then s else s.fillUpload a o (uplCap o))

/-- UPLOAD_ACK: the oldest packet in flight is delivered (R324, R325). -/
def execUploadAck (a : Asn) (s : State) : Out :=
  match s.uplOf a with
  | none => .next s
  | some (o, w) =>
    match w.flight with
    | [] => .next (if s.aon.resetting = 0 then s.settleUpload a else s)
    | p :: rest =>
      let n := w.delivered + itemBytes p
      let s := s.setUpl a { w with flight := rest, delivered := n, poison := w.poison || p.any (fun i => i.tags != 0) }
      let s := s.setProgress a n
      .next ((if uplFollow o then s else s.fillUpload a o (uplCap o)).settleUpload a)

end Sys2Proof.Machine
end

