-- ==== Sys2Proof/Machine/Acquire.lean ====
section
/-! DEFINITION. Change-only acquisition (R298 to R308): the rings, the frames of a triggered acquisition, and the commands
that read a ring. Frame states: 0 PRE, 1 POST, 2 REARM, 3 the ring has ended. -/

namespace Sys2Proof.Machine

/-! Fields of an ACQUIRE payload (R298). -/

def acqStream (o : Op) : Bool := o.pay 2 1 == 1
/-- Records of a frame, F, and POST after its clamp (R303). -/
def acqF (o : Op) : Nat := 16384 / 2 ^ o.pay 5 1
def acqPost (o : Op) : Nat := min (o.pay 0x18 4) (acqF o)
/-- Pre-trigger depth D (R303). -/
def acqDepth (o : Op) : Nat := acqF o - acqPost o
/-- POST was clamped (R303). -/
def acqClamped (o : Op) : Bool := !acqStream o && decide (acqF o < o.pay 0x18 4)
/-- Rings that the operation names. -/
def acqRings (o : Op) : List Nat := bitsOf (o.pay 0 2) 16
/-- Sample k is taken at this instant, in fine units (R300). -/
def acqInstant (o : Op) (k : Nat) : Nat := o.startGcc * 4096 + k * o.pay 0x14 4
/-- GCC of the end by DURATION, if there is one (R307). -/
def acqLimit (o : Op) : Option Nat := if o.pay 0x1C 4 = 0 then none else some (o.startGcc + o.pay 0x1C 4)

/-- ACQUIRE starts: every named ring is free, discards its records and samples from now on (R299, R300). -/
def startAcquire (s : State) (o : Op) : State :=
  if (acqRings o).any (fun k => (s.ring k).asn.isSome || (s.ring k).uploader.isSome) then s.endOp o.asn 9 2 0
  else
    let s := (s.beginOp o).setWork o.asn
      (.acquire { a := s.now, records := 0, valid := 0, clamped := acqClamped o, tagEnd := false, closed := [] })
    s.forEach (acqRings o) (fun s k =>
      let s := s.setRing k { (default : Ring) with asn := some o.asn, matched := true }
      let s := s.forEach (List.range 64) (fun s i => s.setReg (ACQ_FR k i) 0)
      let s := (s.setReg (ACQ_LOST k) 0).setReg (ACQ_MISSED k) 0
      s.setReg (ACQ_STATUS k) (BitVec.ofNat 32 (1 + (if acqStream o then 2 else 0) + (if acqClamped o then 8 else 0))))

/-! Records. -/

/-- An acquisition record (R301), as the ring keeps it. -/
def acqRecord (ttag flags seq states : Nat) : BitVec 130 :=
  withParity (BitVec.ofNat 128 (ttag % 2 ^ 40 + 2 ^ 40 * flags + 2 ^ 48 * (seq % 65536) + 2 ^ 64 * (states % 2 ^ 64)))
/-- ACQ_FR word of the frame in progress (R304). -/
def Ring.frWord (r : Ring) (short valid : Bool) : Word :=
  BitVec.ofNat 32 ((if valid then r.pre else r.recs.length) + 2 ^ 15 * r.post + (if short then 2 ^ 30 else 0) +
    (if valid then 2 ^ 31 else 0))
/-- PRE_SHORT of the frame in progress. -/
def Ring.short (r : Ring) (o : Op) : Bool := r.st != 0 && decide (r.pre < acqDepth o)
/-- The operation has written one more record (R307). -/
def State.countRecord (s : State) (o : Op) (valid : Nat) : State :=
  match o.work with
  | .acquire w =>
    (s.setWork o.asn (.acquire { w with records := w.records + 1, valid := w.valid + valid })).setProgress o.asn (w.records + 1)
  | _ => s
/-- A record enters the FIFO of a STREAM ring; a full one loses its oldest record, which is counted when it has not been
read (R305; log entry 23). -/
def State.streamRecord (s : State) (k : Nat) (b : BitVec 130) : State :=
  let r := s.ring k
  if r.recs.length < 16384 then s.setRing k { r with recs := r.recs ++ [b], seq := r.seq + 1 }
  else
    let unread := decide (r.pos < r.base) || (r.pos == r.base && !r.past)
    let s := s.setRing k { (r.drop 1) with recs := r.recs.drop 1 ++ [b], seq := r.seq + 1 }
    if unread then (s.incSat (ACQ_LOST k)).event (ACQ_EVENTS k) 2 else s
/-- The frame in progress closes VALID and waits in REARM (R303). -/
def State.closeFrame (s : State) (k : Nat) (o : Op) (g : Nat) : State :=
  let r := s.ring k
  let s := s.setReg (ACQ_FR k r.frame) (r.frWord (r.short o) true)
  let s := (s.setRing k { r with st := 2, rearmAt := g + 64 }).setBitAt (ACQ_STATUS k) 2 true
  s.event (ACQ_EVENTS k) 1
/-- A ring of an ACQUIRE writes a record at GCC g (R302, R303, R305). `flags`: 1 FIRST, 2 TRIGGER, 4 CHANGE. -/
def State.acqWrite (s : State) (k : Nat) (o : Op) (g ttag flags : Nat) : State :=
  let r := s.ring k
  let b := acqRecord ttag flags r.seq r.lastStates
  let s := if flags = 2 then s.event (ACQ_EVENTS k) 0 else s
  if acqStream o then (((s.streamRecord k b).countRecord o 0)).feedUploads 3 k (2 ^ 24)
  else if r.st = 0 ∧ flags ≠ 2 then
    let all := r.recs ++ [b]
    let r' := { r with recs := all.drop (all.length - acqDepth o), seq := r.seq + 1 }
    ((s.setRing k r').setReg (ACQ_FR k r.frame) (r'.frWord false false)).countRecord o 0
  else
    let r' : Ring := if flags = 2 then
        { r with recs := r.recs ++ [b], seq := r.seq + 1, st := 1, pre := r.recs.length, post := 1, postLeft := acqPost o - 1 }
      else { r with recs := r.recs ++ [b], seq := r.seq + 1, post := r.post + 1, postLeft := r.postLeft - 1 }
    let s := (s.setRing k r').setReg (ACQ_FR k r.frame) (r'.frWord (r'.short o) false)
    if r'.postLeft = 0 then (s.closeFrame k o g).countRecord o 1 else s.countRecord o 0

/-- State codes of a sample of a cluster under an ACQUIRE, from the ball voltages of its pins in µV (R195, R300). -/
def State.acqCodes (s : State) (k : Nat) (o : Op) (volts : List Int) : Nat × State :=
  (List.range 32).foldl (fun (p : Nat × State) j =>
    let c := 32 * k + j
    let here := bit (o.pay 0x10 4) j && (s.liveMode c == 1 || s.liveMode c == 3) &&
      (match s.cfg.active.bind (fun g => g.siteOfCh c) with
        | some n => !s.absent n
        | none => false)
    if here then
      let q := p.2.compare c (volts.getD j 0)
      (p.1 + q.1 * 4 ^ j, q.2)
    else (p.1 + 3 * 4 ^ j, p.2)) (0, s)
/-- ACQ_MATCH holds at a sample (R313). -/
def State.acqMatches (s : State) (k codes : Nat) : Bool :=
  (bitsOf (s.reg (ACQ_MATCH_CARE k)).toNat 32).all (fun j =>
    codes / 4 ^ j % 4 == (if (s.reg (ACQ_MATCH_HIGH k)).getLsbD j then 2 else 1))
/-- A ring ends (R303, R307). -/
def State.endRing (s : State) (k : Nat) : State := (s.setRing k { s.ring k with st := 3 }).setBitAt (ACQ_STATUS k) 2 false
/-- The ring of a cluster ends with TAG_END (R302). -/
def State.tagEndRing (s : State) (k : Nat) (o : Op) : State :=
  let s := (s.endRing k).setBitAt (ACQ_STATUS k) 4 true
  match o.work with
  | .acquire w => s.setWork o.asn (.acquire { w with tagEnd := true })
  | _ => s

/-- ACQ_SAMPLE: the next sample of a ring that acquires. `volts` holds the ball voltage of each local pin in µV, and `upsets` the
soft errors that the ring has taken (R195, R300 to R303, R305, R306, R313). -/
def execAcqSample (cluster : Nat) (volts : List Int) (upsets : List (Nat × Nat)) (s : State) : Out :=
  let s := s.upsetRing cluster upsets
  let r := s.ring cluster
  match s.ringOp cluster with
  | none => .next s
  | some o =>
    let e := acqInstant o r.k
    let due : Bool := match acqLimit o with
      | some g => decide (g * 4096 ≤ e)
      | none => false
    if r.st = 3 ∨ due ∨ o.aborting ∨ o.faulting then .next s
    else
      let s := s.advanceTo (e / 4096)
      if s.now < e / 4096 then .next s
      else if 2 ^ 40 ≤ r.k * o.pay 0x14 4 then .next (s.tagEndRing cluster o)
      else
        let q := s.acqCodes cluster o volts
        let codes := q.1
        let s := q.2
        let hit := s.acqMatches cluster codes
        let s := s.setRing cluster { r with k := r.k + 1, lastStates := codes, matched := hit }
        let s := if hit && !r.matched then s.source 5 cluster 0 (e / 4096 + 96) else s
        let tag := r.k * o.pay 0x14 4
        if r.k = 0 then .next (s.acqWrite cluster o (e / 4096) tag 1)
        else if codes ≠ r.lastStates ∧ r.st ≠ 2 then .next (s.acqWrite cluster o (e / 4096) tag 4)
        else .next s

/-- The trigger line of a ring's ACQUIRE fires at f (R302, R303). -/
def State.acqFireRing (s : State) (k l f : Nat) : State :=
  match s.ringOp k with
  | none => s
  | some o =>
    let r := s.ring k
    if o.pay 4 1 ≠ l ∨ f < o.startGcc ∨ r.k = 0 ∨ r.st = 3 then s
    else if acqStream o ∨ r.st = 0 then s.acqWrite k o f ((f - o.startGcc) * 4096) 2
    else s.incSat (ACQ_MISSED k)
/-- A line fires at f: every ACQUIRE that names it sees it (R312). -/
def State.acqFire (s : State) (l f : Nat) : State := s.forEach (List.range 16) (fun s k => s.acqFireRing k l f)

/-- ACQ_FRAME_REARM: 64 TREF cycles in REARM have passed (R303). -/
def execAcqFrameRearm (cluster : Nat) (s : State) : Out :=
  match s.ringOp cluster with
  | none => .next s
  | some o =>
    let r := s.ring cluster
    if r.st ≠ 2 then .next s
    else
      let s := s.advanceTo r.rearmAt
      if s.now < r.rearmAt then .next s
      else if r.frame + 1 < 2 ^ o.pay 5 1 then
        let s := s.setRing cluster { r with closed := r.closed ++ [r.recs], recs := [], frame := r.frame + 1, st := 0, pre := 0,
                                            post := 0, postLeft := 0 }
        let s := (s.setBitAt (ACQ_STATUS cluster) 2 false).setFld (ACQ_STATUS cluster) 13 8 (r.frame + 1)
        .next (s.acqWrite cluster o r.rearmAt ((r.rearmAt - o.startGcc) * 4096) 1)
      else .next (s.endRing cluster)

/-- An ACQUIRE gives up its rings and ends (R303, R307). -/
def State.endAcquire (s : State) (o : Op) (status : Nat) : State :=
  let s := s.forEach (acqRings o) (fun s k =>
    if (s.ring k).asn = some o.asn then
      ((s.endRing k).setRing k { s.ring k with st := 3, asn := none }).setBitAt (ACQ_STATUS k) 0 false
    else s)
  match (s.op? o.asn).map Op.work with
  | some (.acquire w) =>
    s.endOp o.asn status 0 (w.valid % 65536 + 65536 * min w.records (2 ^ 32 - 1) + (if w.clamped then 2 ^ 62 else 0) +
      (if w.tagEnd then 2 ^ 63 else 0))
  | _ => s.endOp o.asn status 0 0
/-- ACQUIRE_END: the last frame has closed in every ring, TAG_END, DURATION, or a stop at the next sample (R307). -/
def execAcquireEnd (a : Asn) (s : State) : Out :=
  match s.running? a 0xA with
  | none => .next s
  | some o =>
    if (acqRings o).all (fun k => (s.ring k).st == 3) then .next (s.endAcquire o (o.endStatus 0))
    else if o.aborting ∨ o.faulting then
      let nxt := (acqRings o).foldl (fun m k => min m (acqInstant o (s.ring k).k / 4096)) (acqInstant o (2 ^ 40) / 4096)
      .next ((s.advanceTo nxt).endAcquire o (o.endStatus 4))
    else match acqLimit o with
      | none => .next s
      | some g =>
        let s := s.advanceTo g
        .next (if s.now < g then s else s.endAcquire o 0)

/-! Reading a ring (R308). -/

/-- Reading the ring is refused (R308). -/
def State.ringBusy (s : State) (k : Nat) : Bool := s.ringTriggered k || (s.ring k).uploader.isSome
/-- RESULT of a read command. -/
def State.rdResult (s : State) (k n : Nat) : State := s.setFld (ACQ_RD_STATUS k) 7 0 n
/-- The ring shows another record: no word of it has failed yet. -/
def State.showRecord (s : State) (k : Nat) (r : Ring) : State := (s.setRing k r).setBitAt (ACQ_RD_STATUS k) 9 false
/-- A record stands at the read position. -/
def Ring.shown (r : Ring) : Option (BitVec 130) := if r.past then none else (r.all)[r.pos - r.base]?
/-- A register read of ACQ_RD word i: a word of the record shown that fails its parity check sets POISON (R306). -/
def State.readShown (s : State) (k i : Nat) : State :=
  if bit (((s.ring k).shown.map badWords).getD 0) (i / 2) then (s.setBitAt (ACQ_RD_STATUS k) 9 true).event (ACQ_EVENTS k) 3 else s

/-- NEXT. -/
def doAcqNext (cluster : Nat) (s : State) : Out :=
  let r := s.ring cluster
  .next (if s.ringBusy cluster then s.rdResult cluster 2
    else if r.pos + 1 < r.base + r.all.length then (s.showRecord cluster { r with pos := r.pos + 1, past := false }).rdResult cluster 0
    else (s.showRecord cluster { r with past := decide (r.pos < r.base + r.all.length) }).rdResult cluster 1)
/-- MARK. -/
def doAcqMark (cluster : Nat) (s : State) : Out :=
  let r := s.ring cluster
  .next (if s.ringBusy cluster then s.rdResult cluster 2
    else (s.setRing cluster { r with mark := if r.pos < r.base + r.all.length then some r.pos else none }).rdResult cluster 0)
/-- REWIND. -/
def doAcqRewind (cluster : Nat) (s : State) : Out :=
  let r := s.ring cluster
  .next (if s.ringBusy cluster then s.rdResult cluster 2
    else match r.mark with
      | some m => (s.showRecord cluster { r with pos := m, past := false }).rdResult cluster 0
      | none => ((s.showRecord cluster { r with pos := r.base, past := false }).rdResult cluster 3).event (ACQ_EVENTS cluster) 4)
/-- OLDEST. -/
def doAcqOldest (cluster : Nat) (s : State) : Out :=
  let r := s.ring cluster
  .next (if s.ringBusy cluster then s.rdResult cluster 2
    else (s.showRecord cluster { r with pos := r.base, past := false }).rdResult cluster 0)

end Sys2Proof.Machine
end

