-- ==== Sys2Proof/Machine/Fountains.lean ====
section
/-! DEFINITION. Fountains (R256 to R284): the check of a program image, the generators, and the execution of one
instruction. -/

namespace Sys2Proof.Machine

/-! Program images (R263, R264). An image is read through a function from its byte offset to the byte there. -/

/-- `n` bytes of an image at an offset, as a little-endian number (R7). -/
def imgLe (b : Nat → Byte) (off n : Nat) : Nat := leNat ((List.range n).map (fun i => b (off + i)))
/-- INSTR_COUNT of an image. -/
def imgCount (b : Nat → Byte) : Nat := imgLe b 0 2
/-- Instruction i of an image (R263). -/
def imgInstr (b : Nat → Byte) (i : Nat) : BitVec 128 := BitVec.ofNat 128 (imgLe b (0x100 + 16 * i) 16)
/-- Scramble tables present, ascending. -/
def imgTables (b : Nat → Byte) : List Nat := bitsOf (imgLe b 4 1) 4
/-- Image length (R263). -/
def imgLength (b : Nat → Byte) : Nat := 256 + 16 * imgCount b + 8192 * (imgTables b).length

/-- Field [hi:lo] of an instruction (R271). -/
def insField (w : BitVec 128) (hi lo : Nat) : Nat := w.toNat / 2 ^ lo % 2 ^ (hi + 1 - lo)
def insTset (w : BitVec 128) : Nat := insField w 127 122
def insTarget (w : BitVec 128) : Nat := insField w 121 112
def insFlow (w : BitVec 128) : Nat := insField w 111 109
def insFarg (w : BitVec 128) : Nat := insField w 108 106
def insRep (w : BitVec 128) : Nat := insField w 105 90
def insXop (w : BitVec 128) : Nat := insField w 89 86
def insYop (w : BitVec 128) : Nat := insField w 85 82
def insZop (w : BitVec 128) : Nat := insField w 81 79
def insImmDst (w : BitVec 128) : Nat := insField w 47 45
def insImmLc (w : BitVec 128) : Nat := insField w 44 42
def insImm (w : BitVec 128) : Nat := insField w 41 10

/-- A 20-bit address generator's header fields satisfy R263. -/
def genOk (mn mx ini step : Nat) : Bool :=
  allOf [mx ≤ 0xFFFFF, mn ≤ mx, mn ≤ ini, ini ≤ mx, 1 ≤ step, decide (step ≤ mx - mn + 1)]
/-- The header fields satisfy R263. -/
def headerOk (b : Nat → Byte) : Bool :=
  let g := imgLe b
  let zero := fun a e => (List.range (e - a)).all (fun i => b (a + i) == 0)
  let n := imgCount b
  allOf [within 1 1024 n, decide (g 2 2 < n), g 4 1 < 16, zero 5 8,
    genOk (g 8 4) (g 0xC 4) (g 0x10 4) (g 0x14 4), genOk (g 0x18 4) (g 0x1C 4) (g 0x20 4) (g 0x24 4),
    g 0x29 1 ≤ 63, decide (g 0x28 1 ≤ g 0x29 1), decide (g 0x28 1 ≤ g 0x2A 1), decide (g 0x2A 1 ≤ g 0x29 1), zero 0x2B 0x30,
    (List.range 4).all (fun t => if bit (g 4 1) t then g (0x50 + t) 1 < 32 && g (0x50 + t) 1 / 2 ≤ 8 else g (0x50 + t) 1 == 0),
    zero 0x54 0x60,
    (List.range 4).all (fun i => let o := 0x60 + 32 * i
      g o 4 < 2 ^ 20 && g (o + 4) 4 < 2 ^ 20 && g (o + 8) 1 < 64 && g (o + 9) 1 < 2 && zero (o + 10) (o + 16) && zero (o + 24) (o + 32)),
    g 0xE0 4 == 0 || 64 ≤ g 0xE0 4, if g 0xE0 4 = 0 then g 0xE4 2 == 0 && g 0xE6 1 == 0 else decide (g 0xE4 2 < n) && within 1 8 (g 0xE6 1),
    zero 0xE7 0x100]

/-- The checks 0x05 to 0x08 of R264 on instruction i. -/
def insCheck (b : Nat → Byte) (code i : Nat) : Bool :=
  let w := imgInstr b i
  let flow := insFlow w; let dst := insImmDst w; let imm := insImm w
  match code with
  | 5 => allOf [flow ≤ 6, if flow = 2 then true else if flow = 3 then insFarg w ≤ 2 else insFarg w == 0,
      insXop w ≤ 0xC, insXop w != 3, insXop w != 4, insYop w ≤ 0xC, insZop w ≤ 6, dst ≤ 4, insField w 9 0 == 0]
  | 6 => if flow = 1 ∨ flow = 2 ∨ flow = 3 ∨ flow = 4 then decide (insTarget w < imgCount b) else insTarget w == 0
  | 7 => i + 1 != imgCount b || flow == 1 || flow == 5 || flow == 6
  | 8 => match dst with
    | 0 => imm == 0 && insImmLc w == 0
    | 1 => insImmLc w == 0 && within (imgLe b 8 4) (imgLe b 0xC 4) imm
    | 2 => insImmLc w == 0 && within (imgLe b 0x18 4) (imgLe b 0x1C 4) imm
    | 3 => insImmLc w == 0 && within (imgLe b 0x28 1) (imgLe b 0x29 1) imm
    | _ => 1 ≤ imm && !(flow == 2 && insFarg w == insImmLc w)
  | _ => true
/-- First failing check of R264 after LOCATION: code and instruction. `bytes` are the FNT_PROG_LEN bytes of the image. -/
def progCheck (bytes : List Byte) (crc : Nat) : Option (Nat × Nat) :=
  let b := fun i => bytes.getD i 0
  if crc32 bytes ≠ crc then some (2, 0)
  else if !(headerOk b && imgLength b == bytes.length) then some (3, 0)
  else if !(List.range (4096 * (imgTables b).length)).all (fun i => decide (imgLe b (256 + 16 * imgCount b + 2 * i) 2 < 4096))
    then some (4, 0)
  else (List.range 4).findSome? (fun j =>
    ((List.range (imgCount b)).find? (fun i => !insCheck b (j + 5) i)).map (fun i => (j + 5, i)))

/-- The fountain as a run with this image starts it (R273). -/
def fountainInit (a : Asn) (b : Nat → Byte) : Fnt :=
  let g := imgLe b
  let gen := fun o => ({ v := g (o + 8) 4, min := g o 4, max := g (o + 4) 4, step := g (o + 12) 4, save := 0 } : Gen)
  { (default : Fnt) with
    asn := some a, prog := (List.range (imgCount b)).map (imgInstr b),
    tables := (imgTables b).mapIdx (fun k t =>
      (t, (List.range 4096).map (fun i => imgLe b (256 + 16 * imgCount b + 8192 * k + 2 * i) 2))),
    scrCfg := (List.range 4).map (fun t => g (0x50 + t) 1),
    topo := (List.range 4).map (fun i => let o := 0x60 + 32 * i
      (g o 4, g (o + 4) 4, g (o + 8) 1, bit (g (o + 9) 1) 0, g (o + 16) 8)),
    x := gen 8, y := gen 0x18, z := { v := g 0x2A 1, min := g 0x28 1, max := g 0x29 1, step := 0, save := 0 },
    dg0 := g 0x30 8, dg0Init := g 0x30 8, dg0Seed := g 0x38 8, dg1 := g 0x40 8, dg1Init := g 0x40 8, dg1Seed := g 0x48 8,
    lcs := List.replicate 8 0, pc := g 2 2, refInterval := g 0xE0 4, refEntry := g 0xE4 2, refMax := g 0xE6 1 }

/-! Generators (R265 to R269). -/

/-- XOP, YOP and ZOP on a generator of `width` bits: the generator and its carry; `other` is the other generator's value, `cin`
the lower one's carry. A value outside MIN to MAX, which RESTORE can bring, is computed with as the table says, and the register
keeps its width (R256, R265; log entry 130). -/
def genOp (width op other : Nat) (cin : Bool) (g : Gen) : Gen × Bool :=
  let put := fun (e : Int) => { g with v := (e % 2 ^ width).toNat }
  let v : Int := g.v
  let n : Int := g.max - g.min + 1
  let inc : Gen × Bool := if g.v = g.max then ({ g with v := g.min }, true) else (put (v + 1), false)
  let dec : Gen × Bool := if g.v = g.min then ({ g with v := g.max }, true) else (put (v - 1), false)
  match op with
  | 1 => inc
  | 2 => dec
  | 3 => if cin then inc else (g, false)
  | 4 => if cin then dec else (g, false)
  | 5 => ({ g with v := g.min }, false)
  | 6 => ({ g with v := g.max }, false)
  | 7 => if g.max < g.v + g.step then (put (v + g.step - n), true) else (put (v + g.step), false)
  | 8 => if g.v < g.min + g.step then (put (v + n - g.step), true) else (put (v - g.step), false)
  | 9 => ({ g with v := if g.min ≤ other ∧ other ≤ g.max then other else g.min }, false)
  | 0xA => ({ g with save := g.v }, false)
  | 0xB => ({ g with v := g.save }, false)
  | 0xC => (put (g.min + g.max - v), false)
  | _ => (g, false)

/-- DG0OP and DG1OP (R268). -/
def dataOp (op d seed init : Nat) : Nat :=
  let b := fun i => if bit d i then 1 else 0
  match op with
  | 1 => 2 ^ 64 - 1 - d
  | 2 => d * 2 % 2 ^ 64 + b 63
  | 3 => d / 2 + b 0 * 2 ^ 63
  | 4 => d * 2 % 2 ^ 64 + (b 63 + b 62 + b 60 + b 59) % 2
  | 5 => (d + 1) % 2 ^ 64
  | 6 => seed
  | 7 => init
  | _ => d

/-- A scrambled address (R267): `src` is 0 for X and 1 for Y. -/
def scramble (f : Fnt) (src v : Nat) : Nat :=
  f.tables.foldl (fun v t =>
    let cfg := f.scrCfg.getD t.1 0
    if cfg % 2 = src then
      let sh := cfg / 2 % 16
      let i := v / 2 ^ sh % 4096
      v - i * 2 ^ sh + t.2.getD i 0 * 2 ^ sh
    else v) v
/-- Parity of a number of 20 bits. -/
def parity (n : Nat) : Bool := (bitsOf n 20).length % 2 == 1
/-- The cycle word of the present values under an instruction (R269, R270). -/
def cycleWord (f : Fnt) (w : BitVec 128) (pc : Nat) (mark : Bool) : CycleWord :=
  let scr := bit w.toNat 78
  let x := if scr then scramble f 0 f.x.v else f.x.v
  let y := if scr then scramble f 1 f.y.v else f.y.v
  let z := f.z.v
  let d0 := match insField w 73 72 with
    | 0 => f.dg0
    | 1 => f.dg1
    | 2 => f.dg0 ^^^ f.dg1
    | _ => 0
  let d1 := if bit w.toNat 77 then
      f.topo.foldl (fun d (xm, ym, zm, en, lane) =>
        if en && ((parity (x &&& xm) != parity (y &&& ym)) != parity (z &&& zm)) then d ^^^ lane else d) d0
    else d0
  let d2 := if bit w.toNat 76 then 2 ^ 64 - 1 - d1 else d1
  { x := x, y := y, z := z, data := d2, cmd := insField w 65 50, dir := insField w 75 74, tset := insTset w, mark := mark,
    instr := pc }
/-- The update of the generators after a cycle word (R266). -/
def updateGens (f : Fnt) (w : BitVec 128) : Fnt :=
  let (x, cx) := genOp 20 (insXop w) f.y.v false f.x
  let (y, cy) := genOp 20 (insYop w) f.x.v cx f.y
  let (z, cz) := genOp 6 (insZop w) 0 cy f.z
  { f with x := x, y := y, z := z, dg0 := dataOp (insField w 71 69) f.dg0 f.dg0Seed f.dg0Init,
           dg1 := dataOp (insField w 68 66) f.dg1 f.dg1Seed f.dg1Init,
           carries := (if cx then 1 else 0) + (if cy then 2 else 0) + (if cz then 4 else 0) }

/-! Execution (R273 to R276). -/

/-- A fountain at its generator's position: refreshes owed, intervals that found more owed than allowed, and instruction memory
errors corrected. -/
structure FntRun where
  f : Fnt
  owed : Nat
  late : Nat
  corrected : Nat
deriving DecidableEq, Repr, Inhabited

/-- The refresh counter counts one cycle word (R275). -/
def countRefresh (r : FntRun) : FntRun :=
  if r.f.refInterval = 0 then r
  else if r.f.refCount + 1 < r.f.refInterval then { r with f := { r.f with refCount := r.f.refCount + 1 } }
  else
    let owed := min 255 (r.owed + 1)
    { r with f := { r.f with refCount := 0 }, owed := owed, late := if r.f.refMax < owed then r.late + 1 else r.late }
/-- `n` cycle words are emitted, the first with MARK when `mark` is set; the words stand newest first (R273, step 2). -/
def emitWords (w : BitVec 128) (pc : Nat) : Nat → Bool → FntRun × List CycleWord → FntRun × List CycleWord
  | 0, _, p => p
  | n + 1, mark, (r, ws) =>
    let cw := cycleWord r.f w pc mark
    emitWords w pc n false (countRefresh { r with f := { updateGens r.f w with last := cw } }, cw :: ws)
/-- A loop counter takes a value. -/
def setLc (f : Fnt) (i v : Nat) : Fnt := { f with lcs := f.lcs.set i v }
/-- FLOW of an instruction at `pc` (R273, step 4; R274, R276). -/
def flowStep (f : Fnt) (w : BitVec 128) : Fnt :=
  let nx := f.pc + 1
  match insFlow w with
  | 1 => { f with pc := insTarget w }
  | 2 =>
    let c := insFarg w
    let n := f.lcs.getD c 0
    if 1 < n then { setLc f c (n - 1) with pc := insTarget w } else { setLc f c 0 with pc := nx }
  | 3 => { f with pc := if bit f.carries (insFarg w) then nx else insTarget w }
  | 4 => if 4 ≤ f.stack.length then { f with faulted := 1 } else { f with stack := nx :: f.stack, pc := insTarget w }
  | 5 =>
    match f.inRefresh with
    | some sv =>
      if f.stack.length = sv.depth then
        { f with x := sv.x, y := sv.y, z := sv.z, dg0 := sv.dg0, dg1 := sv.dg1, lcs := sv.lcs, carries := sv.carries,
                 pc := sv.pc, inRefresh := none }
      else match f.stack with
        | [] => { f with faulted := 2 }
        | p :: st => { f with stack := st, pc := p }
    | none => match f.stack with
        | [] => { f with faulted := 2 }
        | p :: st => { f with stack := st, pc := p }
  | 6 => { f with halted := true }
  | _ => { f with pc := nx }
/-- A refresh may be served after an instruction with REF_OK (R276). -/
def serveRefresh (r : FntRun) (w : BitVec 128) (inside : Bool) : FntRun :=
  if bit w.toNat 49 ∧ inside = false ∧ r.f.inRefresh = none ∧ 1 ≤ r.owed ∧ !r.f.halted ∧ r.f.faulted = 0 then
    let f := r.f
    let sv : FntSave := { x := f.x, y := f.y, z := f.z, dg0 := f.dg0, dg1 := f.dg1, lcs := f.lcs, carries := f.carries,
                          pc := f.pc, depth := f.stack.length }
    { r with f := { f with inRefresh := some sv, pc := f.refEntry }, owed := r.owed - 1 }
  else r
/-- One instruction, once it has been fetched (R273). -/
def runFetched (r : FntRun) : FntRun :=
  let w := r.f.prog.getD r.f.pc 0
  let inside := r.f.inRefresh.isSome
  let imm := insImm w
  let f1 := match insImmDst w with
    | 1 => { r.f with x := { r.f.x with v := imm } }
    | 2 => { r.f with y := { r.f.y with v := imm } }
    | 3 => { r.f with z := { r.f.z with v := imm } }
    | _ => r.f
  let (r1, ws) := emitWords w r.f.pc (insRep w + 1) (bit w.toNat 48) ({ r with f := f1 }, [])
  let f2 := { r1.f with words := r1.f.words ++ ws.reverse, emitted := r1.f.emitted + insRep w + 1 }
  let f3 := if insImmDst w = 4 then setLc f2 (insImmLc w) imm else f2
  serveRefresh { r1 with f := flowStep f3 w } w inside

/-- One instruction (R273). A single flipped bit of its word is corrected; with more the word cannot be corrected, and nothing is
emitted for it (R256, R281; log entry 84). -/
def runInstr (r : FntRun) : FntRun :=
  match popCount (flippedBits r.f.flips r.f.pc).toNat 128 with
  | 0 => runFetched r
  | 1 => runFetched { r with f := { r.f with flips := r.f.flips.filter (fun e => e.1 != r.f.pc) }, corrected := r.corrected + 1 }
  | _ => { r with f := { r.f with faulted := 3 } }

/-- The fountain computes: a run holds it, and it has neither halted nor faulted. -/
def Fnt.alive (f : Fnt) : Bool := f.asn.isSome && !f.halted && f.faulted == 0
/-- The registers that follow the generator's position (R284), the events of a halt, a fault and late refreshes. -/
def State.putFountain (s : State) (n : Nat) (r : FntRun) : State :=
  let old := s.fnt n
  let s := (s.setFnt n r.f).setFld (FNT_REF_STATUS n) 7 0 r.owed
  let s := s.forEach (List.range 8) (fun s i => s.setReg (FNT_LC n i) (BitVec.ofNat 32 (r.f.lcs.getD i 0)))
  let s := (s.setFld (FNT_STATUS n) 21 19 r.f.stack.length).setBitAt (FNT_STATUS n) 3 r.f.inRefresh.isSome
  let s := if r.late = 0 then s else (s.addSat (FNT_REF_LATE n) r.late).event (FNT_EVENTS n) 2
  let s := if r.corrected = 0 then s else (s.addSat (FNT_ECC_CORR n) r.corrected).event (FNT_EVENTS n) 3
  let s := if r.f.halted && !old.halted then (s.setBitAt (FNT_STATUS n) 2 true).event (FNT_EVENTS n) 4 else s
  if r.f.faulted ≠ 0 ∧ old.faulted = 0 then (s.setFld (FNT_STATUS n) 15 8 r.f.faulted).event (FNT_EVENTS n) 1 else s
/-- A fountain executes its next instruction. -/
def State.fountainStep (s : State) (n : Nat) : State :=
  if (s.fnt n).alive then s.putFountain n (runInstr ⟨s.fnt n, s.fld (FNT_REF_STATUS n) 7 0, 0, 0⟩) else s
/-- A fountain executes until it has emitted word number `v`, halted or faulted; every instruction emits at least one word
(R281). -/
def State.fountainTo (s : State) (n v : Nat) : Nat → State
  | 0 => s
  | fuel + 1 => if v < (s.fnt n).emitted || !(s.fnt n).alive then s else (s.fountainStep n).fountainTo n v fuel

/-- A fountain executes instructions whose cycle words stay below a number, `n` at most. -/
def State.fountainAhead (s : State) (f limit : Nat) : Nat → State
  | 0 => s
  | n + 1 =>
    let t := s.fnt f
    if t.alive && decide (t.emitted + insRep (t.prog.getD t.pc 0) + 1 ≤ limit) then (s.fountainStep f).fountainAhead f limit n else s

/-- FOUNTAIN_INSTRUCTION; `upsets` are the bits of the instruction memory that soft errors have flipped (R273, R274, R276, R279,
R281). -/
def execFountainInstruction (f : Nat) (upsets : List (Nat × BitVec 128)) (s : State) : Out :=
  let t := s.fnt f
  .next ((if upsets.isEmpty || t.asn.isNone then s else s.setFnt f { t with flips := t.flips ++ upsets }).fountainStep f)

/-- The next return of the refresh counter lies within the words of the next instruction, or the fountain has stopped. -/
def State.refreshNear (s : State) (n : Nat) : Bool :=
  let f := s.fnt n
  !f.alive || f.refInterval == 0 || decide (f.refInterval ≤ f.refCount + insRep (f.prog.getD f.pc 0) + 1)
/-- A fountain executes instructions while the refresh counter stays short of REF_INTERVAL. -/
def State.toRefresh (s : State) (n : Nat) : Nat → State
  | 0 => s
  | fuel + 1 => if s.refreshNear n then s else (s.fountainStep n).toRefresh n fuel
/-- REFRESH_INTERVAL: the fountain runs up to and through the instruction in which its refresh counter reaches REF_INTERVAL,
where OWED rises and a late refresh is counted (R275; log entry 18). -/
def execRefreshInterval (f : Nat) (s : State) : Out :=
  .next (if (s.fnt f).refInterval = 0 then s else (s.toRefresh f (s.fnt f).refInterval).fountainStep f)

/-! What a run asks of its fountains. -/

/-- Cycle word number v of a fountain, if it has been emitted and not been dropped. -/
def Fnt.word (f : Fnt) (v : Nat) : Option CycleWord :=
  if v < f.emitted ∧ f.emitted ≤ v + f.words.length then f.words[v + f.words.length - f.emitted]? else none
/-- Value of a source of a cycle word (R270). -/
def CycleWord.src (w : CycleWord) (n : Nat) : Bool :=
  if n < 20 then bit w.x n
  else if n < 40 then bit w.y (n - 20)
  else if n < 46 then bit w.z (n - 40)
  else if n < 64 then false
  else if n < 128 then bit w.data (n - 64)
  else if n < 144 then bit w.cmd (n - 128)
  else false
/-- Symbol that a jet sets on a pin of its map (R277); without a word the fountain has halted (R279). -/
def jetSymbol (e : PinEnt) (inv : Bool) : Option CycleWord → Nat
  | none => if e.mode = 2 then 4 else 0xC
  | some w =>
    let b := w.src e.src
    let n := fun (v : Bool) => if v then 1 else 0
    match e.mode with
    | 1 => n b
    | 2 => match w.dir with
      | 0 => 4
      | 1 => n (b != inv)
      | 2 => 2 + n (b != inv)
      | _ => 7
    | 3 => 8 + 2 * n b + n (w.src (e.src + 1))
    | 4 => 0
    | 5 => 1
    | _ => 0xC

end Sys2Proof.Machine
end

