-- ==== Sys2Proof/Machine/Waves.lean ====
section
/-! DEFINITION. What a waveform source puts out (R351 to R356): the source value and the output code of each sample of a
play. -/

namespace Sys2Proof.Machine

/-- π times 10^40, rounded down. -/
def piScaled : Int := 31415926535897932384626433832795028841971
/-- One unit of the fixed point in which sines are computed. -/
def sinUnit : Int := 10 ^ 40
/-- Sine series of an angle in fixed point: term k and the sum so far, `n` terms more. -/
def sinSeries (x : Int) : Nat → Nat → Int → Int → Int
  | 0, _, _, sum => sum
  | n + 1, k, term, sum =>
    let t := -((term * x / sinUnit) * x / sinUnit) / ((2 * k * (2 * k + 1) : Nat) : Int)
    sinSeries x n (k + 1) t (sum + t)
/-- T[i] of R354: 131,071 times the sine of 2πi / 4,096, rounded. -/
def sineTable (i : Nat) : Int :=
  let i := i % 4096
  let j := i % 2048
  let j := if 1024 < j then 2048 - j else j
  let x := 2 * piScaled * j / 4096
  let r := (2 * 131071 * sinSeries x 24 1 x x + sinUnit) / (2 * sinUnit)
  if 2048 ≤ i then -r else r

/-- Arithmetic shift right. -/
def sra (v : Int) (n : Nat) : Int := v / ((2 ^ n : Nat) : Int)
/-- A value held to 16-bit two's complement. -/
def sat16 (v : Int) : Int := max (-32768) (min 32767 v)
/-- Quotient by a positive number, rounded to nearest with ties away from zero. -/
def roundAway (v : Int) (d : Nat) : Int :=
  let n : Nat := (2 * v.natAbs + d) / (2 * d)
  if v < 0 then -(n : Int) else n

/-- The phase of sample m (R354). -/
def phaseAt (w : PlayWork) (m : Nat) : Nat := (w.phase * 2 ^ 32 + m * w.ftw) % 2 ^ 48
/-- The sine source (R354). -/
def sineValue (ph : Nat) : Int :=
  let i : Nat := ph / 2 ^ 36; let f : Nat := ph / 2 ^ 24 % 4096
  let s := sineTable i + sra ((sineTable (i + 1) - sineTable i) * f) 12
  min 32767 (sra (s + 2) 2)
/-- `n` steps of the LFSR of R268. -/
def lfsrSteps : Nat → Nat → Nat
  | 0, d => d
  | n + 1, d => lfsrSteps n (dataOp 4 d 0 0)
/-- The noise state of sample m: 64 steps from each sample to the next (R354). -/
def noiseAt (seed m : Nat) : Nat := lfsrSteps (64 * m) seed
/-- One 16-bit piece of the noise state (R353). -/
def noiseWord (l i : Nat) : Int := signed 16 (l / 2 ^ (16 * i))

/-- Coefficient c[phase][tap] of a bank, false A and true B (R361). -/
def State.coef (s : State) (a : Nat) (b : Bool) (ph t : Nat) : Int :=
  signed 18 (s.fld (if b then AN_COEF_B a (32 * ph + t) else AN_COEF_A a (32 * ph + t)) 17 0)
/-- Input sample j of a STREAM play (R355). -/
def State.streamIn (s : State) (o : Op) (j : Int) : Int :=
  if j < 0 then 0 else signed 16 (s.le (o.pay 0x10 8 + 2 * (j.toNat % o.pay 0x18 4)) 2)
/-- Output of the resampler through one bank for sample m (R355). -/
def State.bankOut (s : State) (o : Op) (w : PlayWork) (b : Bool) (m : Nat) : Int :=
  let p : Nat := m * w.ratio; let i : Nat := p / 2 ^ 32; let ph : Nat := p % 2 ^ 32 / 2 ^ 26
  sat16 (roundAway (((List.range 32).map (fun t => s.coef (o.pay 0 1) b ph t * s.streamIn o ((i : Int) - t))).sum) 65536)
/-- Output of the resampler for sample m, through the fade in progress if it covers the sample (R355, R361). -/
def State.streamValue (s : State) (o : Op) (w : PlayWork) (m : Nat) : Int :=
  let a := o.pay 0 1
  let u := s.ana a
  let bank := s.bitAt (AN_RS_STATUS a) 22
  match u.fadeEnd with
  | some e =>
    if m < u.fadeStart then s.bankOut o w (!bank) m
    else if m < e then
      let f := e - u.fadeStart; let k := m - u.fadeStart
      roundAway (((f - k : Nat) : Int) * s.bankOut o w (!bank) m + k * s.bankOut o w bank m) f
    else s.bankOut o w bank m
  | none => s.bankOut o w bank m
/-- Source value x_m (R353). -/
def State.sourceValue (s : State) (o : Op) (w : PlayWork) (m : Nat) : Int :=
  let u : Nat := phaseAt w m / 2 ^ 32
  let l := noiseAt w.seed m
  match w.source with
  | 0 => sineValue (phaseAt w m)
  | 1 => if u < 32768 then 2 * (u : Int) - 32768 else 98303 - 2 * (u : Int)
  | 2 => (u : Int) - 32768
  | 3 => noiseWord l 0
  | 4 => sra (noiseWord l 0 + noiseWord l 1 + noiseWord l 2 + noiseWord l 3) 2
  | _ => s.streamValue o w m
/-- Output code of sample m (R356). -/
def State.outputCode (s : State) (o : Op) (w : PlayWork) (m : Nat) : Int :=
  sat16 (sra (s.sourceValue o w m * w.gain + 16384) 15 + signed 16 w.offset)

end Sys2Proof.Machine
end

