-- ==== Sys2Proof/Machine/Analog.lean ====
section
/-! DEFINITION. Analog channels (R347 to R371): output states, AWG_PLAY, bank swaps and fades, DIGITIZE. Output states: 0
MUTED, 1 PARKED, 2 RANGE_MUTE, 3 ARMED, 4 PLAYING, 5 FAULTED. -/

namespace Sys2Proof.Machine

/-! Output states (R349, R352). -/

/-- Work of an AWG_PLAY, once its check point has latched the source settings. -/
def awgWork (o : Op) : Option PlayWork := match o.work with
  | .play w => some w
  | _ => none
/-- Park code of the newer valid copy in MRAM (R350). -/
def parkLoad (u : Ana) : Option Nat :=
  ((u.park.filter (fun x => x.2.2)).foldl (fun (m : Option (Nat × Nat × Bool)) x => match m with
    | some y => if y.1 < x.1 then some x else m
    | none => some x) none).map (fun x => x.2.1)
/-- Park codes load at power-up: MUTED channels are PARKED (R349, R350). -/
def State.loadPark (s : State) (a : Nat) : State :=
  let s := match parkLoad (s.ana a) with
    | some c => s.setReg (AN_PARK_CODE a) (BitVec.ofNat 32 c)
    | none => (s.setReg (AN_PARK_CODE a) 0).setBitAt (AN_STATUS a) 5 true
  if s.anState a = 0 then s.parkAn a else s

/-- PARK_SAVE: SAVE of AN_PARK_CMD (R350). -/
def doParkSave (ch : Nat) (s : State) : Out :=
  .next (if s.bitAt (AN_STATUS ch) 6 then s.setFld (AN_STATUS ch) 15 12 1
    else ((s.setAna ch { s.ana ch with saving := some (s.fld (AN_PARK_CODE ch) 15 0) }).setFld (AN_STATUS ch) 15 12 0).setBitAt
      (AN_STATUS ch) 6 true)
/-- PARK_SAVE_DONE: both copies hold the code (R350). -/
def execParkSaveDone (ch : Nat) (s : State) : Out :=
  let u := s.ana ch
  match u.saving with
  | none => .next s
  | some c =>
    let n := u.park.foldl (fun m x => max m x.1) 0
    .next (((s.mramWrite.setAna ch { u with saving := none, park := [(n + 1, c, true), (n + 2, c, true)] }).setBitAt (AN_STATUS ch) 6
      false).event (AN_EVENTS ch) 4)

/-- OUT_RANGE_WRITE: a write of AN_OUT_CFG (R352). -/
def doOutRangeWrite (ch : Nat) (v : Word) (s : State) : Out :=
  let s := s.setFld (AN_OUT_CFG ch) 1 0 (v.field 1 0)
  .next (if s.anState ch = 1 ∧ s.awgOp ch = none then s.takeRange ch else s)
/-- RANGE_MUTE_END: 1,600 GCC steps after its entry (R349). -/
def execRangeMuteEnd (ch : Nat) (s : State) : Out :=
  match (s.ana ch).muteUntil with
  | none => .next s
  | some g =>
    let s := s.advanceTo g
    .next (if s.now < g then s
      else if s.anState ch = 2 then s.parkAn ch else s.setAna ch { s.ana ch with muteUntil := none })

/-! AWG_PLAY (R353 to R360). -/

/-- The check point of a play: its settings are latched and checked, the staged range applies (R352, R353, R357). -/
def State.checkAwg (s : State) (o : Op) : State :=
  let a := o.pay 0 1
  let src := s.fld (AN_SRC_CFG a) 2 0
  let ratio := (s.reg (AN_RS_RATIO a)).toNat
  let seed := s.reg64 (AN_NOISE_SEED_LO a) (AN_NOISE_SEED_HI a)
  if decide (5 < src) || ((src == 5) != (o.atAccept == [1])) || !within 1 0x40000000 ratio || seed == 0 then
    s.endOp o.asn 9 2 0
  else
    let w : PlayWork := { source := src, ftw := s.reg64 (AN_FTW_LO a) (AN_FTW_HI a) % 2 ^ 47, phase := s.fld (AN_PHASE a) 15 0,
                          gain := s.fld (AN_GAIN a) 15 0, offset := s.fld (AN_OFFSET a) 15 0, seed := seed, ratio := ratio,
                          s := 0, armed := bit (o.pay 1 1) 1, begun := false }
    let s := s.setWork o.asn (.play w)
    if s.anState a = 1 ∨ s.anState a = 2 then s.takeRange a else s
/-- The start instant of a play is here: the channel is PLAYING, or ARMED for its line (R349, R358). -/
def State.awgBegin (s : State) (o : Op) (w : PlayWork) : State :=
  let a := o.pay 0 1
  let s := (s.setWork o.asn (.play { w with begun := true })).setAna a { s.ana a with muteUntil := none }
  if s.anState a = 5 then s else s.setAnState a (if w.armed then 3 else 4)
/-- AWG_PLAY starts: at START_GCC, or 3,200 steps after its dispatch start (R358). -/
def startAwgPlay (s : State) (o : Op) : State :=
  match awgWork o with
  | none => s
  | some w =>
    let s := s.beginOp o
    let s := s.setReg64 (AN_SAMPLES_LO (o.pay 0 1)) (AN_SAMPLES_HI (o.pay 0 1)) 0
    if o.startField = 0 then s.setWork o.asn (.play { w with s := s.now + 3200 })
    else s.awgBegin o { w with s := s.now }
/-- A running play whose start instant is still ahead reaches it (R358). -/
def State.awgReach (s : State) (o : Op) : State :=
  match awgWork o with
  | none => s
  | some w =>
    if w.begun ∨ o.phase ≠ .running then s
    else
      let s := s.advanceTo w.s
      if s.now < w.s then s else s.awgBegin o w
/-- Output samples of a play by GCC g (R358, R360). -/
def awgPlayed (o : Op) (w : PlayWork) (g : Nat) : Nat :=
  if !w.begun || w.armed then 0
  else
    let n := (g - w.s) * 15
    if o.pay 4 4 = 0 then n % 2 ^ 48 else min n (o.pay 4 4 * 15)
/-- The source half gives up a play after n output samples (R349, R360): the output takes its park code. -/
def State.endAwg (s : State) (o : Op) (status reason n : Nat) : State :=
  let a := o.pay 0 1
  let bank := s.bitAt (AN_RS_STATUS a) 22
  let s := s.setReg64 (AN_SAMPLES_LO a) (AN_SAMPLES_HI a) (n % 2 ^ 48)
  (s.setProgress o.asn n).endOp o.asn status reason (n % 2 ^ 48 + (if bank then 2 ^ 63 else 0))
/-- First output sample from m on whose input sample is poison-tagged or lost, if one is (R359). -/
def State.badSample (s : State) (o : Op) (w : PlayWork) (m : Nat) : Option Nat :=
  if w.source ≠ 5 ∨ (s.poison.isEmpty ∧ s.reg MEM_GROUP_LOST = 0) then none
  else
    let n := o.pay 0x18 4
    let i0 := m * w.ratio / 2 ^ 32
    ((List.range n).find? (fun d => s.poisonIn (o.pay 0x10 8 + 2 * ((i0 + d) % n)) 2)).map (fun d =>
      max m (ceilDiv ((i0 + d) * 2 ^ 32) w.ratio))
/-- AWG_PLAY_END: the duration is over, streamed data arrived poison-tagged, or the play was asked to stop (R359, R360). -/
def execAwgPlayEnd (a : Asn) (s : State) : Out :=
  match s.running? a 7 with
  | none => .next s
  | some o0 =>
    let s := s.awgReach o0
    match s.running? a 7 with
    | none => .next s
    | some o => match awgWork o with
      | none => .next s
      | some w =>
        let n := awgPlayed o w s.now
        if o.aborting ∨ o.faulting then .next (s.endAwg o (o.endStatus 4) 0 n)
        else if !w.begun || w.armed then .next s
        else match s.badSample o w n with
          | some m =>
            if o.pay 4 4 = 0 ∨ m < o.pay 4 4 * 15 then .next ((s.advanceTo (w.s + ceilDiv m 15)).endAwg o 0xE 0 m)
            else
              let s := s.advanceTo (w.s + o.pay 4 4)
              .next (if s.now < w.s + o.pay 4 4 then s else s.endAwg o 0 0 (o.pay 4 4 * 15))
          | none =>
            if o.pay 4 4 = 0 then .next s
            else
              let s := s.advanceTo (w.s + o.pay 4 4)
              .next (if s.now < w.s + o.pay 4 4 then s else s.endAwg o 0 0 (o.pay 4 4 * 15))
/-- Output samples of a play that have left the ball by GCC g: sample m leaves 64 steps after its instant (R358). -/
def awgBall (o : Op) (w : PlayWork) (g : Nat) : Nat := awgPlayed o w (g - 64)
/-- A line fires at f: every play ARMED for it starts there; one whose start instant is still ahead does not see it (R358). -/
def State.awgFire (s : State) (l f : Nat) : State :=
  s.forEach (s.ops.filter (fun o => o.phase == .running && o.opcode == 7 && o.pay 2 1 == l)) (fun s o =>
    let s := if (awgWork o).any (fun w => decide (w.s ≤ f)) then s.awgReach o else s
    match (s.op? o.asn).bind awgWork with
    | some w =>
      if w.armed ∧ w.begun ∧ w.s ≤ f then
        (s.setWork o.asn (.play { w with armed := false, s := f })).setAnState (o.pay 0 1)
          (if s.anState (o.pay 0 1) = 5 then 5 else 4)
      else s
    | none => s)

/-! Coefficient banks (R361, R362). -/

/-- BANK_SWAP: a write of AN_RS_CMD (R361, R371). -/
def doBankSwap (path : Path) (ch : Nat) (v : Word) (s : State) : Out :=
  if v.field 31 28 ≠ 1 then .next (s.setFld (AN_RS_STATUS ch) 31 28 2)
  else if !within 256 65536 (v.field 16 0) then .next (s.rangeFlag path (AN_RS_CMD ch))
  else
    let u := s.ana ch
    .next ((s.setAna ch { u with swaps := u.swaps ++ [(s.now + 256, v.getLsbD 24, v.field 16 0)] }).setFld (AN_RS_STATUS ch)
      31 28 0)
/-- BANK_SWAP_TAKE_EFFECT: the oldest request, 256 steps after its write (R361). -/
def execBankSwapTakeEffect (ch : Nat) (s : State) : Out :=
  match (s.ana ch).swaps with
  | [] => .next s
  | (due, t, f) :: rest =>
    let s := s.advanceTo due
    if s.now < due then .next s
    else
      let u := { s.ana ch with swaps := rest }
      let s := s.setAna ch u
      let bank := s.bitAt (AN_RS_STATUS ch) 22
      match s.awgOp ch with
      | none => .next (s.setBitAt (AN_RS_STATUS ch) 22 t)
      | some o =>
        if u.fadeEnd.isSome then
          .next (((s.setAna ch { u with pend := some (t, f) }).setBitAt (AN_RS_STATUS ch) 24 true).setBitAt (AN_RS_STATUS ch) 25 t)
        else if t = bank then .next (s.setFld (AN_RS_STATUS ch) 31 28 1)
        else
          let m := match awgWork o with
            | some w => if w.begun && !w.armed then (due - w.s - 64) * 15 else 0
            | none => 0
          .next ((((s.setAna ch { u with fadeStart := m, fadeEnd := some (m + f) }).setBitAt (AN_RS_STATUS ch) 22 t).setBitAt
            (AN_RS_STATUS ch) 23 true).setFld (AN_RS_STATUS ch) 16 0 f)
/-- FADE_END: the last sample of the fade has left (R361). -/
def execFadeEnd (ch : Nat) (s : State) : Out :=
  match (s.ana ch).fadeEnd, s.awgOp ch with
  | some e, some o =>
    match awgWork o with
    | some w =>
      if !w.begun || w.armed then .next s
      else
        let due := w.s + 64 + ceilDiv e 15
        let s := s.advanceTo due
        .next (if s.now < due then s else s.fadeOver ch true)
    | none => .next s
  | _, _ => .next s
/-- COEFFICIENT_WRITE: it reaches only a bank that is neither live nor part of a fade (R362). -/
def doCoefficientWrite (ch : Nat) (bankB : Bool) (index : Nat) (v : Word) (s : State) : Out :=
  .next (if (s.ana ch).fadeEnd.isSome ∨ s.bitAt (AN_RS_STATUS ch) 22 = bankB then
      (s.incSat (AN_COEF_DROPS ch)).event (AN_EVENTS ch) 2
    else s.setReg (if bankB then AN_COEF_B ch index else AN_COEF_A ch index) (BitVec.ofNat 32 (v.field 17 0)))

/-! DIGITIZE (R364 to R369). -/

/-- Samples that the island buffers for a channel: 512 KiB (R367). -/
def digBuffer : Nat := 262144
/-- DIGITIZE starts: it applies the staged range (R364, R366). -/
def startDigitize (s : State) (o : Op) : State :=
  let a := o.pay 0 1
  let r := s.fld (AN_DIG_CFG a) 1 0
  let trig := bit (o.pay 1 1) 1
  let s := s.beginOp o
  let s := if r = s.fld (AN_STATUS a) 2 1 then s
    else (s.setFld (AN_STATUS a) 2 1 r).setAna a { s.ana a with digChanged := some s.now }
  s.setWork o.asn (.digitize
    { s := if o.startField = 0 ∧ !trig then s.now + 256 else s.now, armed := trig, taken := 0, stored := 0, buf := [],
      settling := false, overs := false, mask := none, violation := none, behind := false })
/-- The DIGITIZE that holds the digitizer half of a channel. -/
def State.digOp (s : State) (ch : Nat) : Option (Op × DigWork) :=
  s.ops.findSome? (fun o => match o.work with
    | .digitize w => if o.phase == .running && o.pay 0 1 == ch then some (o, w) else none
    | _ => none)
/-- AN_DIG_MASK as it stands: LO and HI. -/
def State.digMask (s : State) (ch : Nat) : Int × Int :=
  (signed 12 (s.fld (AN_DIG_MASK ch) 11 0), signed 12 (s.fld (AN_DIG_MASK ch) 27 16))
/-- The mask is latched at s: it takes what the register holds, when s has come and nothing is latched yet (R368). -/
def State.latchDig (s : State) (ch : Nat) : State :=
  match s.digOp ch with
  | some (o, w) =>
    if !w.armed && w.mask.isNone && decide (w.s ≤ s.now) then s.setWork o.asn (.digitize { w with mask := some (s.digMask ch) })
    else s
  | none => s
/-- A line fires at f: every DIGITIZE that waits for it starts there (R366, R368). -/
def State.digFire (s : State) (l f : Nat) : State :=
  s.forEach (s.ops.filter (fun o => o.phase == .running && o.opcode == 8 && o.pay 2 1 == l)) (fun s o =>
    match (s.op? o.asn).map Op.work with
    | some (.digitize w) =>
      if w.armed ∧ w.s ≤ f then
        s.setWork o.asn (.digitize { w with armed := false, s := f, mask := some (s.digMask (o.pay 0 1)) })
      else s
    | _ => s)
/-- DETAIL of a DIGITIZE (R369). -/
def digDetail (w : DigWork) : Nat := w.stored + (if w.settling then 2 ^ 62 else 0) + (if w.overs then 2 ^ 63 else 0)
/-- The oldest `n` buffered samples of a DIGITIZE are written to the store (R366, R367). -/
def State.storeSamples (s : State) (o : Op) (w : DigWork) (n : Nat) : State × DigWork :=
  let out := w.buf.take n
  let w' : DigWork := { w with stored := w.stored + out.length, buf := w.buf.drop n,
                               settling := w.settling || out.any (fun v => bit v 3), overs := w.overs || out.any (fun v => bit v 2) }
  (((s.writeBytes (o.pay 0x10 8 + 2 * w.stored) (out.flatMap (leBytes 2))).setWork o.asn (.digitize w')).setProgress o.asn w'.stored,
   w')
/-- The capture of a DIGITIZE is over: all samples are taken, a violation stops it, its buffer has overflowed, or it was asked to
stop. -/
def digOver (o : Op) (w : DigWork) : Bool :=
  w.violation.isSome || w.behind || decide (o.pay 4 4 ≤ w.taken) || o.aborting || o.faulting
/-- DIGITIZER_SAMPLE: the next sample of a DIGITIZE. `code` is the conversion result before it saturates; `drained` is how many
buffered samples have been written to the store before it. One that finds the buffer full ends the capture at the last that fits
(R364, R366 to R368; log entry 132). -/
def execDigitizerSample (a : Asn) (code : Int) (drained : Nat) (s : State) : Out :=
  match s.running? a 8 with
  | none => .next s
  | some o =>
    match o.work with
    | .digitize w0 =>
      let ch := o.pay 0 1
      let k := w0.taken
      if w0.armed || digOver o w0 then .next s
      else
        let due := w0.s + 64 + 4 * k / 15
        let s := (s.advanceTo due).latchDig ch
        if s.now < due then .next s
        else
          let p := s.storeSamples o { w0 with mask := some (w0.mask.getD (s.digMask ch)) } drained
          let s := p.1; let w := p.2
          if digBuffer ≤ w.buf.length then .next ((s.setWork a (.digitize { w with behind := true })).event (AN_EVENTS ch) 5)
          else
            let settling : Bool := match (s.ana ch).digChanged with
              | some g => decide (15 * (w.s + 64) + 4 * k ≤ 15 * (g + 1600))
              | none => false
            let overs := decide (code < -2048) || decide (2047 < code)
            let c := max (-2048) (min 2047 code)
            let word := unsigned 12 c * 16 + (if settling then 8 else 0) + (if overs then 4 else 0)
            let mask := w.mask.getD (0, 0)
            let bad := bit (o.pay 1 1) 2 && !settling && (decide (c < mask.1) || decide (mask.2 < c))
            let s := s.setReg (AN_DIG_LAST ch) (BitVec.ofNat 32 word)
            let s := if overs then s.event (AN_EVENTS ch) 6 else s
            let s := s.setWork a (.digitize { w with taken := k + 1, buf := w.buf ++ [word],
                                                     violation := if bad ∧ bit (o.pay 1 1) 3 then some k else none })
            if bad then
              let t := w.s + 4 * k / 15 + 96
              let s := (s.event (AN_EVENTS ch) 1).source 7 (0x1000 + ch) 0 t
              .next (if bit (o.pay 1 1) 4 then s.lineEvent (o.pay 3 1) t else s)
            else .next s
    | _ => .next s
/-- DIGITIZE_END: what is buffered goes to the store, and the operation completes: with its samples stored, for a violation with
MASK_STOP, an overflow of its buffer, or a stop at the next sample (R367 to R369). -/
def execDigitizeEnd (a : Asn) (s : State) : Out :=
  match s.running? a 8 with
  | none => .next s
  | some o =>
    match o.work with
    | .digitize w0 =>
      if !digOver o w0 then .next s
      else
        let p := s.storeSamples o w0 w0.buf.length
        let s := p.1; let w := p.2
        .next (match w.violation with
          | some k => s.endOp a 0xB 2 (k % 2 ^ 32)
          | none =>
            if w.behind then s.endOp a 9 3 (digDetail w)
            else if o.pay 4 4 ≤ w.taken then s.endOp a 0 0 (digDetail w)
            else s.endOp a (o.endStatus 4) 0 (digDetail w))
    | _ => .next s

end Sys2Proof.Machine
end

