-- ==== Sys2Proof/Machine/Segs.lean ====
section
/-! DEFINITION. The segment directory (R223 to R228) and SEGMENT_LOAD (R229 to R234). A segment that is not EMPTY has an entry
in the directory map, since its SIZE is at least 4 KiB. -/

namespace Sys2Proof.Machine

/-- State of a segment: 0 EMPTY, 1 LOADING, 2 READY, 3 ARMED, 4 ACTIVE, 5 DRAINED (R226). -/
def State.segState (s : State) (n : Nat) : Nat := s.fld (SEG_D_INFO n) 2 0
/-- A segment takes a state other than EMPTY. -/
def State.setSegState (s : State) (n v : Nat) : State := s.setFld (SEG_D_INFO n) 2 0 v
/-- BASE of a segment. -/
def State.segBase (s : State) (n : Nat) : Nat := s.reg64 (SEG_D_BASE_LO n) (SEG_D_BASE_HI n)
/-- A segment becomes EMPTY: its directory entry reads 0, and it owns no bytes (R223, R226). -/
def State.emptySeg (s : State) (n : Nat) : State :=
  (((((s.setReg (SEG_D_INFO n) 0).setReg (SEG_D_VCOUNT n) 0).setReg (SEG_D_BASE_LO n) 0).setReg (SEG_D_BASE_HI n) 0)).setSeg n
    (segDefault n)
/-- The segment owns a byte of the range (R223). -/
def State.segOverlaps (s : State) (n a len : Nat) : Bool :=
  let b := s.segBase n; let sz := (s.seg n).size
  s.segState n != 0 && decide (b < a + len) && decide (a < b + sz)
/-- Segments that own a byte of a range, ascending. -/
def State.segsIn (s : State) (a len : Nat) : List Nat := (s.segs.map Prod.fst).filter (fun n => s.segOverlaps n a len)

/-! Arming and playing (R226, R227). -/

/-- A run arms a segment that is READY, DRAINED or ARMED already; another state does not change. -/
def State.armSeg (s : State) (n a : Nat) : State :=
  let g := s.seg n; let st := s.segState n
  if st = 2 ∨ st = 5 then (s.setSeg n { g with armedBy := g.armedBy ++ [(a, st)] }).setSegState n 3
  else if st = 3 ∧ !g.armedBy.any (fun x => x.1 == a) then
    s.setSeg n { g with armedBy := g.armedBy ++ [(a, (g.armedBy.map Prod.snd).headD 2)] }
  else s
/-- A run gives up a segment it armed: when no other run has it armed, it returns to the state it held before. -/
def State.unarmSeg (s : State) (n a : Nat) : State :=
  let g := s.seg n
  match g.armedBy.find? (fun x => x.1 == a) with
  | none => s
  | some x =>
    let rest := g.armedBy.filter (fun y => y.1 != a)
    let s := s.setSeg n { g with armedBy := rest }
    if s.segState n = 3 ∧ rest.isEmpty then s.setSegState n x.2 else s
/-- A run starts the first vector of a segment. -/
def State.activateSeg (s : State) (n a : Nat) : State :=
  let g := s.seg n
  (s.setSeg n { g with armedBy := g.armedBy.filter (fun y => y.1 != a),
                       playedBy := if g.playedBy.contains a then g.playedBy else g.playedBy ++ [a] }).setSegState n 4
/-- A run has played a segment: it becomes DRAINED when no other run plays it, or ARMED while another has it armed. -/
def State.drainSeg (s : State) (n a : Nat) : State :=
  let g := s.seg n
  if !g.playedBy.contains a then s
  else
    let rest := g.playedBy.filter (fun y => y != a)
    let s := s.setSeg n { g with playedBy := rest }
    if s.segState n ≠ 4 ∨ !rest.isEmpty then s
    else if g.armedBy.isEmpty then s.setSegState n 5 else s.setSegState n 3

/-! SEGMENT_LOAD. -/

/-- Fields of a SEGMENT_LOAD payload (R229). -/
def loadSeg (o : Op) : Nat := o.pay 0 2
def loadBase (o : Op) : Nat := o.pay 0x10 8
/-- SIZE of the target (R224). -/
def loadSize (o : Op) : Nat := sizeOf4k (loadDataLen o.desc)
/-- The segment keeps a load busy (R231). -/
def State.segBusy (s : State) (n : Nat) : Bool := s.segState n == 1 || s.segState n == 3 || s.segState n == 4
/-- The segment that keeps a load busy: its target, else the lowest-numbered one in its range (R231). -/
def State.loadBusy (s : State) (o : Op) : Option Nat :=
  if s.segBusy (loadSeg o) then some (loadSeg o)
  else ((s.segsIn (loadBase o) (loadSize o)).filter (fun n => n != loadSeg o)).find? s.segBusy
/-- The load takes its target (R231, R224). -/
def State.takeTarget (s : State) (o : Op) : State :=
  let n := loadSeg o; let geom := o.pay 3 1
  let overs := (s.segsIn (loadBase o) (loadSize o)).filter (fun m => m != n)
  let s := s.forEach overs (fun s m => s.emptySeg m)
  let s := if overs.isEmpty then s else s.event SEG_EVENTS 3
  let info := 1 + 256 * (geom % 8) + 4096 * (geom / 8 % 16) + (if o.pay 2 1 = 1 then 65536 else 0) +
    (if bit geom 7 then 131072 else 0) + 262144 * o.pay 4 1
  let s := (s.setReg (SEG_D_INFO n) (BitVec.ofNat 32 info)).setReg (SEG_D_VCOUNT n) (BitVec.ofNat 32 (o.pay 8 4))
  let s := s.setReg64 (SEG_D_BASE_LO n) (SEG_D_BASE_HI n) (loadBase o)
  let s := s.setSeg n { crc := o.pay 0xC 4, size := loadSize o, dataLen := loadDataLen o.desc, loader := some o.asn,
                        armedBy := [], playedBy := [] }
  s.setWork o.asn (.load { took := true, counted := 0, partials := [], done := [] })
/-- SEGMENT_LOAD starts: it takes its target, waits while busy, or with NO_WAIT fails (R231). -/
def startSegmentLoad (s : State) (o : Op) : State :=
  let s := (s.beginOp o).setWork o.asn (.load { took := false, counted := 0, partials := [], done := [] })
  match s.loadBusy o with
  | none => s.takeTarget o
  | some n => if bit (o.pay 5 1) 0 then s.endOp o.asn 9 1 n else s

/-- SEGMENT_LOAD_TAKE: the load is no longer busy (R231). -/
def execSegmentLoadTake (a : Asn) (s : State) : Out :=
  match s.running? a 2 with
  | none => .next s
  | some o =>
    match o.work with
    | .load w => .next (if w.took || s.aon.resetting != 0 || (s.loadBusy o).isSome then s else s.takeTarget o)
    | _ => .next s

/-- 64-byte blocks of a load that hold a byte below DATA_LEN (R232). -/
def loadBlocks (o : Op) : Nat := ceilDiv (loadDataLen o.desc) 64
/-- Bytes of block i below DATA_LEN. -/
def blockBytes (o : Op) (i : Nat) : Nat := min 64 (loadDataLen o.desc - 64 * i)
/-- The bytes of one store write that fall into block i of a load, as a mask (R232). -/
def blockMask (o : Op) (i a n : Nat) : Nat :=
  maskOf (blockBytes o i) (fun j => decide (a ≤ loadBase o + 64 * i + j) && decide (loadBase o + 64 * i + j < a + n))
/-- One block of a STREAM load takes the bytes of a write; it counts once each of them was written (R232). -/
def countBlock (o : Op) (a n : Nat) (w : LoadWork) (i : Nat) : LoadWork :=
  if w.done.contains i then w
  else
    let old := ((w.partials.find? (fun p => p.1 == i)).map Prod.snd).getD 0
    let m := old ||| blockMask o i a n
    let others := w.partials.filter (fun p => p.1 != i)
    if m = 2 ^ blockBytes o i - 1 then { w with counted := w.counted + 1, done := w.done ++ [i], partials := others }
    else if m = 0 then w else { w with partials := others ++ [(i, m)] }
/-- A store write of `n` bytes at `a` counts towards a STREAM load (R232). -/
def countWrite (o : Op) (a n : Nat) (w : LoadWork) : LoadWork :=
  let lo := (a - loadBase o) / 64
  let hi := min (loadBlocks o) ((a + n - loadBase o + 63) / 64)
  ((List.range (hi - lo)).map (fun i => lo + i)).foldl (countBlock o a n) w

/-- The progress marker of a load that has taken its target is brought up to date (R109, R234). A STREAM load has 64 times its
counted blocks. A COPY load has copied on: how far, no rule says, so the bytes in place are a free count that never falls, and
does not pass a source byte with a poison tag (log entry 17). -/
def State.copyOn (s : State) (o : Op) : State :=
  match o.work with
  | .load w =>
    if !w.took then s
    else if o.pay 2 1 = 1 then s.setProgress o.asn (64 * w.counted)
    else
      let p := s.fresh 28
      let n := min o.progress (loadDataLen o.desc) + p.1 % (loadDataLen o.desc + 1 - min o.progress (loadDataLen o.desc))
      let len := n - o.progress
      if s.poisonIn (o.pay 0x18 8 + o.progress) len then p.2
      else (p.2.writeBytes (loadBase o + o.progress) (s.bytes (o.pay 0x18 8 + o.progress) len)).setProgress o.asn (o.progress + len)
  | _ => s
/-- SEGMENT_LOAD_CRC_DONE: the copy is made or every block has counted; the CRC decides (R232, R233; log entries 14 and
17). -/
def execSegmentLoadCrcDone (a : Asn) (s : State) : Out :=
  match s.running? a 2 with
  | none => .next s
  | some o =>
    match o.work with
    | .load w =>
      let n := loadDataLen o.desc; let copy := o.pay 2 1 == 0
      if !w.took || s.aon.resetting != 0 || (!copy && w.counted < loadBlocks o) then .next s
      else
      let k := min o.progress n
      if copy && s.poisonIn (o.pay 0x18 8 + k) (n - k) then .next ((s.emptySeg (loadSeg o)).endOp a 0xE 0 0)
      else
        let s := if copy then s.writeBytes (loadBase o + k) (s.bytes (o.pay 0x18 8 + k) (n - k)) else s
        let c := crc32 (s.bytes (loadBase o) n)
        let s := s.setProgress a n
        if c = o.pay 0xC 4 then
          let s := (s.setSegState (loadSeg o) 2).setSeg (loadSeg o) { s.seg (loadSeg o) with loader := none }
          .next (s.endOp a 0 0 (n + 2 ^ 32 * c))
        else .next (((s.emptySeg (loadSeg o)).event SEG_EVENTS 5).endOp a 0xD 2 (n + 2 ^ 32 * c))
    | _ => .next s

end Sys2Proof.Machine
end

