-- ==== Sys2Proof/Machine/Tables.lean ====
section
/-! DEFINITION. Segment tables (R239 to R244): reading, the checks of R244, and the resolution of what follows a PLAY. -/

namespace Sys2Proof.Machine

/-- Entry i of the table of a run, as the store holds it (R239). -/
def State.tabEnt (s : State) (o : Op) (i : Nat) : TabEnt :=
  let a := o.pay 0x10 8 + 16 * i
  { op := s.le a 1, flags := s.le (a + 1) 1, seg := s.le (a + 2) 2, count := s.le (a + 4) 4, target := s.le (a + 8) 2,
    cond := s.le (a + 10) 1, arg := s.le (a + 11) 1 }
/-- The table of a run. -/
def State.tabOf (s : State) (o : Op) : List TabEnt := (List.range (o.pay 0x18 2)).map (s.tabEnt o)
/-- An entry of a table. -/
def entAt (t : List TabEnt) (i : Nat) : TabEnt := t.getD i default

/-- Depth of loops open before entry i (check 0x03). -/
def loopDepth (t : List TabEnt) (i : Nat) : Nat :=
  (t.take i).foldl (fun d e => if e.op = 2 then d + 1 else if e.op = 3 then d - 1 else d) 0
/-- First entry from `i` on that closes a loop opened `d` levels up. -/
def closeFrom (t : List TabEnt) : Nat → Nat → Nat → Option Nat
  | 0, _, _ => none
  | n + 1, i, d =>
    if t.length ≤ i then none
    else if (entAt t i).op = 2 then closeFrom t n (i + 1) (d + 1)
    else if (entAt t i).op = 3 then (if d = 0 then some i else closeFrom t n (i + 1) (d - 1))
    else closeFrom t n (i + 1) d
/-- LOOP_END that pairs with a LOOP_BEGIN at entry b. -/
def loopEnd (t : List TabEnt) (b : Nat) : Option Nat := closeFrom t (t.length + 1) (b + 1) 0
/-- Loops of a table: LOOP_BEGIN and LOOP_END entries. -/
def loopsOf (t : List TabEnt) : List (Nat × Nat) :=
  (List.range t.length).filterMap (fun b => if (entAt t b).op = 2 then (loopEnd t b).map (fun e => (b, e)) else none)
/-- Innermost loop that holds an entry between its LOOP_BEGIN and its LOOP_END: the one with the last LOOP_BEGIN. For a JUMP_IF
outside all loops the two entries themselves count as outside, so that it may target them; R244 leaves open on which side they
stand (log entry 125). -/
def innerLoop (t : List TabEnt) (i : Nat) : Option (Nat × Nat) :=
  ((loopsOf t).filter (fun l => decide (l.1 < i) && decide (i < l.2))).getLast?
/-- LOOP_BEGIN that pairs with the LOOP_END at entry e. -/
def loopBegin (t : List TabEnt) (e : Nat) : Option Nat := ((loopsOf t).find? (fun l => l.2 == e)).map Prod.fst

/-- Entries that may follow entry i, for the paths of checks 0x05 and 0x06. -/
def succOf (t : List TabEnt) (i : Nat) : List Nat :=
  let e := entAt t i
  (match e.op with
   | 5 => []
   | 4 => if e.cond = 0 then [e.target] else [e.target, i + 1]
   | 3 => (match loopBegin t i with
      | some b => [i + 1, b + 1]
      | none => [i + 1])
   | _ => [i + 1]).filter (fun j => decide (j < t.length))
/-- Entries reached from a list without passing a PLAY. -/
def reachFrom (t : List TabEnt) : Nat → List Nat → List Nat → List Nat
  | 0, seen, _ => seen
  | _, seen, [] => seen
  | n + 1, seen, i :: todo =>
    if seen.contains i || (entAt t i).op == 1 then reachFrom t n seen todo
    else reachFrom t n (i :: seen) (succOf t i ++ todo)
/-- The same with fuel enough for every entry and every edge. -/
def reach (t : List TabEnt) (l : List Nat) : List Nat := reachFrom t (4 * t.length + 8) [] l

/-- Greatest ARG of a condition (R239). -/
def argMax (c : Nat) : Nat := if c = 3 ∨ c = 4 then 15 else if c = 5 ∨ c = 6 then 7 else 0
/-- The reserved bytes of entry i are 0. -/
def State.tabPad (s : State) (o : Op) (i : Nat) : Bool := s.le (o.pay 0x10 8 + 16 * i + 12) 4 == 0
/-- A check of R244 on one entry. -/
def entCheck (t : List TabEnt) (pad : Nat → Bool) (code i : Nat) : Bool :=
  let e := entAt t i
  match code with
  | 1 => allOf [within 1 5 e.op, pad i, if e.op = 1 then e.flags < 4 && e.seg < 16384 else e.flags == 0 && e.seg == 0,
      e.op == 2 || e.count == 0,
      if e.op = 4 then e.cond ≤ 6 && decide (e.arg ≤ argMax e.cond) else e.target == 0 && e.cond == 0 && e.arg == 0]
  | 2 => e.op != 2 || 1 ≤ e.count
  | 3 => if e.op = 2 then loopDepth t i < 4 && (loopEnd t i).isSome
      else e.op != 3 || (loopsOf t).any (fun l => l.2 == i)
  | 4 => e.op != 4 || (decide (e.target < t.length) && (match innerLoop t i with
      | some (b, l) => decide (b < e.target) && decide (e.target ≤ l)
      | none => (innerLoop t e.target).isNone))
  | 5 => (e.op != 2 || (match loopEnd t i with
        | some l => (List.range (l - i)).any (fun j => (entAt t (i + j)).op == 1)
        | none => false)) &&
      (e.op != 4 || !(reach t [e.target]).contains i)
  | 6 => e.op != 4 || e.cond == 0 ||
      (reach t (succOf t i)).all (fun j => j == i || (entAt t j).op != 4 || (entAt t j).cond == 0)
  | 7 => i + 1 != t.length || e.op == 5 || (e.op == 4 && e.cond == 0)
  | _ => true
/-- First failure of R244: check by check, each over every entry. -/
def tableCheck (t : List TabEnt) (pad : Nat → Bool) : Option (Nat × Nat) :=
  (List.range 7).findSome? (fun c => ((List.range t.length).find? (fun i => !entCheck t pad (c + 1) i)).map (fun i => (c + 1, i)))

/-! Resolution (R240, R248). -/

/-- Where a walk through the table stops: a PLAY or the end, or a conditional jump. -/
inductive Walk where
  | stop (p : PlayAt)
  | jump (i : Nat) (loops : List (Nat × Nat))
deriving DecidableEq, Repr, Inhabited

/-- Entry after a LOOP_END, and the loops open there. -/
def passLoopEnd (t : List TabEnt) (i : Nat) (loops : List (Nat × Nat)) : Nat × List (Nat × Nat) :=
  match loops with
  | (b, n) :: rest =>
    if loopBegin t i = some b then (if 1 < n then (b + 1, (b, n - 1) :: rest) else (i + 1, rest)) else (i + 1, loops)
  | [] => (i + 1, [])
/-- The entries from `i` on are resolved up to a PLAY, the end, or a conditional jump. -/
def walk (t : List TabEnt) : Nat → Nat → List (Nat × Nat) → Walk
  | 0, _, loops => .stop ⟨none, loops⟩
  | n + 1, i, loops =>
    let e := entAt t i
    match e.op with
    | 1 => .stop ⟨some i, loops⟩
    | 2 => walk t n (i + 1) ((i, e.count) :: loops)
    | 3 => let p := passLoopEnd t i loops; walk t n p.1 p.2
    | 4 => if e.cond = 0 then walk t n e.target loops else .jump i loops
    | _ => .stop ⟨none, loops⟩
/-- Fuel beyond every walk that the checks of R244 allow. -/
def walkFuel : Nat := 4096 * 2 ^ 128
/-- End of a walk that meets no further conditional jump (check 0x06). -/
def Walk.place : Walk → PlayAt
  | .stop p => p
  | .jump _ l => ⟨none, l⟩
/-- Resolution of the entries from `i` on. -/
def resolve (t : List TabEnt) (i : Nat) (loops : List (Nat × Nat)) : Resolved :=
  match walk t walkFuel i loops with
  | .stop p => ⟨none, p, p⟩
  | .jump j l =>
    let e := entAt t j
    ⟨some (e.cond, e.arg), (walk t walkFuel (j + 1) l).place, (walk t walkFuel e.target l).place⟩

/-- COND of R241 under a latched state: fail latch, pending lines, pending host bits. -/
def condHolds (c arg : Nat) (fail : Bool) (trig req : Nat) : Bool :=
  match c with
  | 1 => fail
  | 2 => !fail
  | 3 => bit trig arg
  | 4 => !bit trig arg
  | 5 => bit req arg
  | 6 => !bit req arg
  | _ => true

end Sys2Proof.Machine
end

