-- ==== Sys2Proof/Machine/Runs.lean ====
section
/-! DEFINITION. PATTERN_RUN (R245 to R254, R280 to R282, R615): its check point, segment boundaries, need instants, decision
points and stop points. The play of single vectors stands in Play.lean. -/

namespace Sys2Proof.Machine

/-- The PATTERN_RUN with an acceptance sequence number, and its work. -/
def State.runOf (s : State) (a : Asn) : Option (Op × RunWork) :=
  match s.op? a with
  | some o => match o.work with
    | .run w => some (o, w)
    | _ => none
  | none => none
/-- The work of a run takes a new value. -/
def State.setRun (s : State) (a : Asn) (w : RunWork) : State := s.setWork a (.run w)
/-- Sequencers of a run. -/
def RunWork.seqs (w : RunWork) : List Nat := bitsOf w.seqMask 16
/-- Fountains of a run. -/
def RunWork.fnts (w : RunWork) : List Nat := bitsOf w.fntMask 32
/-- The runs in flight with their work. -/
def State.runs (s : State) : List (Op × RunWork) := s.ops.filterMap (fun o => match o.work with
  | .run w => some (o, w)
  | _ => none)

/-- Data of a range is lost or poison-tagged: SEGMENT_LOST, else POISONED_DATA (R119, R252, R280). -/
def State.dataBad (s : State) (a n : Nat) : Option Nat :=
  if (List.range n).any (fun i => (s.reg MEM_GROUP_LOST).getLsbD (Config.parityGroup (a + i)).toNat) then some 0xD
  else if s.poisonIn a n then some 0xE
  else none

/-! Programs and jets at the check point (R278, R280). -/

/-- Whether a jet is enabled in FNT_JET_EN, and inverted (R262, R278). -/
def State.jetEn (s : State) (j : Jet) : Bool := s.bitAt (FNT_JET_EN j.fountain (j.jet / 32)) (j.jet % 32)
def State.jetInv (s : State) (j : Jet) : Bool := s.bitAt (FNT_JET_INV j.fountain (j.jet / 32)) (j.jet % 32)
/-- Enabled jets of the fountains of a mask: fountain, place among the set's jets, INVERT. -/
def State.latchJets (s : State) (g : ImageSet) (fmask : Nat) : List (Nat × Nat × Bool) :=
  (List.range g.jets.length).filterMap (fun i => match g.jets[i]? with
    | some j => if bit fmask j.fountain && s.jetEn j then some (j.fountain, i, s.jetInv j) else none
    | none => none)
/-- Jets of a latched list that drive a channel, with the entry of their map. -/
def jetsOn (g : ImageSet) (jets : List (Nat × Nat × Bool)) (sites : List Nat) (c : Nat) : List (Nat × Bool × PinEnt) :=
  jets.filterMap (fun x => match g.jets[x.2.1]? with
    | some j => if sites.contains j.site then ((g.jetChans j).find? (fun e => e.1 == c)).map (fun e => (x.1, x.2.2, e.2)) else none
    | none => none)
/-- First channel that enabled jets of two named fountains drive, with the fountains (R280). -/
def jetOverlap (g : ImageSet) (jets : List (Nat × Nat × Bool)) (sites : List Nat) : Option (Nat × Nat × Nat) :=
  (List.range 512).findSome? (fun c =>
    match ((List.range 32).filter (fun f => (jetsOn g jets sites c).any (fun x => x.1 == f))) with
    | f :: f' :: _ => some (c, f, f')
    | _ => none)
/-- A fountain reads and checks its image: the status, reason and DETAIL of a failure, or its bytes (R264, R280). -/
def State.readProgram (s : State) (g : ImageSet) (f : Nat) : Except (Nat × Nat × Nat × Nat) (List Byte) :=
  let a := s.reg64 (FNT_PROG_ADDR_LO f) (FNT_PROG_ADDR_HI f); let n := (s.reg (FNT_PROG_LEN f)).toNat
  if !(a % 256 == 0 && within 272 49408 n && n % 16 == 0 && g.inRegion [2] a n) then .error (9, 6, 1, 0)
  else match s.dataBad a n with
    | some st => .error (st, 0, 0, 0)
    | none =>
      let bs := s.bytes a n
      match progCheck bs (s.reg (FNT_PROG_CRC f)).toNat with
      | some (c, i) => .error (9, 6, c, i)
      | none => .ok bs
/-- The named fountains read their images in ascending order; the first failure ends the run (R280). -/
def State.loadPrograms (s : State) (g : ImageSet) (a : Asn) : List Nat → State × Option (Nat × Nat × Nat)
  | [] => (s, none)
  | f :: fs =>
    match s.readProgram g f with
    | .error (st, r, c, i) =>
      if r = 6 then
        (((s.setReg (FNT_PROG_RESULT f) (BitVec.ofNat 32 (c + 256 * i))).event (FNT_EVENTS f) 0),
          some (st, r, c + 256 * i + 2 ^ 18 * f))
      else (s, some (st, r, 0))
    | .ok bs =>
      let s := s.setFnt f (fountainInit a (fun i => bs.getD i 0))
      ((s.setReg (FNT_PROG_RESULT f) 0)).loadPrograms g a fs

/-! Boundaries ahead (R248). -/

/-- A segment is available to a run at a resolution instant (R249). -/
def State.segAvail (s : State) (n a : Nat) : Bool :=
  let st := s.segState n
  st == 2 || st == 3 || st == 5 || (st == 4 && (s.seg n).playedBy.contains a)
/-- A candidate is armed; one that this run plays now and plays again later returns to ARMED after that play. -/
def State.armFor (s : State) (n a : Nat) (prev : Option Nat) : State :=
  if s.segState n = 4 then
    let g := s.seg n
    if prev = some n ∨ g.armedBy.any (fun x => x.1 == a) then s else s.setSeg n { g with armedBy := g.armedBy ++ [(a, 5)] }
  else s.armSeg n a
/-- Segments that a resolution may select. -/
def Resolved.segs (r : Resolved) (t : List TabEnt) : List Nat :=
  ([r.no.entry, r.yes.entry].filterMap id |>.map (fun e => (entAt t e).seg)).eraseDups
/-- A boundary after a place in the table that is not resolved yet. -/
def newBound (t : List TabEnt) (i : Nat) (loops : List (Nat × Nat)) : Bound :=
  let r := resolve t i loops
  { res := r, chosen := if r.cond.isNone then some r.no else none, armed := [], lacking := [], judged := false, late := false,
    decided := false, decidedAt := 0, taken := false, lateTrig := 0, lateReq := 0 }
/-- A boundary is resolved: its candidates are judged and armed (R248, R249). -/
def State.judgeBound (s : State) (a : Asn) (t : List TabEnt) (prev : Option Nat) (late : Bool) (b : Bound) : State × Bound :=
  let segs := b.res.segs t
  let ok := segs.filter (fun n => s.segAvail n a)
  (s.forEach ok (fun s n => s.armFor n a prev),
   { b with armed := ok, lacking := (segs.filter (fun n => !s.segAvail n a)).map (fun n => (n, s.segState n)),
            judged := true, late := late })
/-- Where the boundary after the last one of a list follows, or after the segments started: entry, loops open, segment before
it. -/
def placeAfter (o : Op) (w : RunWork) (l : List Bound) : Option (Nat × List (Nat × Nat) × Option Nat) :=
  match l.getLast? with
  | some b => match b.chosen with
    | some ⟨some e, l⟩ =>
      let n := (entAt w.table e).seg
      if b.lacking.any (fun x => x.1 == n) then none else some (e + 1, l, some n)
    | _ => none
  | none => match w.plays.getLast? with
    | some p => some (p.entry + 1, w.loops, some p.seg)
    | none => some (o.pay 0x1A 2, [], none)
/-- Where the next boundary to be resolved follows. -/
def nextPlace (o : Op) (w : RunWork) : Option (Nat × List (Nat × Nat) × Option Nat) :=
  placeAfter o w (w.ahead.takeWhile Bound.judged)
/-- Lines and host bits pending for a run: those of its sequencers together (R242). -/
def State.pendTrig (s : State) (w : RunWork) : Nat := w.seqs.foldl (fun m q => m ||| (s.reg (SEG_Q_TRIG q)).toNat) 0
def State.pendReq (s : State) (w : RunWork) : Nat := w.seqs.foldl (fun m q => m ||| (s.reg (SEG_Q_REQ q)).toNat) 0
/-- The decision point of a boundary, at an instant in fine units: conditions are latched, and the jump is decided. The fail
latch holds the fails whose strobes were evaluated before it (R242). -/
def State.latchBound (s : State) (w : RunWork) (at_ : Nat) (b : Bound) : Bound :=
  if b.decided then b
  else match b.res.cond with
    | none => { b with decided := true, decidedAt := s.now }
    | some (c, x) =>
      let y := condHolds c x (w.failLatch.any (fun e => decide (e < at_))) (s.pendTrig w) (s.pendReq w)
      { b with decided := true, decidedAt := s.now, taken := y, chosen := some (if y then b.res.yes else b.res.no) }

/-! Instants (R163, R615). -/

/-- Live PERIOD of a set on a cluster. -/
def State.period (s : State) (k t : Nat) : Nat := (s.liveReg (TS_PERIOD k t)).toNat
/-- A set byte of vector i of a segment, or its fixed set (R225). -/
def State.vecSet (s : State) (info : Word) (vcount addr i : Nat) : Nat :=
  if info.getLsbD 17 then
    (s.byte (addr + vcount * (info.field 15 12 + 1) * (2 ^ info.field 10 8 / 2) + i)).toNat % 64
  else info.field 23 18
/-- Fine units that vectors `lo` to `hi − 1` of a segment take on a cluster. -/
def State.playFine (s : State) (k : Nat) (info : Word) (vcount addr lo hi : Nat) : Nat :=
  if info.getLsbD 17 then ((List.range (hi - lo)).map (fun i => s.period k (s.vecSet info vcount addr (lo + i)))).sum
  else (hi - lo) * s.period k (info.field 23 18)
/-- Start on cluster k of vector m of a run, where m lies in or just after the segments started (R163). -/
def State.startOf (s : State) (w : RunWork) (k m : Nat) : Nat :=
  let u := s.clu k
  u.sNext + (w.plays.map (fun p =>
    s.playFine k p.info p.vcount p.addr (u.vec - p.base) (min p.vcount (m - p.base)))).sum
/-- Least of a list of numbers; 0 for none. -/
def leastOf : List Nat → Nat
  | [] => 0
  | [a] => a
  | a :: b :: l => min a (leastOf (b :: l))
/-- End of the segments started: the number of vectors they hold. -/
def RunWork.endVec (w : RunWork) : Nat := match w.plays.getLast? with
  | some p => p.base + p.vcount
  | none => 0
/-- Instant of the boundary after the segments started, or of a later resolved one: the earliest among the clusters (R615). -/
def State.boundaryFine (s : State) (w : RunWork) (segs : List Nat) : Nat :=
  leastOf (w.clusters.map (fun k => (if w.plays.isEmpty then w.s0 * 4096 else s.startOf w k w.endVec) + (segs.map (fun n =>
    s.playFine k (s.reg (SEG_D_INFO n)) (s.reg (SEG_D_VCOUNT n)).toNat (s.segBase n) 0 (s.reg (SEG_D_VCOUNT n)).toNat)).sum))
/-- Segments chosen at a list of boundaries ahead. -/
def RunWork.segsOf (w : RunWork) (l : List Bound) : List Nat :=
  l.filterMap (fun b => match b.chosen with
    | some ⟨some e, _⟩ => some (entAt w.table e).seg
    | _ => none)
/-- Start on cluster k of vector m of a run, which lies in the segments started or in the chosen ones that follow (R163). -/
def State.aheadStart (s : State) (w : RunWork) (k m : Nat) (segs : List Nat) : Nat :=
  s.startOf w k (min m w.endVec) + (segs.foldl (fun (p : Nat × Nat) n =>
    let v := (s.reg (SEG_D_VCOUNT n)).toNat
    (p.1 + v, p.2 + s.playFine k (s.reg (SEG_D_INFO n)) v (s.segBase n) 0 (min v (m - p.1)))) (w.endVec, 0)).2

/-! Hold states (R170, R186, R615). -/

/-- HOLD of pin j in the live set t. -/
def State.liveHold (s : State) (k t j : Nat) : Nat := (s.liveReg (tsAddr k t + 0x114 + 0x18 * j)).field 26 24
/-- Collisions are counted on a cluster and marked on the pin (R168). -/
def State.collide (s : State) (k j n : Nat) : State :=
  if n = 0 then s else (s.addSat (TE_COLLIDE k) n).orReg (TE_COLLIDE_PINS k) (2 ^ j)

/-- A channel under pattern control: its site is present in the run, and its mode is PE or PE_SENSE (R219, R285). -/
def State.playing (s : State) (g : ImageSet) (w : RunWork) (c : Nat) : Bool :=
  (match g.siteOfCh c with
    | some n => w.sites.contains n
    | none => false) && (s.liveMode c == 1 || s.liveMode c == 3)
/-- A pin takes the hold state of the set of the last vector at an instant; transitions from there on are cancelled (R170). -/
def State.holdPin (s : State) (k j lim : Nat) : State :=
  let c := 32 * k + j
  let u := s.clu k
  let p := (s.chan c).passEdges (lim : Nat)
  let hold : Edge := { due := (lim : Nat), vec := u.vec, kind := 4 + s.liveHold k u.lastSet j, level := false }
  (s.setChan c { p.1 with edges := [], recent := [], due := p.1.due ++ [hold], drove := false }).collide k j p.2
/-- Every pin on which a cluster plays takes its hold state at the cluster's own stop, or at the instant `cut` when that comes
first. Where no vector has played the pins keep their state (R170, R249, R319, R615). -/
def State.holdCluster (s : State) (g : ImageSet) (w : RunWork) (k cut : Nat) : State :=
  let u := s.clu k
  if u.vec = 0 ∨ u.stopped then s
  else (s.forEach (List.range 32) (fun s j => if s.playing g w (32 * k + j) then s.holdPin k j (min u.sNext cut) else s)).setClu k
    { u with stopped := true }
/-- Clusters that have played the last vector before the stop point hold their pins (R615). -/
def State.holdEnded (s : State) (a : Asn) : State :=
  match s.runOf a, s.cfg.active with
  | some (_, w), some g => match w.stopAt with
    | some n => s.forEach (w.clusters.filter (fun k => decide (n ≤ (s.clu k).vec))) (fun s k => s.holdCluster g w k (2 ^ 90))
    | none => s
  | _, _ => s

/-! The end of a run (R252, R253). -/

/-- An event of R252 ends a run after `n` vectors, unless an earlier event, or at the same boundary one that stands earlier
in the list, has decided it. -/
def RunWork.endAt (w : RunWork) (status reason rank n : Nat) : RunWork :=
  match w.ending, w.stopAt with
  | some (_, _, r), some m =>
    if n < m ∨ (n = m ∧ rank < r) then { w with ending := some (status, reason, rank), stopAt := some n } else w
  | _, _ => { w with ending := some (status, reason, rank), stopAt := some n }
/-- A run in progress is ended after `n` vectors; a cluster that has played them holds its pins from then on. -/
def State.endRun (s : State) (a : Asn) (status reason rank n : Nat) : State :=
  match s.runOf a with
  | some (o, w) =>
    if o.phase = .running ∧ w.stop.isNone then (s.setRun a (w.endAt status reason rank n)).holdEnded a else s
  | none => s
/-- A run in progress is ended at the next vector boundary (R252). -/
def State.stopRun (s : State) (a : Asn) (status reason rank : Nat) : State :=
  match s.runOf a with
  | some (_, w) => s.endRun a status reason rank w.vectors
  | none => s
/-- DETAIL of a completion (R253). -/
def runDetail (w : RunWork) (status : Nat) : Nat :=
  let addr := w.vaddr.getD (2 ^ 40 - 1)
  if status ≤ 1 then min w.vectors (2 ^ 48 - 1)
  else if status = 2 then addr + 2 ^ 40 * (w.lack.map Prod.fst).getD 0 + 2 ^ 54 * (w.lack.map Prod.snd).getD 0
  else addr + (if w.seqMask = 0 ∧ w.vaddr = none then 2 ^ 40 else 0)
/-- The generator of a fountain stands ahead of the vector that plays, by an amount that the spec does not give but bounds by the
buffers of the clusters (R284; log entry 18). -/
def State.runAhead (s : State) (f : Nat) : State :=
  if (s.fnt f).alive then
    let p := s.fresh 32
    let lo := match ((s.fnt f).asn).bind s.runOf with
      | some (_, w) => leastOf (w.clusters.map (fun k => (s.clu k).vec))
      | none => 0
    p.2.fountainAhead f (lo + Config.fountainBuffer) p.1
  else s
/-- Remaining iterations that a sequencer shows, by depth: the loops open, the outermost first (R240, R255; log entry 121). -/
def State.showLoops (s : State) (q : Nat) (loops : List (Nat × Nat)) : State :=
  s.forEach (List.range 4) (fun s d =>
    s.setReg (SEG_Q_LOOP0 q + 4 * d) (BitVec.ofNat 32 ((loops.reverse.map Prod.snd).getD d 0)))
/-- What the sequencers of a run show of a run in which no vector has played (R255). -/
def State.showNothing (s : State) (w : RunWork) : State :=
  s.forEach w.seqs (fun s q => (s.setReg64 (SEG_Q_VADDR_LO q) (SEG_Q_VADDR_HI q) (2 ^ 40 - 1)).setReg64 (SEG_Q_VECTORS_LO q)
    (SEG_Q_VECTORS_HI q) 0)
/-- The run gives up what it holds beside its resource set: armed and played segments, sequencers, fountains, clusters
(R226, R242). -/
def State.closeRun (s : State) (a : Asn) (w : RunWork) : State :=
  let s := s.forEach (w.ahead.flatMap Bound.armed) (fun s n => s.unarmSeg n a)
  let s := s.forEach (w.plays.map Play.seg) (fun s n => s.drainSeg n a)
  let s := s.forEach w.seqs (fun s q =>
    (((s.setBitAt (SEG_Q_STATUS q) 0 false).setReg (SEG_Q_REQ q) 0).setReg (SEG_Q_TRIG q) 0).showLoops q [])
  let s := s.forEach w.fnts (fun s f =>
    let s := s.runAhead f
    (s.setFnt f { s.fnt f with asn := none }).setBitAt (FNT_STATUS f) 1 false)
  s.forEach w.clusters (fun s k => if (s.clu k).run = some a then
    (s.setClu k { s.clu k with run := none }).setFld (TE_STATUS k) 13 8 0 else s)
/-- A run that has played nothing completes; it has given up what it held. -/
def State.failRun (s : State) (a : Asn) (status reason detail : Nat) : State :=
  match s.runOf a with
  | some (_, w) => ((s.closeRun a w).showNothing w).endOp a status reason detail
  | none => s.endOp a status reason detail

/-! The check point (R247, R280). -/

/-- Clusters that a run feeds, and its table and jets as the check point finds them. -/
def State.newRun (s : State) (g : ImageSet) (o : Op) : RunWork :=
  { (default : RunWork) with
    seqMask := o.pay 0 2, fntMask := o.pay 4 4, clusters := o.fed g, s0 := o.pay 8 8,
    table := if o.pay 0 2 = 0 then [] else s.tabOf o, jets := s.latchJets g (o.pay 4 4) }
/-- Fountains of a checked run hold their programs: RUNNING, no fault, counters at 0. INSTR stays until a vector starts (R273,
R284). -/
def State.armFountain (s : State) (f : Nat) : State :=
  let s := s.setReg (FNT_STATUS f) ((s.reg (FNT_STATUS f) &&& 0xFFC00001) ||| 2)
  let s := ((s.setReg (FNT_CYCLES_LO f) 0).setReg (FNT_CYCLES_HI f) 0).setReg (FNT_REF_STATUS f) 0
  s.forEach (List.range 8) (fun s i => s.setReg (FNT_LC f i) 0)
/-- Fail counts of the clusters that a run feeds clear at its check point (R287). -/
def State.clearCounts (s : State) (w : RunWork) : State :=
  s.forEach w.clusters (fun s k => s.forEach (List.range 32) (fun s j => s.setReg (CMP_FAILCNT k j) 0))
/-- The check point of a run: its table, its programs, jet overlap, then the first segment is armed (R244, R247, R280, R287).
A failure completes the run with nothing played. A table that reaches END before any PLAY ends the run at once (R240): the model
ends it here, with STARTED 0, the spec naming no later instant (log entry 122). -/
def State.checkRun (s : State) (o : Op) : State :=
  match s.cfg.active with
  | none => s
  | some g =>
    let w := s.newRun g o
    let n := o.pay 0x18 2 * 16
    let s := s.clearCounts w
    match (if w.seqMask = 0 then none else s.dataBad (o.pay 0x10 8) n) with
    | some st => (s.showNothing w).endOp o.asn st 0 (runDetail w st)
    | none =>
      match (if w.seqMask = 0 then none else tableCheck w.table (s.tabPad o)) with
      | some (c, i) => (s.showNothing w).endOp o.asn 9 2 (c + 256 * i)
      | none =>
        let keep := w.fnts.map (fun f => (f, s.fnt f))
        match s.loadPrograms g o.asn w.fnts with
        | (t, some (st, r, d)) =>
          let t := t.forEach keep (fun t e => t.setFnt e.1 e.2)
          (t.showNothing w).endOp o.asn st r (if r = 6 then d else runDetail w st)
        | (t, none) =>
          match jetOverlap g w.jets (t.presentSites o) with
          | some (c, f, f') =>
            ((t.forEach keep (fun t e => t.setFnt e.1 e.2)).showNothing w).endOp o.asn 9 5 (c + 2 ^ 10 * f + 2 ^ 15 * f')
          | none =>
            let t := t.forEach w.fnts State.armFountain
            if w.seqMask = 0 then t.setRun o.asn w
            else
              let p := t.judgeBound o.asn w.table none false (newBound w.table (o.pay 0x1A 2) [])
              let u := p.1.setRun o.asn { w with ahead := [p.2] }
              if p.2.res.no.entry = none ∧ p.2.res.yes.entry = none then u.failRun o.asn 0 0 0 else u

/-- PATTERN_RUN starts: the clusters take it, with S(0) at START_GCC, or 3,200 steps after the start (R246, R247). The pins keep
their hold states until vector 0, and those of absent sites are in hold state OFF (R186, R219, R249). -/
def startPatternRun (s : State) (o : Op) : State :=
  match s.runOf o.asn, s.cfg.active with
  | some (_, w), some g =>
    if w.seqMask ≠ 0 ∧ !(g.clustersOfFnt w.fntMask).all (g.clustersOfSeq w.seqMask).contains then s.failRun o.asn 9 4 0
    else
      let s0 := if o.pay 8 8 ≠ 0 then s.now else s.now + 3200
      let sites := s.presentSites o
      let s := s.beginOp o
      let s := s.setRun o.asn { w with s0 := s0, sites := sites }
      let s := s.forEach w.seqs (fun s q =>
        ((s.setReg (SEG_Q_STATUS q) ((s.reg (SEG_Q_STATUS q) &&& 0xFFF00000) ||| 1)).setReg (SEG_Q_REQ q) 0).setReg
          (SEG_Q_TRIG q) 0)
      let s := s.showNothing w
      s.forEach w.clusters (fun s k =>
        let s := s.setClu k { s.clu k with run := some o.asn, vec := 0, sNext := s0 * 4096, lastSet := 0, lastS := s0 * 4096, stopped := false }
        s.forEach (maskChans k (2 ^ 32 - 1)) (fun s c =>
          let ch := s.chan c
          if ch = chanDefault c then s
          else if (match g.siteOfCh c with
            | some n => sites.contains n
            | none => true) then s.setChan c { ch with drove := false, level := false, recent := [] }
          else s.setChan c { ch with drove := false, level := false, inRun := false, driving := false, hold := 0, edges := [],
                                     recent := [], due := [] }))
  | _, _ => s

/-! Segment boundaries. -/

/-- A SEGTRIG pulse of a sequencer; one that begins before the last has ended extends it (R254). -/
def State.segPulse (s : State) (q b : Nat) : State :=
  let e := b + s.fld (SEG_Q_TRIG_CFG q) 7 0
  let l := s.trg.segPulses
  let l' := match l.find? (fun p => p.1 == q && decide (b ≤ p.2.2)) with
    | some p => l.map (fun x => if x = p then (q, p.2.1, max p.2.2 e) else x)
    | none => l ++ [(q, b, e)]
  { s with trg := { s.trg with segPulses := l' } }
/-- Level at the ball SEGTRIG of a sequencer: asserted inside its pulse, low or high as POL says (R254, R255). -/
def State.segtrigBall (s : State) (q : Nat) : Bool :=
  s.trg.segPulses.any (fun p => p.1 == q && decide (p.2.1 ≤ s.now) && decide (s.now < p.2.2)) != s.bitAt (SEG_Q_TRIG_CFG q) 9
/-- The segment of a PLAY entry starts at a boundary (R226, R240, R254). -/
def State.startSegment (s : State) (a : Asn) (w : RunWork) (e : Nat) (loops : List (Nat × Nat)) (fine : Nat) : State :=
  let ent := entAt w.table e
  let n := ent.seg
  let last := w.plays.getLast?.map Play.seg
  let s := s.activateSeg n a
  let s := match last with
    | some m => if m = n then s else s.drainSeg m a
    | none => s
  let p : Play := { base := w.endVec, entry := e, seg := n, info := s.reg (SEG_D_INFO n),
                    vcount := (s.reg (SEG_D_VCOUNT n)).toNat, addr := s.segBase n }
  let clear := bit ent.flags 1
  let s := s.setRun a { w with plays := w.plays ++ [p], loops := loops,
                               failLatch := if clear then w.failLatch.filter (fun e => decide (fine ≤ e)) else w.failLatch,
                               clearedAt := if clear then fine else w.clearedAt }
  let s := s.forEach w.seqs (fun s q =>
    let s := s.setFld (SEG_Q_STATUS q) 31 20 e
    let s := if clear then s.setBitAt (SEG_Q_STATUS q) 2 (((s.runOf a).bind (fun x => x.2.failLatch)).isSome) else s
    s.showLoops q loops)
  if bit ent.flags 0 then
    let t := (fine + 4095) / 4096 + 64
    s.forEach w.seqs (fun s q => (if s.bitAt (SEG_Q_TRIG_CFG q) 8 then s.segPulse q t else s).source 4 q 0 t)
  else s
/-- A set that a segment names fails R169 on a cluster of the run (R250). -/
def State.badSets (s : State) (w : RunWork) (n : Nat) : Bool :=
  let info := s.reg (SEG_D_INFO n); let v := (s.reg (SEG_D_VCOUNT n)).toNat; let b := s.segBase n
  let sets := if info.getLsbD 17 then ((List.range v).map (s.vecSet info v b)).eraseDups else [info.field 23 18]
  w.clusters.any (fun k => sets.any (fun t => (tsCheck (fun off => s.liveReg (tsAddr k t + off))).isSome))
/-- Bits of a mask that a taken jump consumes, unless they came again after the decision point (R241, R243). -/
def consumed (b : Bound) (trig : Bool) : Nat :=
  match b.res.cond with
  | some (c, x) =>
    let mine := if trig then c = 3 ∨ c = 4 else c = 5 ∨ c = 6
    if b.taken ∧ mine ∧ !bit (if trig then b.lateTrig else b.lateReq) x then 2 ^ x else 0
  | none => 0
/-- The data of a segment that was resolved after its need instant may not be in the vector buffers by its first vector: whether
it is, is a free value (R248; log entry 123). -/
def State.dataLate (s : State) (b : Bound) : Bool × State :=
  if b.late then let p := s.fresh 1; (p.1 == 1, p.2) else (false, s)
/-- A run ends at a boundary with UNDERRUN, for want of a segment in this state (R249). -/
def State.underrun (s : State) (a : Asn) (w : RunWork) (lack : Nat × Nat) : State :=
  (((s.setRun a { w with lack := some lack }).endRun a 2 0 1 w.endVec).incSat SEG_UNDERRUNS).event SEG_EVENTS 0
/-- A boundary is passed: the selected segment starts, or the run ends there (R240, R249, R250). A candidate that was armed and
not taken returns to its former state here; the spec does not say whether it already does so at the decision point (R226, R248;
log entry 124). -/
def State.passBoundary (s : State) (o : Op) (w : RunWork) (fine : Nat) : State :=
  let a := o.asn
  match w.ahead with
  | [] => s
  | b :: rest =>
    let b := s.latchBound w fine b
    let place := b.chosen.getD ⟨none, []⟩
    let n := w.endVec
    match place.entry with
    | none => (s.forEach w.seqs (fun s q => s.showLoops q place.loops)).endRun a 0 0 0 n
    | some e =>
      let sg := (entAt w.table e).seg
      match b.lacking.find? (fun x => x.1 == sg) with
      | some x => s.underrun a w x
      | none =>
        let p := s.dataLate b
        let s := p.2
        if s.segState sg = 0 then s.endRun a 0xD 0 5 n
        else if s.fld (SEG_D_INFO sg) 15 12 + 1 ≠ w.seqs.length ∨ s.badSets w sg then s.endRun a 9 3 2 n
        else if p.1 then s.underrun a w (sg, s.segState sg)
        else if w.stopAt.isSome then s
        else
          let s := s.forEach w.seqs (fun s q =>
            (s.clrReg (SEG_Q_TRIG q) (consumed b true)).clrReg (SEG_Q_REQ q) (consumed b false))
          let s := s.startSegment a { w with ahead := rest } e place.loops fine
          let held := rest.flatMap Bound.armed
          s.forEach (b.armed.filter (fun m => m != sg && !held.contains m)) (fun s m => s.unarmSeg m a)

/-- The next boundary of a run is resolved; its decision point may have passed before (R242, R248). -/
def State.resolveNext (s : State) (o : Op) (w : RunWork) (late : Bool) : State × RunWork :=
  match nextPlace o w with
  | none => (s, w)
  | some (i, l, prev) =>
    let done := w.ahead.takeWhile Bound.judged
    let p := s.judgeBound o.asn w.table prev late ((w.ahead.drop done.length).head?.getD (newBound w.table i l))
    (p.1, { w with ahead := done ++ p.2 :: w.ahead.drop (done.length + 1) })
/-- The run is running and its end is not behind it. -/
def runLive (o : Op) (w : RunWork) : Bool := o.phase == .running && w.stop.isNone && w.seqMask != 0

/-- Once the last vector of a segment has started, the segment is DRAINED as soon as the PLAY that follows is known to name
another segment (R226). -/
def State.drainAhead (s : State) (a : Asn) : State :=
  match s.runOf a with
  | none => s
  | some (_, w) =>
    match w.plays.getLast?, w.ahead.head?.bind Bound.chosen with
    | some p, some ⟨some e, _⟩ =>
      if w.stop.isNone ∧ w.vectors = w.endVec ∧ (entAt w.table e).seg ≠ p.seg then s.drainSeg p.seg a else s
    | _, _ => s

/-- NEED_INSTANT (R248). -/
def execNeedInstant (a : Asn) (s : State) : Out :=
  match s.runOf a with
  | none => .next s
  | some (o, w) =>
    if !(runLive o w || (o.phase == .scheduled && w.stop.isNone && w.seqMask != 0)) || (w.plays.isEmpty && w.ahead.isEmpty) ||
      (nextPlace o w).isNone then .next s
    else
      let need := s.boundaryFine w (w.segsOf (w.ahead.takeWhile Bound.judged)) / 4096 - 3200
      let s := s.advanceTo need
      let p := s.resolveNext o w (decide (need < s.now))
      .next ((p.1.setRun a p.2).drainAhead a)

/-- Every strobe that a cluster evaluates before an instant has been evaluated. -/
def State.strobesIn (s : State) (k a fine : Nat) : Bool :=
  (s.clu k).strobes.all (fun b => b.asn != a || b.lastAt.all (fun x =>
    b.got.any (fun r => r.pin == x.1) || decide (fine ≤ s.evaluatedFine k x)))
/-- DECISION_POINT: the first boundary ahead that is not decided latches its conditions, at the earliest start of the vector
that plays 15 vectors before its last one, or of vector 0. That may come before its entries are resolved. It waits for the
vectors that start before it and for the strobes that are evaluated before it (R242, R615). -/
def execDecisionPoint (a : Asn) (s : State) : Out :=
  match s.runOf a with
  | none => .next s
  | some (o, w) =>
    if !runLive o w || w.plays.isEmpty then .next s
    else
      let done := w.ahead.takeWhile Bound.decided
      let segs := w.segsOf done
      let last := w.endVec + (segs.map (fun n => (s.reg (SEG_D_VCOUNT n)).toNat)).sum
      let at_ := leastOf (w.clusters.map (fun k => s.aheadStart w k (max (s.clu k).vec (last - 16)) segs))
      let next : Option Bound := match w.ahead.drop done.length with
        | b :: _ => some b
        | [] => (placeAfter o w done).map (fun p => newBound w.table p.1 p.2.1)
      match next with
      | none => .next s
      | some b =>
        if w.clusters.any (fun k => decide ((s.clu k).vec < w.endVec) && decide ((s.clu k).sNext < at_) ||
          !s.strobesIn k a at_) then .next s
        else
          let s := s.advanceTo (at_ / 4096)
          if s.now < at_ / 4096 then .next s
          else .next ((s.setRun a { w with
            ahead := done ++ s.latchBound w at_ b :: w.ahead.drop (done.length + 1) }).drainAhead a)

/-- SEGMENT_BOUNDARY: the boundary after the segments started, or the start of the first one at S(0) (R249, R615). A conditional
jump has been decided before; one before the first PLAY is decided at S(0) (R242). -/
def execSegmentBoundary (a : Asn) (s : State) : Out :=
  match s.runOf a with
  | none => .next s
  | some (o, w) =>
    let past := match w.stopAt with
      | some n => decide (n < w.endVec) || (w.ending.map (fun e => e.2.2)).getD 9 ≤ 2
      | none => false
    let open_ := !w.plays.isEmpty && (match w.ahead with
      | b :: _ => b.res.cond.isSome && !b.decided
      | [] => (placeAfter o w []).any (fun p => (newBound w.table p.1 p.2.1).res.cond.isSome))
    if !runLive o w || w.vectors != w.endVec || past || open_ then .next s
    else
      let fine := s.boundaryFine w []
      let s := s.advanceTo (fine / 4096)
      if s.now < fine / 4096 then .next s
      else
        let p := if (w.ahead.head?.map Bound.judged).getD false then (s, w) else s.resolveNext o w true
        .next ((p.1.setRun a p.2).passBoundary o p.2 fine)

/-- SEGTRIG_PULSE_END (R254). -/
def execSegtrigPulseEnd (seq : Nat) (s : State) : Out :=
  match s.trg.segPulses.find? (fun p => p.1 == seq) with
  | none => .next s
  | some p =>
    let s := s.advanceTo p.2.2
    .next (if s.now < p.2.2 then s
      else { s with trg := { s.trg with segPulses := s.trg.segPulses.filter (fun x => x != p) } })

/-! Requests (R242, R243). -/

/-- A boundary ahead is decided, and its conditional jump tests the line or host bit x that arrives now and did not count it as
pending at the decision point, or consumes that one (R243). -/
def Bound.defers (trig : Bool) (x : Nat) (b : Bound) : Bool := b.decided && (match b.res.cond with
  | some (c, y) => y == x && (if trig then within 3 4 c else within 5 6 c) && (c == 3 || c == 5 || b.taken) &&
      !bit (if trig then b.lateTrig else b.lateReq) x
  | none => false)
/-- A line or host bit becomes pending for a run; after the decision point it waits for the next boundary (R243). -/
def State.requestRun (s : State) (a : Asn) (trig : Bool) (x : Nat) : State :=
  match s.runOf a with
  | none => s
  | some (_, w) =>
    if !w.ahead.any (Bound.defers trig x) then s
    else
      let late := fun b => if b.defers trig x then
          (if trig then { b with lateTrig := b.lateTrig ||| 2 ^ x } else { b with lateReq := b.lateReq ||| 2 ^ x })
        else b
      let s := s.setRun a { w with ahead := w.ahead.map late }
      ((s.incSat SEG_JUMP_DEFERRED).event SEG_EVENTS 1).forEach w.seqs (fun s q => s.setBitAt (SEG_Q_STATUS q) 3 true)
/-- HOST_REQUEST: SEG_Q_REQ bits become pending (R242, R243). -/
def execHostRequest (seq : Nat) (bits : Word) (s : State) : Out :=
  let m := bits.toNat % 256
  let t := s.orReg (SEG_Q_REQ seq) m
  .next (t.forEach (s.runs.filter (fun r => r.2.seqs.contains seq && r.1.holds))
    (fun t r => t.forEach (bitsOf m 8) (fun t x => t.requestRun r.1.asn false x)))
/-- HOST_REQUEST_CLEAR (R242). -/
def execHostRequestClear (seq : Nat) (bits : Word) (s : State) : Out := .next (s.clrReg (SEG_Q_REQ seq) (bits.toNat % 256))
/-- A trigger line fires: it is pending for every running sequencer (R242, R312). -/
def State.fireForRuns (s : State) (l : Nat) : State :=
  s.forEach (s.runs.filter (fun r => r.1.holds && r.2.stop.isNone)) (fun s r =>
    (s.forEach r.2.seqs (fun s q => s.setBitAt (SEG_Q_TRIG q) l true)).requestRun r.1.asn true l)

end Sys2Proof.Machine
end

