-- ==== Sys2Proof/Machine/Play.lean ====
section
/-! DEFINITION. The play of vectors (R162 to R170, R189, R193 to R196, R225, R251, R277 to R282) and the end of a run at its
stop point (R252, R294). -/

namespace Sys2Proof.Machine

/-! Symbols (R193, R225, R277). -/

/-- Data bits d and e that a symbol drives, from the level that the pin last drove; none when it does not drive (R193). -/
def symDrive (sym : Nat) (last : Bool) : Option (Bool × Bool) :=
  match sym with
  | 0 => some (false, false)
  | 1 => some (true, true)
  | 8 => some (false, false)
  | 9 => some (false, true)
  | 0xA => some (true, false)
  | 0xB => some (true, true)
  | 0xC => some (last, last)
  | 0xD => some (!last, !last)
  | _ => none
/-- The symbol samples the comparators (R193). -/
def symStrobes (sym : Nat) : Bool := sym == 2 || sym == 3 || sym == 5 || sym == 6 || sym == 7
/-- The segment that holds vector n of a run. -/
def playOf (w : RunWork) (n : Nat) : Option Play := (w.plays.filter (fun p => decide (p.base ≤ n))).getLast?
/-- Bytes of a lane record (R224). -/
def laneBytes (info : Word) : Nat := 2 ^ info.field 10 8 / 2
/-- Lane of a cluster in a run: the number of named sequencers below its own (R224). -/
def laneOf (g : ImageSet) (w : RunWork) (k : Nat) : Nat :=
  match g.routing[k]? with
  | some r => popCount w.seqMask r.seq
  | none => 0
/-- Stored symbol of local pin j on a cluster in vector n (R225). -/
def State.storedSym (s : State) (g : ImageSet) (w : RunWork) (k n j : Nat) : Nat :=
  match playOf w n with
  | none => 4
  | some p =>
    let lanes := p.info.field 15 12 + 1; let lb := laneBytes p.info
    if j < 2 * lb then
      (s.byte (p.addr + ((n - p.base) * lanes + laneOf g w k) * lb + j / 2)).toNat / 2 ^ (4 * (j % 2)) % 16
    else 4
/-- Symbol of local pin j on a cluster in vector n: a jet's where one drives the pin, else the stored one (R251, R282). -/
def State.symbol (s : State) (g : ImageSet) (w : RunWork) (k n j : Nat) : Nat :=
  match jetsOn g w.jets w.sites (32 * k + j) with
  | (f, inv, e) :: _ => jetSymbol e inv ((s.fnt f).word n)
  | [] => if w.seqMask = 0 then 4 else s.storedSym g w k n j
/-- Timing set of vector n on a cluster (R225, R282). -/
def State.setOf (s : State) (g : ImageSet) (w : RunWork) (k n : Nat) : Nat :=
  if w.seqMask ≠ 0 then
    match playOf w n with
    | some p => s.vecSet p.info p.vcount p.addr (n - p.base)
    | none => 0
  else match w.fnts.find? (fun f => g.reaches f k) with
    | some f => (((s.fnt f).word n).getD (s.fnt f).last).tset
    | none => 0

/-! Drive edges (R164 to R168, R170). Instants stand before the deskew of R164, which is one for all edges of a pin; the ball
takes them later (Pins.lean). -/

/-- Offset register i of pin j in the live set t of a cluster: 0 DE_ON to 5 WIN_CLOSE. -/
def State.liveOff (s : State) (k t j i : Nat) : Nat := (s.liveReg (tsAddr k t + 0x100 + 0x18 * j + 4 * i)).field 23 0
/-- FMT of pin j in the live set t. -/
def State.liveFmt (s : State) (k t j : Nat) : Nat := (s.liveReg (tsAddr k t + 0x104 + 0x18 * j)).field 26 24
/-- Level transitions of a driving vector: register of the offset, and level (R165). -/
def fmtLevels (fmt : Nat) (d e : Bool) : List (Nat × Bool) :=
  match fmt with
  | 1 => [(1, d), (2, false)]
  | 2 => [(1, d), (2, true)]
  | 3 => [(0, !d), (1, d), (2, !d)]
  | 4 => [(1, d), (2, e)]
  | _ => [(1, d)]
/-- Level that a driving vector leaves (log entry 20). -/
def fmtLast (fmt : Nat) (d e : Bool) : Bool := ((fmtLevels fmt d e).getLast?.map Prod.snd).getD d
/-- One pin plays its symbol of vector n, in set t from `start` on; the previous vector had its set and start (R165, R166,
R189, R194). -/
def State.playPin (s : State) (k j n t start sym : Nat) : State :=
  let c := 32 * k + j
  let u := s.clu k
  let ch := s.chan c
  let drive := symDrive sym ch.level
  let off : List Edge := if ch.drove && drive.isNone && n != 0 then
      [{ due := (u.lastS + s.liveOff k u.lastSet j 3 : Nat), vec := n - 1, kind := 0, level := false }] else []
  let p := ({ ch with edges := ch.edges ++ off }).passEdges (start : Nat)
  let takes : List Edge := if n = 0 then [{ due := (start : Nat), vec := 0, kind := 3, level := false }] else []
  let fmt := s.liveFmt k t j
  let mk := fun (i kind : Nat) (l : Bool) => ({ due := (start + s.liveOff k t j i : Nat), vec := n, kind := kind, level := l } : Edge)
  let p : Chan × Nat := ({ p.1 with due := p.1.due ++ takes }.reach (s.ballLimit c), p.2)
  let ch' := match drive with
    | none => { p.1 with drove := false }
    | some (d, e) =>
      { p.1 with drove := true, level := fmtLast fmt d e,
                 edges := p.1.edges ++ (if ch.drove then [] else [mk 0 1 ch.level]) ++
                   (fmtLevels fmt d e).map (fun x => mk x.1 2 x.2) }
  let s := (s.setChan c ch').collide k j p.2
  let s := if drive.isSome ∧ s.period k t < bandPeriod (s.liveFld (CH_CFG c) 5 4) then
      (s.orReg (LV_BAND_VIOL_PINS k) (2 ^ j)).event (CH_EVENTS c) 3 else s
  if sym = 0xE ∨ sym = 0xF then (s.incSat (CH_BAD_SYM c)).event (CH_EVENTS c) 4 else s

/-! Vectors. -/

/-- What ends the run before vector n instead of letting it play: status, reason and rank (R252, R281, R282). -/
def State.endsBefore (s : State) (w : RunWork) (n : Nat) : Option (Nat × Nat × Nat) :=
  let overs := fun f => !(s.fnt f).alive && decide ((s.fnt f).emitted ≤ n)
  if w.seqMask = 0 ∧ w.fnts.all (fun f => overs f && (s.fnt f).halted) then some (0, 0, 0)
  else match w.fnts.find? (fun f => overs f && (s.fnt f).faulted != 0) with
    | some f => if (s.fnt f).faulted = 3 then some (0xE, 0, 6) else some (9, 7, 2)
    | none => if w.seqMask = 0 then none else match playOf w n with
      | none => none
      | some p =>
        let len := (p.info.field 15 12 + 1) * laneBytes p.info
        let bad := match s.dataBad (p.addr + (n - p.base) * len) len with
          | some st => some st
          | none => if p.info.getLsbD 17 then s.dataBad (p.addr + p.vcount * len + (n - p.base)) 1 else none
        bad.map (fun st => (st, 0, if st = 0xD then 5 else 6))
/-- Address of vector n (R253). -/
def vecAddr (w : RunWork) (n : Nat) : Nat :=
  if w.seqMask = 0 then n % 2 ^ 40
  else match playOf w n with
    | some p => p.entry * 2 ^ 28 + (n - p.base)
    | none => 0
/-- FADDR of a site on a cluster in vector n, when a jet of a named fountain drives a pin of it there (R289). -/
def State.faddr (s : State) (g : ImageSet) (w : RunWork) (k n site : Nat) : Option Nat :=
  (w.fnts.find? (fun f => w.jets.any (fun x => x.1 == f && (match g.jets[x.2.1]? with
    | some j => j.site == site && w.sites.contains site && (g.jetChans j).any (fun e => e.1 / 32 == k)
    | none => false)))).map (fun f =>
      let c := ((s.fnt f).word n).getD (s.fnt f).last
      c.x + 2 ^ 20 * c.y + 2 ^ 40 * c.z + 2 ^ 46 * f)
/-- The strobes that vector n schedules on a cluster (R167, R285). -/
def State.strobesOf (s : State) (g : ImageSet) (o : Op) (w : RunWork) (k n t start : Nat) : Strobes :=
  let pins := (List.range 32).filterMap (fun j =>
    let y := s.symbol g w k n j
    if symStrobes y && s.playing g w (32 * k + j) then some (j, y, s.liveOff k t j 4 != s.liveOff k t j 5) else none)
  let sites := (pins.filterMap (fun p => g.siteOfCh (32 * k + p.1))).eraseDups
  { vec := n, asn := o.asn, vpos := vecAddr w n, tset := t, pins := pins,
    faddr := sites.filterMap (fun m => (s.faddr g w k n m).map (fun v => (m, v))),
    lastAt := pins.map (fun p => (p.1, ((start + s.liveOff k t p.1 5 : Nat) : Int))), got := [] }
/-- What the first start of vector n in any cluster shows in the registers of its sequencers and fountains, and its MARK
(R253, R255, R284, R313). -/
def State.leadVector (s : State) (a : Asn) (w : RunWork) (n start : Nat) : State :=
  let s := (s.ltAdd 7 1).setRun a { w with vectors := n + 1, vaddr := some (vecAddr w n) }
  let s := s.forEach w.seqs (fun s q =>
    (s.setReg64 (SEG_Q_VADDR_LO q) (SEG_Q_VADDR_HI q) (vecAddr w n)).setReg64 (SEG_Q_VECTORS_LO q) (SEG_Q_VECTORS_HI q) (n + 1))
  s.forEach w.fnts (fun s f => match (s.fnt f).word n with
    | none => s
    | some c =>
      let s := s.setReg64 (FNT_CYCLES_LO f) (FNT_CYCLES_HI f) (n + 1)
      let s := ((s.setReg (FNT_X f) (BitVec.ofNat 32 c.x)).setReg (FNT_Y f) (BitVec.ofNat 32 c.y)).setReg (FNT_Z f)
        (BitVec.ofNat 32 c.z)
      let s := s.setFld (FNT_STATUS f) 31 22 c.instr
      if c.mark then s.source 3 f 0 (start / 4096 + 96) else s)
/-- Cycle words that every cluster of the run has played are dropped. -/
def State.dropWords (s : State) (w : RunWork) : State :=
  let lo := leastOf (w.clusters.map (fun k => (s.clu k).vec))
  s.forEach w.fnts (fun s f =>
    let t := s.fnt f
    s.setFnt f { t with words := t.words.drop (lo + t.words.length - t.emitted) })
/-- Vector n of a run starts on a cluster (R163). -/
def State.playVector (s : State) (g : ImageSet) (o : Op) (w : RunWork) (k : Nat) : State :=
  let u := s.clu k
  let n := u.vec; let start := u.sNext
  let t := s.setOf g w k n
  let sb := s.strobesOf g o w k n t start
  let s := if n = w.vectors then (s.leadVector o.asn w n start).drainAhead o.asn else s
  let s := s.forEach (List.range 32) (fun s j =>
    if s.playing g w (32 * k + j) then s.playPin k j n t start (s.symbol g w k n j) else s)
  let s := s.setClu k { u with vec := n + 1, sNext := start + s.period k t, lastSet := t, lastS := start,
                               strobes := if sb.pins.isEmpty then u.strobes else u.strobes ++ [sb] }
  ((s.setFld (TE_STATUS k) 13 8 t).dropWords w).holdEnded o.asn

/-- VECTOR_PLAY (R162, R163): the next vector of the run that plays on a cluster, at its cycle start. -/
def execVectorPlay (cluster : Nat) (s : State) : Out :=
  let u := s.clu cluster
  match u.run.bind s.runOf, s.cfg.active with
  | some (o, w), some g =>
    let ended := match w.stopAt with
      | some m => decide (m ≤ u.vec)
      | none => false
    if o.phase ≠ .running || w.stop.isSome || ended || (w.seqMask ≠ 0 && w.endVec ≤ u.vec) then .next s
    else
      let s := s.advanceTo (u.sNext / 4096)
      if s.now < u.sNext / 4096 then .next s
      else
        let s := s.forEach w.fnts (fun s f => s.fountainTo f u.vec (u.vec + 1))
        match (if u.vec = w.vectors then s.endsBefore w u.vec else none) with
        | some (st, r, rank) => .next (s.endRun o.asn st r rank u.vec)
        | none => .next (s.playVector g o w cluster)
  | _, _ => .next s

/-! The stop point. -/

/-- A run has reached its stop point in every cluster: its clusters, segments and sequencers are given up, and what it has
captured is still to be stored (R252, R294). -/
def State.stopAllAt (s : State) (g : ImageSet) (o : Op) (w : RunWork) (at_ : Nat) : State :=
  let s := s.advanceTo at_
  let s := s.forEach w.clusters (fun s k => s.holdCluster g w k (at_ * 4096 + 4095))
  let s := s.forEach w.seqs (fun s q => (s.setBitAt (SEG_Q_STATUS q) 1 (w.vectors != 0)).setReg64 (SEG_Q_VADDR_LO q)
    (SEG_Q_VADDR_HI q) (w.vaddr.getD (2 ^ 40 - 1)))
  let s := s.closeRun o.asn w
  let s := s.forEach w.fnts (fun s f => s.setBitAt (FNT_STATUS f) 1 true)
  s.setRun o.asn { w with stop := some at_, ahead := [] }
/-- The stop point after the last vector that plays (R252). -/
def State.stopAll (s : State) (g : ImageSet) (o : Op) (w : RunWork) : State :=
  s.stopAllAt g o w ((w.clusters.map (fun k => (s.clu k).sNext)).foldl max (w.s0 * 4096) / 4096)
/-- PATTERN_RUN_STOP (R252, R170). -/
def execPatternRunStop (a : Asn) (s : State) : Out :=
  match s.runOf a, s.cfg.active with
  | some (o, w), some g =>
    match w.stopAt with
    | some n =>
      .next (if o.phase ≠ .running || w.stop.isSome || w.clusters.any (fun k => decide ((s.clu k).vec < n)) then s
        else s.stopAll g o w)
    | none => .next s
  | _, _ => .next s

/-- The cluster still holds strobes or records of the operation. -/
def State.holdsRecords (s : State) (k a : Nat) : Bool :=
  let u := s.clu k
  u.strobes.any (fun b => b.asn == a) || u.formed.any (fun r => r.asn == a) || u.feeder.any (fun r => r.asn == a)
/-- FEEDER_DRAIN_END: every record is stored or counted, and the work ends with the GCC of the stop point (R294, R253). -/
def execFeederDrainEnd (a : Asn) (s : State) : Out :=
  match s.runOf a with
  | none => .next s
  | some (o, w) =>
    match w.stop, w.ending with
    | some g, some (st, r, _) =>
      .next (if o.phase ≠ .running || w.clusters.any (fun k => s.holdsRecords k a) then s
        else
          let st := if st = 0 ∧ w.failed then 1 else st
          let s := s.forEach w.fnts (fun s f => s.setBitAt (FNT_STATUS f) 1 false)
          s.endOpAt a st r g (runDetail w st))
    | _, _ => .next s

end Sys2Proof.Machine
end

