-- ==== Sys2Proof/Machine/Capture.lean ====
section
/-! DEFINITION. The compare logic and the way of a fail record into its Basin (R285 to R296). -/

namespace Sys2Proof.Machine

/-! Compare results (R195, R286). State codes: 0 MID, 1 LOW, 2 HIGH. -/

/-- A sample meets the expectation of a symbol (R193, R195). -/
def sampleOk (sym code : Nat) : Bool :=
  match sym with
  | 2 => code == 1
  | 3 => code == 2
  | 5 => code != 1 && code != 2
  | 6 => code == 1 || code == 2
  | _ => true
/-- The recorded state of a strobe, and whether it failed (R286). -/
def strobeResult (sym : Nat) (windowed : Bool) (samples : List Nat) : Nat × Bool :=
  let l := if windowed then samples else samples.take 1
  match l.find? (fun c => !sampleOk sym c) with
  | some c => (c, true)
  | none => (l.getLast?.getD 0, !sampleOk sym (l.getLast?.getD 0))
/-- The strobes of a vector that the command gives samples for, evaluated (R195, R285, R286). -/
def State.strobeResults (s : State) (k : Nat) (samples : List (Nat × List Int)) :
    List (Nat × Nat × Bool) → List Result × State
  | [] => ([], s)
  | p :: l =>
    match (samples.find? (fun x => x.1 == 32 * k + p.1)).map Prod.snd with
    | some (v :: vs) =>
      let c := s.compareAll (32 * k + p.1) (v :: vs)
      let r := strobeResult p.2.1 p.2.2 c.1
      let q := c.2.strobeResults k samples l
      ({ pin := p.1, sym := p.2.1, code := r.1, failed := r.2 } :: q.1, q.2)
    | _ => s.strobeResults k samples l
/-- Bit mask of the local pins of a list of results that a test picks. -/
def pinMask (rs : List Result) (f : Result → Bool) : Nat := maskOf 32 (fun j => rs.any (fun r => r.pin == j && f r))
/-- The Basin record of one site of a vector (R289): `vnum` when VPOS holds a vector number. -/
def basinRecord (k site : Nat) (b : Strobes) (vnum : Bool) (tag : Nat) (rs : List Result) : BitVec 256 :=
  let none_ := 2 ^ 32 - 1 - pinMask rs (fun _ => true)
  let fa := (b.faddr.find? (fun x => x.1 == site)).map Prod.snd
  let info := k + (if rs.any Result.failed then 16 else 0) + (if rs.any (fun r => r.sym == 7) then 32 else 0) +
    (if fa.isSome then 64 else 0)
  BitVec.ofNat 256 (leNat (leBytes 5 b.vpos ++ leBytes 1 (b.tset + (if vnum then 64 else 0)) ++ leBytes 1 site ++
    leBytes 1 info ++ leBytes 4 (pinMask rs Result.failed) ++ leBytes 4 (none_ + pinMask rs (fun r => r.code == 2)) ++
    leBytes 4 (none_ + pinMask rs (fun r => r.code == 1)) ++ leBytes 4 tag ++ leBytes 8 (fa.getD 0)))
/-- Bytes of a Basin record. -/
def Rec32.bytes (r : Rec32) : List Byte := leBytes 32 r.bits.toNat

/-- Earliest last-sample instant of the failing strobes of a list (R313). -/
def firstFailAt (b : Strobes) (rs : List Result) : Option Int :=
  ((b.lastAt.filter (fun x => rs.any (fun r => r.pin == x.1 && r.failed))).map Prod.snd).foldl
    (fun m e => match m with
      | none => some e
      | some v => some (min v e)) none
/-- A fail of a run, evaluated at an instant in fine units: the status to come and the fail latch, which holds it unless a
CLEAR_FAIL came later (R240, R242, R287, R615). -/
def State.markFail (s : State) (a : Asn) (at_ : Nat) : State :=
  match s.runOf a with
  | none => s
  | some (_, w) =>
    let hold := decide (w.clearedAt ≤ at_)
    let s := s.setRun a { w with failed := true,
                                 failLatch := if hold then some (min at_ (w.failLatch.getD at_)) else w.failLatch }
    if w.stop.isSome || !hold then s else s.forEach w.seqs (fun s q => s.setBitAt (SEG_Q_STATUS q) 2 true)
/-- A formed record takes its place behind those of earlier vectors of the run, and of earlier runs (R288). -/
def Rec32.insert (v : Rec32) : List Rec32 → List Rec32
  | [] => [v]
  | a :: l => if a.asn = v.asn ∧ v.vec < a.vec then v :: a :: l else a :: Rec32.insert v l
/-- A record is formed for a site (R288, R290, R293). -/
def State.formRecord (s : State) (g : ImageSet) (k site : Nat) (b : Strobes) (rs : List Result) : State :=
  match g.basin site, s.op? b.asn with
  | some r, some o =>
    let s := if rs.any Result.failed then s.bumpBhead r 0x10 1 else s
    let s := s.setBhead r 0x2C 4 (o.seq % 2 ^ 32)
    let v : Rec32 := { site := site, asn := b.asn, vec := b.vec, ix := 0, bits := basinRecord k site b (o.pay 0 2 == 0) (o.seq % 2 ^ 32) rs }
    let u := s.clu k
    s.setClu k { u with formed := v.insert u.formed }
  | _, _ => s
/-- Sites with a pin among the results, ascending. -/
def resultSites (g : ImageSet) (k : Nat) (rs : List Result) : List Nat :=
  (List.range 256).filter (fun n => rs.any (fun r => g.siteOfCh (32 * k + r.pin) == some n))
/-- Results of one site. -/
def ofSite (g : ImageSet) (k n : Nat) (rs : List Result) : List Result :=
  rs.filter (fun r => g.siteOfCh (32 * k + r.pin) == some n)
/-- The oldest vector of a run whose strobes some cluster has still to evaluate. -/
def State.oldestVec (s : State) (w : RunWork) : Nat :=
  leastOf (w.clusters.map (fun k => ((s.clu k).strobes.head?.map Strobes.vec).getD (s.clu k).vec))
/-- The earliest failing strobe of a vector on the pins of a site makes the FAIL_SITE event of both (R313). -/
def State.failSite (s : State) (a : Asn) (vec site : Nat) (e : Int) : State :=
  match s.runOf a with
  | none => s
  | some (_, w) =>
    if w.siteFails.contains (vec, site) then s
    else
      let lo := min vec (s.oldestVec w)
      (s.setRun a { w with siteFails := w.siteFails.filter (fun x => decide (lo ≤ x.1)) ++ [(vec, site)] }).source 1 site 0
        (e.toNat / 4096 + 96)
/-- Source events of the fails among new results of a vector: FAIL_SITE once for each site, FAIL_CLUSTER once (R313). -/
def State.failSources (s : State) (g : ImageSet) (k : Nat) (b : Strobes) (rs : List Result) : State :=
  match firstFailAt b rs with
  | none => s
  | some e0 =>
    let s := s.advanceTo (e0.toNat / 4096 + 64)
    let s := s.forEach (resultSites g k rs) (fun s n => match firstFailAt b (ofSite g k n rs) with
      | some e => s.failSite b.asn b.vec n e
      | none => s)
    if b.got.any Result.failed then s else s.source 2 k 0 (e0.toNat / 4096 + 96)
/-- Strobes of a vector that are still to be evaluated: local pin and last sample. -/
def Strobes.open_ (b : Strobes) : List (Nat × Int) := b.lastAt.filter (fun x => !b.got.any (fun r => r.pin == x.1))
/-- Within a vector of a run strobes are evaluated in the order of their last samples, over all clusters: none is left behind
that comes before one of these. -/
def State.inOrder (s : State) (b : Strobes) (k : Nat) (pins : List Nat) : Bool :=
  let mine := (b.open_.filter (fun x => pins.contains x.1)).map Prod.snd
  (List.range 16).all (fun j => (s.clu j).strobes.all (fun c => c.asn != b.asn || c.vec != b.vec ||
    c.open_.all (fun x => (j == k && pins.contains x.1) || mine.all (fun e => decide (e ≤ x.2)))))
/-- New results of a vector join its old ones; it leaves the cluster with its last one. -/
def addResults (b : Strobes) (rs : List Result) : List Strobes → List Strobes
  | [] => []
  | x :: l =>
    if x = b then
      let y := { b with got := b.got ++ rs }
      if y.open_.isEmpty then l else y :: l
    else x :: addResults b rs l

/-- VECTOR_RESULT_COMPLETE: strobes of a vector on a cluster are evaluated, from the ball voltages in µV at the samples of their
windows, each strobe at its own instant. The result of a site is complete with the last of its strobes (R285 to R289, R293, R313;
log entries 22, 82). -/
def execVectorResultComplete (cluster vec : Nat) (samples : List (Nat × List Int)) (s : State) : Out :=
  match (s.clu cluster).strobes.find? (fun b => b.vec == vec), s.cfg.active with
  | some b, some g =>
    let todo := b.pins.filter (fun p => b.open_.any (fun x => x.1 == p.1))
    let q := s.strobeResults cluster samples todo
    let rs := q.1
    if rs.isEmpty || !s.inOrder b cluster (rs.map Result.pin) then .next s
    else
      let at_ := fun (r : Result) => ((b.lastAt.find? (fun x => x.1 == r.pin)).map (s.evaluatedFine cluster)).getD 0
      let s := q.2.setClu cluster { q.2.clu cluster with strobes := addResults b rs (q.2.clu cluster).strobes }
      let s := s.failSources g cluster b rs
      let s := s.advanceTo ((rs.map at_).foldl max 0 / 4096)
      let s := s.forEach (rs.filter Result.failed) (fun s r => (s.incSat (CMP_FAILCNT cluster r.pin)).markFail b.asn (at_ r))
      let all := b.got ++ rs
      .next (s.forEach (resultSites g cluster rs) (fun s n =>
        let mine := ofSite g cluster n all
        let whole := b.pins.all (fun p => g.siteOfCh (32 * cluster + p.1) != some n || mine.any (fun r => r.pin == p.1))
        if whole && mine.any (fun r => r.failed || r.sym == 7) then s.formRecord g cluster n b mine else s))
  | _, _ => .next s

/-! Fail feeders (R288, R291, R292). -/

/-- Records that a fail feeder holds (R288). -/
def feederDepth : Nat := 2048
/-- A HALT Basin stops the run that formed a record (R292). -/
def State.haltRun (s : State) (r : Region) (a : Asn) (reason : Nat) : State :=
  match s.runOf a with
  | none => s
  | some (o, w) =>
    if o.phase ≠ .running ∨ w.stop.isSome then s
    else
      let t := s.stopRun a 8 reason 3
      match (t.runOf a).bind (fun x => x.2.ending) with
      | some (8, _, _) => ((t.setBflag r 3).setMaskBit (XTB_BASIN_STOP 0) r.owner true).event XTB_EVENTS 18
      | _ => t
/-- A formed record waits: for the results of earlier vectors of its cluster, and for the records of its vector and site in
clusters of lower number, which count before it (R288, R291; log entry 126). -/
def State.recordWaits (s : State) (k : Nat) (v : Rec32) : Bool :=
  (s.clu k).strobes.any (fun b => b.asn == v.asn && decide (b.vec < v.vec)) ||
  (List.range k).any (fun j => (s.clu j).formed.any (fun x => x.asn == v.asn && x.vec == v.vec && x.site == v.site) ||
    (s.clu j).strobes.any (fun b => b.asn == v.asn && b.vec == v.vec && b.pins.any (fun p =>
      (s.cfg.active.bind (fun g => g.siteOfCh (32 * j + p.1))) == some v.site)))
/-- FEEDER_ENTRY: the oldest formed record of a cluster enters its fail feeder, or is refused by it (R288, R291, R292). -/
def execFeederEntry (cluster : Nat) (s : State) : Out :=
  let u := s.clu cluster
  match u.formed with
  | [] => .next s
  | v :: rest =>
    if s.recordWaits cluster v then .next s
    else match s.basinOf v.site with
    | none => .next (s.setClu cluster { u with formed := rest })
    | some r =>
      if feederDepth ≤ u.feeder.length then
        let s := (s.setClu cluster { u with formed := rest }).bumpBhead r 0x18 1
        let s := ((s.setBflag r 2).incSat (CMP_FEED_OVERFLOW cluster)).event (ACQ_EVENTS cluster) 5
        .next (if r.mode = 0 then s.haltRun r v.asn 9 else s)
      else
        let n := s.bhead r 8 8 + 1
        let s := s.setClu cluster { u with formed := rest, feeder := u.feeder ++ [{ v with ix := n - 1 }] }
        let s := s.setBhead r 8 8 n
        let s := if basinCap r < n then s.setBflag r 1 else s
        let s := if n = basinH r then
            (((s.setBflag r 0).setMaskBit (XTB_BASIN_HWM 0) r.owner true).event XTB_EVENTS 17).source 6 r.owner 0 s.now
          else s
        .next (if r.mode = 0 ∧ basinH r ≤ n then s.haltRun r v.asn 8 else s)
/-- WR of a Basin: the records stored below the first index that still waits in a feeder, without those that a reset has dropped
from a feeder (R290, R295, R297; log entry 127). -/
def State.basinWr (s : State) (r : Region) : Nat :=
  let m := (List.range 16).foldl (fun m k => ((s.clu k).feeder.filter (fun v => v.site == r.owner)).foldl
    (fun m v => min m v.ix) m) (min (basinCap r) (s.bhead r 8 8))
  m - (s.basinGaps.filter (fun x => x.1 == r.owner && decide (x.2 < m))).length
/-- BASIN_RECORD_STORE: the oldest record of a fail feeder is stored, or counted when its Basin is full (R290, R291, R295). -/
def execBasinRecordStore (cluster : Nat) (s : State) : Out :=
  let u := s.clu cluster
  match u.feeder with
  | [] => .next s
  | v :: rest =>
    let s := s.setClu cluster { u with feeder := rest }
    match s.basinOf v.site with
    | none => .next s
    | some r =>
      if basinCap r ≤ v.ix then .next (s.bumpBhead r 0x18 1)
      else
        let s := s.writeBytes (r.base + 4096 + 32 * v.ix) v.bytes
        let s := s.setBhead r 0 8 (s.basinWr r)
        .next (s.feedUploads 2 v.site (2 ^ 24))

/-- BASIN_CLEAR: CLEAR of XTB_BASIN_CMD (R296). -/
def execBasinClear (site : Nat) (s : State) : Out :=
  match s.basinOf site with
  | none => .next (s.setReg XTB_BASIN_RESULT 1)
  | some r => .next (if s.mayClear site then (s.clearBasin r).setReg XTB_BASIN_RESULT 0 else s.setReg XTB_BASIN_RESULT 2)

end Sys2Proof.Machine
end

