-- ==== Sys2Proof/Machine/Dps.lean ====
section
/-! DEFINITION. Power supply controllers (R388 to R407) and DPS_SEQUENCE. Controller states: 0 OFF, 1 RAMPING, 2 REGULATING,
3 DISCHARGING, 4 HELD, 5 FAULTED. -/

namespace Sys2Proof.Machine

/-! Controllers. -/

/-- State of a controller (R390). -/
def State.dpsState (s : State) (d : Nat) : Nat := s.fld (DPS_STATUS d) 2 0
/-- PGOOD as R398 gives it. -/
def State.pgNow (s : State) (d : Nat) : Bool :=
  let v := s.fld (DPS_VMEAS d) 15 0; let p := s.fld (DPS_SETPOINT d) 15 0; let w := s.fld (DPS_PG d) 15 0
  s.dpsState d == 2 && decide (v ≤ p + w) && decide (p ≤ v + w)
/-- PGOOD is evaluated; a fall while the controller stays REGULATING is an event (R398). -/
def State.refreshPg (s : State) (d : Nat) (stays : Bool) : State :=
  let old := s.bitAt (DPS_STATUS d) 3; let new := s.pgNow d
  let s := s.setBitAt (DPS_STATUS d) 3 new
  if stays && old && !new && s.dpsState d == 2 then s.event (DPS_EVENTS d) 3 else s
/-- A controller takes a state (R390). -/
def State.setDpsState (s : State) (d v : Nat) : State := (s.setFld (DPS_STATUS d) 2 0 v).refreshPg d false
/-- The reference takes a value (R393). -/
def State.setRef (s : State) (d v : Nat) : State :=
  (s.setCtl d { s.ctl d with ref := v }).setReg (DPS_VREF d) (BitVec.ofNat 32 (v / 10))
/-- The site of a controller. -/
def State.dpsSite (s : State) (d : Nat) : Option Nat := s.cfg.active.bind (fun g => g.siteOfDps d)
/-- Controllers of a site. -/
def State.dpsOf (s : State) (site : Nat) : List Nat := ((s.cfg.active).map (fun g => g.dpsOf site)).getD []
/-- The controller of a site's rail. -/
def State.railOf (s : State) (site rail : Nat) : Option Nat := s.cfg.active.bind (fun g => g.railOf site rail)
/-- All controllers of a site are OFF. -/
def State.siteOff (s : State) (site : Nat) : Bool := (s.dpsOf site).all (fun d => s.dpsState d == 0)
/-- A controller reaches OFF; with the last one of its site the standing reservation is released (R390, R419). -/
def State.dpsOff (s : State) (d : Nat) : State :=
  let s := ((s.setFld (DPS_STATUS d) 7 6 0).setBitAt (DPS_STATUS d) 4 false).setReg (DPS_SETPOINT d) 0
  let s := (s.setRef d 0).setDpsState d 0
  let u := s.ctl d
  let s := s.setCtl d { u with weir := false, limited := false, ovCount := 0, fast := false, elapsed := 0, target := 0, blank := 0,
                               onFor := 0, rsense := 0 }
  match s.dpsSite d with
  | some n => if s.siteOff n then s.release 2 n else s
  | none => s
/-- The reference begins a motion (R393); one that is where it goes has arrived. -/
def State.startMotion (s : State) (d target slope : Nat) (fast : Bool) : State :=
  let u := s.ctl d
  s.setCtl d { u with start := u.ref, since := s.now, target := target, slope := slope, fast := fast, elapsed := 0 }
/-- A controller discharges, at a slope or at the fast rate (R390, R393). -/
def State.discharge (s : State) (d slope : Nat) (fast : Bool) : State :=
  let st := s.dpsState d
  if st = 1 ∨ st = 2 ∨ (st = 3 ∧ fast) then
    let s := ((s.setReg (DPS_SETPOINT d) 0).setDpsState d 3).startMotion d 0 slope fast
    if (s.ctl d).ref = 0 then s.dpsOff d else s
  else s
/-- A controller discharges at its own SLOPE (R390, R403). -/
def State.dischargeOwn (s : State) (d : Nat) : State := s.discharge d (s.ctl d).slope false
/-- RSENSE that applies now: latched from an ENABLE or a fault until the controller is OFF (R396, R397). -/
def State.rsenseNow (s : State) (d : Nat) : Nat := if (s.ctl d).rsense = 0 then s.fld (DPS_RSENSE d) 15 0 else (s.ctl d).rsense
/-- A controller becomes FAULTED (R390). -/
def State.dpsFault (s : State) (d : Nat) : State :=
  let r := s.rsenseNow d
  (s.setDpsState d 5).setCtl d { s.ctl d with weir := false, limited := false, onFor := 0, rsense := r }

/-! DPS_SEQUENCE: steps (R400, R401). -/

/-- Step i of a DPS_SEQUENCE as it stands in the store. -/
def State.dpsStep (s : State) (o : Op) (i : Nat) : DpsStep :=
  let a := o.pay 0x10 8 + 16 * i
  { rail := s.le a 1, action := s.le (a + 1) 1, flags := s.le (a + 2) 1, setpoint := s.le (a + 4) 2, slope := s.le (a + 6) 2,
    gap := s.le (a + 8) 4, ilim := s.le (a + 0xC) 2 }
/-- Steps of a DPS_SEQUENCE. -/
def State.dpsSteps (s : State) (o : Op) : List DpsStep := (List.range (o.pay 4 1)).map (s.dpsStep o)
/-- Reserved bytes of step i are 0. -/
def State.stepPad (s : State) (o : Op) (i : Nat) : Bool :=
  s.le (o.pay 0x10 8 + 16 * i + 3) 1 == 0 && s.le (o.pay 0x10 8 + 16 * i + 0xE) 2 == 0
/-- Named sites that are present, ascending. -/
def State.dpsSites (s : State) (o : Op) : List Nat := s.presentSites o
/-- A controller state as check 3 assumes it after earlier steps of the list: 0 OFF, 1 on, 9 anything else. -/
def assumed (st : Nat) : Nat := if st = 0 then 0 else if st = 1 ∨ st = 2 then 1 else 9
/-- Assumed state of a controller before step i on its site (R401, check 3). -/
def State.assumedAt (s : State) (l : List DpsStep) (i rail d : Nat) : Nat :=
  (l.take i).foldl (fun st x => if x.rail ≠ rail then st else if x.action = 3 then 0 else 1) (assumed (s.dpsState d))
/-- One check of a step on a controller (R401). -/
def State.stepCheck (s : State) (o : Op) (l : List DpsStep) (i : Nat) (x : DpsStep) (d : Nat) : Nat → Bool
  | 1 => within 1 3 x.action && (x.flags == 0 || (x.flags == 1 && x.action != 3)) && s.stepPad o i
  | 2 => decide (1 ≤ x.slope) && (if x.action = 3 then x.setpoint == 0 && x.ilim == 0
      else within 3000 55000 x.setpoint && within 1 32000 x.ilim)
  | 3 => s.assumedAt l i x.rail d == (if x.action = 1 then 0 else 1)
  | _ => decide (x.setpoint + s.fld (DPS_PG d) 15 0 < s.fld (DPS_OV d) 15 0)
/-- First failure of the checks: code, step, site (R401). -/
def State.dpsCheck (s : State) (o : Op) : Option (Nat × Nat × Nat) :=
  let l := s.dpsSteps o
  (List.range l.length).findSome? (fun i => (l[i]?).bind (fun x =>
    (s.dpsSites o).findSome? (fun n => (s.railOf n x.rail).bind (fun d =>
      ([1, 2, 3, 4].find? (fun c => !s.stepCheck o l i x d c)).map (fun c => (c, i, n))))))
/-- The check point of a DPS_SEQUENCE (R401; log entry 14). -/
def State.checkDps (s : State) (o : Op) : State :=
  if s.poisonIn (o.pay 0x10 8) (16 * o.pay 4 1) then s.endOp o.asn 0xE 0 0
  else match s.dpsCheck o with
    | some (c, i, n) => s.endOp o.asn 9 2 (c + 256 * i + 65536 * n)
    | none => s.setWork o.asn (.dps { steps := s.dpsSteps o, sites := [], firstFail := 0, pairs := 0, trips := 0, skipped := 0 })

/-! DPS_SEQUENCE: progress of a site (R402 to R404). -/

/-- Index that a step of a site has in the ledgers and the interlock. -/
def dpsKey (a site : Nat) : Nat := site + 256 * a
/-- The running DPS_SEQUENCE with an acceptance sequence number, and its work. -/
def State.dpsRun (s : State) (a : Asn) : Option (Op × DpsWork) :=
  match s.running? a 6 with
  | some o => match o.work with
    | .dps w => some (o, w)
    | _ => none
  | none => none
/-- Where a site stands. -/
def DpsWork.site (w : DpsWork) (n : Nat) : Option SiteProg := w.sites.find? (fun p => p.site == n)
/-- A site's entry takes a new value. -/
def DpsWork.setSite (w : DpsWork) (p : SiteProg) : DpsWork := { w with sites := w.sites.map (fun q => if q.site = p.site then p else q) }
/-- First step from i on whose rail the site maps (R401). -/
def State.mappedStep (s : State) (w : DpsWork) (n i : Nat) : Option Nat :=
  ((List.range (w.steps.length - i)).map (fun k => i + k)).find? (fun k => match w.steps[k]? with
    | some x => (s.railOf n x.rail).isSome
    | none => false)
/-- The site's entry for its next step after instant g, the start instant for step 0; with no step left it has finished (R402). -/
def State.nextStep (s : State) (w : DpsWork) (n i g : Nat) : SiteProg :=
  match s.mappedStep w n i with
  | some k => { site := n, step := k, st := 0, since := g + (if k = 0 then 0 else ((w.steps[k]?.map DpsStep.gap).getD 0) * usSteps), arrived := none, admitted := false }
  | none => { site := n, step := w.steps.length, st := 4, since := g, arrived := none, admitted := false }
/-- DETAIL of DONE and of failures (R404). -/
def dpsDetail (w : DpsWork) : Nat :=
  w.pairs % 65536 + 65536 * (w.sites.filter (fun p => p.st == 5)).length + 2 ^ 32 * min w.trips 65535 + 2 ^ 48 * w.skipped
/-- The operation ends once every site has finished (R403). -/
def State.settleDps (s : State) (a : Asn) : State :=
  match s.dpsRun a with
  | none => s
  | some (_, w) =>
    if w.sites.all (fun p => p.st == 4 || p.st == 5) then
      s.endOp a (if w.firstFail = 0 then 0 else 9) w.firstFail (dpsDetail w)
    else s
/-- DPS_SEQUENCE starts on the sites that are present (R402, R219). -/
def startDpsSequence (s : State) (o : Op) : State :=
  match o.work with
  | .dps w =>
    let here := s.dpsSites o
    let s := s.beginOp o
    let skipped := (namedSites o.desc).length - here.length
    let w := { w with skipped := skipped, sites := here.map (fun n => s.nextStep w n 0 s.now) }
    (s.setWork o.asn (.dps w)).settleDps o.asn
  | _ => s

/-- Reservations of a step (R419). -/
def State.stepResvs (s : State) (a site : Nat) (x : DpsStep) (d : Nat) : List Resv :=
  if x.action = 3 then []
  else
    let rs := if x.action = 1 then s.fld (DPS_RSENSE d) 15 0 else s.rsenseNow d
    let live := s.fld (DPS_SETPOINT d) 15 0
    let delta := if x.action = 1 then x.setpoint else if live ≤ x.setpoint then x.setpoint - live else live - x.setpoint
    let p := ceilDiv (x.setpoint * x.ilim) (20 * rs)
    let mk := fun (kind ix l p : Nat) (e : Option Nat) =>
      ({ kind := kind, ix := ix, ledger := l, p := p, e := e, since := s.now, release := none } : Resv)
    let e := some (p * ceilDiv (delta * 10) x.slope)
    ([mk 1 (dpsKey a site) (6 + site) p e, mk 1 (dpsKey a site) 5 p e].filter (fun r => (s.limits r.ledger).isSome)) ++
    (match x.action, s.siteOff site, s.limits (6 + site) with
      | 1, true, some m => [mk 2 site (6 + site) m.idle none, mk 2 site 5 m.idle none]
      | _, _, _ => [])
/-- The step that a site has reached, with its controller. -/
def State.siteStep (s : State) (w : DpsWork) (p : SiteProg) : Option (DpsStep × Nat) :=
  (w.steps[p.step]?).bind (fun x => (s.railOf p.site x.rail).map (fun d => (x, d)))
/-- A site fails: no further step runs there, and its controllers discharge at their slopes (R403). -/
def State.siteFail (s : State) (a : Asn) (site reason : Nat) : State :=
  match s.dpsRun a with
  | none => s
  | some (_, w) =>
    match w.site site with
    | none => s
    | some p =>
      if p.st = 4 ∨ p.st = 5 then s
      else
        let w := { w.setSite { p with st := 5 } with firstFail := if w.firstFail = 0 then reason else w.firstFail }
        let s := s.setWork a (.dps w)
        let s := (s.release 1 (dpsKey a site)).mntEnd 5 (dpsKey a site)
        let s := s.forEach (s.dpsOf site) (fun s d => s.dischargeOwn d)
        (if s.siteOff site then s.release 2 site else s).settleDps a
/-- The DPS_SEQUENCE that has a site, if one runs there. -/
def State.seqOn (s : State) (site : Nat) : Option Asn :=
  (s.ops.find? (fun o => match s.dpsRun o.asn with
    | some (_, w) => (w.site site).isSome
    | none => false)).map Op.asn

/-- The action of a step begins on its controller (R390, R393, R394, R396, R402; log entry 25). -/
def State.beginStep (s : State) (a : Asn) (w : DpsWork) (p : SiteProg) (x : DpsStep) (d : Nat) : State :=
  let st := s.dpsState d
  if (x.action = 1 ∧ st ≠ 0) ∨ (x.action ≠ 1 ∧ st ≠ 1 ∧ st ≠ 2) then s.siteFail a p.site 2
  else
    let go := s.setWork a (.dps (w.setSite { p with st := 3, arrived := none }))
    if x.action = 3 then go.discharge d x.slope false
    else
      let go := (go.setReg (DPS_ILIM d) (BitVec.ofNat 32 x.ilim)).setReg (DPS_SETPOINT d) (BitVec.ofNat 32 x.setpoint)
      let go := if x.action = 1 then
          let u := go.ctl d
          let v := go.fld (DPS_VMEAS d) 15 0
          (go.setCtl d { u with fsw := go.fld (DPS_CFG d) 12 0, scomp := go.fld (DPS_SCOMP d) 15 0, rsense := go.fld (DPS_RSENSE d) 15 0,
                                loop := go.fld (DPS_LOOP d) 15 0, blank := 2, weir := false, limited := false, onFor := 0, errors := 0 }).setRef d
            (if v < x.setpoint then 10 * v else 0)
        else go
      let go := (go.setDpsState d 1).startMotion d (10 * x.setpoint) x.slope false
      if (go.ctl d).ref = 10 * x.setpoint then
        (go.setDpsState d 2).setWork a (.dps (w.setSite { p with st := 3, arrived := some go.now }))
      else go

/-- DPS_STEP_START: a site's next step asks the interlock once its gap has passed, and starts once it is permitted and
admitted (R402, R405, R419, R481). -/
def execDpsStepStart (a : Asn) (site : Nat) (s : State) : Out :=
  match s.dpsRun a with
  | none => .next s
  | some (_, w) =>
    match w.site site with
    | none => .next s
    | some p =>
      match s.siteStep w p with
      | none => .next s
      | some (x, d) =>
        let s := if p.st = 0 then s.advanceTo p.since else s
        if p.st = 0 ∧ s.now < p.since then .next s
        else if p.st = 0 ∧ x.action = 3 then .next (s.beginStep a w p x d)
        else if p.st = 0 ∨ p.st = 1 then
          let s := s.mntAsk 5 (dpsKey a site)
          let p := if s.mntRuns 5 (dpsKey a site) then { p with st := 2, since := s.now } else { p with st := 1 }
          .next (s.setWork a (.dps (w.setSite p)))
        else if p.st = 2 ∧ p.admitted then .next (s.beginStep a w p x d)
        else .next s
/-- DPS_STEP_END: the reference has arrived and, with WAIT_PGOOD, PGOOD is 1; or the controller is OFF (R402, R403, R405). -/
def execDpsStepEnd (a : Asn) (site : Nat) (s : State) : Out :=
  match s.dpsRun a with
  | none => .next s
  | some (_, w) =>
    match w.site site with
    | none => .next s
    | some p =>
      match s.siteStep w p with
      | none => .next s
      | some (x, d) =>
        let st := s.dpsState d
        if p.st ≠ 3 then .next s
        else if x.action ≠ 3 ∧ st = 0 then .next (s.siteFail a site 2)
        else if (x.action = 3 ∧ st = 0) ∨
            (x.action ≠ 3 ∧ p.arrived.isSome ∧ st = 2 ∧ (x.flags ≠ 1 ∨ s.bitAt (DPS_STATUS d) 3 = true)) then
          let w := { w.setSite (s.nextStep w site (p.step + 1) s.now) with pairs := w.pairs + 1 }
          let s := (s.setWork a (.dps w)).setProgress a w.pairs
          .next (((s.release 1 (dpsKey a site)).mntEnd 5 (dpsKey a site)).settleDps a)
        else .next s
/-- PGOOD_TIMEOUT (R402, R403). -/
def execPgoodTimeout (a : Asn) (site : Nat) (s : State) : Out :=
  match s.dpsRun a with
  | none => .next s
  | some (_, w) =>
    match w.site site with
    | none => .next s
    | some p =>
      match s.siteStep w p, p.arrived with
      | some (x, d), some g =>
        if p.st ≠ 3 ∨ x.flags ≠ 1 ∨ s.bitAt (DPS_STATUS d) 3 = true then .next s
        else
          let due := g + s.fld (DPS_PG d) 31 16 * usSteps
          let s := s.advanceTo due
          .next (if s.now < due then s else s.siteFail a site 3)
      | _, _ => .next s
/-- STEP_ENERGY_TIMEOUT: a ready step was not admitted in time (R419). -/
def execStepEnergyTimeout (a : Asn) (site : Nat) (s : State) : Out :=
  match s.dpsRun a with
  | none => .next s
  | some (_, w) =>
    match w.site site with
    | none => .next s
    | some p =>
      if p.st ≠ 2 ∨ p.admitted then .next s
      else
        let due := p.since + (s.reg NRG_STEP_WAIT).toNat * usSteps
        let s := s.advanceTo due
        .next (if s.now < due then s else s.siteFail a site 6)
/-- A DPS_SEQUENCE stops at once: references in motion freeze, discharges go on (R405). -/
def State.stopDps (s : State) (o : Op) (status : Nat) : State :=
  match s.dpsRun o.asn with
  | none => s.endOp o.asn status 0 0
  | some (_, w) =>
    let s := s.forEach (w.sites.flatMap (fun p => s.dpsOf p.site)) (fun s d =>
      if s.dpsState d = 1 then
        let u := s.ctl d
        ((s.setCtl d { u with target := u.ref, elapsed := 0 }).setReg (DPS_SETPOINT d) (BitVec.ofNat 32 (u.ref / 10))).setDpsState d 2
      else s)
    let s := s.forEach w.sites (fun s p =>
      let s := (s.release 1 (dpsKey o.asn p.site)).mntEnd 5 (dpsKey o.asn p.site)
      if s.siteOff p.site then s.release 2 p.site else s)
    s.endOp o.asn status 0 w.pairs

/-! The controller's own events (R391 to R398). -/

/-- REFERENCE_UPDATE: the reference moves on by 1 µs (R390, R393). -/
def execReferenceUpdate (d : Nat) (s : State) : Out :=
  let st := s.dpsState d
  if st ≠ 1 ∧ st ≠ 3 then .next s
  else
    let u := s.ctl d
    let n := u.elapsed + 1
    let s := s.advanceTo (u.since + n * usSteps)
    let v := if u.fast then ceilDiv (u.start * (64 - n)) 64
      else if u.start ≤ u.target then min u.target (u.start + n * u.slope) else max u.target (u.start - n * u.slope)
    let s := (s.setCtl d { u with elapsed := n }).setRef d v
    if v ≠ u.target then .next s
    else if st = 3 then .next (s.dpsOff d)
    else
      let s := s.setDpsState d 2
      .next (match (s.dpsSite d).bind s.seqOn with
        | some a => match s.dpsRun a, s.dpsSite d with
          | some (_, w), some n => match w.site n with
            | some p => if p.st = 3 ∧ (s.siteStep w p).map Prod.snd = some d then
                s.setWork a (.dps (w.setSite { p with arrived := some s.now })) else s
            | none => s
          | _, _ => s
        | none => s)
/-- A controller is held after a trip; a sequence on its site fails there (R390, R403). -/
def State.holdDps (s : State) (d by_ reason : Nat) : State :=
  let s := ((s.setFld (DPS_STATUS d) 7 6 by_).setDpsState d 4).setCtl d { s.ctl d with onFor := 0 }
  match s.dpsSite d with
  | some n => match s.seqOn n with
    | some a => s.siteFail a n reason
    | none => s
  | none => s
/-! Switching (R391, R392). Island clock: 500 MHz, five cycles to eight GCC steps. -/

/-- The switching period P in island clock cycles (R391; log entry 15). -/
def periodCycles (f : Nat) : Nat := (1000000 + f) / (2 * f)
/-- GCC of an island clock count, rounded up (R391). -/
def islandGcc (c : Nat) : Nat := ceilDiv ((c - Config.islandOffset) * 8) 5
/-- First island clock count, from c on, at which a period of controller d begins (R391). -/
def periodStart (d p c : Nat) : Nat := c + (d % 16 * p / 16 + p - c % p) % p
/-- V_ISNS + V_ramp has reached the threshold, i cycles into a period of p (R392). -/
def loopCrosses (u : Dps) (p : Nat) (i : Nat) (uv : Int) : Bool := decide (u.threshold * p ≤ uv * p + 5 * (u.scomp * i : Nat))
/-- First cycle, after the 60 ns of leading-edge blanking and before 90 % of the period, at which the control comparator sets the
weir latch; `wave` gives V_ISNS in µV by cycle (R392). The blanking keeps an on-time above its 40 ns. -/
def loopCut (u : Dps) (p : Nat) (wave : List Int) : Option Nat :=
  (List.range wave.length).find? (fun i => decide (30 ≤ i) && decide (10 * i < 9 * p) && loopCrosses u p i (wave.getD i 0))
/-- The control comparator crosses somewhere in a period. -/
def loopRises (u : Dps) (p : Nat) (wave : List Int) : Bool :=
  (List.range (wave.length - 1)).any (fun i => !loopCrosses u p i (wave.getD i 0) && loopCrosses u p (i + 1) (wave.getD (i + 1) 0))
/-- The loop's update for a period: its threshold is never below 0 V (R392). -/
def loopUpdate (u : Dps) (vsns : Nat) : Dps :=
  let e : Int := (u.ref : Int) - vsns
  { u with errors := u.errors + e, threshold := max 0 (Config.loopThreshold (u.loop / 256) (u.loop % 256) e (u.errors + e)) }
/-- PWM ball of a controller, that many tenths of an island clock cycle into its period: low but while it switches (R389, R392). -/
def State.pwmBall (s : State) (d tenths : Nat) : Bool :=
  [1, 2, 3].contains (s.dpsState d) && decide (tenths < (s.ctl d).onFor)
/-- SWITCHING_PERIOD: the next period begins; the weir latch clears, PWM rises, and falls when the control comparator sets the latch
or at 90 % of P. Through the blanking PWM stays low, and a crossing is an event only. `vsns` is VSNS in units of 10 µV, `wave`
V_ISNS in µV by island clock cycle (R391, R392, R394, R395). -/
def execSwitchingPeriod (d vsns : Nat) (wave : List Int) (s : State) : Out :=
  if !([1, 2, 3].contains (s.dpsState d)) then .next s
  else
    let u := s.ctl d
    let p := periodCycles u.fsw
    let c := periodStart d p (max (u.cycle + 1) (ceilDiv (s.now * 5) 8 + Config.islandOffset))
    let s := s.advanceTo (islandGcc c)
    let s := s.setBitAt (DPS_STATUS d) 4 u.limited
    let u := loopUpdate { u with weir := false, limited := false, blank := u.blank - 1, cycle := c, onFor := 0 } vsns
    if u.blank ≠ 0 then
      let s := s.setCtl d u
      .next (if loopRises u p wave then s.event (DPS_EVENTS d) 2 else s)
    else match loopCut u p wave with
      | some i => .next (s.setCtl d { u with weir := true, onFor := 10 * i })
      | none => .next (s.setCtl d { u with onFor := 9 * p })
/-- LIMIT_TRIP: the limit comparator, that many island clock cycles into the period and with V_ISNS in µV. Outside the leading-edge
blanking, at DPS_ILIM, it sets the weir latch and ends the on-time (R394, R395). -/
def execLimitTrip (d cycle : Nat) (uv : Int) (s : State) : Out :=
  if !([1, 2, 3].contains (s.dpsState d)) || decide (uv < 5 * (s.fld (DPS_ILIM d) 15 0 : Nat)) then .next s
  else if (s.ctl d).blank ≠ 0 then .next (s.event (DPS_EVENTS d) 2)
  else if cycle < 30 then .next s
  else
    let u := s.ctl d
    let s := s.advanceTo (islandGcc (u.cycle + cycle))
    let s := s.setCtl d { u with weir := true, limited := true, onFor := min u.onFor (10 * cycle) }
    let s := ((s.incSat (DPS_WEIR_TRIPS d)).event (DPS_EVENTS d) 0).source 9 d 0 s.now
    if s.bitAt (DPS_CFG d) 16 then .next (s.holdDps d 1 4)
    else .next (match (s.dpsSite d).bind s.seqOn with
      | some a => match s.dpsRun a with
        | some (_, w) => s.setWork a (.dps { w with trips := w.trips + 1 })
        | none => s
      | none => s)
/-- A current in mA, rounded towards zero and held to 24 bits (R397). -/
def imeas (isns : Int) (rsense : Nat) : Int := max (-8388608) (min 8388607 ((isns * 500).tdiv rsense))
/-- DPS_SAMPLE: the averaged samples of a microsecond, in the codes of R397 (R396 to R398). -/
def execDpsSample (d : Nat) (isns : Int) (vsns : Nat) (s : State) : Out :=
  let v := vsns % 65536
  let i := imeas isns (s.rsenseNow d)
  let u := s.ctl d
  let e := u.energy + v * i
  let s := ((s.setReg (DPS_ISNS d) (BitVec.ofNat 32 (unsigned 16 isns))).setReg (DPS_VMEAS d) (BitVec.ofNat 32 v)).setReg
    (DPS_IMEAS d) (BitVec.ofNat 32 (unsigned 24 i))
  let s := s.setReg64 (DPS_ENERGY_LO d) (DPS_ENERGY_HI d) (unsigned 64 (e.tdiv 10000))
  let st := s.dpsState d
  let n := if st ≠ 0 ∧ st ≠ 5 ∧ s.fld (DPS_OV d) 15 0 < v then u.ovCount + 1 else 0
  let s := (s.setCtl d { u with energy := e, ovCount := min n 2 }).refreshPg d true
  if 2 ≤ n then .next ((s.event (DPS_EVENTS d) 1).holdDps d 2 5) else .next s
/-- DPS_DISABLE: DISABLE of DPS_CTRL (R390). -/
def doDpsDisable (d : Nat) (s : State) : Out :=
  .next (if s.dpsState d = 4 then s.dpsOff d else s.dischargeOwn d)
/-- CLEAR_TRIP: CLEAR_TRIP of DPS_CTRL (R390, R407). -/
def doClearTrip (path : Path) (d : Nat) (s : State) : Out :=
  .next (if s.dpsState d = 4 then s.dpsOff d else s.rangeFlag path (DPS_CTRL d))

end Sys2Proof.Machine
end

