-- ==== Sys2Proof/Machine/Lanes.lean ====
section
/-! DEFINITION. Fast lanes (R372 to R385): LANE_TEST, the states of a lane's checker, and the events that a lane reports. -/

namespace Sys2Proof.Machine

/-! Patterns (R375). A list of bits of a pattern stands newest first. -/

/-- Length and second tap of the polynomial of a PRBS code. -/
def prbsTaps (code : Nat) : Nat × Nat :=
  match code with
  | 0 => (7, 6)
  | 1 => (15, 14)
  | 2 => (23, 18)
  | _ => (31, 28)
/-- The bit that follows in a PRBS pattern. -/
def prbsNext (code : Nat) (l : List Bool) : Bool :=
  l.getD ((prbsTaps code).1 - 1) false != l.getD ((prbsTaps code).2 - 1) false
/-- Bit n of the USER pattern, from the latched length and words. -/
def userBit (latched : List Word) (n : Nat) : Bool :=
  let i := n % max 1 ((latched.getD 3 0).field 8 0)
  (latched.getD (4 + i / 32) 0).getLsbD (i % 32)
/-- A run of bits obeys a PRBS polynomial; the pattern itself never holds as many zeros in a row as its polynomial is long. -/
def prbsHolds (code : Nat) (l : List Bool) : Bool :=
  let n := (prbsTaps code).1
  (l.drop (l.length - n)).contains true && (List.range (l.length - n)).all (fun i => l.getD i false == prbsNext code (l.drop (i + 1)))
/-- The rotation at which a run of bits is the USER pattern: the place of the bit that follows. The lowest, where several fit
(DESIGN CHOICE, log entry 133). -/
def userPlace (latched : List Word) (l : List Bool) : Option Nat :=
  let n := max 1 ((latched.getD 3 0).field 8 0)
  (List.range n).find? (fun p => (List.range l.length).all (fun i => l.getD i false == userBit latched (p + n * l.length - 1 - i)))
/-- The register of a PRBS transmitter as it starts, first bit sent first: any value but zero (R375; a free value, log entry 133). -/
def prbsSeed (code : Nat) : List Bool :=
  let n := (prbsTaps code).1
  (List.range n).map (fun i => decide (max 1 (Config.prbsStart code % 2 ^ n) / 2 ^ i % 2 = 1))
/-- The first n bits of a pattern as generated, newest first (R375). -/
def sentBits (latched : List Word) (code : Nat) : Nat → List Bool
  | 0 => []
  | n + 1 =>
    let l := sentBits latched code n
    (if code = 4 then userBit latched n else (prbsSeed code).getD n (prbsNext code l)) :: l

/-! Lanes. -/

/-- State of a lane's checker: 0 OFF, 1 ACQUIRING, 2 LOCKED (R376). -/
def State.laneState (s : State) (l : Nat) : Nat := s.fld (LN_STATUS (l / 16) (l % 16)) 1 0
/-- Every direction of a group is off (R373). -/
def State.lanesOff (s : State) (g : Nat) : State :=
  (s.forEach (List.range 16) (fun s i => s.setReg (LN_STATUS g i) 0)).setBitAt (LG_STATUS g) 2 false
/-- The PLL of a group has locked (R385). -/
def State.pllLocks (s : State) (g : Nat) : State :=
  let s : State := { s with relocks := s.relocks.filter (fun x => x.1 != g) }
  s.setBitAt (LG_STATUS g) 1 true
/-- Directions that LANE_MAP enables for a lane (R31). -/
def State.laneTx (s : State) (l : Nat) : Bool := match s.cfg.active.bind (fun g => g.laneMap[l]?) with
  | some e => bit e.flags 0
  | none => false
def State.laneRx (s : State) (l : Nat) : Bool := match s.cfg.active.bind (fun g => g.laneMap[l]?) with
  | some e => bit e.flags 1
  | none => false

/-! Fields of a LANE_TEST (R378). -/

def ltGroup (o : Op) : Nat := o.pay 0 1
def ltTx (o : Op) : Bool := bit (o.pay 1 1) 1
def ltRx (o : Op) : Bool := bit (o.pay 1 1) 2
def ltEye (o : Op) : Bool := bit (o.pay 1 1) 3
/-- Eye points along voltage, V (R379). -/
def ltV (o : Op) : Nat := 126 / o.pay 0x15 1 + 1
/-- Start of the result buffer. -/
def ltBuf (o : Op) : Nat := o.pay 0x18 4 * 64
/-- The LANE_TEST that runs, and its work. -/
def State.laneTest (s : State) (a : Asn) : Option (Op × LaneWork) :=
  match s.running? a 9 with
  | some o => match o.work with
    | .lanes w => some (o, w)
    | _ => none
  | none => none
/-- The LANE_TEST that runs on a group. -/
def State.testOn (s : State) (g : Nat) : Option (Op × LaneWork) :=
  (s.ops.find? (fun o => o.phase == .running && o.opcode == 9 && ltGroup o == g)).bind (fun o => s.laneTest o.asn)
/-- The statistics of one lane of a LANE_TEST change. -/
def State.modLane (s : State) (a : Asn) (l : Nat) (f : LaneStat → LaneStat) : State :=
  match s.laneTest a with
  | some (_, w) => s.setWork a (.lanes { w with lanes := w.lanes.map (fun x => if x.lane = l then f x else x) })
  | none => s
/-- A LANE_TEST holds a group: from its check point, or its start, to its end (R85, R387). -/
def State.groupHeld (s : State) (g : Nat) : Bool := s.ops.any (fun o => o.opcode == 9 && o.holds && ltGroup o == g)
/-- Bit n that a transmitter sends, counted from step 2, after LG_TX_POL; none in electrical idle (R373, R375, R376, R380). -/
def State.laneSends (s : State) (l n : Nat) : Option Bool :=
  (s.testOn (l / 16)).bind (fun p =>
    if (p.2.lanes.find? (fun x => x.lane == l)).any LaneStat.txOn then
      some ((sentBits p.2.latched (p.1.pay 3 1) (n + 1)).headD false != (p.2.latched.getD 1 0).getLsbD (l % 16))
    else none)

/-! The checker (R376). -/

/-- A lane leaves LOCKED: one more LN_LOCK_LOSS, and the checker seeds itself afresh. -/
def State.loseLock (s : State) (a : Asn) (l : Nat) : State :=
  let r := LN_STATUS (l / 16) (l % 16)
  let s := ((s.setFld r 1 0 1).incSat (LN_LOCK_LOSS (l / 16) (l % 16))).event (LG_EVENTS (l / 16)) 1
  s.modLane a l (fun x => { x with hist := [], pattern := [], span := [], lockLoss := x.lockLoss + 1 })
/-- A lane becomes LOCKED, its checker seeded from the bits received. -/
def State.gainLock (s : State) (a : Asn) (l pos : Nat) : State :=
  (s.setFld (LN_STATUS (l / 16) (l % 16)) 1 0 2).modLane a l
    (fun x => { x with everLocked := true, pattern := x.hist.take 31, pos := pos, span := [] })
/-- LANE_ERR: the first error that a lane's checker detects in a LANE_TEST is recorded and is a source event (R383). -/
def State.firstError (s : State) (a : Asn) (l : Nat) : State :=
  ((s.modLane a l (fun x => { x with firstErr := s.now })).event (LG_EVENTS (l / 16)) 0).source 8 l 0 s.now
/-- A bit compared in LOCKED: counted until the window closes; with 32 errors within 256 bits the lock is lost. -/
def State.compareBit (s : State) (o : Op) (w : LaneWork) (x : LaneStat) (b : Bool) : State :=
  let g := x.lane / 16; let i := x.lane % 16
  let code := o.pay 3 1
  let want := if code = 4 then userBit w.latched x.pos else prbsNext code x.pattern
  let e := b != want
  let span := (e :: x.span).take 256
  let counts := decide (w.step ≤ 3)
  let s := if counts then (s.setReg64 (LN_BITS_LO g i) (LN_BITS_HI g i) ((s.reg64 (LN_BITS_LO g i) (LN_BITS_HI g i) + 1) % 2 ^ 64)).setReg64
      (LN_ERR_LO g i) (LN_ERR_HI g i) ((s.reg64 (LN_ERR_LO g i) (LN_ERR_HI g i) + e.toNat) % 2 ^ 64)
    else s
  let s := s.modLane o.asn x.lane (fun y =>
    { y with pattern := (want :: y.pattern).take 31, pos := y.pos + 1, span := span,
             bits := if counts then y.bits + 1 else y.bits, errors := if counts then y.errors + e.toNat else y.errors })
  let s := if e ∧ x.firstErr = 0 then s.firstError o.asn x.lane else s
  if 32 ≤ span.countP id then s.loseLock o.asn x.lane else s
/-- A bit received in ACQUIRING while clock and data recovery holds lock: after 64 that match the pattern the lane is LOCKED. -/
def State.acquireBit (s : State) (o : Op) (w : LaneWork) (x : LaneStat) (b : Bool) : State :=
  let hist := (b :: x.hist).take 64
  let s := s.modLane o.asn x.lane (fun y => { y with hist := hist })
  if hist.length < 64 then s
  else if o.pay 3 1 = 4 then match userPlace w.latched hist with
    | some p => s.gainLock o.asn x.lane p
    | none => s
  else if prbsHolds (o.pay 3 1) hist then s.gainLock o.asn x.lane 0 else s
/-- One bit that a lane receives, inverted by LG_RX_POL before it is checked. -/
def State.receiveBit (s : State) (l : Nat) (b : Bool) : State :=
  match s.testOn (l / 16) with
  | none => s
  | some (o, w) => match w.lanes.find? (fun x => x.lane == l) with
    | none => s
    | some x =>
      let b := b != (w.latched.getD 2 0).getLsbD (l % 16)
      if s.laneState l = 2 then s.compareBit o w x b
      else if s.laneState l = 1 ∧ (s.reg (LN_STATUS (l / 16) (l % 16))).getLsbD 2 then s.acquireBit o w x b
      else s
/-- The bits that a lane receives, first one first. -/
def State.receive (s : State) (l : Nat) (bits : List Bool) : State := s.forEach bits (fun s b => s.receiveBit l b)

/-- LANE_TEST starts: the group takes RATE, and the settings are latched (R380, step 1). -/
def startLaneTest (s : State) (o : Op) : State :=
  let g := ltGroup o
  let same := s.fld (LG_STATUS g) 15 8 == o.pay 2 1
  let lanes := (bitsOf (o.pay 4 2) 16).map (fun i =>
    let here := match s.cfg.active.bind (fun c => c.siteOfLane (16 * g + i)) with
      | some n => !s.absent n
      | none => false
    ({ (default : LaneStat) with lane := 16 * g + i, present := here } : LaneStat))
  let latched := [s.reg (LG_TX_CFG g), s.reg (LG_TX_POL g), s.reg (LG_RX_POL g), s.reg (LG_USER_LEN g)] ++
    (List.range 8).map (fun i => s.reg (LG_USER g i))
  let s := (s.beginOp o).setWork o.asn
    (.lanes { step := 1, tPll := if same then 0 else 64000, openGcc := 0, lanes := lanes, points := 0, eye := [], latched := latched })
  let s := s.setFld (LG_STATUS g) 15 8 (o.pay 2 1)
  if same then s
  else
    let s : State := { s with relocks := s.relocks.filter (fun x => x.1 != g) ++ [(g, o.startGcc)] }
    s.setBitAt (LG_STATUS g) 1 false

/-- LANE_DIRECTIONS_ON (R380, step 2): named transmitters send the pattern, named receivers turn on. `locked` says that the
group's PLL has locked by then; given again later, that it has locked since (R385). -/
def execLaneDirectionsOn (a : Asn) (locked : Bool) (s : State) : Out :=
  match s.laneTest a with
  | none => .next s
  | some (o, w) =>
    let g := ltGroup o
    let due := o.startGcc + w.tPll
    let s := if w.step = 1 then s.advanceTo due else s
    if o.aborting ∨ o.faulting ∨ s.now < due then .next s
    else
      let s := if locked then s.pllLocks g else s
      if w.step ≠ 1 then .next s
      else
        let on := w.lanes.map (fun x => { x with txOn := x.present && ltTx o && s.laneTx x.lane, rxOn := x.present && ltRx o && s.laneRx x.lane })
        let s := s.setWork a (.lanes { w with step := 2, lanes := on })
        .next (s.forEach on (fun s x => s.setReg (LN_STATUS g (x.lane % 16)) (BitVec.ofNat 32 (17 * x.rxOn.toNat + 8 * x.txOn.toNat))))
/-- COUNTING_WINDOW_OPEN (R380, step 3). -/
def execCountingWindowOpen (a : Asn) (s : State) : Out :=
  match s.laneTest a with
  | none => .next s
  | some (o, w) =>
    let due := o.startGcc + w.tPll + 16000
    if w.step ≠ 2 ∨ o.aborting ∨ o.faulting then .next s
    else
      let s := s.advanceTo due
      if s.now < due then .next s
      else
        let g := ltGroup o
        let s := s.forEach w.lanes (fun s x =>
          ((s.setReg64 (LN_BITS_LO g (x.lane % 16)) (LN_BITS_HI g (x.lane % 16)) 0).setReg64 (LN_ERR_LO g (x.lane % 16))
            (LN_ERR_HI g (x.lane % 16)) 0).setReg (LN_LOCK_LOSS g (x.lane % 16)) 0)
        let lanes := w.lanes.map (fun x => { x with everLocked := s.laneState x.lane == 2, lockLoss := 0, bits := 0, errors := 0 })
        .next (s.setWork a (.lanes { w with step := 3, openGcc := due, lanes := lanes }))
/-- COUNTING_WINDOW_CLOSE: its instant has come. `bits` gives the bits that lanes, numbered within the group, receive up to then
(R376, R380). -/
def execCountingWindowClose (a : Asn) (bits : List (Nat × List Bool)) (s : State) : Out :=
  match s.laneTest a with
  | none => .next s
  | some (o, w) =>
    let due := w.openGcc + o.pay 0x10 4
    if w.step ≠ 3 ∨ o.aborting ∨ o.faulting then .next s
    else
      let s := s.advanceTo due
      if s.now < due then .next s
      else
        let g := ltGroup o
        let s := s.forEach bits (fun s x => s.receive (16 * g + x.1) x.2)
        .next (match s.laneTest a with
          | none => s
          | some (_, w) =>
            let lanes := w.lanes.map (fun x => { x with lockedAtClose := s.laneState x.lane == 2 })
            let s := if ltEye o then s.setBitAt (LG_STATUS g) 2 true else s
            (s.setProgress a (o.pay 0x10 4)).setWork a (.lanes { w with step := 4, lanes := lanes }))
/-- GCC steps that eye points take, in sixteenths times 5 × RATE divided out (R374, R381). -/
def eyeSteps (o : Op) (n : Nat) : Nat := n * 256 + ceilDiv (n * 2 ^ o.pay 0x16 1 * 16) (5 * o.pay 2 1)
/-- Phase offset in UI/64 and voltage offset in mV of point k of the scan, phase by phase (R381). -/
def eyeOffset (o : Op) (k : Nat) : Int × Int :=
  (-32 + (k / ltV o * o.pay 0x14 1 : Nat), 4 * (-63 + (k % ltV o * o.pay 0x15 1 : Nat)))
/-- EYE_POINT: the next point of the scan. `eye` says how many of the bits compared the second samplers of the named lanes find in
error, in ascending lane order, at offsets in UI/64 and in mV; a lane or offset it leaves out has none (R381, R382; log entry
133). -/
def execEyePoint (a : Asn) (eye : List (Int × Int × List Nat)) (s : State) : Out :=
  match s.laneTest a with
  | none => .next s
  | some (o, w) =>
    if w.step ≠ 4 || !ltEye o || decide (eyePoints o.desc ≤ w.points) || o.aborting || o.faulting then .next s
    else
      let due := w.openGcc + o.pay 0x10 4 + eyeSteps o (w.points + 1)
      let s := s.advanceTo due
      if s.now < due then .next s
      else
        let at_ := eyeOffset o w.points
        let found := ((eye.find? (fun p => decide ((p.1, p.2.1) = at_))).map (fun p => p.2.2)).getD []
        let words := (List.range w.lanes.length).map (fun r =>
          if (w.lanes[r]?.map LaneStat.lockedAtClose).getD false then min (min (found.getD r 0) (2 ^ o.pay 0x16 1)) (2 ^ 32 - 1)
          else 2 ^ 32 - 1)
        .next (s.setWork a (.lanes { w with points := w.points + 1, eye := w.eye ++ [words] }))

/-- RESULT of a lane (R372, R382). -/
def State.laneResult (s : State) (o : Op) (x : LaneStat) : Nat :=
  if !x.present then 3
  else if (ltTx o && !s.laneTx x.lane) || (ltRx o && !s.laneRx x.lane) then 5
  else if !ltRx o then 4
  else if !x.everLocked then 2
  else if x.errors ≠ 0 then 1 else 0
/-- Bytes of a lane record (R382). -/
def State.laneRecord (s : State) (o : Op) (x : LaneStat) : List Byte :=
  leBytes 1 x.lane ++ leBytes 1 (s.laneResult o x) ++ leBytes 2 0 ++ leBytes 4 (min x.lockLoss (2 ^ 32 - 1)) ++
  leBytes 8 x.bits ++ leBytes 8 x.errors ++ leBytes 8 x.firstErr
/-- The eye maps by lane and point; points not reached hold all ones (R382, R385). -/
def eyeMaps (o : Op) (w : LaneWork) : List Byte :=
  (List.range w.lanes.length).flatMap (fun r =>
    (w.eye ++ List.replicate (eyePoints o.desc - w.points) []).flatMap (fun (p : List Nat) => leBytes 4 (p.getD r (2 ^ 32 - 1))))
/-- LANE_TEST_END: the results are written and every direction of the group turns off (R380 step 6, R384, R385). -/
def execLaneTestEnd (a : Asn) (s : State) : Out :=
  match s.laneTest a with
  | none => .next s
  | some (o, w) =>
    let stop := o.aborting || o.faulting
    if !stop ∧ (w.step ≠ 4 ∨ (ltEye o ∧ w.points < eyePoints o.desc)) then .next s
    else
      let s := s.writeBytes (ltBuf o) (w.lanes.flatMap (s.laneRecord o))
      let s := if ltEye o then s.writeBytes (ltBuf o + w.lanes.length * 32) (eyeMaps o w) else s
      let rs := w.lanes.map (s.laneResult o)
      let cnt := fun l => (rs.filter (fun r => List.contains l r)).length
      let s := s.lanesOff (ltGroup o)
      if stop then .next (s.endOp a (o.endStatus 4) 0 o.progress)
      else .next (s.endOp a (if cnt [1, 2] = 0 then 0 else 1) 0
        (cnt [0, 4] + 2 ^ 16 * cnt [1] + 2 ^ 32 * cnt [2] + 2 ^ 48 * cnt [3, 5]))
/-- A LANE_TEST that is asked to stop does so at once: its directions turn off and its progress stands (R385). -/
def State.stopLanes (s : State) (o : Op) : State :=
  match o.work with
  | .lanes w => (s.lanesOff (ltGroup o)).setProgress o.asn (if w.step < 3 then 0 else min (s.now - w.openGcc) (o.pay 0x10 4))
  | _ => s

/-! Events of a checker (R376, R383). Their operands carry the bits received since the lane's last command. -/

/-- CHECKER_LOCK: clock and data recovery has lock, and the bits received lead the checker to LOCKED (R376). -/
def execCheckerLock (lane : Nat) (bits : List Bool) (s : State) : Out :=
  let s := if s.laneState lane = 1 then s.setBitAt (LN_STATUS (lane / 16) (lane % 16)) 2 true else s
  .next (s.receive lane bits)
/-- CHECKER_LOCK_LOSS: a burst of errors among the bits received, or `cdrLost`, loss of lock of clock and data recovery after
them, returns the checker to ACQUIRING (R376). -/
def execCheckerLockLoss (lane : Nat) (cdrLost : Bool) (bits : List Bool) (s : State) : Out :=
  let s := s.receive lane bits
  .next (if !cdrLost || s.laneState lane == 0 then s
    else match s.testOn (lane / 16) with
      | none => s
      | some (o, _) =>
        let s := if s.laneState lane = 2 then s.loseLock o.asn lane else s.modLane o.asn lane (fun x => { x with hist := [] })
        s.setBitAt (LN_STATUS (lane / 16) (lane % 16)) 2 false)
/-- LANE_ERR: the bits received, the first error in LOCKED among them (R376, R383). -/
def execLaneErr (lane : Nat) (bits : List Bool) (s : State) : Out := .next (s.receive lane bits)

end Sys2Proof.Machine
end

