-- ==== Sys2Proof/Machine/Levels.lean ====
section
/-! DEFINITION. Timing set and level commands (R171 to R178, R191 to R218): commits, TSET_LOAD, FORCE_SET, LEVELS_SET,
CONTACT_CHECK, and the events of the pin electronics. -/

namespace Sys2Proof.Machine

/-! Starts, called by the dispatch engine. -/

/-- TSET_LOAD starts (R176). -/
def startTsetLoad (s : State) (o : Op) : State :=
  (s.beginOp o).setWork o.asn (.levels { chans := [], wrote := false, count := 0, saved := [], volts := [] })
/-- FORCE_SET starts: its channels are those of the named sites that are present now (R202, R219). -/
def startForceSet (s : State) (o : Op) : State :=
  let cs := (s.cfg.active.map (fun g => s.forceChans g o)).getD []
  (s.beginOp o).setWork o.asn (.levels { chans := cs, wrote := false, count := cs.length, saved := [], volts := [] })
/-- LEVELS_SET starts (R207). -/
def startLevelsSet (s : State) (o : Op) : State :=
  let cs := (s.cfg.active.map (fun g => levelChans g o.desc)).getD []
  (s.beginOp o).setWork o.asn (.levels { chans := cs, wrote := false, count := cs.length, saved := [], volts := [] })

/-- Registers that CONTACT_CHECK saves and restores (R212). -/
def contactRegs : List Nat := [0x00, 0x28, 0x2C, 0x30, 0x34]
/-- Words that CONTACT_CHECK saves of a channel: its mode is the one in effect, which for a channel in the reset pin state is
DISCONNECTED (R183, R212). -/
def State.contactSaved (s : State) (c : Nat) : List Word :=
  contactRegs.map (fun r => if r = 0 then (s.liveReg (CH_CFG c)).withField 1 0 (s.liveMode c) else s.liveReg (CH_CFG c + r))
/-- Smallest PPMU range whose full scale is at least a current in units of 0.1 µA (R198, R212). -/
def contactRange (f : Nat) : Nat := if f ≤ 20 then 0 else if f ≤ 200 then 1 else if f ≤ 2000 then 2 else 3
/-- Full scale of a range in units of 0.1 µA (R198). -/
def fullScale (r : Nat) : Nat := [20, 200, 2000, 20000, 400000].getD r 20
/-- Quotient rounded to nearest, ties away from zero. -/
def roundDiv (a : Int) (b : Nat) : Int :=
  let n : Nat := (2 * a.natAbs + b) / (2 * b)
  if a < 0 then -(n : Int) else n
/-- Live words of a channel with some registers replaced. -/
def withWords (w : Nat → Word) (l : List (Nat × Word)) : Nat → Word :=
  fun o => match l.find? (fun e => e.1 == o) with
    | some e => e.2
    | none => w o
/-- Instant of step 3 of a CONTACT_CHECK that starts at GCC r, and of step 4 (R212). -/
def contactStep3 (o : Op) (r : Nat) : Nat := r + 4000 + settleSteps (contactRange (signed 16 (o.pay 4 2)).natAbs)
def contactStep4 (o : Op) (r : Nat) : Nat := contactStep3 o r + (presetN (o.pay 6 1) + 8) * presetTout (o.pay 6 1)
/-- Levels that CONTACT_CHECK gives a channel: PMU mode, FIMV at FORCE, clamps at −1.0 V and +1.0 V (R212; log entry 15). -/
def contactWords (s : State) (o : Op) (c : Nat) : Nat → Word :=
  let f := signed 16 (o.pay 4 2)
  let r := contactRange f.natAbs
  withWords (s.liveWords c)
    [(0x00, (s.liveReg (CH_CFG c)).withField 1 0 2), (0x28, BitVec.ofNat 32 (2 + 16 * r)),
     (0x2C, BitVec.ofNat 32 (unsigned 16 (roundDiv (f * 32767) (fullScale r)))),
     (0x30, BitVec.ofNat 32 (25000 * 65536 + 5000))]
/-- CONTACT_CHECK starts: refused while a controller of its sites is not OFF, else every PPMU connects (R211, R212). -/
def startContactCheck (s : State) (o : Op) : State :=
  match s.cfg.active with
  | none => s
  | some g =>
    match (List.range 64).find? (fun d => ((namedSites o.desc).flatMap g.dpsOf).contains d && s.fld (DPS_STATUS d) 2 0 != 0) with
    | some d => s.endOp o.asn 9 2 d
    | none =>
      let cs := (namedSites o.desc).flatMap g.chansOf
      let sv := cs.map (fun c => (c, s.contactSaved c))
      let s := (s.beginOp o).setWork o.asn (.levels { chans := cs, wrote := true, count := 0, saved := sv, volts := [] })
      let s := s.forEach cs (fun s c => s.goLive c (contactWords s o c))
      s.forEach (clustersOf cs) (fun s k => s.setClu k { s.clu k with syncAt := (s.clu k).syncAt ++ [contactStep3 o s.now] })

/-- Live levels return to what CONTACT_CHECK saved (R212, R218). -/
def restoreContact (s : State) (w : LevWork) : State :=
  s.forEach w.saved (fun s e => s.goLive e.1 (withWords (s.liveWords e.1) (List.zip contactRegs e.2)))

/-! Meanings. -/

/-- TE_COMMIT (R171). -/
def doTeCommit (cluster : Nat) (hi : Word) (s : State) : Out :=
  .next (s.commitTe (s.clusterHeld cluster) cluster (hi.toNat * 2 ^ 32 + (s.clu cluster).commitLo))

/-- Image of block i of a TSET_LOAD, read at its byte offsets (R176). -/
def tsetBlock (s : State) (o : Op) (i : Nat) : Nat → Word := fun off => s.storeWord (o.pay 8 8 + 1024 * i + off)
/-- TSET_LOAD_WRITE_TICK: both copies of the named sets, or the first failing check (R177; log entry 14). -/
def execTsetLoadWriteTick (a : Asn) (s : State) : Out :=
  match s.running? a 0x12 with
  | none => .next s
  | some o =>
    let n := o.pay 3 1; let first := o.pay 2 1
    let ks := bitsOf (o.pay 0 2) 16
    if s.poisonIn (o.pay 8 8) (n * 1024) then .next (s.endOp a 0xE 0 0)
    else match (List.range n).findSome? (fun i => (tsCheck (tsetBlock s o i)).map (fun r => (i, r))) with
      | some (i, code, pin) =>
        .next (s.endOp a 9 1 (code + 256 * (first + i) + 65536 * pin + 2 ^ 24 * (ks.headD 0)))
      | none =>
        let t := s.forEach ks (fun u k => u.forEach (List.range n) (fun u i => u.tsWrite k (first + i) (tsetBlock s o i)))
        .next ((t.setProgress a 1).endOp a 0 0 (n * ks.length))

/-- LV_COMMIT (R191). -/
def doLvCommit (cluster : Nat) (mask : Word) (s : State) : Out := .next (s.commitLv (s.clusterHeld cluster) cluster mask.toNat)

/-- MODE_CHANGE_COMPLETE: 10 µs after its commit the overlap is over (R182). -/
def execModeChangeComplete (ch : Nat) (s : State) : Out :=
  match (s.chan ch).switching with
  | none => .next s
  | some g =>
    let s := s.advanceTo g
    .next (if s.now < g then s else s.setChan ch { s.chan ch with switching := none, leaving := none })

/-- CH_CFG.MODE that FORCE_SET writes (R202). -/
def forceMode (o : Op) : Nat := if o.pay 0x10 1 ≠ 0 then 2 else if bit (o.pay 0x12 1) 2 then 1 else 0
/-- The PPMU registers that FORCE_SET writes (R202). -/
def forcePmu (o : Op) : List (Nat × Word) :=
  [(0x28, BitVec.ofNat 32 (o.pay 0x10 1 + 16 * o.pay 0x11 1)), (0x2C, BitVec.ofNat 32 (o.pay 0x14 2)),
   (0x30, BitVec.ofNat 32 (o.pay 0x18 2 * 65536 + o.pay 0x16 2)), (0x34, BitVec.ofNat 32 (o.pay 0x1A 2))]
/-- Live words of a channel under a FORCE_SET. -/
def forceWords (s : State) (o : Op) (c : Nat) : Nat → Word :=
  withWords (s.liveWords c) ((0x00, (s.liveReg (CH_CFG c)).withField 1 0 (forceMode o)) :: forcePmu o)
/-- FORCE_SET_WRITE_TICK: every affected channel at once, or the first failing check (R203, R204). -/
def execForceSetWriteTick (a : Asn) (s : State) : Out :=
  match s.running? a 4 with
  | none => .next s
  | some o =>
    match o.work with
    | .levels w =>
      if w.wrote then .next s
      else match lvFirst 7 (((List.range 512).filter w.chans.contains).map (fun c => (c, forceWords s o c))) with
        | some (code, c) => .next (s.endOp a 9 2 (code + 256 * c))
        | none =>
          let t := s.forEach w.chans (fun u c =>
            let u := u.setFld (CH_CFG c) 1 0 (forceMode o)
            let u := u.forEach (forcePmu o) (fun u e => u.setReg (CH_CFG c + e.1) e.2)
            u.goLive c (forceWords s o c))
          .next ((t.setWork a (.levels { w with wrote := true })).setProgress a 1)
    | _ => .next s

/-- Instant at which the mode changes and settling times of channels are over (R182, R198). -/
def settledAt (s : State) (cs : List Nat) : Nat :=
  cs.foldl (fun m c => max m (max ((s.chan c).switching.getD 0) ((s.chan c).settle.getD 0))) 0
/-- FORCE_SET_SETTLED: the clamped channels are counted and the operation completes (R204). -/
def execForceSetSettled (a : Asn) (s : State) : Out :=
  match s.running? a 4 with
  | none => .next s
  | some o =>
    match o.work with
    | .levels w =>
      if !w.wrote then .next s
      else
        let s := s.advanceTo (settledAt s w.chans)
        let n := (w.chans.filter (fun c => s.bitAt (CH_PMU_STATUS c) 1)).length
        let d := w.chans.length + 65536 * n
        .next (if n ≠ 0 ∧ bit (o.pay 0x12 1) 1 then s.endOp a 9 3 d else s.endOp a 0 0 d)
    | _ => .next s

/-- Address of the level block of a channel (R207). -/
def levelBlock (o : Op) (c : Nat) : Nat :=
  if bit (o.pay 4 1) 1 then o.pay 0x10 8 else o.pay 0x10 8 + 64 * (c - o.pay 0 2)
/-- LEVELS_SET_WRITE_TICK: both copies of every named channel, or the first failing check (R208; log entries 14 and 16). -/
def execLevelsSetWriteTick (a : Asn) (s : State) : Out :=
  match s.running? a 0x11 with
  | none => .next s
  | some o =>
    match o.work with
    | .levels w =>
      if w.wrote then .next s
      else if w.chans.any (fun c => s.poisonIn (levelBlock o c) 64) then .next (s.endOp a 0xE 0 0)
      else
        let words := fun c off => s.storeWord (levelBlock o c + off)
        match lvFirst 8 (w.chans.map (fun c => (c, words c))) with
        | some (code, c) => .next (s.endOp a 9 2 (code + 256 * c))
        | none =>
          let t := s.forEach w.chans (fun u c => u.writeLevels c (words c))
          .next ((t.setWork a (.levels { w with wrote := true })).setProgress a 1)
    | _ => .next s
/-- LEVELS_SET_DONE: after the mode changes (R208). -/
def execLevelsSetDone (a : Asn) (s : State) : Out :=
  match s.running? a 0x11 with
  | none => .next s
  | some o =>
    match o.work with
    | .levels w =>
      if !w.wrote then .next s
      else
        let at10 := w.chans.foldl (fun m c => max m ((s.chan c).switching.getD 0)) 0
        .next ((s.advanceTo at10).endOp a 0 0 w.chans.length)
    | _ => .next s

/-- Mean of a channel's samples, in µV, as a voltage in units of 100 µV, rounded to nearest (R212; ties: log entry 15). -/
def contactMean (l : List Int) : Int := roundDiv l.sum (100 * max 1 l.length)
/-- CONTACT_CHECK_MEASURE: the synchronizing resets of step 3 where they have not run, then the voltages of step 4 (R212).
`samples` gives the first eight samples not flagged SETTLING of each channel, in µV. A channel that it leaves out counts as
NOT_MEASURED (log entry 119). -/
def execContactCheckMeasure (a : Asn) (samples : List (Nat × List Int)) (s : State) : Out :=
  match s.running? a 5 with
  | none => .next s
  | some o =>
    match o.work with
    | .levels w =>
      if !w.volts.isEmpty then .next s
      else
        let s := s.forEach (clustersOf w.chans) (fun s k => s.runSync k (contactStep3 o o.startGcc))
        let s := s.advanceTo (contactStep4 o o.startGcc)
        let vs := (samples.filter (fun v => w.chans.contains v.1 && !s.isFaulted 1 v.1)).map
          (fun v => (v.1, contactMean v.2, s.bitAt (CH_PMU_STATUS v.1) 1))
        .next (s.setWork a (.levels { w with volts := vs, count := 1 }))
    | _ => .next s

/-- Class of a measured voltage (R213). -/
def contactClass (o : Op) (v : Int) : Nat :=
  let u := if signed 16 (o.pay 4 2) < 0 then -v else v
  if u < 10 * (o.pay 0x10 2 : Nat) then 1 else if u < 10 * (o.pay 0x12 2 : Nat) then 0 else 2
/-- Result table entry of a channel (R214). -/
def contactEntry (o : Op) (w : LevWork) (c : Nat) : Nat :=
  match w.volts.find? (fun v => v.1 == c) with
  | some v => unsigned 24 v.2.1 * 256 + (if v.2.2 then 4 else 0) + contactClass o v.2.1
  | none => 3
/-- Number of channels of a list with a class. -/
def classCount (o : Op) (w : LevWork) (cs : List Nat) (cl : Nat) : Nat :=
  (cs.filter (fun c => contactEntry o w c % 4 == cl)).length
/-- A named site is present (R215). -/
def sitePresent (g : ImageSet) (o : Op) (w : LevWork) (n : Nat) : Bool :=
  let cs := g.chansOf n; let good := classCount o w cs 0
  cs.isEmpty || (if o.pay 0x14 2 = 0xFFFF then good == cs.length else decide (o.pay 0x14 2 ≤ good))
/-- Step 6 of CONTACT_CHECK: results and marks (R214 to R217). A cluster with no assigned channel keeps its contact state (log
entry 120). -/
def recordContact (s : State) (g : ImageSet) (o : Op) (w : LevWork) : State :=
  let sites := namedSites o.desc
  let s := if o.pay 0x18 8 = 0 then s
    else s.writeBytes (o.pay 0x18 8) ((List.range 512).flatMap (fun c => leBytes 4 (contactEntry o w c)))
  let s := s.forEach w.chans (fun s c => s.setReg (CH_CONTACT c) (BitVec.ofNat 32 (contactEntry o w c)))
  let s := if bit (o.pay 7 1) 1 then s
    else s.forEach sites (fun s n => s.setMaskBit (GLB_SITE_ABSENT 0) n (!sitePresent g o w n))
  let measured := fun k =>
    let cs := g.assignedOn k
    !cs.isEmpty && cs.all (fun c => contactEntry o w c % 4 != 3)
  let ks := (List.range 16).filter measured
  let lifted := fun k => (g.assignedOn k).all (fun c => contactEntry o w c % 4 == 2)
  let touch := ks.any (fun k => !lifted k && (!s.bitAt GLB_CONTACT_KNOWN k || s.bitAt GLB_CONTACT_LIFTED k))
  let s := s.forEach ks (fun s k => (s.setBitAt GLB_CONTACT_KNOWN k true).setBitAt GLB_CONTACT_LIFTED k (lifted k))
  let s := if touch then s.ltAdd 5 1 else s
  s.setReg64 GLB_CONTACT_GCC_LO GLB_CONTACT_GCC_HI s.now
/-- CONTACT_CHECK_RESTORE: steps 5 and 6. An abort or a fault takes effect at step 5 and records nothing (R122, R212, R218). -/
def execContactCheckRestore (a : Asn) (s : State) : Out :=
  match s.running? a 5, s.cfg.active with
  | some o, some g =>
    match o.work with
    | .levels w =>
      if w.count = 0 ∧ !o.aborting ∧ !o.faulting then .next s
      else
      let s := s.advanceTo (contactStep4 o o.startGcc + 4000)
      if o.aborting ∨ o.faulting then .next ((restoreContact s w).endOp a (o.endStatus 4) 0 0)
      else
        let s := (recordContact (restoreContact s w) g o w).setProgress a 1
        let sites := namedSites o.desc
        let present := (sites.filter (fun n => sitePresent g o w n)).length
        .next (s.endOp a 0 0 (present + 2 ^ 16 * (sites.length - present) + 2 ^ 32 * classCount o w w.chans 1 +
          2 ^ 48 * classCount o w w.chans 2))
    | _ => .next s
  | _, _ => .next s

/-- PMU_CLAMP_ENGAGE: the clamp in force engages or releases (R198, R199). -/
def execPmuClampEngage (ch : Nat) (engaged : Bool) (s : State) : Out :=
  .next (if s.clampNow ch ≠ 0 then
    let t := s.setBitAt (CH_PMU_STATUS ch) 1 engaged
    if engaged && !s.bitAt (CH_PMU_STATUS ch) 1 then t.event (CH_EVENTS ch) 2 else t
  else s)

/-- PMU_SETTLING_END: the settling time has passed; the old range disconnects (R198, R199). -/
def execPmuSettlingEnd (ch : Nat) (s : State) : Out :=
  match (s.chan ch).settle with
  | none => .next s
  | some g =>
    let s := s.advanceTo g
    .next (if s.now < g then s
      else (s.setChan ch { s.chan ch with settle := none, oldRange := none }).setBitAt (CH_PMU_STATUS ch) 2 true)

/-- DRIVER_CURRENT_LIMIT: the event sets and the driver stays on (R197). -/
def execDriverCurrentLimit (ch : Nat) (s : State) : Out :=
  .next (if s.liveMode ch = 1 ∨ s.liveMode ch = 3 then s.event (CH_EVENTS ch) 0 else s)

/-- A CONTACT_CHECK has the channel's driver, load and clamps disconnected (R212). -/
def State.contactHolds (s : State) (c : Nat) : Bool :=
  s.ops.any (fun o => o.phase == .running && o.opcode == 5 && (match o.work with
    | .levels w => w.chans.contains c
    | _ => false))
/-- CLAMP_HIT: a clamp of a connected channel conducts (R196, R197, R212). -/
def execClampHit (ch : Nat) (s : State) : Out :=
  .next (if s.liveMode ch = 0 ∨ s.contactHolds ch then s else s.event (CH_EVENTS ch) 1)

end Sys2Proof.Machine
end

