-- ==== Sys2Proof/Machine/Measure.lean ====
section
/-! DEFINITION. The measurement path (R329 to R346): sample words, MEASURE, the monitor mask and synchronizing resets. -/

namespace Sys2Proof.Machine

/-! Samples (R330 to R335). -/

/-- Output instant of sample n of a channel (R333). -/
def State.sampleAt (s : State) (c n : Nat) : Nat :=
  let k := c / 32; let t := presetTout (s.clu k).clock
  s.reg64 (MEAS_SYNC_GCC_LO k) (MEAS_SYNC_GCC_HI k) + n * t + (c % 32) * t / 32
/-- Number of the next sample of a channel since the last synchronizing reset. -/
def State.nextSample (s : State) (c : Nat) : Nat :=
  (((s.clu (c / 32)).sampleNo.find? (fun x => x.1 == c)).map Prod.snd).getD 0
/-- The next sample of a channel takes a number. -/
def State.setNextSample (s : State) (c n : Nat) : State :=
  let u := s.clu (c / 32)
  s.setClu (c / 32) { u with sampleNo := (c, n) :: u.sampleNo.filter (fun x => x.1 != c) }
/-- A change of PRESET while the path is free: each channel goes on with its first output instant still to come (R333,
R336; log entry 24). -/
def State.reclock (s : State) (k : Nat) : State :=
  let t := presetTout (s.preset k)
  let r := s.reg64 (MEAS_SYNC_GCC_LO k) (MEAS_SYNC_GCC_HI k)
  let u := s.clu k
  s.setClu k { u with clock := s.preset k, sampleNo := (List.range 32).map (fun j => (32 * k + j, (s.now + t - r - j * t / 32) / t)) }
/-- The channel measures something (R330). -/
def State.hasSignal (s : State) (c : Nat) : Bool :=
  (s.liveMode c == 2 || s.liveMode c == 3) && (match s.cfg.active.bind (fun g => g.siteOfCh c) with
    | some n => !s.absent n
    | none => false)
/-- The channel measures current (R330). -/
def State.measuresI (s : State) (c : Nat) : Bool :=
  s.liveMode c == 2 && [1, 5].contains (s.liveFld (CH_PMU_CTRL c) 2 0)
/-- A value held to 24 bits (R332). -/
def sat24 (v : Int) : Int := max (-8388608) (min 8388607 v)
/-- A sample word (R331). -/
def sampleWord (qty overs noSig clamped settling : Bool) (v : Int) : Nat :=
  (if qty then 2 ^ 28 else 0) + (if overs then 2 ^ 27 else 0) + (if noSig then 2 ^ 26 else 0) +
  (if clamped then 2 ^ 25 else 0) + (if settling then 2 ^ 24 else 0) + unsigned 24 v
/-- One output sample: its number since the synchronizing reset, its flags and its value. -/
structure Sample where
  n : Nat
  ch : Nat
  instant : Nat
  qty : Bool
  overs : Bool
  noSig : Bool
  clamped : Bool
  settling : Bool
  value : Int
deriving DecidableEq, Repr, Inhabited
/-- The word of a sample (R331). -/
def Sample.word (x : Sample) : Nat := sampleWord x.qty x.overs x.noSig x.clamped x.settling x.value
/-- Bits [23:0] of a mask register, as a signed value. -/
def State.maskLo (s : State) (c : Nat) : Int := signed 24 (s.fld (MEAS_MASK_LO (c / 32) (c % 32)) 23 0)
def State.maskHi (s : State) (c : Nat) : Int := signed 24 (s.fld (MEAS_MASK_HI (c / 32) (c % 32)) 23 0)

/-- A violation of a mask by a channel at an instant: flags, and its source events (R313, R342). -/
def State.maskFail (s : State) (c : Nat) (line : Option Nat) (t : Nat) : State :=
  let s := (s.setBitAt (MEAS_MASK_FAIL_PINS (c / 32)) (c % 32) true).event (MEAS_EVENTS (c / 32)) 1
  let s := s.source 7 (0x2000 + c) 0 t
  match line with
  | some l => s.lineEvent l t
  | none => s

/-! MEASURE (R338 to R344). -/

/-- The MEASURE that runs on a cluster. -/
def State.measureOn (s : State) (k : Nat) : Option (Op × MeasWork) :=
  match s.measHolder k with
  | some o => match o.work with
    | .measure w => some (o, w)
    | _ => none
  | none => none
/-- First kept sample number, N + SKIP, and the number of kept samples (R340). -/
def measFirst (o : Op) : Nat := presetN (o.pay 0x10 1) + o.pay 0x14 2
def measKept (o : Op) : Nat := o.pay 0x12 2
/-- Kept samples per channel at the end of the work, given the round after which it stops. -/
def measNeed (o : Op) (w : MeasWork) : Nat :=
  match w.stopRound with
  | some r => min (measKept o) (r + 1 - measFirst o)
  | none => measKept o
/-- End of the work (R340, R342, R344). -/
def measDue (o : Op) (w : MeasWork) : Nat :=
  let t := presetTout (o.pay 0x10 1)
  o.startGcc + (match w.stopRound with
    | some r => r + 1
    | none => measFirst o + measKept o) * t + 1600
/-- Start of the result buffer (R339). -/
def measBuf (o : Op) : Nat := o.pay 0x18 4 * 64

/-- MEASURE starts: a synchronizing reset in every named cluster, masks and presence latched (R340, R342). -/
def startMeasure (s : State) (o : Op) : State :=
  let mk := fun (c : Nat) =>
    let gone := match s.cfg.active.bind (fun g => g.siteOfCh c) with
      | some n => s.absent n
      | none => true
    ({ ch := c, kept := 0, signal := 0, sum := 0, lo := 0, hi := 0, flags := if gone then 128 else 0, range := 0,
       maskLo := s.maskLo c, maskHi := s.maskHi c } : ChStat)
  let cs := (List.range 512).filter o.atAccept.contains
  let s := (s.beginOp o).setWork o.asn (.measure { chans := cs.map mk, violation := none, stopRound := none })
  s.forEach (clustersOf cs) (fun s k => s.syncReset k)

/-- The statistics of a channel take a kept sample (R341). -/
def ChStat.take (x : ChStat) (y : Sample) (range : Nat) (bad : Bool) : ChStat :=
  let fl := x.flags ||| (if y.qty then 1 else 0) ||| (if y.clamped then 2 else 0) ||| (if y.overs then 4 else 0) |||
    (if bad then 16 else 0)
  let r := if y.qty then range else 0
  if y.noSig then { x with kept := x.kept + 1, flags := fl }
  else { x with kept := x.kept + 1, signal := x.signal + 1, sum := x.sum + y.value,
                lo := if x.signal = 0 then y.value else min x.lo y.value,
                hi := if x.signal = 0 then y.value else max x.hi y.value, flags := fl, range := r }
/-- The work of a MEASURE after a violation with MASK_STOP: the first one decides, and in one round the lowest channel
(R342). -/
def MeasWork.violate (w : MeasWork) (n i c : Nat) : MeasWork :=
  match w.violation with
  | none => { w with violation := some (i, c), stopRound := some n }
  | some (j, d) => if i = j ∧ c < d then { w with violation := some (i, c) } else w
/-- A MEASURE takes a sample of one of its channels (R340 to R342). -/
def State.keepSample (s : State) (o : Op) (w : MeasWork) (y : Sample) : State :=
  match w.chans.find? (fun x => x.ch == y.ch) with
  | none => s
  | some x =>
    let i := y.n - measFirst o
    if y.n < measFirst o ∨ measNeed o w ≤ i ∨ x.kept ≠ i then s
    else
      let y := if bit x.flags 7 then { y with noSig := true, value := 0, overs := false, qty := false } else y
      let rank := (w.chans.filter (fun z => z.ch < y.ch)).length
      let s := if bit (o.pay 0x11 1) 1 then s.writeBytes (measBuf o + rank * measKept o * 4 + 4 * i) (leBytes 4 y.word) else s
      let bad := bit (o.pay 0x11 1) 2 && !y.noSig && !y.settling && (decide (y.value < x.maskLo) || decide (x.maskHi < y.value))
      let x' := x.take y (s.liveFld (CH_PMU_CTRL y.ch) 6 4) bad
      let w := { w with chans := w.chans.map (fun z => if z.ch = y.ch then x' else z) }
      let w := if bad ∧ bit (o.pay 0x11 1) 3 then w.violate y.n i y.ch else w
      let s := s.setWork o.asn (.measure w)
      let s := s.setProgress o.asn (w.chans.foldl (fun m z => min m z.kept) (2 ^ 16))
      if bad then s.maskFail y.ch (if bit (o.pay 0x11 1) 4 then some (o.pay 0x16 1) else none) y.instant else s
/-- The free-running engine tests a monitored sample (R345). -/
def State.monitorTest (s : State) (y : Sample) : State :=
  let k := y.ch / 32
  if s.bitAt (MEAS_CFG k) 8 && s.bitAt (MEAS_MON_PINS k) (y.ch % 32) && !y.settling && !y.noSig &&
      (decide (y.value < s.maskLo y.ch) || decide (s.maskHi y.ch < y.value)) then
    s.maskFail y.ch (if s.bitAt (MEAS_CFG k) 9 then some (s.fld (MEAS_CFG k) 19 16) else none) y.instant
  else s

/-- MEAS_SAMPLE_OUTPUT: the next output sample of a channel. `value` is the filtered result in the units of R331, `outOfSpan`
says that the input left the measurable span (R330 to R335, R342, R345). -/
def execMeasSampleOutput (cluster ch : Nat) (value : Int) (outOfSpan : Bool) (s : State) : Out :=
  let n := s.nextSample ch
  let g := s.sampleAt ch n
  let s := s.advanceTo g
  if s.now < g then .next s
  else
    let sig := s.hasSignal ch
    let u := s.chan ch
    let y : Sample := { n := n, ch := ch, instant := g, qty := sig && s.measuresI ch, overs := sig && outOfSpan, noSig := !sig,
                        clamped := s.clamped ch, settling := decide (n < presetN (s.clu cluster).clock) || u.settleLeft != 0,
                        value := if sig then sat24 value else 0 }
    let s := s.setNextSample ch (n + 1)
    let s := if u.settleLeft = 0 then s else s.setChan ch { u with settleLeft := u.settleLeft - 1 }
    let s := s.setReg (MEAS_LAST cluster (ch % 32)) (BitVec.ofNat 32 y.word)
    let s := if y.overs then s.event (MEAS_EVENTS cluster) 2 else s
    match s.measHolder cluster with
    | none => .next (s.monitorTest y)
    | some _ => match s.measureOn cluster with
      | some (o, w) => .next (s.keepSample o w y)
      | none => .next s

/-- Rounded mean of the kept samples of a channel (R341): ties go away from zero. -/
def ChStat.mean (x : ChStat) : Int :=
  if x.signal = 0 then 0
  else
    let n : Nat := (2 * x.sum.natAbs + x.signal) / (2 * x.signal)
    if x.sum < 0 then -(n : Int) else n
/-- Bytes of a summary record (R341). -/
def ChStat.record (x : ChStat) : List Byte :=
  let fl := x.flags % 128 + (if x.signal = 0 then 8 else 0)
  leBytes 2 x.ch ++ leBytes 1 fl ++ leBytes 1 x.range ++ leBytes 4 (unsigned 32 x.mean) ++ leBytes 3 (unsigned 24 x.lo) ++
  leBytes 3 (unsigned 24 x.hi) ++ leBytes 2 0
/-- Channels of a MEASURE that satisfy a test. -/
def measCount (w : MeasWork) (f : ChStat → Bool) : Nat := (w.chans.filter f).length
/-- MEASURE_END: the kept samples are in, and the work ends at its instant (R340 to R344). -/
def execMeasureEnd (a : Asn) (s : State) : Out :=
  match s.running? a 3 with
  | none => .next s
  | some o =>
    match o.work with
    | .measure w =>
      let need := measNeed o w
      if w.chans.any (fun x => x.kept < need) then .next s
      else
        let s := s.advanceTo (measDue o w)
        if s.now < measDue o w then .next s
        else
          let s := if bit (o.pay 0x11 1) 1 ∨ need = 0 then s
            else s.writeBytes (measBuf o) (w.chans.flatMap ChStat.record)
          match w.violation with
          | some (i, c) => .next (s.endOp a 0xB 2 (c + 1024 * i))
          | none =>
            if o.aborting ∨ o.faulting then .next (s.endOp a (o.endStatus 4) 0 need)
            else .next (s.endOp a 0 0 (measCount w (fun x => x.signal != 0) + 2 ^ 16 * measCount w (fun x => x.signal == 0) +
              2 ^ 32 * measCount w (fun x => bit x.flags 4) + 2 ^ 48 * measCount w (fun x => bit x.flags 1)))
    | _ => .next s
/-- A MEASURE that is asked to stop does so after the round in progress (R344). -/
def State.stopMeasure (s : State) (o : Op) : State :=
  match o.work with
  | .measure w =>
    let r := (s.now - o.startGcc) / presetTout (o.pay 0x10 1)
    if w.stopRound.isSome ∨ measFirst o + measKept o ≤ r then s else s.setWork o.asn (.measure { w with stopRound := some r })
  | _ => s

/-! Synchronizing resets (R334, R336). -/

/-- MEAS_SYNC: SYNC of MEAS_CTRL, refused while the path is held (R334, R336). -/
def doMeasSync (cluster : Nat) (s : State) : Out :=
  .next (if (s.measHolder cluster).isSome then s.setFld (MEAS_STATUS cluster) 7 4 1
    else (s.setClu cluster { s.clu cluster with syncAt := (s.clu cluster).syncAt ++ [s.now + 256] }).setFld (MEAS_STATUS cluster) 7 4 0)
/-- SYNCHRONIZING_RESET: the next one scheduled, 256 GCC steps after a SYNC command or at step 3 of a CONTACT_CHECK (R212,
R334). -/
def execSynchronizingReset (cluster : Nat) (s : State) : Out :=
  match ((s.clu cluster).syncAt.foldr insertNat []).head? with
  | none => .next s
  | some g =>
    let s := s.advanceTo g
    .next (if s.now < g then s else s.runSync cluster g)

end Sys2Proof.Machine
end

