-- ==== Sys2Proof/Machine/Msq.lean ====
section
/-! DEFINITION. Micro-sequencers (R426 to R451): the control store and its code, the start and the end of a routine, traps and
stops. The words themselves stand in Micro.lean. -/

namespace Sys2Proof.Machine

/-! Check bits (R427). -/

/-- Positions 1 to 127 that are not powers of two, in ascending order: the places of micro-word bits 0 to 119. -/
def dataPos : List Nat := (List.range 128).filter (fun p => p != 0 && !([1, 2, 4, 8, 16, 32, 64].contains p))
/-- XOR of the positions of the set bits of a micro-word. -/
def posXor (w : Nat) : Nat := (List.zip (List.range 120) dataPos).foldl (fun x e => if bit w e.1 then x ^^^ e.2 else x) 0
/-- Parity of the low n bits. -/
def parityOf (w n : Nat) : Nat := (List.range n).foldl (fun x i => if bit w i then 1 - x else x) 0
/-- The eight check bits of a micro-word (R427). -/
def checkBits (w : Nat) : Nat :=
  let c := posXor w
  c + 128 * ((parityOf w 120 + parityOf c 7) % 2)
/-- A stored word: the micro-word with its check bits (R426). -/
def storedWord (w : Nat) : BitVec 128 := BitVec.ofNat 128 (w % 2 ^ 120 + 2 ^ 120 * checkBits (w % 2 ^ 120))
/-- What a fetched word is found to be: clean, corrected, or uncorrectable (R427, R429). -/
inductive Fetched where
  | clean (w : Nat)
  | corrected (w : Nat)
  | bad
deriving DecidableEq, Repr, Inhabited
/-- The micro-word with the bit at a position of the code inverted; a check bit's position changes nothing. -/
def fixPos (w p : Nat) : Nat :=
  match (List.zip (List.range 120) dataPos).find? (fun e => e.2 == p) with
  | some e => w ^^^ 2 ^ e.1
  | none => w
/-- The code of R427 on a fetched word. -/
def fetchWord (v : BitVec 128) : Fetched :=
  let w := v.toNat % 2 ^ 120; let c := v.toNat / 2 ^ 120
  let syn := posXor w ^^^ (c % 128)
  if parityOf v.toNat 128 = 1 then .corrected (fixPos w syn) else if syn = 0 then .clean w else .bad

/-! The control store (R426, R428, R459). -/

/-- First address of the customer region. -/
def customerBase : Nat := 0x1400
/-- The word that was written at an address of a control store. -/
def State.writtenAt (s : State) (m a : Nat) : BitVec 128 :=
  if a < customerBase then storedWord (Config.vendorWord m a).toNat else Map.get csDefault (s.msq m).store a
/-- The word that an address of a control store holds. -/
def State.storeAt (s : State) (m a : Nat) : BitVec 128 := s.writtenAt m a ^^^ flippedBits (s.msq m).flips a
/-- The bits by which the words of a control store differ from what was written take a value. -/
def State.setFlips (s : State) (m : Nat) (l : List (Nat × BitVec 128)) : State := s.setMsq m { s.msq m with flips := l }
/-- Soft errors flip bits of a control store (R429; log entry 84). -/
def State.upsetStore (s : State) (m : Nat) (l : List (Nat × BitVec 128)) : State :=
  if l.isEmpty then s else s.setFlips m ((s.msq m).flips ++ l.filter (fun e => decide (e.1 < 8192)))
/-- A micro-word is written back at an address with its check bits (R427, R429). -/
def State.rewriteWord (s : State) (m a w : Nat) : State :=
  let l := (s.msq m).flips.filter (fun e => e.1 != a)
  let d := s.writtenAt m a ^^^ storedWord w
  s.setFlips m (if d = 0 then l else l ++ [(a, d)])
/-- The customer region that an image makes (R458). -/
def imageStore (im : MsqImage) : Map (BitVec 128) :=
  (List.zip (List.range im.words.length) im.words).foldl
    (fun st e => Map.set csDefault st (im.base + e.1) (storedWord e.2.toNat)) []
/-- The customer region as the hub's copy gives it (R429, R459). -/
def State.restoreStore (s : State) (m : Nat) : State :=
  let u := s.msq m
  s.setMsq m { u with store := (u.image.map imageStore).getD [], flips := u.flips.filter (fun e => decide (e.1 < customerBase)) }
/-- The vendor region as the ROM gives it (R428, R429). -/
def State.restoreVendor (s : State) (m : Nat) : State := s.setFlips m ((s.msq m).flips.filter (fun e => decide (customerBase ≤ e.1)))
/-- An uncorrectable word is found at an address (R429). -/
def State.countBad (s : State) (m : Nat) : State := (s.incSat (MSQ_ECC_UNCORR m)).event (MSQ_EVENTS m) 2
/-- A single-bit error is corrected and counted, and the word rewritten (R429). -/
def State.countCorrected (s : State) (m a w : Nat) : State := ((s.incSat (MSQ_ECC_CORR m)).event (MSQ_EVENTS m) 1).rewriteWord m a w
/-- The region that holds an uncorrectable word is restored (R429). -/
def State.restoreFor (s : State) (m a : Nat) : State :=
  if a < customerBase then (s.countBad m).restoreVendor m else (s.countBad m).restoreStore m
/-- Every word of a control store is read: single-bit errors are corrected; the lowest uncorrectable word, if there is one (R429,
R430). -/
def State.readStore (s : State) (m : Nat) : State × Option Nat :=
  let as := ((s.msq m).flips.map Prod.fst).eraseDups
  let t := s.forEach as (fun s a => match fetchWord (s.storeAt m a) with
    | .corrected w => s.countCorrected m a w
    | _ => s)
  (t, (as.filter (fun a => fetchWord (s.storeAt m a) == .bad)).min?)
/-- The check of a control store finds an uncorrectable word, and restores its region; it finds no second one (R60, R429). -/
def State.checkStore (s : State) (m : Nat) : State × Bool :=
  match s.readStore m with
  | (t, none) => (t, true)
  | (t, some a) => match (t.restoreFor m a).readStore m with
    | (u, none) => (u, true)
    | (u, some _) => (u.countBad m, false)

/-! Routines. -/

/-- A customer routine runs. -/
def State.msqRuns (s : State) (m : Nat) : Bool := s.bitAt (MSQ_STATUS m) 0
/-- Trap depth (R444). -/
def State.msqDepth (s : State) (m : Nat) : Nat := s.fld (MSQ_STATUS m) 4 3
/-- PC of a sequencer. -/
def State.msqPc (s : State) (m : Nat) : Nat := s.fld (MSQ_PC m) 12 0
/-- PC takes a value. -/
def State.setPc (s : State) (m a : Nat) : State := s.setReg (MSQ_PC m) (BitVec.ofNat 32 (a % 8192))
/-- The call stack takes a value; STACK shows its depth. -/
def State.setStack (s : State) (m : Nat) (l : List Nat) : State :=
  (s.setMsq m { s.msq m with stack := l }).setFld (MSQ_STATUS m) 27 24 l.length
/-- A wait begins or ends. -/
def State.setWait (s : State) (m : Nat) (w : Option (Nat × Nat)) : State :=
  (s.setMsq m { s.msq m with wait := w }).setBitAt (MSQ_STATUS m) 2 w.isSome
/-- The deferred-write buffer takes a value. -/
def State.setDeferred (s : State) (m : Nat) (l : List (Nat × Word)) : State :=
  (s.setMsq m { s.msq m with deferred := l }).setReg (MSQ_DEFER_LEVEL m) (BitVec.ofNat 32 l.length)
/-- Words that the routine has executed (R451). -/
def State.msqWords (s : State) (m : Nat) : Nat := s.reg64 (MSQ_WORDS_LO m) (MSQ_WORDS_HI m)
/-- One more word has been executed. -/
def State.countWord (s : State) (m : Nat) : State :=
  let n := min (s.msqWords m + 1) (2 ^ 48 - 1)
  let s := s.setReg64 (MSQ_WORDS_LO m) (MSQ_WORDS_HI m) n
  match (s.msq m).asn with
  | some a => s.setProgress a n
  | none => s
/-- Trap frames of a sequencer read 0. -/
def State.clearFrames (s : State) (m : Nat) : State :=
  s.forEach (List.range 16) (fun s i => (s.setReg (MSQ_FRAME0 m i) 0).setReg (MSQ_FRAME1 m i) 0)

/-- MICRO_CALL starts: the entry must exist, then the machine state of R431 is set up (R431, R442, R444, R454). -/
def startMicroCall (s : State) (o : Op) : State :=
  let m := o.pay 0 1
  match s.callEntry o with
  | none => s.endOp o.asn 9 2 0
  | some e =>
    let s := s.beginOp o
    let u := s.msq m
    let s := s.setMsq m { u with asn := some o.asn, entry := e, stack := [], flags := 0, hostCause := false, deferred := [],
                                 wait := none, unwindSince := none, ending := none }
    let s := s.forEach (List.range 16) (fun s i =>
      s.setReg (MSQ_G m i) (BitVec.ofNat 32 (if i < 4 then o.pay (0x10 + 4 * i) 4 else 0)))
    let s := s.forEach (List.range 4) (fun s i => s.setReg (MSQ_CNT m i) 0)
    let s := ((s.clearFrames m).setReg (MSQ_EVFLAGS m) 0).setReg (MSQ_TRAP_EN m) (BitVec.ofNat 32 e.trapEn)
    let s := (s.setReg64 (MSQ_WORDS_LO m) (MSQ_WORDS_HI m) 0).setReg (MSQ_DEFER_LEVEL m) 0
    let st := (s.reg (MSQ_STATUS m)).toNat
    let keep := st / 2 ^ 28 * 2 ^ 28 + (if bit st 7 then 128 else 0) + (if bit st 1 then 2 else 0)
    (s.setReg (MSQ_STATUS m) (BitVec.ofNat 32 (keep + 65536 * o.pay 1 1 + 1))).setPc m e.start

/-- The sequencer is free of its routine. -/
def State.freeMsq (s : State) (m : Nat) : State :=
  let s := (((s.setWait m none).setBitAt (MSQ_STATUS m) 0 false).setBitAt (MSQ_STATUS m) 5 false).setFld (MSQ_STATUS m) 4 3 0
  s.setMsq m { s.msq m with asn := none, hostCause := false, unwindSince := none, ending := none }
/-- The routine ends and its MICRO_CALL completes. A stop from outside has the words executed as its DETAIL (R101, R451). -/
def State.finishRoutine (s : State) (m status reason detail : Nat) : State :=
  let d := if status = 4 ∨ status = 6 then s.msqWords m else detail
  let t := s.freeMsq m
  match (s.msq m).asn with
  | some a => t.endOp a status reason d
  | none => t
/-- Deferred writes are discarded and counted (R448, R451). -/
def State.dropDeferred (s : State) (m : Nat) : State :=
  (s.addSat (MSQ_DEFER_DROPS m) (s.msq m).deferred.length).setDeferred m []
/-- A stop of R448: frames, pending causes and deferred writes are discarded, then the unwind runs if the entry has one. A stop
that meets a running unwind changes nothing (log entry 30). -/
def State.stopRoutine (s : State) (m status reason detail : Nat) : State :=
  if s.bitAt (MSQ_STATUS m) 5 then s
  else
    let s := (s.dropDeferred m).setWait m none
    let s := s.setReg (MSQ_EVFLAGS m) (s.reg (MSQ_EVFLAGS m) &&& ~~~ s.reg (MSQ_TRAP_EN m))
    let s := (s.setMsq m { s.msq m with hostCause := false }).setFld (MSQ_STATUS m) 4 3 0
    let u := s.msq m
    if u.entry.unwind = 0 then s.finishRoutine m status reason detail
    else
      ((s.setMsq m { u with unwindSince := some s.now, ending := some (status, reason, detail) }).setBitAt (MSQ_STATUS m) 5
        true).setPc m u.entry.unwind
/-- The unwind ends: the completion decided before it follows (R448, R449). -/
def State.endUnwind (s : State) (m : Nat) (timeout : Bool) : State :=
  match (s.msq m).ending with
  | some (st, r, d) => s.finishRoutine m st (if timeout then 5 else r) d
  | none => s.freeMsq m
/-- A program fault stops the routine; during an unwind it ends the unwind (R450; log entry 30). -/
def State.progFault (s : State) (m code reason : Nat) : State :=
  let d := s.msqPc m + 65536 * code
  let s := (s.setReg (MSQ_FAULT m) (BitVec.ofNat 32 d)).event (MSQ_EVENTS m) 2
  if s.bitAt (MSQ_STATUS m) 5 then s.endUnwind m false else s.stopRoutine m 9 reason d

/-! Traps (R442 to R444). -/

/-- The pending cause that is taken first: 16 for the host, else the lowest line (R442; log entry 31). -/
def State.trapCause (s : State) (m : Nat) : Option Nat :=
  if (s.msq m).hostCause then some 16
  else (bitsOf (s.reg (MSQ_EVFLAGS m) &&& s.reg (MSQ_TRAP_EN m)).toNat 16).head?
/-- The words of a trap frame (R443). -/
def State.frameWord (s : State) (m cause i : Nat) : Word :=
  let u := s.msq m
  if i = 0 then BitVec.ofNat 32 (s.msqPc m)
  else if i = 1 then BitVec.ofNat 32 (u.flags % 16 + 16 * u.stack.length)
  else if i < 6 then s.reg (MSQ_CNT m (i - 2))
  else if i = 6 then BitVec.ofNat 32 cause
  else if i = 7 then BitVec.ofNat 32 s.now
  else s.reg (MSQ_G m i)
/-- First register of the frame of depth d (R444). -/
def frameAddr (m d : Nat) : Nat := if d = 1 then MSQ_FRAME0 m 0 else MSQ_FRAME1 m 0
/-- A pending cause is taken, where a routine can take one (R442, R443, R444). -/
def State.takeTrap (s : State) (m : Nat) : State :=
  let u := s.msq m
  if !s.msqRuns m || s.bitAt (MSQ_STATUS m) 5 || u.entry.trap == 0 || decide (2 ≤ s.msqDepth m) then s
  else match s.trapCause m with
    | none => s
    | some c =>
      let d := s.msqDepth m + 1
      let t := s.forEach (List.range 16) (fun t i => t.setReg (frameAddr m d + 4 * i) (s.frameWord m c i))
      let t := if c = 16 then t.setMsq m { t.msq m with hostCause := false } else t.clrReg (MSQ_EVFLAGS m) (2 ^ c)
      ((((t.setWait m none).setFld (MSQ_STATUS m) 4 3 d).setPc m u.entry.trap).event (MSQ_EVENTS m) 0)
/-- A firing sets an event flag, and a cause that it makes pending is taken (R441, R442). -/
def State.setEvFlag (s : State) (m l : Nat) : State := (s.orReg (MSQ_EVFLAGS m) (2 ^ l)).takeTrap m
/-- MSQ_TRAP: MSQ_CTRL TRAP (R442). -/
def doMsqTrap (m : Nat) (s : State) : Out :=
  .next (if s.msqRuns m then
    ((s.setFld (MSQ_STATUS m) 31 28 0).setMsq m { (s.setFld (MSQ_STATUS m) 31 28 0).msq m with hostCause := true }).takeTrap m
  else s.setFld (MSQ_STATUS m) 31 28 1)
/-- UNWIND_TIMEOUT: an unwind has run past MSQ_UNWIND_LIMIT (R449). -/
def execUnwindTimeout (m : Nat) (s : State) : Out :=
  match (s.msq m).unwindSince with
  | none => .next s
  | some g =>
    let due := g + s.fld (MSQ_UNWIND_LIMIT m) 15 0 * 800
    let s := s.advanceTo due
    .next (if s.now < due then s else (s.event (MSQ_EVENTS m) 4).endUnwind m true)

/-! Scrubbing (R429, R430). -/

/-- A region is restored for an uncorrectable word; the sequencer takes no work until the check has passed. -/
def State.closeStore (s : State) (m a : Nat) : State :=
  let s := s.restoreFor m a
  s.setMsq m { s.msq m with restoring := true }
/-- CONTROL_STORE_SCRUB: each word of the store is read; `upsets` gives bits that have flipped since (R430). -/
def execControlStoreScrub (m : Nat) (upsets : List (Nat × BitVec 128)) (s : State) : Out :=
  .next (match (s.upsetStore m upsets).readStore m with
    | (t, none) => t
    | (t, some a) => t.closeStore m a)

end Sys2Proof.Machine
end

