-- ==== Sys2Proof/Machine/Trigger.lean ====
section
/-! DEFINITION. Firings of the cross-trigger bus (R310 to R317, R319) and the pulses of general-purpose pins (R314, R576). -/

namespace Sys2Proof.Machine

/-- Standing targets of a line (R314). -/
def State.targets (s : State) (l : Nat) : List XtEnt :=
  ((s.cfg.active.map (fun g => g.triggers.targets)).getD []).filter (fun e => e.line == l)
/-- STOP_CLUSTER: a running PATTERN_RUN that feeds the cluster stops at its next vector boundary, or at f with nothing played
when S(0) has not passed (R319). -/
def State.stopCluster (s : State) (l k f : Nat) : State :=
  s.forEach (s.runs.filter (fun r => r.1.phase == .running && r.2.stop.isNone && r.2.clusters.contains k)) (fun s r =>
    let t := s.stopRun r.1.asn 0xB (0x10 + l) 4
    match t.runOf r.1.asn, s.cfg.active with
    | some (o, w), some g =>
      if w.vectors = 0 ∧ f < w.s0 ∧ (w.ending.map Prod.fst) = some 0xB then t.stopAllAt g o w f else t
    | _, _ => t)
/-- A standing target acts on a firing of line l at f (R314). -/
def State.actTarget (s : State) (l f : Nat) (e : XtEnt) : State :=
  match e.kind with
  | 1 => s.stopCluster l e.unit f
  | 2 => { s with trg := { s.trg with pulses := s.trg.pulses ++ [(e.unit, f + 64, e.arg)] } }
  | _ => s.setEvFlag e.unit l
/-- An armed line fires at f (R311, R312, R314). -/
def State.fireLine (s : State) (l f : Nat) : State :=
  let s := (s.setBitAt XTB_STATUS l false).setBitAt XTB_STATUS (16 + l) true
  let auto := if bit (s.lineFlags l) 0 then setBit s.trg.rearmTo l else clearBit s.trg.rearmTo l
  let s : State := { s with trg := { s.trg with rearmAt := s.trg.rearmAt ++ [(l, f + 64)], rearmTo := auto } }
  let s := (s.setReg64 (XTB_FIRE_GCC_LO l) (XTB_FIRE_GCC_HI l) f).event XTB_EVENTS l
  let s := (((s.fireForRuns l).acqFire l f).awgFire l f).digFire l f
  s.forEach (s.targets l) (fun s e => s.actTarget l f e)
/-- First event of a line on its way to its fire tick: the earliest due, and of those the first. -/
def nextFire (l : Nat) (fs : List Fire) : Option Fire :=
  (fs.filter (fun e => e.line == l)).foldl (fun (m : Option Fire) e => match m with
    | none => some e
    | some x => if e.due < x.due then some e else some x) none
/-- The events of a line that share a fire tick leave; how many there were. -/
def State.takeFires (s : State) (l f : Nat) : State × Nat :=
  let mine := s.trg.fires.filter (fun e => e.line == l && e.due == f)
  ({ s with trg := { s.trg with fires := s.trg.fires.filter (fun e => !(e.line == l && e.due == f)) } }, mine.length)

/-- XTB_FIRE (R310). -/
def execXtbFire (mask : Word) (s : State) : Out :=
  .next (s.forEach (bitsOf mask.toNat 16) (fun s l => s.lineEvent l s.now))
/-- The re-arm of a line ends: it is armed again, or stays disarmed (R311). -/
def State.endRearm (s : State) (line : Nat) : State :=
  let on := bit s.trg.rearmTo line
  let s : State := { s with trg := { s.trg with rearmAt := s.trg.rearmAt.filter (fun y => y.1 != line),
                                                rearmTo := clearBit s.trg.rearmTo line } }
  let s := s.setBitAt XTB_STATUS (16 + line) false
  if on then s.setBitAt XTB_STATUS line true else s
/-- TRIGGER_LINE_FIRE: the next fire tick of a line. An armed line fires once, whatever the number of events at that tick;
a disarmed one counts each of them as missed; a line in mode OFF ignores them (R310, R311, R317). -/
def execTriggerLineFire (line : Nat) (s : State) : Out :=
  match nextFire line s.trg.fires with
  | none => .next s
  | some e =>
    let s := s.advanceTo e.due
    if s.now < e.due then .next s
    else
      let s := if s.trg.rearmAt.any (fun x => x.1 == line && decide (x.2 ≤ e.due)) then s.endRearm line else s
      let p := s.takeFires line e.due
      .next (if s.lineMode line = 0 then p.1
        else if s.armed line then p.1.fireLine line e.due
        else (p.1.addSat (XTB_MISSED line) p.2).event XTB_EVENTS 16)
/-- LINE_REARM: 64 steps after a firing (R311). -/
def execLineRearm (line : Nat) (s : State) : Out :=
  match s.trg.rearmAt.find? (fun x => x.1 == line) with
  | none => .next s
  | some x =>
    let s := s.advanceTo x.2
    .next (if s.now < x.2 then s else s.endRearm line)
/-- XTB_ARM: lines are armed now, or at the end of their re-arm (R311). -/
def execXtbArm (mask : Word) (s : State) : Out :=
  .next (s.forEach (bitsOf mask.toNat 16) (fun s l =>
    if s.rearming l then { s with trg := { s.trg with rearmTo := setBit s.trg.rearmTo l } } else s.setBitAt XTB_STATUS l true))
/-- XTB_DISARM: lines are disarmed now, or their automatic re-arm is cancelled (R311). -/
def execXtbDisarm (mask : Word) (s : State) : Out :=
  .next (s.forEach (bitsOf mask.toNat 16) (fun s l =>
    if s.rearming l then { s with trg := { s.trg with rearmTo := clearBit s.trg.rearmTo l } } else s.setBitAt XTB_STATUS l false))

/-! General-purpose pins (R576). -/

/-- The pin is an output. -/
def State.gpioOut (s : State) (n : Nat) : Bool := s.bitAt SVC_GPIO_DIR n
/-- A pulse is under way on the pin. -/
def State.gpioPulsing (s : State) (n : Nat) : Bool := s.trg.pulseEnd.any (fun x => x.1 == n)
/-- An output pin drives a level. -/
def State.driveGpio (s : State) (n : Nat) (b : Bool) : State :=
  { s with svc := { s.svc with driven := if b then setBit s.svc.driven n else clearBit s.svc.driven n } }
/-- An output pin without a pulse drives the level of its SVC_GPIO_OUT bit. -/
def State.settleGpio (s : State) (n : Nat) : State :=
  if s.gpioOut n then (if s.gpioPulsing n then s else s.driveGpio n (s.bitAt SVC_GPIO_OUT n)) else s.driveGpio n false
/-- SVC_GPIO_DIR takes a value; a pin that becomes an input during a pulse ends it (R576). -/
def State.setGpioDir (s : State) (v : Word) : State :=
  let s := s.setReg SVC_GPIO_DIR (v &&& 0xFF)
  let s : State := { s with trg := { s.trg with pulseEnd := s.trg.pulseEnd.filter (fun x => s.gpioOut x.1) } }
  s.forEach (List.range 8) State.settleGpio
/-- GPIO_OUT_WRITE: outputs take the levels; a pin in a pulse takes its level at the end of the pulse (R576; log entry 28). -/
def execGpioOutWrite (v : Word) (s : State) : Out :=
  .next ((s.setReg SVC_GPIO_OUT (v &&& 0xFF)).forEach (List.range 8) State.settleGpio)
/-- GPIO_PULSE_START: the pulse of a firing begins, or extends the one under way (R314, R576; log entry 27). -/
def execGpioPulseStart (pin : Nat) (s : State) : Out :=
  match s.trg.pulses.find? (fun x => x.1 == pin) with
  | none => .next s
  | some x =>
    let s := s.advanceTo x.2.1
    if s.now < x.2.1 then .next s
    else
      let s : State := { s with trg := { s.trg with pulses := s.trg.pulses.erase x } }
      if !s.gpioOut pin || s.irqPin == some pin then .next s
      else
        let s := if s.gpioPulsing pin then s else s.driveGpio pin (!s.bitAt SVC_GPIO_OUT pin)
        .next { s with trg := { s.trg with
          pulseEnd := (pin, x.2.1 + x.2.2) :: s.trg.pulseEnd.filter (fun y => y.1 != pin) } }
/-- GPIO_PULSE_END: the pin drives its SVC_GPIO_OUT bit again (R576). -/
def execGpioPulseEnd (pin : Nat) (s : State) : Out :=
  match s.trg.pulseEnd.find? (fun x => x.1 == pin) with
  | none => .next s
  | some x =>
    let s := s.advanceTo x.2
    .next (if s.now < x.2 then s
      else ({ s with trg := { s.trg with pulseEnd := s.trg.pulseEnd.filter (fun y => y.1 != pin) } }).settleGpio pin)

end Sys2Proof.Machine
end

