-- ==== Sys2Proof/Machine/Stops.lean ====
section
/-! DEFINITION. Stops (R101, R122): what an abort or a fault does to an operation, by its opcode's stop point, and the fault of
a unit. -/

namespace Sys2Proof.Machine

/-- A stop is asked of an operation that ends at its stop point later (R101, R122): 6 for a fault, 4 for an abort. -/
def State.askStop (s : State) (a : Asn) (status : Nat) : State :=
  s.modOp a (fun o => if status = 6 then { o with faulting := true } else { o with aborting := true })
/-- Stop of FORCE_SET and LEVELS_SET: before the write tick nothing is changed; after it an abort lets the operation complete
and a fault ends it (R205). -/
def State.stopLevels (s : State) (o : Op) (status : Nat) : State :=
  match o.work with
  | .levels w => if !w.wrote then s.endOp o.asn status 0 0 else if status = 6 then s.endOp o.asn 6 0 1 else s
  | _ => s.endOp o.asn status 0 0
/-- Stop of SEGMENT_LOAD: immediate; a target that it took becomes EMPTY (R234). -/
def State.stopLoad (s : State) (o : Op) (status : Nat) : State :=
  match o.work with
  | .load w =>
    if w.took then
      let s := (s.copyOn o).emptySeg (loadSeg o)
      s.endOp o.asn status 0 (((s.op? o.asn).map Op.progress).getD 0)
    else s.endOp o.asn status 0 0
  | _ => s.endOp o.asn status 0 0
/-- A running operation is stopped (R101, R122, and the stop point of its opcode's chapter). -/
def State.stopRunning (s : State) (o : Op) (status : Nat) : State :=
  match o.opcode with
  | 1 => s.stopRun o.asn status 0 (if status = 6 then 7 else 8)
  | 2 => s.stopLoad o status
  | 3 => (s.stopMeasure o).askStop o.asn status
  | 4 | 0x11 => s.stopLevels o status
  | 5 | 8 | 0xA | 0xD => s.askStop o.asn status
  | 6 => s.stopDps o status
  | 7 => match awgWork o with
    | some w => s.endAwg o status 0 (awgPlayed o w s.now)
    | none => s.endOp o.asn status 0 0
  | 9 => (s.stopLanes o).askStop o.asn status
  | 0xB => (s.askStop o.asn status).settleUpload o.asn
  | 0xC => s.stopRoutine (o.pay 0 1) status 0 0
  | _ => s.endOp o.asn status 0 o.progress
/-- An operation in flight whose work has not ended is stopped. One that has not started completes with STARTED 0; a run whose
check point has passed gives up what it armed there (R101, R122). -/
def State.stopOp (s : State) (a : Asn) (status : Nat) : State :=
  match s.op? a with
  | none => s
  | some o =>
    if o.phase = .ended then s
    else if o.phase = .running then s.stopRunning o status
    else match o.work with
      | .run _ => s.failRun a status 0 0
      | _ => s.endOp a status 0 0

/-! Faulted units (R122, R140). -/

/-- Operations whose work has not ended and that need a unit. -/
def State.needing (s : State) (cls ix : Nat) : List Op :=
  s.ops.filter (fun o => o.phase != .ended && (s.unitsOf o).contains (cls, ix))
/-- What the unit itself does when it is faulted: the source half of an analog channel that is not MUTED and a controller enter
FAULTED (R349, R363, R390). -/
def State.enterFault (s : State) (cls ix : Nat) : State :=
  match cls with
  | 3 => (if s.anState ix = 0 then s else (s.setAnState ix 5).setAna ix { s.ana ix with muteUntil := none }).event (AN_EVENTS ix) 0
  | 8 => s.event (AN_EVENTS ix) 0
  | 5 => (s.dpsFault ix).event (DPS_EVENTS ix) 4
  | _ => s
/-- A calibration that the hub started itself on the unit is asked to stop. -/
def State.stopAuto (s : State) (cls ix : Nat) : State :=
  let u := if cls = 6 then ix else if cls = 3 then 16 else if cls = 5 then 17 else 18
  if u < 18 ∧ (s.cal u).auto ∧ (s.cal u).st ≠ 0 then s.setCal u { s.cal u with aborting := true } else s
/-- An operation has completed with RESOURCE_FAULT, or will at its stop point (R122). -/
def State.faultEnds (s : State) (a : Asn) : Bool :=
  match s.op? a with
  | none => false
  | some o =>
    if o.phase = .ended then o.status == 6
    else o.faulting || (match o.work with
      | .run w => w.ending.any (fun e => e.1 == 6)
      | _ => o.opcode == 0xC && (s.msq (o.pay 0 1)).ending.any (fun e => e.1 == 6))
/-- A unit is faulted from now on: the operations that need it stop; how many complete with RESOURCE_FAULT (R122, R139). The PPMUs of its channels that
were connected disconnect (R183, R544). -/
def State.markFaulted (s : State) (cls ix : Nat) : State × Nat :=
  let hit := s.needing cls ix
  let cs := if cls = 1 then [ix] else if cls = 6 then (List.range 32).map (fun j => 32 * ix + j) else []
  let s := s.pmuLeaves cs
  let s : State := { s with cont := { s.cont with faulted := s.cont.faulted ++ [(cls, ix)] } }
  let s := s.forEach hit (fun s o => s.stopOp o.asn 6)
  ((s.enterFault cls ix).stopAuto cls ix, (hit.filter (fun o => s.faultEnds o.asn)).length)
/-- A unit becomes faulted; UNIT_FAULTED is logged with the number of operations that complete with RESOURCE_FAULT (R122, R139,
R140). -/
def State.faultUnit (s : State) (cls ix : Nat) : State :=
  if s.isFaulted cls ix then s
  else
    let p := s.markFaulted cls ix
    p.1.logEvent 0x030B (4096 * (if cls = 8 then 3 else cls) + ix) p.2
/-- Waiting operations that need a faulted unit complete with RESOURCE_FAULT (R122). -/
def State.settleFaults (s : State) : State :=
  s.forEach (s.ops.filter (fun o => o.phase == .waiting && (s.unitsOf o).any s.cont.faulted.contains))
    (fun s o => s.endOp o.asn 6 0 0)

/-- UNIT_FAULT (R122): a self-check or monitor declares a unit of R140 faulted. Class 3 stands for the source half of an analog
channel here and class 8 for its digitizer half; their event carries class 3 (R363). -/
def execUnitFault (cls ix : Nat) (s : State) : Out := .next (s.faultUnit cls ix)
/-- LANE_PLL_TIMEOUT: the PLL of a lane group has not locked within 1 ms of a rate change: its island is faulted (R385). -/
def execLanePllTimeout (group : Nat) (s : State) : Out :=
  match s.relocks.find? (fun x => x.1 == group) with
  | none => .next s
  | some x =>
    let s := s.advanceTo (x.2 + 800000)
    if s.now < x.2 + 800000 ∨ s.isFaulted 4 group then .next s
    else
      let s : State := { s with relocks := s.relocks.filter (fun x => x.1 != group) }
      .next ((s.event (LG_EVENTS group) 2).faultUnit 4 group)
/-- DPS_SELF_CHECK_FAIL (R390). -/
def execDpsSelfCheckFail (d : Nat) (s : State) : Out := .next (s.faultUnit 5 d)

end Sys2Proof.Machine
end

