-- ==== Sys2Proof/Machine/Cal.lean ====
section
/-! DEFINITION. Self-calibration (R462 to R480) and the maintenance requests (R481 to R484).

A pass gives its results as pairs of a key and a value. Key bits: [5:0] channel, analog channel or controller; [9:6] element in
the numbering of R478; [11:10] part: 0 OFFSET or TRIM, 1 LEVEL, 2 TIMING; [13:12] kind: 0 an element choice, 1 a continuous
value in units of 10 µV (delays and deskews: 0.01 ps), 2 a residual step error in fs; [31:14] number within the element. The
choice 0xFF says that no candidate is usable (R468). Log entry 29. -/

namespace Sys2Proof.Machine

/-! Keys. -/

def valCh (k : Nat) : Nat := k % 64
def valEl (k : Nat) : Nat := k / 64 % 16
def valPart (k : Nat) : Nat := k / 1024 % 4
def valKind (k : Nat) : Nat := k / 4096 % 4
/-- Key of number 0 of an element of a channel. -/
def valKey (kind part el ch : Nat) : Nat := ch + 64 * el + 1024 * part + 4096 * kind
/-- The value at a key. -/
def valAt (l : List (Nat × Int)) (k : Nat) : Option Int := (l.find? (fun e => e.1 == k)).map Prod.snd

/-! What a unit is doing. -/

/-- Parts that make a whole run (R464, R480). -/
def allParts (u : Nat) : Nat := if u < 16 then 7 else 1
/-- Length of a pass in GCC steps (R469). -/
def passSteps (u parts : Nat) : Nat :=
  let ms := if u < 16 then (if bit parts 0 then 48 else 0) + (if bit parts 1 then 64 else 0) + (if bit parts 2 then 32 else 0)
    else if u = 16 then 60 else 16
  ms * 800000
/-- Length of a quiet check (R469). -/
def quietSteps : Nat := 160000
/-- Acceptance number that an automatic run of a unit has in the ledgers (R480); no operation has it. -/
def autoAsn (u : Nat) : Nat := 2 ^ 64 + u
/-- The descriptor that an automatic run stands for: CAL_RUN of all parts with every declaration 0 (R480). -/
def autoDesc (u : Nat) : Desc := BitVec.ofNat 512 (0x0D + 2 ^ 256 * (u + 256 * allParts u))
/-- The operation that an automatic run stands for. -/
def State.autoOp (s : State) (u : Nat) : Op :=
  { (default : Op) with asn := autoAsn u, queue := 0, desc := autoDesc u, acceptGcc := s.now }
/-- The unit's bit of MNT_CAL_DUE (R465). -/
def State.calDue (s : State) (u : Nat) : Bool := s.bitAt MNT_CAL_DUE u
/-- The temperature of a unit has moved beyond its threshold since its T_REF (R464). -/
def State.calMoved (s : State) (u : Nat) : Bool := !s.tempNear u
/-- A unit becomes due; CAL_DUE is logged (R464, R485). -/
def State.becomeDue (s : State) (u : Nat) : State :=
  if s.calDue u then s
  else
    let s := s.setCal u { s.cal u with dueAsn := s.reg64 WKE_ASN_LO WKE_ASN_HI }
    ((s.setBitAt MNT_CAL_DUE u true).event MNT_EVENTS 1).logEvent 0x0504 u (unsigned 32 (signed 16 (s.fld (MNT_U_TEMP u) 15 0)))
/-- T_now of a unit is shown. -/
def State.showTemp (s : State) (u : Nat) (t : Int) : State := s.setReg (MNT_U_TEMP u) (BitVec.ofNat 32 (unsigned 16 t))
/-- A condition of R471 that must hold at the start: 0, or the reason that it does not. -/
def State.calStartCheck (s : State) (u : Nat) : Nat :=
  let none_ := ((s.cfg.active.map (fun g => g.assignedOn u)).getD []).isEmpty
  if u < 16 then (if none_ || (s.bitAt GLB_CONTACT_KNOWN u && s.bitAt GLB_CONTACT_LIFTED u) then 0 else 2)
  else if u = 17 then
    (if (List.range 64).all (fun d => (s.dpsState d == 0 || s.dpsState d == 5) &&
        ((s.dpsSite d).isNone || decide (s.fld (DPS_VMEAS d) 15 0 ≤ 500))) then 0 else 5)
  else 0

/-! Start. -/

/-- Live words of a channel in the quiet check: PPMU connected in FNMV (R471). -/
def quietWords (s : State) (c : Nat) : Nat → Word :=
  withWords (s.liveWords c) [(0x00, (s.liveReg (CH_CFG c)).withField 1 0 2), (0x28, (s.liveReg (CH_PMU_CTRL c)).withField 2 0 4)]
/-- A run begins its first quiet check: modes are saved, or outputs are parked (R467, R469). -/
def State.calBegin (s : State) (u parts : Nat) (asn : Option Nat) : State :=
  let cs := if u < 16 then maskChans u (2 ^ 32 - 1) else []
  let sv := cs.map (fun c => (c, s.liveReg (CH_CFG c), s.liveReg (CH_PMU_CTRL c)))
  let x := s.cal u
  let s := s.setCal u { x with st := 1, asn := asn, auto := asn.isNone, parts := parts, due := s.now + quietSteps, pass1 := [],
                               pass2 := [], saved := sv, aborting := false, changed := 0, faults := 0 }
  let s := s.forEach cs (fun s c => s.goLive c (quietWords s c))
  if u = 16 then s.forEach (List.range 16) (fun s a => if s.anState a = 5 then s else s.parkAn a) else s
/-- The saved modes are restored under R182 (R469). -/
def State.calRestore (s : State) (u : Nat) : State :=
  let x := s.cal u
  let s := s.forEach x.saved (fun s e => s.goLive e.1 (withWords (s.liveWords e.1) [(0x00, e.2.1), (0x28, e.2.2)]))
  s.setCal u { s.cal u with saved := [] }
/-- The unit is free again: its operation completes, or an automatic run gives up its reservations and the interlock, and the
commits that it has held up are settled (R171, R191, R472, R480). -/
def State.calFree (s : State) (u status reason detail : Nat) : State :=
  let x := s.cal u
  let s := s.calRestore u
  let s := s.setCal u { s.cal u with st := 0, asn := none, auto := false, pass1 := [], pass2 := [], aborting := false }
  match x.asn with
  | some a => s.endOp a status reason detail
  | none =>
    let s := (s.release 0 (autoAsn u)).mntEnd 6 u
    if u < 16 then s.settleCommits u else s
/-- Outcome of the last run in MNT_U_STATUS. -/
def State.calOutcome (s : State) (u status reason : Nat) : State :=
  (((s.setFld (MNT_U_STATUS u) 7 0 status).setFld (MNT_U_STATUS u) 15 8 reason)).setBitAt (MNT_U_STATUS u) 17 (s.cal u).auto
/-- A run ends without taking effect: it is counted and logged, the saved modes return, and an automatic run waits before the
next (R470, R471, R479, R480, R485). -/
def State.calReject (s : State) (u status reason detail : Nat) : State :=
  let x := s.cal u
  let s := s.calOutcome u status reason
  let s := ((s.incSat (MNT_U_REJECTS u)).event MNT_EVENTS 2).logEvent 0x0502 u
    (256 * status + reason + (if x.auto then 65536 else 0))
  let s := if x.auto then s.setCal u { x with retryAt := s.now + s.fld MNT_CAL_CFG 31 16 * 800000 } else s
  s.calFree u status reason detail
/-- CAL_RUN starts: IF_DUE, the conditions at the start, then the first quiet check (R469, R471, R477; log entry 29). -/
def startCalRun (s : State) (o : Op) : State :=
  let u := o.pay 0 1
  if bit (o.pay 2 1) 2 ∧ !s.calDue u then s.endOp o.asn 0 0 0
  else
    let r := s.calStartCheck u
    if r ≠ 0 then
      let s := s.setCal u { s.cal u with asn := some o.asn, auto := false, parts := o.pay 1 1, saved := [] }
      s.calReject u 9 r 0
    else (s.beginOp o).calBegin u (o.pay 1 1) (some o.asn)
/-- AUTO_CAL_START: a due unit whose resources, interlock and energy permit it starts an automatic run (R480). -/
def execAutoCalStart (u : Nat) (s : State) : Out :=
  let x := s.cal u
  let o := s.autoOp u
  let rs := (s.cfg.active.map (fun g => calRes g u)).getD []
  let prio := s.fld MNT_CAL_CFG 6 4
  let before := fun (w : Op) => w.phase == .waiting && (decide (prio < w.eff) || (w.eff == prio && decide (w.asn < x.dueAsn)))
  let ahead := s.ops.any (fun w => before w && ((s.resources w).any rs.contains || (w.holding &&
    (ledgersOf (s.opResvs w)).any (fun l => !s.fitsLedger (s.opResvs w) l && (ledgersOf (s.opResvs o)).contains l))))
  if !s.bitAt MNT_CAL_CFG 0 || !s.calDue u || x.st != 0 || x.asn.isSome || decide (s.now < x.retryAt) || !s.dispatching ||
      !s.resFree (autoAsn u) rs || ahead || (u < 16 && s.calStartCheck u != 0) || !((s.islandsOf o).all (fun i => s.islandMode i == 0 && !s.stale i)) ||
      (s.unitsOf o).any s.cont.faulted.contains then .next s
  else
    let s := s.mntAsk 6 u
    if !s.mntRuns 6 u || s.bitAt NRG_CTRL 0 || !s.fits (s.opResvs o) then .next s
    else
      let r := s.calStartCheck u
      let s := s.take (s.opResvs o)
      .next (if r = 0 then s.calBegin u (allParts u) none
        else (s.setCal u { s.cal u with asn := none, auto := true, parts := allParts u, saved := [] }).calReject u 9 r 0)

/-! Passes. -/

/-- The operation of a run asks it to stop, or an automatic run was asked to: the status it then ends with (R101, R122, R479). -/
def State.calStopped (s : State) (u : Nat) : Option Nat :=
  let x := s.cal u
  match x.asn.bind s.op? with
  | some o => if o.faulting then some 6 else if o.aborting then some 4 else none
  | none => if x.auto && x.aborting then some 6 else none
/-- Progress marker of a run (R479). -/
def State.calProgress (s : State) (u n : Nat) : State :=
  match (s.cal u).asn with
  | some a => s.setProgress a n
  | none => s
/-- The progress marker as it stands. -/
def State.calMark (s : State) (u : Nat) : Nat := (((s.cal u).asn.bind s.op?).map Op.progress).getD 0
/-- Samples span at most n. -/
def spansAtMost (n : Nat) (l : List Int) : Bool := l.all (fun x => l.all (fun y => decide (x - y ≤ n)))
/-- A channel of a cluster gave 16 quiet samples, in µV (R471). -/
def State.quietChannel (s : State) (l : List Int) : Bool :=
  l.length == 16 && decide (l.sum.natAbs ≤ 1600 * s.fld MNT_CAL_QUIET 15 0) && spansAtMost (100 * s.fld MNT_CAL_QUIET 31 16) l
/-- The lowest channel of a unit that is not quiet (R471). `samples` gives, by channel, 16 samples in µV, or samples of a digitizer
that hold the extremes of its 4,096. A channel that it leaves out is not quiet; a faulted one is not looked at (log entry 29). -/
def State.noisyChannel (s : State) (u : Nat) (samples : List (Nat × List Int)) : Option Nat :=
  let given := fun (c : Nat) => ((samples.find? (fun x => x.1 == c)).map Prod.snd).getD []
  if u < 16 then ((List.range 32).map (fun j => 32 * u + j)).find? (fun c => !s.isFaulted 1 c && !s.quietChannel (given c))
  else if u = 16 then (List.range 16).find? (fun a => !s.isFaulted 8 a && ((given a).isEmpty || !spansAtMost 16 (given a)))
  else none
/-- CAL_QUIET_CHECK: a quiet check ends with its samples (R469, R471, R478). -/
def execCalQuietCheck (u : Nat) (samples : List (Nat × List Int)) (tNow : Int) (s : State) : Out :=
  let x := s.cal u
  if x.st ≠ 1 ∧ x.st ≠ 4 then .next s
  else match s.calStopped u with
    | some st => .next (s.calReject u st 0 (s.calMark u))
    | none =>
      let s := s.advanceTo x.due
      if s.now < x.due then .next s
      else
        let s := s.showTemp u tNow
        match s.noisyChannel u samples with
        | some c => .next (s.calReject u 9 3 (c % 1024 + (if x.st = 4 then 1024 else 0)))
        | none =>
          .next (if x.st = 1 then s.setCal u { x with st := 2, t1 := tNow, due := s.now + passSteps u x.parts }
            else s.setCal u { x with st := 5 })
/-- CAL_PASS_END: a pass over the requested parts ends with its results (R466, R469). -/
def execCalPassEnd (u : Nat) (tNow : Int) (values : List (Nat × Int)) (s : State) : Out :=
  let x := s.cal u
  if x.st ≠ 2 ∧ x.st ≠ 3 then .next s
  else match s.calStopped u with
    | some st => .next (s.calReject u st 0 (s.calMark u))
    | none =>
      let s := s.advanceTo x.due
      if s.now < x.due then .next s
      else
        let s := s.showTemp u tNow
        let vs := values.filter (fun e => bit x.parts (valPart e.1))
        .next (if x.st = 2 then
          (s.setCal u { x with st := 3, pass1 := vs, due := s.now + passSteps u x.parts }).calProgress u 1
        else (s.setCal u { x with st := 4, pass2 := vs, t2 := tNow, due := s.now + quietSteps }).calProgress u 2)

/-! Agreement, storage, application. -/

/-- Agreement limit of a part, from the payload or MNT_CAL_AGREE (R470). -/
def State.agreeLimit (s : State) (u part : Nat) : Nat :=
  let o := (s.cal u).asn.bind s.op?
  if part = 2 then (match o.map (fun o => o.pay 4 2) with
    | some n => if n = 0 then s.fld MNT_CAL_AGREE 15 0 else n
    | none => s.fld MNT_CAL_AGREE 15 0)
  else (match o.map (fun o => o.pay 6 2) with
    | some n => if n = 0 then s.fld MNT_CAL_AGREE 31 16 else n
    | none => s.fld MNT_CAL_AGREE 31 16)
/-- A value agrees between the passes (R470). -/
def State.agrees (s : State) (u : Nat) (x : Cal) (e : Nat × Int) : Bool :=
  match valAt x.pass2 e.1 with
  | none => true
  | some w => if valKind e.1 = 0 then e.2 == w
      else if valKind e.1 = 1 then decide ((e.2 - w).natAbs ≤ s.agreeLimit u (valPart e.1)) else true
/-- First disagreement in the order of R469. -/
def State.disagreement (s : State) (u : Nat) (x : Cal) : Option (Nat × Int) :=
  [0, 1, 2].findSome? (fun p => x.pass1.find? (fun e => valPart e.1 == p && !s.agrees u x e))
/-- The run is rejected with CAL_DISAGREE for a value. The difference of a choice and the element of a TRIM value are not
given by the spec: free values (R478; log entries 2 and 29). -/
def State.calDisagree (s : State) (u : Nat) (x : Cal) (e : Nat × Int) : State :=
  let trim : Bool := decide (16 ≤ u)
  let sel := valKind e.1 == 0
  let reason := if sel then 0x13 else if trim then 0x14 else 0x10 + valPart e.1
  let p := if trim then s.fresh 8 else (valEl e.1, s)
  let q := if sel then p.2.fresh 32
    else (min (2 ^ 32 - 1) (e.2 - ((valAt x.pass2 e.1).getD e.2)).natAbs, p.2)
  q.2.calReject u 0xC reason (valCh e.1 + 256 * p.1 + 65536 * q.1)
/-- New values of a run (R470): choices as both passes found them, continuous values as the sum of the passes, residual errors
as the greater; a choice without a usable candidate keeps its former value (R468). -/
def newValues (x : Cal) : List (Nat × Int) :=
  x.pass1.filterMap (fun e =>
    let w := (valAt x.pass2 e.1).getD e.2
    if valKind e.1 = 0 then (if e.2 = 0xFF then none else some e)
    else if valKind e.1 = 1 then some (e.1, e.2 + w) else some (e.1, max e.2 w))
/-- Every value of a unit after a run: parts not measured are copied from the live values (R473). -/
def mergeValues (old new : List (Nat × Int)) : List (Nat × Int) :=
  old.filter (fun e => !new.any (fun n => n.1 == e.1)) ++ new
/-- The slot that holds the live values, if they come from one. -/
def State.liveSlot (s : State) (u : Nat) : Option Nat :=
  if s.bitAt MNT_CAL_VALID u then some (s.fld (MNT_U_STATUS u) 16 16) else none
/-- The slot that a run writes: the one that does not hold the live values (R474). -/
def State.freeSlot (s : State) (u : Nat) : Nat := match s.liveSlot u with
  | some i => 1 - i
  | none => 0
/-- A calibration slot of a unit. -/
def Cal.slot (x : Cal) (i : Nat) : CalSlot := x.slots.getD i default
/-- A slot takes a value. -/
def Cal.setSlot (x : Cal) (i : Nat) (v : CalSlot) : Cal :=
  { x with slots := (List.range 2).map (fun j => if j = i then v else x.slot j) }
/-- GEN of the next slot (R474). -/
def Cal.nextGen (x : Cal) : Nat :=
  let g := fun i => if (x.slot i).commit then (x.slot i).gen else 0
  (max (g 0) (g 1) + 1) % 2 ^ 32
/-- CAL_AGREEMENT_TEST: the passes are compared and the temperature is judged; storage begins (R470, R471, R474). -/
def execCalAgreementTest (u : Nat) (tNow : Int) (s : State) : Out :=
  let x := s.cal u
  if x.st ≠ 5 then .next s
  else match s.calStopped u with
    | some st => .next (s.calReject u st 0 (s.calMark u))
    | none =>
      let s := s.showTemp u tNow
      match s.disagreement u x with
      | some e => .next (s.calDisagree u x e)
      | none =>
        if 4 * s.fld (MNT_U_THRESH u) 7 0 < 5 * (tNow - x.t1).natAbs then .next (s.calReject u 9 4 0)
        else
          let whole := x.parts == allParts u
          let tr := if whole then unsigned 16 x.t2 else s.fld (MNT_U_TREF u) 15 0
          let y := x.setSlot (s.freeSlot u) { gen := x.nextGen, parts := x.parts, tRef := tr, time := s.aon.rtcSec % 2 ^ 48, values := [], commit := false }
          .next (s.setCal u { y with st := 6 })
/-- CAL_SLOT_COMMIT: the slot is written and its COMMIT marker set; the apply tick follows 800 steps later (R472 to R474). -/
def execCalSlotCommit (u : Nat) (s : State) : Out :=
  let x := s.cal u
  if x.st ≠ 6 then .next s
  else
    let i := s.freeSlot u
    let v := { x.slot i with values := mergeValues (x.live.getD []) (newValues x), commit := true }
    .next (s.mramWrite.setCal u { x.setSlot i v with st := 7, due := s.now + 800 })

/-! Registers that follow the live values (R463, R487). -/

/-- A field of a register that follows a live choice or value, in place; what no run has set is the factory register's.
Before the units load their slots in the power-up sequence it is the reset value (R14, R475, R531). -/
def State.calPlaced (s : State) (u key addr hi lo : Nat) (code : Int → Int) : Nat :=
  if s.aon.powerStep < 4 then (s.reg addr).field hi lo * 2 ^ lo
  else 2 ^ lo * (match (s.cal u).live.bind (fun l => valAt l key) with
    | some v => unsigned (hi + 1 - lo) (code v)
    | none => (Config.factoryCal u addr).field hi lo)
/-- Input pair that a comparator uses: 0 VOH, 1 VOL (R487). -/
def State.calPair (s : State) (u el j : Nat) : Nat :=
  let lo := 16 * el
  s.calPlaced u (valKey 0 0 el j) (CAL_CMP_SEL u j) (lo + 2) lo id / 2 ^ lo
/-- CAL_CMP_SEL of a pin. -/
def State.cmpSelShown (s : State) (u j : Nat) : Nat :=
  let trim := fun el lo => s.calPlaced u (valKey 1 0 el j) (CAL_CMP_SEL u j) (lo + 7) lo (fun v => roundDiv v 20)
  s.calPair u 0 j + trim 0 8 + 65536 * s.calPair u 1 j + trim 1 24
/-- CAL_SPARE of a pin. -/
def State.spareShown (s : State) (u j : Nat) : Nat :=
  ((List.range 8).map (fun d => s.calPlaced u (valKey 0 1 d j) (CAL_SPARE u j) (3 * d + 2) (3 * d) (fun v => min v 4))).sum
/-- CAL_TAP of a pin. -/
def State.tapShown (s : State) (u j : Nat) : Nat :=
  let err := fun el lo => s.calPlaced u (valKey 2 2 el j) (CAL_TAP u j) (lo + 15) lo (fun v => min v 65535)
  err 0 0 + err 1 16
/-- TE_CAL_DESKEW of a pin: the mean of the passes in fine units. -/
def State.deskewShown (s : State) (u j : Nat) : Nat :=
  let dsk := fun el lo => s.calPlaced u (valKey 1 2 el j) (TE_CAL_DESKEW u j) (lo + 15) lo (fun v => roundDiv (v * 4096) 250000)
  dsk 0 0 + dsk 1 16
/-- Channels that have an element without a usable candidate (R468). -/
def unusable (x : Cal) : List Nat :=
  ((x.pass1.filter (fun e => valKind e.1 == 0 && e.2 == 0xFF)).map (fun e => valCh e.1)).eraseDups
/-- CAL_APPLY_TICK: the new values take effect, and the run's registers follow (R463 to R465, R468, R472, R485). -/
def execCalApplyTick (u : Nat) (s : State) : Out :=
  let x := s.cal u
  if x.st ≠ 7 then .next s
  else
    let s := s.advanceTo x.due
    if s.now < x.due then .next s
    else
      let i := s.freeSlot u
      let v := x.slot i
      let whole := x.parts == allParts u
      let comps := (List.range 2).flatMap (fun el => (List.range 32).map (fun j => (el, j)))
      let old := if u < 16 then comps.map (fun e => s.calPair u e.1 e.2) else []
      let bad := if u < 16 then unusable x else []
      let s := s.setCal u { x with live := some v.values }
      let new := if u < 16 then comps.map (fun e => s.calPair u e.1 e.2) else []
      let n := ((List.zip old new).filter (fun e => e.1 != e.2)).length
      let s := s.setCal u { s.cal u with st := 8, due := s.now + 8000, changed := min n 255, faults := bad.length }
      let s := (s.setReg (MNT_U_TREF u) (BitVec.ofNat 32 v.tRef)).setReg (MNT_U_GEN u) (BitVec.ofNat 32 v.gen)
      let s := s.setReg64 (MNT_U_TIME_LO u) (MNT_U_TIME_HI u) v.time
      let s := (s.setBitAt MNT_CAL_VALID u true).setFld (MNT_U_STATUS u) 16 16 i
      let s := if whole then s.setBitAt MNT_CAL_DUE u false else s
      let s := ((s.logEvent 0x0501 u v.gen).ltAdd 13 1).calProgress u 3
      let s := s.forEach bad (fun s j => s.faultUnit 1 (32 * u + j))
      .next (s.calRestore u)
/-- DETAIL of a run that took effect (R478). -/
def State.calDetail (s : State) (u : Nat) : Nat :=
  let x := s.cal u
  (s.reg (MNT_U_GEN u)).toNat + 2 ^ 32 * x.changed + 2 ^ 40 * min x.faults 255 + 2 ^ 48 * s.fld (MNT_U_TREF u) 15 0
/-- CAL_RUN_END: 10 µs after the apply tick the run ends (R472, R478, R479). -/
def execCalRunEnd (u : Nat) (s : State) : Out :=
  let x := s.cal u
  if x.st ≠ 8 then .next s
  else
    let s := s.advanceTo x.due
    if s.now < x.due then .next s
    else
      let st := (s.calStopped u).getD 0
      .next ((s.calOutcome u st 0).calFree u st 0 (s.calDetail u))

/-- TEMPERATURE_CHECK: every 1 ms T_now is compared with T_REF; the sensor of an island that is OFF does not measure (R464, R532). -/
def execTemperatureCheck (u : Nat) (tNow : Int) (s : State) : Out :=
  let off := s.islandMode (if u = 17 then 25 else u) == 2
  .next (if off then s else if (s.showTemp u tNow).calMoved u then (s.showTemp u tNow).becomeDue u else s.showTemp u tNow)

/-! Slots at power-up (R475). -/

/-- Newest valid slot of a unit. -/
def Cal.newest (x : Cal) : Option Nat :=
  let ok := (List.range 2).filter (fun i => (x.slot i).commit)
  match ok with
  | [i] => some i
  | [i, j] => if (x.slot i).gen < (x.slot j).gen then some j else some i
  | _ => none
/-- A unit loads its newest valid slot; invalid slots that were written are logged (R465, R475). -/
def State.calLoad (s : State) (u : Nat) : State :=
  let x := s.cal u
  let s := s.forEach ((List.range 2).filter (fun i => (x.slot i).gen != 0 && !(x.slot i).commit)) (fun s i =>
    (s.event MNT_EVENTS 3).logEvent 0x0503 u i)
  match x.newest with
  | none =>
    let asn := if s.calDue u then x.dueAsn else s.reg64 WKE_ASN_LO WKE_ASN_HI
    ((s.setCal u { x with live := none, dueAsn := asn }).setBitAt MNT_CAL_VALID u false).setBitAt MNT_CAL_DUE u true
  | some i =>
    let v := x.slot i
    let s := s.setCal u { x with live := some v.values }
    let s := (s.setReg (MNT_U_TREF u) (BitVec.ofNat 32 v.tRef)).setReg (MNT_U_GEN u) (BitVec.ofNat 32 v.gen)
    let s := s.setReg64 (MNT_U_TIME_LO u) (MNT_U_TIME_HI u) v.time
    (s.setBitAt MNT_CAL_VALID u true).setFld (MNT_U_STATUS u) 16 16 i
/-- A run stops without an outcome at a warm reset or a power failure. One that had not reached its apply tick reloads at the
end of the reset (R475, R479). -/
def State.calDrop (s : State) (u : Nat) : State :=
  let x := s.cal u
  if x.st = 0 then s
  else
    let s := s.setCal u { x with st := if x.st < 8 then 9 else 0, asn := none, auto := false, pass1 := [], pass2 := [],
                                 saved := [], aborting := false }
    if x.auto then (s.release 0 (autoAsn u)).mntEnd 6 u else s
/-- The reload that a dropped run owes, at the end of the reset (R475). -/
def State.calSettle (s : State) (u : Nat) : State :=
  if (s.cal u).st = 9 then (s.setCal u { s.cal u with st := 0 }).calLoad u else s

/-! Requests (R481 to R484). -/

/-- MNT_CMD with an activity: BUSY while one of the kind runs or waits, MAINT_CONFLICT with NO_WAIT, else it asks. -/
def State.mntCommand (s : State) (kind : Nat) (noWait : Bool) : State :=
  if s.mntRuns kind 0 ∨ s.mntWaits kind 0 then s.setReg MNT_CMD_STATUS 2
  else if noWait ∧ s.mntConflict kind 0 then (s.setReg MNT_CMD_STATUS 1).mntRefuse
  else (s.setReg MNT_CMD_STATUS 0).mntAsk kind 0
/-- CTRAIN (R481, R484). -/
def execCtrain (noWait : Bool) (s : State) : Out := .next (s.mntCommand 2 noWait)
/-- SCRUB (R481, R484). -/
def execScrub (noWait : Bool) (s : State) : Out := .next (s.mntCommand 3 noWait)
/-- SCRUB_TIMER: the period of MNT_SCRUB_PERIOD has passed (R481). -/
def execScrubTimer (s : State) : Out := .next (if s.fld MNT_SCRUB_PERIOD 15 0 = 0 then s else s.mntAsk 3 0)
/-- CISTERN_RETRAINING: the Cistern controller asks of its own accord (R481). -/
def execCisternRetraining (s : State) : Out := .next (s.mntAsk 2 0)
/-- MAINT_ACTIVITY_END: a CTRAIN or a SCRUB ends, or the retraining of a port; the other kinds end with the work that they
belong to (R481, R483). -/
def execMaintActivityEnd (kind ix : Nat) (s : State) : Out :=
  .next (if (kind = 2 ∨ kind = 3 ∨ kind = 4) ∧ s.mntRuns kind ix then s.mntEnd kind ix else s)

end Sys2Proof.Machine
end

