-- ==== Sys2Proof/Machine/Timebase.lean ====
section
/-! DEFINITION. The timebase (R143 to R161): its states, the loss and return of TREF, the load edge, and the check of the
GCC copies. -/

namespace Sys2Proof.Machine

/-- State of R149: 0 NO_TREF, 1 FREE, 2 ARMED, 3 ALIGNED. -/
def State.tbState (s : State) : Nat := s.fld GLB_TB_STATUS 1 0
/-- The timebase enters a state. -/
def State.setTb (s : State) (n : Nat) : State := s.setFld GLB_TB_STATUS 1 0 n
/-- CMD_RESULT of the last timebase command: 0 OK, 1 NOT_ALLOWED, 2 BAD_CMD. -/
def State.tbResult (s : State) (n : Nat) : State := s.setFld GLB_TB_STATUS 11 8 n
/-- ARMED is left for another state; acceptance resumes (R151). -/
def State.leaveArmed (s : State) (n : Nat) : State := (s.setTb n).setBitAt WKE_STATUS 5 false

/-! Loss of TREF (R154). -/

/-- The operation holds a cluster, a fountain, an analog channel or a lane group. -/
def State.needsTref (s : State) (o : Op) : Bool :=
  (s.resources o).any (fun r => match r with
    | .cluster _ | .fountain _ | .anSrc _ | .anDig _ | .lane _ => true
    | _ => false)
/-- A MEASURE ends at once, with the rounds that it has kept (R154, R344; log entry 33). -/
def State.cutMeasure (s : State) (o : Op) : State :=
  match o.work with
  | .measure w =>
    let n := (w.chans.map ChStat.kept).foldl min (measKept o)
    let s := if bit (o.pay 0x11 1) 1 ∨ n = 0 then s else s.writeBytes (measBuf o) (w.chans.flatMap ChStat.record)
    s.endOp o.asn 6 0 n
  | _ => s.endOp o.asn 6 0 0
/-- A calibration ends at once, whatever it had come to: before its apply tick the old values stay (R154; log entry 33). -/
def State.cutCal (s : State) (u : Nat) : State :=
  if (s.cal u).st = 8 then (s.calOutcome u 6 0).calFree u 6 0 (s.calDetail u) else s.calReject u 6 0 (s.calMark u)
/-- A running operation stops because TREF is lost (R154). -/
def State.stopTref (s : State) (o : Op) : State :=
  match o.work, s.cfg.active with
  | .run w, some g =>
    if w.stop.isSome then s
    else
      let w : RunWork := { w with ending := some (6, 0, 7), stopAt := some w.vectors }
      (s.stopAllAt g o w s.now).flushEdges
  | .levels w, _ => if o.opcode = 5 then (restoreContact s w).endOp o.asn 6 0 0 else s.stopLevels o 6
  | .measure _, _ => s.cutMeasure o
  | .digitize w, _ =>
    let p := s.storeSamples o w w.buf.length
    p.1.endOp o.asn 6 0 (digDetail p.2)
  | .nothing, _ => if o.opcode = 0xD then s.cutCal (o.pay 0 1) else s.stopRunning o 6
  | _, _ => s.stopRunning o 6
/-- TREF_LOST (R149, R150, R154): the timebase enters NO_TREF; an arm is cancelled; operations that need TREF stop. -/
def execTrefLost (s : State) : Out :=
  if s.tbState = 0 then .next s
  else
    let hit := s.ops.filter (fun o => o.phase == .running && s.needsTref o)
    let s : State := { s with tb := { s.tb with lost := true } }
    let s := ((s.leaveArmed 0).event GLB_TB_EVENTS 1).forEach hit (fun s o => s.stopTref o)
    .next (s.forEach (List.range 17) (fun s u =>
      if (s.cal u).auto ∧ (s.cal u).st ≠ 0 then s.cutCal u else s))
/-- TREF_VALID: the copies resume from the value they held; after a loss of TREF the event TREF_BACK sets (R149, R154). -/
def execTrefValid (s : State) : Out :=
  .next (if s.tbState ≠ 0 then s
    else
      let t : State := { s.setTb 1 with tb := { s.tb with lost := false } }
      if s.tb.lost then t.event GLB_TB_EVENTS 2 else t)

/-! ARM, DISARM and the load edge (R149 to R153). -/

/-- ARM is allowed: nothing is in flight and no ACTIVATE swap tick is pending (R151). -/
def State.armAllowed (s : State) : Bool :=
  s.ops.isEmpty && s.heldRecs.isEmpty && !(match s.cfg.swap with
    | some w => w.asn.isNone
    | none => false)
/-- ARM (R149, R151). -/
def execArm (s : State) : Out :=
  .next (match s.tbState with
    | 0 => s.tbResult 1
    | 2 => s.tbResult 0
    | n =>
      if s.armAllowed then
        let s := ((s.tbResult 0).setTb 2).setBitAt WKE_STATUS 5 true
        { s with tb := { s.tb with before := n } }
      else s.tbResult 1)
/-- DISARM (R149). -/
def execDisarm (s : State) : Out :=
  .next (match s.tbState with
    | 0 => s.tbResult 1
    | 2 => (s.tbResult 0).leaveArmed s.tb.before
    | _ => s.tbResult 0)
/-- A load edge (R152, R153): `g` is the GCC that it would give without a load. -/
def State.loadEdge (s : State) (g : Nat) : State :=
    let st := s.tbState
    let slip := st == 3 && s.bitAt GLB_TB_SYNC_CFG 9 &&
      (g + 2 ^ 64 - s.tb.lastLoaded) % 2 ^ 64 % (s.reg GLB_TB_SYNC_PERIOD).toNat != 0
    let s := (s.setReg64 GLB_TB_LAST_SYNC_LO GLB_TB_LAST_SYNC_HI g).setBitAt GLB_TB_STATUS 3 true
    let s := if slip then s.event GLB_TB_EVENTS 3 else s
    if st = 2 then
      let v := s.reg64 GLB_TB_LOAD_LO GLB_TB_LOAD_HI
      let s := ((s.leaveArmed 3).event GLB_TB_EVENTS 0).flushEdges
      { s with tb := { s.tb with gcc := v, lastLoaded := v,
                                 loadAt := s.tb.loadAt.map (fun h => (v + (h + 2 ^ 64 - g) % 2 ^ 64) % 2 ^ 64) } }
    else { s with tb := { s.tb with gcc := g } }
/-- The next rising TREF edge: a load edge where one falls on it, else the GCC steps (R148, R152). -/
def State.trefEdge (s : State) : State :=
  let g := (s.now + 1) % 2 ^ 64
  if s.tb.loadAt.contains g then
    State.loadEdge { s with tb := { s.tb with loadAt := s.tb.loadAt.filter (fun h => h != g) } } g
  else { s with tb := { s.tb with gcc := g } }
/-- The sample of SYNC that EDGE names: on the falling edge of TREF or on the rising one (R152). -/
def State.syncOf (s : State) (levels : Bool × Bool) : Bool := if s.bitAt GLB_TB_SYNC_CFG 8 then levels.2 else levels.1
/-- One TREF cycle with the level of SYNC on its rising and its falling edge. The first sample that is high after a low one, on the
edges that EDGE names, sets the load edge: the next rising edge and DELAY further ones (R152). -/
def State.syncCycle (s : State) (levels : Bool × Bool) : State :=
  let s := s.trefEdge
  let high := s.syncOf levels
  let l := if high && !s.tb.syncHigh then s.tb.loadAt ++ [(s.now + 1 + s.fld GLB_TB_SYNC_CFG 5 0) % 2 ^ 64] else s.tb.loadAt
  { s with tb := { s.tb with syncHigh := high, loadAt := l } }
/-- The TREF cycles up to the next load edge, at most `n`, and that edge. -/
def State.toLoadEdge (s : State) : Nat → State
  | 0 => s
  | n + 1 => if s.tb.loadAt.isEmpty then s
    else if s.tb.loadAt.contains ((s.now + 1) % 2 ^ 64) then s.trefEdge else s.trefEdge.toLoadEdge n
/-- LOAD_EDGE: `levels` gives SYNC on the two edges of the TREF cycles that follow; then the load edge that they have set comes,
at most 64 rising edges later (R152, R153). -/
def execLoadEdge (levels : List (Bool × Bool)) (s : State) : Out :=
  .next (if s.tbState = 0 then s else (levels.foldl State.syncCycle s).toLoadEdge 64)

/-- An island lost its place: it is stale (R59), and the operations that run on it complete with RESOURCE_FAULT (R155). -/
def State.mismatchIsland (s : State) (i : Nat) : State :=
  let hit := s.ops.filter (fun o => o.phase == .running && (s.islandsOf o).contains i)
  (s.setGen i 0).forEach hit (fun s o => s.stopOp o.asn 6)
/-- GCC_BROADCAST_CHECK: every 65,536 steps the hub's GCC goes to each island; `differs` names the islands whose copy differs
(R155). -/
def execGccBroadcastCheck (differs : Nat) (s : State) : Out :=
  let l := bitsOf differs 26
  .next (if !s.counting ∨ l.isEmpty then s
    else (s.event GLB_TB_EVENTS 6).forEach l State.mismatchIsland)

end Sys2Proof.Machine
end

