-- ==== Sys2Proof/Machine/Verify.lean ====
section
/-! DEFINITION. Verification of a configuration image (R18 to R37, R613): the container, the rules inside each section, the
rules between sections, and the set that a good image gives. A reader answers the little-endian number of `n` bytes at an
offset. A check of records answers the ENTRY of the first that fails. -/

namespace Sys2Proof.Machine

/-- Little-endian number of `n` bytes at an offset. -/
abbrev Rd := Nat → Nat → Nat

/-- The bytes from an offset on. -/
def Rd.from_ (b : Rd) (o : Nat) : Rd := fun off n => b (o + off) n
/-- First byte of the image staging window (R34). -/
def imgBase : Nat := 0x0540000000
/-- The image staging window. -/
def State.img (s : State) : Rd := fun off n => s.le (imgBase + off) n
/-- First of `n` records that fails, as ENTRY counted from `k`. -/
def firstBad (k n : Nat) (ok : Nat → Bool) : Option Nat := ((List.range n).find? (fun i => !ok i)).map (fun i => k + i)
/-- ENTRY of a fault of the section header or of SIZE, where the condition fails (R613). -/
def headOr (ok : Bool) (rest : Option Nat) : Option Nat := if ok then rest else some 0xFFFF
/-- Two ranges overlap. -/
def overlap (a n b m : Nat) : Bool := decide (a < b + m) && decide (b < a + n)

/-! The container (R19 to R22). -/

/-- A directory entry (R20). -/
structure DirEnt where
  type : Nat
  off : Nat
  size : Nat
  crc : Nat
deriving DecidableEq, Repr, Inhabited

/-- The eleven directory entries. -/
def dirOf (b : Rd) : List DirEnt :=
  (List.range 11).map (fun i => let e := b.from_ (0x80 + 16 * i); ⟨e 0 2, e 4 4, e 8 4, e 12 4⟩)
/-- Codes 0x01 to 0x04 of R36, or 0. -/
def headCode (b : Rd) (step : Nat) : Nat :=
  if b 0 4 != 0x46434A58 then 1
  else if !allOf [b 4 2 == 1, b 6 2 == 128, b 12 2 == 11, b 15 1 == 0, b 0x14 4 != 0, b 0x1E 2 == 0, b 0x28 88 == 0,
      (List.range 11).all (fun i => b (0x82 + 16 * i) 2 == 0)] then 2
  else if !(within 576 16777216 (b 8 4) && b 8 4 % 16 == 0) then 3
  else if !(b 0x18 4 == 0x512 && within (b 0x1C 1) (b 0x1D 1) step) then 4
  else 0
/-- Directory index of the section of a type. -/
def dirIx (l : List DirEnt) (t : Nat) : Nat := l.findIdx (fun e => e.type == t)
/-- The directory entry of a section type. -/
def secOf (l : List DirEnt) (t : Nat) : DirEnt := l.getD (dirIx l t) default
/-- A section's place breaks R21. -/
def placeBad (e : DirEnt) (len : Nat) : Bool :=
  e.off % 16 != 0 || decide (e.off < 0x130) || e.size == 0 || e.size % 16 != 0 || decide (len - 96 < e.off + e.size)
/-- First type, in ascending order, that the directory breaks: SECTION, and ENTRY 0xFFFF for a missing type, else the index of
the repeated entry, or of the one whose place breaks R21 or overlaps a section already taken (R20, R21, R613; log entry 39). -/
def dirBad (l : List DirEnt) (len : Nat) : Option (Nat × Nat) :=
  (List.range 11).findSome? (fun i =>
    match (List.range 11).filter (fun j => (l.getD j default).type == i + 1) with
    | [] => some (i + 1, 0xFFFF)
    | [j] =>
      let e := l.getD j default
      if placeBad e len || (List.range i).any (fun t => overlap e.off e.size (secOf l (t + 1)).off (secOf l (t + 1)).size)
      then some (i + 1, j) else none
    | _ :: j :: _ => some (i + 1, j))
/-- Every byte that no section covers is 0 (R21). -/
def gapsZero (b : Rd) (l : List DirEnt) (len : Nat) : Bool :=
  (List.range (len - 96 - 0x130)).all (fun i =>
    let a := 0x130 + i
    b a 1 == 0 || l.any (fun e => decide (e.off ≤ a) && decide (a < e.off + e.size)))
/-- The `n` bytes of a reader at an offset. -/
def Rd.bytes (b : Rd) (off n : Nat) : List Byte := (List.range n).map (fun i => BitVec.ofNat 8 (b (off + i) 1))
/-- First directory entry whose section fails its CRC (R23). -/
def badCrc (b : Rd) (l : List DirEnt) : Option (Nat × Nat) :=
  ((List.range 11).find? (fun i => let e := l.getD i default
    crc32 (b.bytes e.off e.size) != e.crc)).map (fun i => ((l.getD i default).type, i))
/-- A signature check against an owner key slot passes (R551). -/
def slotVerifies (keys : List (Nat × BitVec 512)) (slot : Nat) (bs : List Byte) (r sg : Nat) : Bool :=
  match keys[slot]? with
  | some (1, k) => ecdsaVerify k.toNat bs r sg
  | _ => false

/-! Rules inside one section (code 0x0A). -/

/-- SITE_MAP (R24, R25). -/
def siteMapBad (b : Rd) (size : Nat) : Option Nat :=
  let n := b 0 2
  let e := fun i => b.from_ (16 + 80 * i)
  headOr (within 1 256 n && b 2 14 == 0 && size == 16 + 80 * n) (firstBad 0 n (fun i =>
    allOf [e i 0 2 ≤ 255, i == 0 || decide (e (i - 1) 0 2 < e i 0 2), e i 2 2 == 0, e i 6 2 == 0, e i 0x48 8 == 0,
      (List.range i).all (fun j => e i 4 2 &&& e j 4 2 == 0 && e i 8 64 &&& e j 8 64 == 0)]))
/-- The entries of SITE_MAP. -/
def siteMapOf (b : Rd) : List SiteEnt :=
  (List.range (b 0 2)).map (fun i => let e := b.from_ (16 + 80 * i); ⟨e 0 2, e 4 2, e 8 64⟩)

/-- The entry of a cluster in CLUSTER_ROUTING. -/
def routeOf (b : Rd) (k : Nat) : Route := ⟨b (16 * k) 1, (List.range 8).map (fun i => b (16 * k + 2 + i) 1)⟩
/-- CLUSTER_ROUTING (R28, R29). -/
def routingBad (b : Rd) (size : Nat) : Option Nat :=
  headOr (size == 256) (firstBad 0 16 (fun k =>
    let r := routeOf b k
    let used := r.ports.filter (fun p => p != 0xFF)
    allOf [r.seq ≤ 15 || r.seq == 0xFF, b (16 * k + 1) 1 == 0, b (16 * k + 10) 6 == 0, used.all (fun p => p ≤ 31),
      used.eraseDups.length == used.length]))

/-- Sources of a cycle word that are defined (R270). -/
def srcDefined (n : Nat) : Bool := decide (n ≤ 45) || within 64 143 n
/-- SRC fits the pin mode (R260). -/
def modeSrc (mode src : Nat) : Bool :=
  match mode with
  | 1 => srcDefined src
  | 2 => within 64 127 src
  | 3 => srcDefined src && srcDefined (src + 1)
  | 4 | 5 | 6 => src == 0
  | _ => false
/-- The entries of a pin map whose map header stands at an offset. -/
def mapOf (b : Rd) (o : Nat) : List PinEnt :=
  (List.range (b o 2)).map (fun i => let e := b.from_ (o + 16 + 4 * i); ⟨e 0 2, e 2 1, e 3 1⟩)
/-- Bytes of a pin map with its header and its padding. -/
def mapLen (n : Nat) : Nat := 16 + ceilDiv (4 * n) 16 * 16
/-- A pin map is well formed (R259 to R261). -/
def mapOk (b : Rd) (o : Nat) : Bool :=
  let n := b o 2
  let l := mapOf b o
  within 1 512 n && b (o + 2) 14 == 0 && b (o + 16 + 4 * n) (mapLen n - 16 - 4 * n) == 0 &&
  l.all (fun e => e.pin ≤ 511 && modeSrc e.mode e.src) &&
  (List.zip l (l.drop 1)).all (fun p => decide (p.1.pin < p.2.pin))
/-- The maps from an offset on, `n` of them: the offset of each, and where they end. -/
def mapOffsets (b : Rd) : Nat → Nat → List Nat × Nat
  | 0, o => ([], o)
  | n + 1, o =>
    let p := mapOffsets b n (o + mapLen (b o 2))
    (o :: p.1, p.2)
/-- A jet record at an offset. -/
def jetOf (b : Rd) (o : Nat) : Jet := ⟨b o 1, b (o + 1) 1, b (o + 2) 2, b (o + 4) 1, b (o + 5) 1⟩
/-- FOUNTAIN_TREES (R259 to R261). -/
def treesBad (b : Rd) (size : Nat) : Option Nat :=
  let nm := b 0 2; let nj := b 2 2
  let (os, o) := mapOffsets b nm 16
  let total := ceilDiv (o + 8 * nj) 16 * 16
  let j := fun i => jetOf b (o + 8 * i)
  headOr (nm ≤ 256 && nj ≤ 8192 && b 4 12 == 0 && size == total)
    ((firstBad 0x8000 nm (fun i => mapOk b (os.getD i 0))).or (match firstBad 0 nj (fun i =>
          allOf [(j i).fountain ≤ 31, (j i).site ≤ 255, (j i).map < nm, (j i).flags < 4, b (o + 8 * i + 6) 2 == 0,
            i == 0 || decide ((j (i - 1)).fountain * 256 + (j (i - 1)).jet < (j i).fountain * 256 + (j i).jet),
            (List.range i).all (fun k => !((j k).fountain == (j i).fountain && (j k).site == (j i).site))]) with
        | some e => some e
        | none => headOr (b (o + 8 * nj) (total - o - 8 * nj) == 0) none))
/-- The maps and jets of FOUNTAIN_TREES. -/
def treesOf (b : Rd) : List (List PinEnt) × List Jet :=
  let (os, o) := mapOffsets b (b 0 2) 16
  (os.map (mapOf b), (List.range (b 2 2)).map (fun i => jetOf b (o + 8 * i)))

/-- A STORE_LAYOUT record (R32). -/
def regionOf (b : Rd) (i : Nat) : Region :=
  let e := b.from_ (16 + 32 * i)
  ⟨e 0 2, e 2 2, e 4 1, e 5 1, e 8 8, e 16 8⟩
/-- The records of STORE_LAYOUT. -/
def regionsOf (b : Rd) : List Region := (List.range (b 0 2)).map (regionOf b)
/-- STORE_LAYOUT (R32, R33). -/
def layoutBad (b : Rd) (size : Nat) : Option Nat :=
  let n := b 0 2
  headOr (within 1 1024 n && b 2 14 == 0 && size == 16 + 32 * n) (match firstBad 0 n (fun i =>
      let e := b.from_ (16 + 32 * i)
      let r := regionOf b i
      let before := (List.range i).map (regionOf b)
      allOf [within 1 7 r.kind, e 6 2 == 0, e 24 8 == 0, r.base % 4096 == 0, r.size != 0, r.size % 4096 == 0,
        r.base + r.size ≤ 0x0540000000,
        if r.kind = 3 then r.owner ≤ 255 && r.mode ≤ 1 && r.hwm != 0 && !before.any (fun p => p.kind == 3 && p.owner == r.owner)
        else r.owner == 0xFFFF && r.mode == 0 && r.hwm == 0,
        r.kind != 7 || (decide (16777216 ≤ r.size) && !before.any (fun p => p.kind == 7)),
        !before.any (fun p => overlap p.base p.size r.base r.size)]) with
    | some i => some i
    | none => headOr ((regionsOf b).any (fun r => r.kind == 7) && (regionsOf b).any (fun r => r.kind == 4)) none)

/-- A class record of QUEUE_TABLE (R66). -/
def qclassOf (b : Rd) (i : Nat) : QClass := ⟨b (16 + 16 * i) 4, b (16 + 16 * i + 4) 1⟩
/-- A queue record of QUEUE_TABLE (R66). -/
def qrecOf (b : Rd) (i : Nat) : QRec :=
  let e := b.from_ (16 + 16 * b 0 2 + 32 * i)
  ⟨e 0 2, e 2 1, e 3 1, e 4 1, e 5 1, e 8 8, e 16 8⟩
/-- The rings of a queue record: base and bytes. -/
def QRec.rings (r : QRec) : List (Nat × Nat) := [(r.sqBase, 64 * 2 ^ r.sqLog2), (r.cqBase, 32 * 2 ^ r.cqLog2)]
/-- QUEUE_TABLE (R66, R67). -/
def queuesBad (b : Rd) (size : Nat) : Option Nat :=
  let nc := b 0 2; let nq := b 2 2
  headOr (within 1 16 nc && within 1 4096 nq && b 4 12 == 0 && size == 16 + 16 * nc + 32 * nq)
    ((firstBad 0 nc (fun i =>
        let c := qclassOf b i
        allOf [!bit c.opmask 0, c.opmask < 2 ^ 19, c.prioMax ≤ 7, b (16 + 16 * i + 5) 11 == 0])).or
     (firstBad nc nq (fun i =>
        let e := b.from_ (16 + 16 * nc + 32 * i)
        let r := qrecOf b i
        let hits := fun (p : QRec) => p.rings.any (fun x => r.rings.any (fun y => overlap x.1 x.2 y.1 y.2))
        allOf [r.queue ≤ 4095, i == 0 || decide ((qrecOf b (i - 1)).queue < r.queue), r.cls < nc, r.mode ≤ 1,
          within 4 16 r.sqLog2, within 4 16 r.cqLog2, e 6 2 == 0, e 24 8 == 0, r.sqBase % 1024 == 0, r.cqBase % 512 == 0,
          !overlap r.sqBase (64 * 2 ^ r.sqLog2) r.cqBase (32 * 2 ^ r.cqLog2),
          !((List.range i).map (qrecOf b)).any hits])))

/-- Largest PEAK_MW of each rail (R408). -/
def railPeak (i : Nat) : Nat := [34000, 46000, 20000, 6400, 12000, 16000000].getD i 0
/-- A rail record of ENERGY_TABLE (R423). -/
def railRec (b : Rd) (i : Nat) : Limits :=
  let e := b.from_ (16 + 32 * i)
  ⟨e 0 4, e 4 4, 0, e 8 4, e 12 4, e 16 4⟩
/-- An opcode record of ENERGY_TABLE (R423). -/
def opcRecOf (b : Rd) (i : Nat) : OpcRec :=
  let e := b.from_ (208 + 16 * i)
  ⟨e 0 1, bit (e 1 1) 0, (List.range 5).map (fun k => e (2 + k) 1), e 8 4, e 12 4⟩
/-- A site record of ENERGY_TABLE (R423). -/
def siteRec (b : Rd) (i : Nat) : Nat × Limits :=
  let e := b.from_ (208 + 16 * b 0 2 + 32 * i)
  (e 0 2, ⟨e 4 4, e 8 4, e 12 4, e 16 4, e 20 4, e 24 4⟩)
/-- The three windows rise (R423). -/
def Limits.windowsOk (m : Limits) : Bool := decide (1 ≤ m.w1) && decide (m.w1 ≤ m.w2) && decide (m.w2 ≤ m.w3)
/-- ENERGY_TABLE (R423, R424). -/
def energyBad (b : Rd) (size : Nat) : Option Nat :=
  let no := b 0 2; let ns := b 2 2
  headOr (no ≤ 18 && ns ≤ 256 && b 4 1 ≤ 1 && b 5 11 == 0 && size == 208 + 16 * no + 32 * ns)
    (((firstBad 0 6 (fun i =>
        let m := railRec b i
        within 1 (railPeak i) m.peak && decide (m.idle < m.peak) && m.windowsOk && b (16 + 32 * i + 20) 12 == 0)).or
      (firstBad 6 no (fun i =>
        let o := opcRecOf b i
        allOf [within 1 0x12 o.opcode, i == 0 || decide ((opcRecOf b (i - 1)).opcode < o.opcode), b (208 + 16 * i + 1) 1 ≤ 1,
          o.shares.sum == 256, b (208 + 16 * i + 7) 1 == 0, o.defMw ≤ 0xFFFFFF]))).or
     (firstBad (6 + no) ns (fun i =>
        let e := b.from_ (208 + 16 * no + 32 * i)
        let r := siteRec b i
        allOf [r.1 ≤ 255, i == 0 || decide ((siteRec b (i - 1)).1 < r.1), e 2 2 == 0, within 1 16000000 r.2.peak,
          r.2.idle ≤ r.2.peak, r.2.run ≤ r.2.peak, r.2.windowsOk, e 28 4 == 0])))
/-- The tables of ENERGY_TABLE. -/
def energyOf (b : Rd) : Energy :=
  ⟨bit (b 4 1) 0, (List.range 6).map (railRec b), (List.range (b 0 2)).map (opcRecOf b), (List.range (b 2 2)).map (siteRec b)⟩

/-- Word of the set image of an entry of TSET_DEFAULTS, at its byte offset. -/
def tsetWord (b : Rd) (i : Nat) : Nat → Word := fun off => BitVec.ofNat 32 (b (16 + 1040 * i + 16 + off) 4)
/-- TSET_DEFAULTS (R179). -/
def tsetsBad (b : Rd) (size : Nat) : Option Nat :=
  let n := b 0 2
  let e := fun i => b.from_ (16 + 1040 * i)
  headOr (n ≤ 1024 && b 2 14 == 0 && size == 16 + 1040 * n) (firstBad 0 n (fun i =>
    allOf [e i 0 1 ≤ 15, e i 1 1 ≤ 63, i == 0 || decide (e (i - 1) 0 1 * 64 + e (i - 1) 1 1 < e i 0 1 * 64 + e i 1 1),
      e i 2 14 == 0, (tsCheck (tsetWord b i)).isNone]))
/-- The entries of TSET_DEFAULTS. -/
def tsetsOf (b : Rd) : List TsDef :=
  (List.range (b 0 2)).map (fun i =>
    ⟨b (16 + 1040 * i) 1, b (17 + 1040 * i) 1, (List.range 256).map (fun w => tsetWord b i (4 * w))⟩)

/-- A source's UNIT and ARG lie in their ranges (R313). -/
def sourceOk (kind unit arg : Nat) : Bool :=
  match kind with
  | 1 | 6 => unit ≤ 255 && arg == 0
  | 2 | 4 | 5 => unit ≤ 15 && arg == 0
  | 3 => unit ≤ 31 && arg == 0
  | 7 => ((unit / 4096 == 1 && unit % 4096 ≤ 15) || (unit / 4096 == 2 && unit % 4096 ≤ 511)) && arg == 0
  | 8 => unit ≤ 127 && arg == 0
  | 9 => unit ≤ 63 && arg == 0
  | 0xA => unit ≤ 7 && arg ≤ 1
  | 0xB => unit ≤ 16 && arg == 0
  | _ => false
/-- A target's UNIT and ARG lie in their ranges (R314). -/
def targetOk (kind unit arg : Nat) : Bool :=
  match kind with
  | 1 => unit ≤ 15 && arg == 0
  | 2 => unit ≤ 7 && within 1 65535 arg
  | 3 => unit ≤ 16 && arg == 0
  | _ => false
/-- A source or target entry, counted over sources then targets (R315). -/
def xtEntOf (b : Rd) (i : Nat) : XtEnt :=
  let e := b.from_ (272 + 8 * i)
  ⟨e 0 1, e 1 1, e 2 2, e 4 4⟩
/-- Order of entries (R316). -/
def XtEnt.key (x : XtEnt) : Nat := (x.line * 256 + x.kind) * 65536 + x.unit
/-- TRIGGER_MATRIX (R315, R316). -/
def triggersBad (b : Rd) (size : Nat) : Option Nat :=
  let ns := b 0 2; let nt := b 2 2
  let body := 272 + 8 * (ns + nt)
  let total := ceilDiv body 16 * 16
  headOr (ns ≤ 1024 && nt ≤ 256 && b 4 12 == 0 && size == total)
    (((firstBad 0x8000 16 (fun l => b (16 + 16 * l) 1 ≤ 2 && b (17 + 16 * l) 1 < 4 && b (18 + 16 * l) 14 == 0)).or
      (firstBad 0 (ns + nt) (fun i =>
        let x := xtEntOf b i
        allOf [x.line ≤ 15, if i < ns then sourceOk x.kind x.unit x.arg else targetOk x.kind x.unit x.arg,
          i == 0 || i == ns || decide ((xtEntOf b (i - 1)).key < x.key), b (16 + 16 * x.line) 1 != 0]))).or
     (headOr (b body (total - body) == 0) none))
/-- The matrix that TRIGGER_MATRIX gives. -/
def triggersOf (b : Rd) : TrigMatrix :=
  ⟨(List.range 16).map (fun l => (b (16 + 16 * l) 1, b (17 + 16 * l) 1)), (List.range (b 0 2)).map (xtEntOf b),
   (List.range (b 2 2)).map (fun i => xtEntOf b (b 0 2 + i))⟩

/-- An entry of DPS_MAP or LANE_MAP: site, index and flags. -/
def unitEnt (b : Rd) (i : Nat) : LaneEnt := ⟨b (4 * i) 2, b (4 * i + 2) 1, b (4 * i + 3) 1⟩
/-- DPS_MAP (R30) and LANE_MAP (R31): `n` entries, indices up to `top`, flags below `fl`. -/
def unitsBad (b : Rd) (size n top fl : Nat) : Option Nat :=
  headOr (size == 4 * n) (firstBad 0 n (fun i =>
    let e := unitEnt b i
    allOf [e.site ≤ 255 || e.site == 0xFFFF, e.ix ≤ top, e.flags < fl,
      e.site == 0xFFFF || (List.range i).all (fun j => !((unitEnt b j).site == e.site && (unitEnt b j).ix == e.ix))]))

/-- SECURITY_POLICY (R558). -/
def policyBad (b : Rd) (size version : Nat) : Option Nat :=
  let n := b 0 2
  let e := fun i => b.from_ (16 + 16 * i)
  if !allOf [n ≤ 16, b 2 1 ≤ 1, b 3 1 == 0, b 4 4 ≤ version, b 12 4 == 0] then some 0
  else headOr (size == 16 + 16 * n) (firstBad 1 n (fun i =>
    allOf [if i = 0 then e 0 0 8 != 0 else decide (e (i - 1) 0 8 < e i 0 8), e i 8 1 < 32, e i 9 7 == 0]))
/-- The policy that SECURITY_POLICY gives. -/
def policyOf (b : Rd) : Policy :=
  ⟨bit (b 2 1) 0, b 4 4, b 8 4, (List.range (b 0 2)).map (fun i => (b (16 + 16 * i) 8, b (24 + 16 * i) 1))⟩

/-- The rule of a section type (code 0x0A). -/
def sectionBad (b : Rd) (t size version : Nat) : Option Nat :=
  match t with
  | 1 => siteMapBad b size
  | 2 => routingBad b size
  | 3 => treesBad b size
  | 4 => layoutBad b size
  | 5 => queuesBad b size
  | 6 => energyBad b size
  | 7 => tsetsBad b size
  | 8 => triggersBad b size
  | 9 => unitsBad b size 64 7 1
  | 10 => unitsBad b size 128 127 4
  | _ => policyBad b size version

/-- The set that an image gives. -/
def setOf (b : Rd) : ImageSet :=
  let l := dirOf b
  let r := fun t => b.from_ (secOf l t).off
  let trees := treesOf (r 3)
  { imageId := b 0x14 4, version := b 0x10 4, keySlot := b 14 1, digest := b.bytes (b 8 4 - 96) 32,
    sites := siteMapOf (r 1), routing := (List.range 16).map (routeOf (r 2)), maps := trees.1, jets := trees.2,
    regions := regionsOf (r 4), classes := (List.range (r 5 0 2)).map (qclassOf (r 5)),
    queues := (List.range (r 5 2 2)).map (qrecOf (r 5)), energy := energyOf (r 6), tsets := tsetsOf (r 7),
    triggers := triggersOf (r 8), dpsMap := (List.range 64).map (fun i => let e := unitEnt (r 9) i; ⟨e.site, e.ix⟩),
    laneMap := (List.range 128).map (unitEnt (r 10)), policy := policyOf (r 11) }

/-! Rules between sections (code 0x0B), and against the active set (codes 0x0C and 0x0D). -/

/-- The site stands in SITE_MAP. -/
def ImageSet.lists (g : ImageSet) (n : Nat) : Bool := (g.siteEnt n).isSome
/-- Index of the first member of a list that fails. -/
def firstOf {α : Type} (l : List α) (ok : α → Bool) : Option Nat :=
  let i := l.findIdx (fun x => !ok x)
  if i < l.length then some i else none
/-- A jet's references hold (R261, R29). -/
def ImageSet.jetOk (g : ImageSet) (j : Jet) : Bool :=
  let cs := g.chansOf j.site
  g.lists j.site && ((g.maps[j.map]?).getD []).all (fun e => match cs[e.pin]? with
    | some c => ((g.routing[c / 32]?).map Route.ports).any (fun p => p.contains j.fountain)
    | none => false)
/-- First failure of a rule between sections: SECTION and ENTRY, sections in ascending type order. -/
def crossBad (g : ImageSet) : Option (Nat × Nat) :=
  let at_ := fun (t k : Nat) (r : Option Nat) => r.map (fun i => (t, k + i))
  let owns := fun (e : SiteEnt) => e.chMask != 0 || e.anMask != 0 || g.dpsMap.any (fun d => d.site == e.site) ||
    g.laneMap.any (fun x => x.site == e.site)
  [at_ 1 0 (firstOf g.sites owns),
   at_ 3 0 (firstOf g.jets g.jetOk),
   at_ 5 g.classes.length (firstOf g.queues (fun r =>
     g.inRegion [5] r.sqBase (64 * 2 ^ r.sqLog2) && g.inRegion [6] r.cqBase (32 * 2 ^ r.cqLog2))),
   at_ 6 (6 + g.energy.opcs.length) (firstOf g.energy.sites (fun x => g.lists x.1)),
   at_ 8 0 (firstOf g.triggers.sources (fun x => !(x.kind == 1 || x.kind == 6) || g.lists x.unit)),
   at_ 9 0 (firstOf g.dpsMap (fun e => e.site == 0xFFFF || (g.lists e.site && g.energy.sites.any (fun x => x.1 == e.site)))),
   at_ 10 0 (firstOf g.laneMap (fun e => e.site == 0xFFFF || g.lists e.site))].findSome? id
/-- First failure against the active set: code, SECTION, ENTRY (codes 0x0C and 0x0D). -/
def compatBad (g old : ImageSet) : Option (Nat × Nat × Nat) :=
  let same := fun (a b : Option Region) => a.map (fun r => (r.base, r.size)) == b.map (fun r => (r.base, r.size))
  if !same g.journal old.journal then some (0xC, 4, g.regions.findIdx (fun r => r.kind == 7))
  else (g.queues.find? (fun r => match old.queueRec r.queue with
      | some p => (r.sqLog2, r.cqLog2, r.sqBase, r.cqBase) != (p.sqLog2, p.cqLog2, p.sqBase, p.cqBase)
      | none => false)).map (fun r => (0xD, 5, r.queue))

/-- The checks of R36 on an image, in order: code, SECTION and ENTRY of the first that fails, or the set that the image gives.
`keys` and `floor` are the key table and the floor at the start of verification (R555, R556). -/
def verdict (b : Rd) (step : Nat) (keys : List (Nat × BitVec 512)) (floor : Nat) (active : Option ImageSet) :
    Except (Nat × Nat × Nat) ImageSet :=
  let h := headCode b step
  let len := b 8 4
  let l := dirOf b
  let body := b.bytes 0 (len - 96)
  let r := beNat (b.bytes (len - 64) 32); let sg := beNat (b.bytes (len - 32) 32)
  if h ≠ 0 then .error (h, 0, 0)
  else match dirBad l len with
  | some e => .error (5, e)
  | none =>
    if !gapsZero b l len then .error (5, 0, 0xFFFF)
    else match badCrc b l with
    | some e => .error (6, e)
    | none =>
      if sha256 body != b.bytes (len - 96) 32 then .error (7, 0, 0)
      else if !slotVerifies keys (b 14 1) body r sg then .error (8, 0, 0)
      else if b 0x10 4 < floor then .error (9, 0, 0)
      else
        match (List.range 11).findSome? (fun i => let e := secOf l (i + 1)
            (sectionBad (b.from_ e.off) (i + 1) e.size (b 0x10 4)).map (fun n => (i + 1, n))) with
        | some e => .error (0xA, e)
        | none =>
          let g := setOf b
          match crossBad g, active.bind (compatBad g) with
          | some e, _ => .error (0xB, e)
          | none, some e => .error e
          | none, none => .ok g

end Sys2Proof.Machine
end

