-- ==== Sys2Proof/Machine/Start.lean ====
section
/-! DEFINITION. Starts (R27, R83 to R90, R161, R219, R402, R408 to R422): judging the waiting operations, admission by the energy
governor, check points, the dispatch of an operation, deadlines and barriers. -/

namespace Sys2Proof.Machine

/-! Judging (R27, R122, R161). -/

/-- DETAIL of the first unit that the payload names and the set does not provide (R27). -/
def mismatchOf (g : ImageSet) (o : Op) : Option Nat :=
  let opc := o.opcode
  let site : Option Nat := if [3, 4, 5, 6].contains opc then (namedSites o.desc).find? (fun n => (g.siteEnt n).isNone)
    else if opc = 0xB ∧ o.pay 0 1 = 2 ∧ (g.siteEnt (o.pay 4 2)).isNone then some (o.pay 4 2) else none
  let pin : Option Nat := if opc = 0x11 then (levelChans g o.desc).find? (fun c => (g.siteOfCh c).isNone) else none
  let an : Option Nat := if (opc = 7 ∨ opc = 8) ∧ (g.siteOfAn (o.pay 0 1)).isNone then some (o.pay 0 1) else none
  let lane : Option Nat := if opc = 9 then
      ((bitsOf (o.pay 4 2) 16).map (fun i => 16 * o.pay 0 1 + i)).find? (fun l => (g.siteOfLane l).isNone)
    else none
  match site, pin, an, lane with
  | some n, _, _, _ => some (0x7000 + n)
  | _, some c, _, _ => some (0x1000 + c)
  | _, _, some a, _ => some (0x3000 + a)
  | _, _, _, some l => some (0x8000 + l)
  | _, _, _, _ => none
/-- A waiting operation whose conditions 1 to 3 hold, and whose check point has come, is judged once (R27). -/
def State.judge (s : State) (o : Op) : State :=
  if o.judged || o.phase != .waiting || !s.dispatching || !s.ordered o || !s.checkPassed o then s
  else match s.cfg.active.bind (fun g => mismatchOf g o) with
    | some d => s.endOp o.asn 0xF 0 d
    | none => s.modOp o.asn (fun p => { p with judged := true })
/-- GCC of the check point of a timed operation (R161). A START_GCC below 3,200 has no such instant in the count: it is taken as
GCC 0 (log entry 112). -/
def Op.checkPoint (o : Op) : Nat := o.startField - 3200
/-- A timed operation that has missed its check point and may not start late (R161). -/
def State.startLate (s : State) (o : Op) : State :=
  s.endOpAt o.asn 9 1 (max o.checkPoint o.acceptGcc) 0
/-- Timed operations whose check point lies in the past complete with START_LATE, unless they may start late (R161). -/
def State.settleLate (s : State) : State :=
  s.forEach (s.ops.filter (fun o => o.phase == .waiting && o.startField != 0 && !o.lateOk && decide (o.checkPoint < s.now)))
    State.startLate

/-! The interlock (R477, R481 to R484). -/

/-- Conditions of R83 of a CAL_RUN apart from the interlock and energy. -/
def State.calReady (s : State) (o : Op) : Bool :=
  o.opcode == 0xD && o.phase == .waiting && s.dispatching && s.ordered o && s.resFree o.asn (s.resources o) &&
  (s.islandsOf o).all (fun i => s.islandMode i == 0 && !s.stale i) && s.slotFree o && s.checkPassed o &&
  !s.ops.any (fun w => w.phase == .waiting && w.asn < o.asn && decide (o.eff ≤ w.eff) &&
    (s.resources w).any (s.resources o).contains)
/-- A CAL_RUN asks the interlock; with NO_WAIT it completes with MAINT_CONFLICT when it meets a conflict (R477, R484). -/
def State.calAsk (s : State) (o : Op) : State :=
  let u := o.pay 0 1
  if !s.calReady o || s.mntRuns 6 u || s.mntWaits 6 u then s
  else if bit (o.pay 2 1) 1 ∧ s.mntConflict 6 u then (s.mntRefuse).endOp o.asn 0x10 0 0
  else (s.mntAsk 6 u).modOp o.asn (fun p => { p with permitted := true })

/-! Admission (R410 to R419). -/

/-- What holding candidates bar for later ones: ledgers, the read budget, members of resource sets (R416). -/
structure Barred where
  ledgers : List Nat
  reads : Bool
  res : List Res
deriving DecidableEq, Repr, Inhabited

/-- A candidate: a whole operation, or a ready step of a site of a DPS_SEQUENCE. -/
inductive Item where
  | whole (a : Asn)
  | step (a : Asn) (site : Nat)
deriving DecidableEq, Repr

/-- Ready steps that wait for admission (R419). -/
def State.readySteps (s : State) : List (Nat × Nat) :=
  s.ops.flatMap (fun o => match s.dpsRun o.asn with
    | some (_, w) => (w.sites.filter (fun p => p.st == 2 && !p.admitted)).map (fun p => (p.site, o.asn))
    | none => [])
/-- Steps in ascending site number. -/
def bySite (l : List (Nat × Nat)) : List (Nat × Nat) := (List.range 256).flatMap (fun n => l.filter (fun x => x.1 == n))
/-- The order of examination: by class from 7 down; within a class whole operations in acceptance order, then steps in site
order (R86, R416; log entry 12). -/
def State.items (s : State) : List Item :=
  let cs := s.candidates.filterMap s.op?
  let steps := bySite s.readySteps
  [7, 6, 5, 4, 3, 2, 1, 0].flatMap (fun c =>
    (cs.filter (fun o => o.eff == c)).map (fun o => Item.whole o.asn) ++
    (steps.filter (fun x => ((s.op? x.2).map Op.eff).getD 0 == c)).map (fun x => Item.step x.2 x.1))
/-- A candidate does not fit, now or ever (R416, R417): it takes nothing; one that holds bars what it needs. -/
def State.passOver (s : State) (b : Barred) (o : Op) (rs : List Resv) (n : Nat) : State × Barred :=
  let never := s.neverFits rs || decide ((s.reg SEG_RD_BUDGET).toNat < n && n ≠ 0)
  let s := if never ∧ !o.never then
      let s := (s.event NRG_EVENTS 1).setReg NRG_NEVER_Q (BitVec.ofNat 32 o.queue)
      s.setReg64 NRG_NEVER_SEQ_LO NRG_NEVER_SEQ_HI o.seq
    else s
  let s := s.modOp o.asn (fun p => { p with never := never, candSince := some (p.candSince.getD s.now), holding := p.holding && !never })
  if o.holding ∧ !never then
    (s, { ledgers := b.ledgers ++ (ledgersOf rs).filter (fun l => !s.fitsLedger rs l), reads := b.reads || !s.readFits n,
          res := b.res ++ s.resources o })
  else (s, b)
/-- START_GCC work of an operation at its admission: its check point (R247, R357, R401). -/
def State.checkFamily (s : State) (o : Op) : State :=
  match o.opcode with
  | 1 => s.checkRun o
  | 6 => s.checkDps o
  | 7 => s.checkAwg o
  | _ => s
/-- An admitted operation takes its reservations and its resource set; its start instant is settled (R85, R161, R414). -/
def State.admitOp (s : State) (o : Op) (rs : List Resv) (n : Nat) : State :=
  let at_ := if o.startField = 0 then s.now else if s.now = o.checkPoint then o.startField else s.now + 3200
  let s := (s.take rs).takeReads o.asn n
  let s := s.modOp o.asn (fun p =>
    { p with phase := .scheduled, admitted := true, startAt := at_, candSince := none, holding := false, never := false })
  if o.startField = 0 then s else match s.op? o.asn with
    | some p => s.checkFamily p
    | none => s
/-- A candidate is examined (R414, R416, R418). -/
def State.examineOp (s : State) (b : Barred) (o : Op) : State × Barred :=
  let rs := s.opResvs o; let n := s.readUnits o
  let free := s.resFree o.asn (s.resources o) && s.slotFree o
  let barred := (ledgersOf rs).any b.ledgers.contains || (n != 0 && b.reads) || (s.resources o).any b.res.contains
  if free && !barred && !s.bitAt NRG_CTRL 0 && s.fits rs && s.readFits n then (s.admitOp o rs n, b)
  else s.passOver b o rs n
/-- A ready step is examined (R419). -/
def State.examineStep (s : State) (b : Barred) (a : Asn) (site : Nat) : State :=
  match s.dpsRun a with
  | none => s
  | some (_, w) =>
    match w.site site with
    | none => s
    | some p =>
      match s.siteStep w p with
      | none => s
      | some (x, d) =>
        let rs := s.stepResvs a site x d
        if !s.dispatching || s.bitAt NRG_CTRL 0 || (ledgersOf rs).any b.ledgers.contains || !s.fits rs then s
        else (s.take rs).setWork a (.dps (w.setSite { p with admitted := true }))
/-- One candidate after the other (R416). -/
def examineItems : List Item → State × Barred → State
  | [], p => p.1
  | .whole a :: rest, p => match p.1.op? a with
    | some o => examineItems rest (if o.phase = .waiting then p.1.examineOp p.2 o else p)
    | none => examineItems rest p
  | .step a n :: rest, p => examineItems rest (p.1.examineStep p.2 a n, p.2)
/-- The governor examines the candidates, after what else decides waiting operations (R27, R87, R122, R161, R415). An operation
that is no candidate any more does not hold. -/
def State.examine (s : State) : State :=
  let s := s.settleDeps.settleFaults.settleLate
  let s := s.forEach s.byAsn (fun s o => match s.op? o.asn with
    | some p => s.judge p
    | none => s)
  let s := s.forEach s.byAsn (fun s o => match s.op? o.asn with
    | some p => s.calAsk p
    | none => s)
  let cs := s.candidates
  let s : State := { s with ops := s.ops.map (fun (o : Op) =>
    if cs.contains o.asn then o else { o with candSince := none, holding := false }) }
  examineItems s.items (s, default)

/-- ADMISSION_EXAMINE (R415). -/
def execAdmissionExamine (s : State) : Out := .next s.examine
/-- First instant after now at which a released reservation stops being charged to a window (R412). -/
def State.nextExpiry (s : State) : Option Nat :=
  (s.gov.resvs.flatMap (fun r => match r.release with
    | some g => (windows.map (fun us => g + us * usSteps)).filter (fun t => decide (s.now < t))
    | none => [])).foldl (fun (m : Option Nat) t => match m with
      | none => some t
      | some x => some (min x t)) none
/-- Reservations that no window charges any more are forgotten. -/
def State.dropExpired (s : State) : State :=
  { s with gov := { s.gov with resvs := s.gov.resvs.filter (fun r => r.charged 1000000 s.now) } }
/-- CHARGE_EXPIRY: the next charge expires, and the candidates are examined (R412, R415). -/
def execChargeExpiry (s : State) : Out :=
  match s.nextExpiry with
  | none => .next s
  | some t =>
    let s := s.advanceTo t
    .next (if s.now < t then s else s.dropExpired.examine)
/-- CANDIDATE_HOLDING (R416, R417). -/
def execCandidateHolding (a : Asn) (s : State) : Out :=
  match s.op? a with
  | none => .next s
  | some o =>
    match o.candSince with
    | none => .next s
    | some g =>
      if o.phase ≠ .waiting ∨ o.never ∨ o.holding then .next s
      else
        let due := g + (s.reg NRG_HOLD_AFTER).toNat * usSteps
        let s := s.advanceTo due
        .next (if s.now < due then s else (s.modOp a (fun p => { p with holding := true })).event NRG_EVENTS 5)

/-! Monitors (R421, R422). -/

/-- A rail sample: its mean, and the excursion above PEAK_MW (R422). -/
def State.railSample (s : State) (r mw : Nat) : State :=
  let s := s.addSample r mw
  let s := s.setReg (NRG_R_MEAS_MW r) (BitVec.ofNat 32 (s.monMean r))
  let above := s.monAbove r (((s.limits r).map Limits.peak).getD (2 ^ 32))
  let t := s.setRailOver r above
  if above ∧ !s.gov.railOver.contains r then (t.incSat (NRG_R_OVER r)).event NRG_EVENTS 2 else t
/-- Die power that the controllers of a site show now, in mW (R397, R422). -/
def State.sitePower (s : State) (n : Nat) : Nat :=
  ((s.dpsOf n).map (fun d => (signed 24 (s.fld (DPS_IMEAS d) 23 0) * (s.fld (DPS_VMEAS d) 15 0 : Nat)).tdiv 10000)).sum.toNat
/-- A site sample (R422). -/
def State.siteSample (s : State) (n : Nat) : State :=
  let s := s.addSample (6 + n) (s.sitePower n)
  let m := s.monMean (6 + n)
  let s := s.setReg (NRG_SITE_MEAS n) (BitVec.ofNat 32 (min m (2 ^ 24 - 1)))
  match s.limits (6 + n) with
  | some l =>
    let overs := s.gov.siteOver.contains n
    let above := s.monAbove (6 + n) l.peak
    if above ∧ !overs then ({ s with gov := { s.gov with siteOver := s.gov.siteOver ++ [n] } }).event NRG_EVENTS 3
    else if !above ∧ overs then { s with gov := { s.gov with siteOver := s.gov.siteOver.filter (fun x => x != n) } } else s
  | none => s
/-- Units of R421 that an operation's resource set holds, with the rail that each feeds: cluster front ends 0 to 15 (PE), lane
groups 16 to 23 (LINK), source halves 24 to 39 and digitizer halves 40 to 55 (ANALOG). -/
def meterUnits (rs : List Res) : List (Nat × Nat) :=
  rs.filterMap (fun r => match r with
    | .cluster k => some (1, k)
    | .lane g => some (2, 16 + g)
    | .anSrc a => some (3, 24 + a)
    | .anDig a => some (3, 40 + a)
    | _ => none)
/-- What the units measured in a microsecond is added to the operations that hold them: mW over 1 µs is nJ (R421). -/
def State.meter (s : State) (units : List (Nat × Nat)) : State :=
  s.forEach (s.ops.filter (fun o => o.phase == .running)) (fun s o =>
    s.forEach [1, 2, 3] (fun s r =>
      let e := ((meterUnits (s.resources o)).filter (fun u => u.1 == r)).map (fun u =>
        ((units.find? (fun x => x.1 == u.2)).map Prod.snd).getD 0)
      if e.sum = 0 then s
      else
        let others := s.gov.meas.filter (fun x => !(x.1 == o.asn && x.2.1 == r))
        { s with gov := { s.gov with meas := others ++ [(o.asn, r, s.measured o.asn r + e.sum)] } }))
/-- MONITOR_SAMPLE: one microsecond of every monitor (R421, R422). -/
def execMonitorSample (rails : List Nat) (units : List (Nat × Nat)) (s : State) : Out :=
  let s := s.forEach (List.zip (List.range 6) rails) (fun s e => s.railSample e.1 e.2)
  let sites := ((s.cfg.active.map (fun g => g.sites)).getD []).map SiteEnt.site
  .next ((s.forEach (sites.filter (fun n => !(s.dpsOf n).isEmpty)) State.siteSample).meter units)

/-! Dispatch (R83, R84, R88 to R90, R161). -/

/-- START_CHECK_POINT: the check point of a timed operation (R161). -/
def execStartCheckPoint (a : Asn) (s : State) : Out :=
  match s.op? a with
  | none => .next s
  | some o =>
    if o.phase ≠ .waiting ∨ o.startField = 0 then .next s
    else
      let s := s.advanceTo o.checkPoint
      if s.now < o.checkPoint then .next s
      else
        let s := s.examine
        .next (match s.op? a with
          | some p => if p.phase = .waiting ∧ !p.lateOk then s.startLate p else s
          | none => s)
/-- The work of an operation begins, by its opcode. -/
def State.startFamily (s : State) (o : Op) : State :=
  match o.opcode with
  | 1 => startPatternRun s o
  | 2 => startSegmentLoad s o
  | 3 => startMeasure s o
  | 4 => startForceSet s o
  | 5 => startContactCheck s o
  | 6 => startDpsSequence s o
  | 7 => startAwgPlay s o
  | 8 => startDigitize s o
  | 9 => startLaneTest s o
  | 0xA => startAcquire s o
  | 0xB => startUpload s o
  | 0xC => startMicroCall s o
  | 0xD => startCalRun s o
  | 0xE | 0xF => s.beginOp o
  | 0x10 => let p := s.rtcNow
    (p.2.beginOp o).endOp o.asn 0 0 p.1
  | 0x11 => startLevelsSet s o
  | 0x12 => startTsetLoad s o
  | _ => s
/-- Every site that the operation names is marked absent (R219). -/
def State.allAbsent (s : State) (o : Op) : Bool :=
  let l := (s.cfg.active.map o.sites).getD []
  o.opcode != 5 && !l.isEmpty && l.all s.absent
/-- A tick-tagged command reaches islands after its tick: it is executed on the next TREF edge, and counted (R147). -/
def State.lateTag (s : State) (islands : List Nat) : State :=
  if islands.isEmpty then s
  else
    let s := ((s.advanceTo (s.now + 1)).addSat GLB_TB_LATE_TAGS islands.length).event GLB_TB_EVENTS 5
    s.forEach (islands.filter (fun i => i < 16)) (fun s i => s.incSat (TE_LATE_TAG i))
/-- A scheduled operation starts at its start instant: presence of its sites, its checks where they were not made at a check
point, then its work (R83, R161, R219). While dispatch pauses nothing starts; a start instant that passes then is made good when
dispatch resumes, as a late command where it was timed (R113, R147; log entry 116). -/
def State.dispatch (s : State) (o : Op) : State :=
  let s := s.advanceTo o.startAt
  let late := o.startField != 0 && decide (o.startAt < s.now)
  let s := if late && s.dispatching then s.lateTag (s.islandsOf o) else s
  if s.now < o.startAt ∨ !s.dispatching then s
  else if s.allAbsent o then (if o.opcode = 1 then s.failRun o.asn 7 0 0 else s.endOp o.asn 7 0 0)
  else
    let s := if o.startField = 0 then s.checkFamily o else s
    match s.op? o.asn with
    | some p => if p.phase = .scheduled then s.startFamily p else s
    | none => s
/-- DISPATCH_START (R83): an operation starts once its conditions hold, at its start instant. A play that runs already and
waits for its first sample reaches it. -/
def execDispatchStart (a : Asn) (s : State) : Out :=
  match s.op? a with
  | none => .next s
  | some o =>
    if o.phase = .running ∧ o.opcode = 7 then .next (s.awgReach o)
    else
      let s := if o.phase = .waiting then s.examine else s
      .next (match s.op? a with
        | some p => if p.phase = .scheduled then s.dispatch p else s
        | none => s)
/-- DEADLINE (R88): an operation that has not started by then completes. -/
def execDeadline (a : Asn) (s : State) : Out :=
  match s.op? a with
  | none => .next s
  | some o =>
    match o.deadlineAt with
    | none => .next s
    | some g =>
      if o.phase ≠ .waiting ∧ o.phase ≠ .scheduled then .next s
      else
        let s := s.advanceTo g
        .next (if s.now < g then s
          else if o.phase = .waiting then
            (if s.candidates.contains a then s.endOpAt a 0xA 0 g 0 else s.endOpAt a 9 0x82 g 0)
          else match o.work with
            | .run _ => s.failRun a 9 0x82 0
            | _ => s.endOpAt a 9 0x82 g 0)
/-- Operations that a BARRIER waits for (R89). -/
def State.barrierWaits (s : State) (o : Op) : List Op :=
  (s.ops ++ s.heldRecs).filter (fun p => p.asn < o.asn && (o.pay 0 1 == 1 || p.queue == o.queue))
/-- BARRIER_COMPLETE (R89). -/
def execBarrierComplete (a : Asn) (s : State) : Out :=
  match s.op? a with
  | none => .next s
  | some o =>
    if o.opcode ≠ 0xF ∨ o.phase = .ended then .next s
    else
      let s : State := if o.phase = .waiting then s.examine else s
      let s : State := match s.op? a with
        | some p => if p.phase = .scheduled then s.dispatch p else s
        | none => s
      .next (match s.op? a with
        | some p => if p.phase = .running ∧ (s.barrierWaits p).isEmpty then s.endOp a 0 0 p.waited else s
        | none => s)

end Sys2Proof.Machine
end

