-- ==== Sys2Proof/Machine/Wq.lean ====
section
/-! DEFINITION. Queues (R65 to R103): doorbells, acceptance, completion records and the host's queue commands. -/

namespace Sys2Proof.Machine

/-- A wake event ends SLEEP (R538). -/
def State.wakeUp (s : State) : State :=
  if s.deviceState = 2 then (s.setFld AON_PWR_STATUS 2 0 3).event AON_EVENTS 0 else s

/-! Doorbells (R75, R50). -/

/-- WKE_STATUS.ACCEPTING: a set is active, PF_STOP is 0 and no reset is in progress (R528). -/
def State.accepting (s : State) : Bool := s.cfg.active.isSome && !s.bitAt WKE_STATUS 3 && s.aon.resetting == 0
/-- The new set that a CONFIG_SWAP in flight would bring, if the shadow set holds one (R50; log entry 34). One that failed bars
until its record is written (R43). -/
def State.newSet (s : State) : Option ImageSet :=
  if s.ops.any (fun o => o.opcode == 0xE && !(o.phase == .ended && o.status == 0)) && [2, 4, 5].contains (s.fld CFG_SHADOW_STATE 2 0)
  then s.cfg.shadow else none
/-- A CONFIG_SWAP bars the queue (R50). -/
def State.barred (s : State) (q : Nat) : Bool :=
  match s.newSet with
  | some g => (s.queueRec q).isSome && (g.queueRec q).isNone
  | none => false
/-- Code that rejects a doorbell with count `t`, or 0 (R75). -/
def State.dbCode (s : State) (q t : Nat) : Nat :=
  match s.queueRec q with
  | none => 4
  | some r =>
    let overs := fun (c : Nat) => decide (2 ^ r.sqLog2 < wrapSub t c)
    if s.barred q || !s.accepting then 4
    else if overs (s.reg (WQ_SQ_HEAD q)).toNat || overs (s.reg (WQ_SQ_TAIL q)).toNat then 3 else 0
/-- A doorbell with count `t` from a path (R75, R99, R538). -/
def State.doorbell (s : State) (path : Path) (q t : Nat) : State :=
  let s := if s.bitAt AON_CFG 8 then s.wakeUp else s
  let c := s.dbCode q t
  let s := s.setFld (WQ_STATUS q) 23 16 c
  if c ≠ 0 then (((s.wqEvent q 2).incSat (WQ_REJECTS q)).incSat WKE_REJECTS).rangeFlag path (WQ_SQ_TAIL q)
  else
    let s := s.setReg (WQ_SQ_TAIL q) (BitVec.ofNat 32 t)
    if path < 1024 then s.setReg (WQ_NOTIFY_EP q) (BitVec.ofNat 32 (path + 2 ^ 15)) else s
/-- DOORBELL: a write of WQ_SQ_TAIL. During a warm reset it is not acknowledged and has no effect (R126, R528). -/
def execDoorbell (path : Path) (q : Nat) (tail : Word) (s : State) : Out :=
  .next (if s.aon.resetting = 1 ∨ s.aon.resetting = 3 then s else s.doorbell path q tail.toNat)

/-! Acceptance (R76 to R81, R104 to R108, R134). -/

/-- ABORTED_POWER records owed to a queue (R134). -/
def State.owedTo (s : State) (q : Nat) : List Owed := (s.cont.slots.flatMap PfSlot.owed).filter (fun x => x.queue == q)
/-- Operations in flight across the device, held records included (R79, R51). -/
def State.inFlight (s : State) : Nat := s.ops.length + s.heldRecs.length
/-- The SEQ that follows one (R80). -/
def seqAfter (n : Nat) : Nat := if n = 2 ^ 48 - 1 then 1 else n + 1
/-- Acceptance on a queue pauses (R79, R108, R134, R537). -/
def State.paused (s : State) (r : QRec) : Bool :=
  let q := r.queue
  let unread := (s.queueOps q).length + wrapSub (s.reg (WQ_CQ_TAIL q)).toNat (s.reg (WQ_CQ_HEAD q)).toNat
  65536 ≤ s.inFlight || 2 ^ r.cqLog2 ≤ unread || s.bitAt (WQ_STATUS q) 2 || s.bitAt WKE_CTRL 0 || s.bitAt WKE_STATUS 5 ||
  !(s.owedTo q).isEmpty || s.heldRecs.any (fun o => o.queue == q) ||
  ((s.queueOps q).any (fun o => (s.nextSeq q + 2 ^ 48 - o.seq) % 2 ^ 48 == 262144))
/-- The work engine takes descriptors: the device is ACTIVE, acceptance is not stopped, and there is no hub fault (R113). -/
def State.takes (s : State) : Bool := s.deviceState == 1 && s.accepting && !s.bitAt MEM_CONT_STATUS 3

/-- The descriptor in the slot of a submission count (R68). -/
def State.slotDesc (s : State) (r : QRec) (n : Nat) : Desc :=
  BitVec.ofNat 512 (s.le (r.sqBase + 64 * (n % 2 ^ r.sqLog2)) 64)
/-- SOURCE of the channel that a descriptor names is STREAM (R357). -/
def State.streamNow (s : State) (d : Desc) : Bool := s.fld (AN_SRC_CFG (Desc.pay d 0 1 % 16)) 2 0 == 5
/-- What the journal records of a payload at acceptance (R339, R357). -/
def State.atAcceptOf (s : State) (g : ImageSet) (d : Desc) : List Nat :=
  match Desc.at d 0 1 with
  | 3 => namedPins g d
  | 7 => [if s.streamNow d then 1 else 0]
  | _ => []
/-- A descriptor is rejected: the queue halts (R81). -/
def State.haltQueue (s : State) (q code : Nat) : State :=
  let s := (s.setFld (WQ_STATUS q) 15 8 code).setBitAt (WQ_STATUS q) 1 true
  (((s.wqEvent q 1).event WKE_EVENTS 1).incSat (WQ_REJECTS q)).incSat WKE_REJECTS
/-- The operation that acceptance makes of a descriptor (R80). -/
def State.newOp (s : State) (g : ImageSet) (q : Nat) (d : Desc) : Op :=
  let o : Op := { (default : Op) with
    asn := s.reg64 WKE_ASN_LO WKE_ASN_HI, queue := q, seq := s.nextSeq q, desc := d, acceptGcc := s.now, lastGcc := s.now,
    dep0 := .pending, dep1 := .pending, atAccept := s.atAcceptOf g d }
  { o with eff := min o.prio (((g.queueRec q).map (fun r => (g.classOf r).prioMax)).getD 7)
           waited := if o.opcode = 0xF then ((s.ops ++ s.heldRecs).filter (fun p => o.pay 0 1 == 1 || p.queue == q)).length else 0 }
/-- An island that is not ON starts to wake (R532, R534). -/
def State.startWake (s : State) (i : Nat) : State :=
  if s.islandMode i = 1 ∨ s.islandMode i = 2 then
    { s.setIslandMode i 3 with aon := { s.aon with waking := s.aon.waking ++ [i] } }
  else s
/-- With AUTO_WAKE the islands that an accepted operation needs start to wake (R535). -/
def State.autoWake (s : State) (o : Op) : State :=
  if s.bitAt AON_CFG 0 then s.forEach (s.islandsOf o) State.startWake else s
/-- A descriptor is accepted (R80, R104, R535). -/
def State.accept (s : State) (g : ImageSet) (q : Nat) (d : Desc) : State :=
  let o := s.newOp g q d
  let s : State := { s with ops := s.ops ++ [o] }
  let s := (s.setReg64 (WQ_NEXT_SEQ_LO q) (WQ_NEXT_SEQ_HI q) (seqAfter o.seq)).setReg64 WKE_ASN_LO WKE_ASN_HI (o.asn + 1)
  let s := (s.setReg (WQ_SQ_HEAD q) (s.reg (WQ_SQ_HEAD q) + 1)).ltAdd 6 1
  let s := s.setReg WKE_PEAK_INFLIGHT (BitVec.ofNat 32 (max (s.reg WKE_PEAK_INFLIGHT).toNat s.inFlight))
  let s := if s.inFlight = 65536 then s.event WKE_EVENTS 2 else s
  (s.mramWrite.settleDeps).autoWake o
/-- The queue has a posted descriptor that the work engine may take (R77, R79, R81). -/
def State.posted (s : State) (r : QRec) : Bool :=
  !s.paused r && !s.bitAt (WQ_STATUS r.queue) 1 && s.reg (WQ_SQ_HEAD r.queue) != s.reg (WQ_SQ_TAIL r.queue)
/-- How far a queue stands behind the one served last, in the round of R77. -/
def State.turn (s : State) (q : Nat) : Nat := (q + 4095 - s.served % 4096) % 4096
/-- It is the queue's turn: no other queue with a posted descriptor stands nearer behind the one served last (R77). -/
def State.itsTurn (s : State) (g : ImageSet) (q : Nat) : Bool :=
  !g.queues.any (fun r => s.posted r && decide (s.turn r.queue < s.turn q))
/-- DESCRIPTOR_ACCEPTANCE: the next posted descriptor of a queue whose turn it is is accepted or rejected (R77, R78, R80,
R81). -/
def execDescriptorAcceptance (q : Nat) (s : State) : Out :=
  match s.cfg.active, s.queueRec q with
  | some g, some r =>
    let n := (s.reg (WQ_SQ_HEAD q)).toNat
    if !s.takes || !s.posted r || !s.itsTurn g q then .next s
    else
      let s : State := { s with served := q }
      let d := s.slotDesc r n
      let c := acceptCheck g r (s.nextSeq q) (s.streamNow d) d
      .next (if c = 0 then s.accept g q d else s.haltQueue q c)
  | _, _ => .next s

/-! Completion records (R91 to R98, R51). -/

/-- The record of a held operation goes into the ring of its queue, which a swap has opened (R51). -/
def State.writeHeld (s : State) (o : Op) (r : QRec) : State :=
  s.writeRecord o r |> fun t => { t with heldRecs := t.heldRecs.filter (fun p => p.asn != o.asn) }
/-- A record falls due on a queue that is closed: it is held, and with NOTIFY a copy leaves now (R51). PHASE of the copy is
open, since no ring holds the record yet (log entry 34). A second copy leaves under R98 when the held record is written (log
entry 113). -/
def State.holdRecord (s : State) (o : Op) : State :=
  let s : State := { s with ops := s.ops.filter (fun p => p.asn != o.asn), heldRecs := s.heldRecs ++ [o] }
  if s.bitAt (WQ_IRQ_EN o.queue) 8 ∧ s.bitAt (WQ_NOTIFY_EP o.queue) 15 then
    let p := s.fresh 1
    let bs := recordBytes o.queue o.seq p.1 o.status o.opcode o.recordFlags o.reason o.tag o.gcc o.detail
    p.2.send (s.fld (WQ_NOTIFY_EP o.queue) 9 0) 2 0x20 0 0 0 o.queue bs clean
  else s
/-- An operation whose journal entries are lost leaves flight without a record (R111). -/
def State.forget (s : State) (o : Op) : State :=
  let s := s.releaseKept o.asn
  State.settleDeps { s with ops := s.ops.filter (fun p => p.asn != o.asn) }
/-- The record of an ended operation is written, or held for a closed queue (R51, R92). -/
def State.deliver (s : State) (o : Op) : State :=
  if o.lost then s.forget o
  else match s.queueRec o.queue with
  | some r => if s.cqRoom r then s.writeRecord o r else s
  | none => s.holdRecord o
/-- An operation ended before this one, and its record is still to be written (R93). -/
def State.endedBefore (s : State) (o : Op) : Bool := s.ops.any (fun p => p.phase == .ended && decide (p.endNo < o.endNo))
/-- COMPLETION_RECORD_WRITE (R92), in the order of the ends (R93). -/
def execCompletionRecordWrite (a : Asn) (s : State) : Out :=
  .next (if !s.recordsFlow then s
    else match s.op? a with
      | some o => if o.phase = .ended ∧ s.endedBefore o = false then s.deliver o else s
      | none => match s.heldRecs.find? (fun o => o.asn == a) with
        | some o => match s.queueRec o.queue with
          | some r => if s.cqRoom r then s.writeHeld o r else s
          | none => s
        | none => s)
/-- CQ_HEAD_WRITE: records are retired (R97, R69). -/
def execCqHeadWrite (path : Path) (q : Nat) (h : Word) (s : State) : Out :=
  let head := (s.reg (WQ_CQ_HEAD q)).toNat
  let tail := (s.reg (WQ_CQ_TAIL q)).toNat
  .next (if !s.openQ q then s
    else if wrapSub tail head < wrapSub h.toNat head then s.rangeFlag path (WQ_CQ_HEAD q)
    else
      let s := s.setReg (WQ_CQ_HEAD q) h
      { s with kept := s.kept.filter (fun k => k.queue != q || decide (wrapSub k.count h.toNat < wrapSub tail h.toNat)) })

/-! Queue commands (R100, R101). A closed queue ignores them (R69). -/

/-- A command's result (R100). -/
def State.wqResult (s : State) (q n : Nat) : State := s.setFld (WQ_STATUS q) 7 4 n
/-- HALTED and REJECT_CODE clear. -/
def State.unhalt (s : State) (q : Nat) : State := (s.setBitAt (WQ_STATUS q) 1 false).setFld (WQ_STATUS q) 15 8 0
/-- RESUME. -/
def execResume (q : Nat) (s : State) : Out :=
  .next (if s.openQ q then ((s.unhalt q).setBitAt (WQ_STATUS q) 2 false).wqResult q 0 else s)
/-- SKIP. -/
def execSkip (q : Nat) (s : State) : Out :=
  .next (if !s.openQ q then s
    else if !s.bitAt (WQ_STATUS q) 1 then s.wqResult q 2
    else ((s.unhalt q).setReg (WQ_SQ_HEAD q) (s.reg (WQ_SQ_HEAD q) + 1)).wqResult q 0)
/-- FLUSH. -/
def execFlush (q : Nat) (s : State) : Out :=
  .next (if s.openQ q then ((s.unhalt q).setReg (WQ_SQ_HEAD q) (s.reg (WQ_SQ_TAIL q))).wqResult q 0 else s)
/-- PAUSE. -/
def execPause (q : Nat) (s : State) : Out :=
  .next (if s.openQ q then (s.setBitAt (WQ_STATUS q) 2 true).wqResult q 0 else s)
/-- The CONFIG_SWAP whose shadow set is ARMED (R101). -/
def State.armedSwap (s : State) (a : Asn) : Bool := (s.cfg.swap.bind Swap.asn) == some a
/-- ABORT_ALL (R101). -/
def execAbortAll (q : Nat) (s : State) : Out :=
  .next (if s.openQ q then
      (s.forEach (s.queueOps q) (fun s o => if s.armedSwap o.asn then s else s.stopOp o.asn 4)).wqResult q 0
    else s)
/-- ABORT_SEQ (R101). -/
def execAbortSeq (q : Nat) (s : State) : Out :=
  let n := s.reg64 (WQ_ARG_LO q) (WQ_ARG_HI q) % 2 ^ 48
  .next (if !s.openQ q then s
    else match (s.queueOps q).find? (fun o => o.seq == n && o.phase != .ended) with
      | none => s.wqResult q 1
      | some o => if s.armedSwap o.asn then s.wqResult q 2 else (s.stopOp o.asn 4).wqResult q 0)
/-- WKE_PAUSE_WRITE: a write of WKE_CTRL (R79). -/
def execWkePauseWrite (v : Word) (s : State) : Out := .next (s.setReg WKE_CTRL (BitVec.ofNat 32 (v.toNat % 2)))

end Sys2Proof.Machine
end

