-- ==== Sys2Proof/Machine/Cfg.lean ====
section
/-! DEFINITION. The configuration manager (R35 to R62): verification, the states of the shadow set, CONFIG_SWAP and ACTIVATE, the
swap tick, and the reload of stale islands. -/

namespace Sys2Proof.Machine

/-! States of the shadow set (R39). -/

/-- CFG_SHADOW_STATE: 0 EMPTY, 1 VERIFYING, 2 VERIFIED, 3 FAILED, 4 ARMED, 5 PREVIOUS. -/
def State.shadowState (s : State) : Nat := s.fld CFG_SHADOW_STATE 2 0
/-- The shadow set enters a state. -/
def State.setShadow (s : State) (n : Nat) : State := s.setReg CFG_SHADOW_STATE (BitVec.ofNat 32 n)
/-- RESULT of the last command: 0 OK, 1 BUSY, 2 NOT_ALLOWED, 3 LATE, 4 BAD_CMD. -/
def State.cfgResult (s : State) (n : Nat) : State := s.setFld CFG_CMD_STATUS 7 0 n
/-- The registers that describe a set: image ID, version, digest from the given addresses; all 0 without a set (R63). -/
def State.showSet (s : State) (idReg verReg digest : Nat) (g : Option ImageSet) : State :=
  let s := (s.setReg idReg (BitVec.ofNat 32 ((g.map ImageSet.imageId).getD 0))).setReg verReg
    (BitVec.ofNat 32 ((g.map ImageSet.version).getD 0))
  let d := (g.map ImageSet.digest).getD []
  s.forEach (List.range 8) (fun s i => s.setReg (digest + 4 * i) (BitVec.ofNat 32 (leNat ((d.drop (4 * i)).take 4))))
/-- The shadow set takes a value, with its registers. -/
def State.putShadow (s : State) (g : Option ImageSet) : State :=
  { s with cfg := { s.cfg with shadow := g } }.showSet CFG_SHADOW_IMAGE_ID CFG_SHADOW_VERSION (CFG_SHADOW_DIGEST 0) g
/-- The active set takes a value, with its registers. -/
def State.putActive (s : State) (g : Option ImageSet) : State :=
  { s with cfg := { s.cfg with active := g } }.showSet CFG_ACTIVE_IMAGE_ID CFG_ACTIVE_VERSION (CFG_ACTIVE_DIGEST 0) g

/-- A key command executes: its table is being written (R554, R555). -/
def State.keyBusy (s : State) : Bool := s.sec.writing.isSome
/-- VERIFY (R35, R39, R555). -/
def execVerify (s : State) : Out :=
  .next (if s.shadowState = 1 ∨ s.shadowState = 4 then s.cfgResult 2
    else if s.keyBusy then s.cfgResult 1
    else
      let s := (((s.putShadow none).setShadow 1).cfgResult 0).setBitAt CFG_CMD_STATUS 8 true
      { s with sec := { s.sec with verifyKeys := s.sec.keys } })
/-- Verification ends: its error, the state that follows, and VERIFY_DONE (R36, R64, R613). -/
def State.endVerify (s : State) (e : Nat × Nat × Nat) (state : Nat) : State :=
  let s := s.setReg CFG_VERIFY_ERROR (BitVec.ofNat 32 (e.1 + 256 * (e.2.1 % 256) + 65536 * (e.2.2 % 65536)))
  ((s.setShadow state).setBitAt CFG_CMD_STATUS 8 false).event CFG_STATUS 0
/-- Stepping as GLB_ID.STEP gives it (R1). -/
def stepping : Nat := if Config.steppingB0 then 1 else 0
/-- VERIFICATION_COMPLETE (R36). -/
def execVerificationComplete (s : State) : Out :=
  .next (if s.shadowState ≠ 1 then s
    else match verdict s.img stepping s.sec.verifyKeys s.sec.cfgFloor s.cfg.active with
      | .error e => s.endVerify e 3
      | .ok g => (s.putShadow (some g)).endVerify (0, 0, 0) 2)
/-- DISCARD (R39). -/
def execDiscard (s : State) : Out :=
  .next (if s.shadowState = 1 ∨ s.shadowState = 4 then s.cfgResult 2 else ((s.putShadow none).setShadow 0).cfgResult 0)
/-- ABORT_VERIFY (R39). -/
def execAbortVerify (s : State) : Out :=
  .next (if s.shadowState = 1 then (s.endVerify (0xE, 0, 0) 3).cfgResult 0 else s.cfgResult 2)

/-! The beginning of a swap (R43 to R47, R54, R557). -/

/-- The floors that a set's SECURITY_POLICY asks for are committed with the generation (R557). -/
def State.raiseFloors (s : State) (g : ImageSet) : State :=
  let up := decide (s.sec.cfgFloor < g.policy.floorMin) || decide (s.sec.csFloor < g.policy.csFloorMin)
  let s : State := { s with sec := { s.sec with cfgFloor := max s.sec.cfgFloor g.policy.floorMin,
                                                csFloor := max s.sec.csFloor g.policy.csFloorMin } }
  if up then s.mramWrite.event SEC_EVENTS 2 else s
/-- The shadow set becomes ARMED for a swap tick; the new generation is drawn and committed (R45, R47, R58). -/
def State.armSwap (s : State) (g : ImageSet) (tick : Nat) (asn : Option Nat) : State :=
  let gen := s.cfg.genCounter + 1
  let s : State := { s with cfg := { s.cfg with before := s.shadowState, genCounter := gen, swap := some ⟨tick, asn, gen⟩ } }
  (s.mramWrite.raiseFloors g).setShadow 4
/-- ACTIVATE (R54). -/
def execActivate (s : State) : Out :=
  let t := s.reg64 CFG_SWAP_GCC_LO CFG_SWAP_GCC_HI
  .next (match s.cfg.shadow with
    | some g =>
      if s.activeGen ≠ 0 ∨ s.shadowState ≠ 2 then s.cfgResult 2
      else if t ≠ 0 ∧ t < s.now + 3200 then s.cfgResult 3
      else ((s.armSwap g (if t = 0 then s.now + 3200 else t) none).cfgResult 0).mntAsk 1 0
    | none => s.cfgResult 2)

/-- Fields of a CONFIG_SWAP (R40). -/
def swapTarget (o : Op) : Nat := o.pay 0 8
def swapLateOk (o : Op) : Bool := bit (o.pay 0xC 4) 0
/-- The first CONFIG_SWAP that has not drained: it waits, or it has started and is not ARMED (R43, R83). -/
def State.swapWaiting (s : State) : Option Op :=
  s.byAsn.find? (fun o => o.opcode == 0xE && o.phase != .ended && (s.cfg.swap.bind Swap.asn) != some o.asn)
/-- A CONFIG_SWAP starts, unless it has, where the conditions of R83 hold, the governor's admission among them (R82, R83,
R414). -/
def State.beginSwap (s : State) (a : Asn) : State :=
  let s := if (s.op? a).map Op.phase = some .waiting then s.examine else s
  match s.op? a with
  | some o => if o.phase = .scheduled then s.beginOp o else s
  | none => s
/-- Every operation accepted before has its record written, and its own dependencies are met (R41, R43, R87). -/
def State.drained (s : State) (o : Op) : Bool := s.dispatching && o.depsMet && !s.ops.any (fun p => p.asn < o.asn)
/-- A lane with both directions off (R373). -/
def State.laneIdle (s : State) (l : Nat) : Bool := s.reg (LN_STATUS (l / 16) (l % 16)) &&& 0x18 == 0
/-- A channel in the reset pin state: in a case of R183, or in mode DISCONNECTED with its mode change complete (R45, R182). -/
def State.chanIdle (s : State) (c : Nat) : Bool :=
  s.inPinReset c || (s.liveMode c == 0 && !(match (s.chan c).switching with
    | some g => decide (s.now < g)
    | none => false))
/-- Some unit whose site assignment differs between the sets is not idle (R45, R349; log entry 42). -/
def State.unitBusy (s : State) (g old : ImageSet) : Bool :=
  (List.range 512).any (fun c => g.siteOfCh c != old.siteOfCh c && !s.chanIdle c) ||
  (List.range 16).any (fun a => g.siteOfAn a != old.siteOfAn a && (s.anState a == 3 || s.anState a == 4)) ||
  (List.range 128).any (fun l => g.siteOfLane l != old.siteOfLane l && !s.laneIdle l) ||
  (List.range 64).any (fun d => g.siteOfDps d != old.siteOfDps d && !(s.dpsState d == 0 || s.dpsState d == 5))
/-- A CONFIG_SWAP that comes too late: not drained by TARGET_GCC − 3,200 (R44). -/
def State.swapLate (s : State) (o : Op) : Bool :=
  swapTarget o != 0 && !swapLateOk o && decide (swapTarget o < s.now + 3200)
/-- Reason of the first condition of R45 that does not hold, or 0. -/
def State.swapReason (s : State) (o : Op) : Nat :=
  let st := s.shadowState
  match s.cfg.shadow, s.cfg.active with
  | some g, some old =>
    if st ≠ 2 ∧ st ≠ 5 then 1
    else if o.pay 8 4 ≠ 0 ∧ o.pay 8 4 ≠ g.imageId then 2
    else if s.swapLate o then 3
    else if (compatBad g old).isSome then 4
    else if s.unitBusy g old then 5
    else if g.version < s.sec.cfgFloor then 6
    else if bit (o.pay 0xC 4) 1 ∧ st ≠ 5 then 7
    else 0
  | _, _ => 1
/-- A CONFIG_SWAP fails (R45). -/
def State.failSwap (s : State) (o : Op) (reason gcc : Nat) : State :=
  (s.setReg CFG_SWAP_FAIL (BitVec.ofNat 32 reason)).endOpAt o.asn 9 reason gcc 0
/-- GCC at which a late CONFIG_SWAP completes (R44). -/
def lateGcc (o : Op) : Nat := max (swapTarget o - 3200) o.acceptGcc
/-- The swap tick of a CONFIG_SWAP that drains now (R43, R44). -/
def State.swapTickOf (s : State) (o : Op) : Nat := max (swapTarget o) (s.now + 3200)
/-- CONFIG_SWAP_DRAIN_POINT: the first CONFIG_SWAP has drained; it asks the interlock, and with its permission the conditions
of R45 are checked (R41, R43 to R47). -/
def execConfigSwapDrainPoint (s : State) : Out :=
  match s.swapWaiting with
  | none => .next s
  | some o =>
    if !s.drained o then .next s
    else
      let s := (s.mntAsk 1 0).modOp o.asn (fun p => { p with permitted := true })
      let s := if s.mntRuns 1 0 then s.beginSwap o.asn else s
      if !s.mntRuns 1 0 ∨ (s.running? o.asn 0xE).isNone then .next s
      else match s.swapReason o, s.cfg.shadow with
        | 0, some g => .next (s.armSwap g (s.swapTickOf o) (some o.asn))
        | r, _ => .next (s.failSwap o r (if r = 3 then lateGcc o else s.now))
/-- The drain point of a CONFIG_SWAP has come: what it waits for has ended, and no conflicting maintenance activity runs (R43). -/
def State.pastDrain (s : State) (o : Op) : Bool := s.drained o && (s.mntRuns 1 0 || !s.mntConflict 1 0)
/-- CONFIG_SWAP_LATE: a CONFIG_SWAP with LATE_OK = 0 has not drained by TARGET_GCC − 3,200 (R44). -/
def execConfigSwapLate (s : State) : Out :=
  match s.swapWaiting with
  | none => .next s
  | some o =>
    if swapTarget o = 0 ∨ swapLateOk o ∨ s.pastDrain o then .next s
    else
      let s := s.advanceTo (lateGcc o)
      .next (if s.now < lateGcc o then s
        else (s.beginSwap o.asn).failSwap o 3 (lateGcc o))

/-! Dependencies that no record can meet before the swap (R42). -/

/-- A pending AFTER field of an operation names one that was not accepted when the CONFIG_SWAP was. -/
def State.namesLater (s : State) (w o : Op) : Bool :=
  [(0, o.dep0), (1, o.dep1)].any (fun d =>
    let (q, n, _) := o.after d.1
    d.2 == .pending && !s.ops.any (fun p => p.queue == q && p.seq == n && p.asn < w.asn))
/-- DEP_UNMEETABLE (R42): every other earlier operation has completed; those whose dependency cannot be met before the swap tick
complete with PRECONDITION_FAILED and reason DEP_UNMEETABLE (log entry 41). -/
def execDepUnmeetable (s : State) : Out :=
  match s.swapWaiting with
  | none => .next s
  | some w =>
    let all := s.ops.filter (fun o => o.asn < w.asn)
    let stuck := fun (o : Op) => o.phase == .waiting && s.namesLater w o
    .next (if all.all stuck then s.forEach all (fun s o => s.endOp o.asn 9 0x81 0) else s)

/-! The swap tick (R48, R49). -/

/-- Islands that take the new generation: ON, holding the former one, and not under repair, as a cluster is whose control store
is being restored (R48, R59, R429). -/
def State.freshIslands (s : State) : List Nat :=
  (List.range 26).filter (fun i => s.islandMode i == 0 && !s.stale i && !(decide (i < 16) && (s.msq i).restoring))
/-- A cluster's timing sets take what TSET_DEFAULTS gives, the others their reset values, in both copies (R48, R173, R179). -/
def State.loadTsets (s : State) (g : ImageSet) (k : Nat) : State :=
  (s.resetWords (tsAddr k 0) 16384).forEach (g.tsets.filter (fun t => t.cluster == k)) (fun s t =>
    s.tsWrite k t.set (fun off => t.words.getD (off / 4) 0))
/-- Channels that change site enter the reset pin state; a cluster with such a channel has no known contact (R48, R183,
R216). -/
def State.swapChannels (s : State) (old : Nat → Option Nat) (g : ImageSet) : State :=
  let moved := (List.range 512).filter (fun c => old c != g.siteOfCh c)
  let s := (s.pmuLeaves moved).forEach moved (fun s c => if (s.chan c).pinReset then s else s.setChan c { s.chan c with pinReset := true })
  s.forEach (clustersOf moved) (fun s k => (s.setBitAt GLB_CONTACT_KNOWN k false).setBitAt GLB_CONTACT_LIFTED k false)
/-- Absent bits of sites whose entry differs clear (R220). -/
def State.swapAbsent (s : State) (old : Nat → Option SiteEnt) (g : ImageSet) : State :=
  s.forEach ((List.range 256).filter (fun n => s.absent n && old n != g.siteEnt n)) (fun s n =>
    s.setMaskBit (GLB_SITE_ABSENT 0) n false)
/-- A queue opens: its counts are 0, its next SEQ is 1, and no endpoint is to be notified (R69, R99). -/
def State.openQueue (s : State) (q : Nat) : State :=
  let s := [WQ_SQ_TAIL q, WQ_SQ_HEAD q, WQ_CQ_TAIL q, WQ_CQ_HEAD q, WQ_NOTIFY_EP q].foldl (fun s a => s.setReg a 0) s
  s.setReg64 (WQ_NEXT_SEQ_LO q) (WQ_NEXT_SEQ_HI q) 1
/-- Queues open and close (R48, R53, R69). -/
def State.swapQueues (s : State) (old : Nat → Option QRec) (g : ImageSet) : State :=
  let opened := (g.queues.map QRec.queue).filter (fun q => (old q).isNone)
  let s := s.forEach opened State.openQueue
  { s with kept := s.kept.filter (fun k => (old k.queue).isSome && (g.queueRec k.queue).isSome) }
/-- The jets' enables and inversions load (R262). -/
def State.swapJets (s : State) (g : ImageSet) : State :=
  let s := s.forEach (List.range 32) (fun s f => (s.resetWords (FNT_JET_EN f 0) 8).resetWords (FNT_JET_INV f 0) 8)
  s.forEach g.jets (fun s j =>
    let s := if bit j.flags 0 then s.setMaskBit (FNT_JET_EN j.fountain 0) j.jet true else s
    if bit j.flags 1 then s.setMaskBit (FNT_JET_INV j.fountain 0) j.jet true else s)
/-- Trigger lines take their new modes, flags and armed states; a re-arm in progress ends (R317). -/
def State.swapLines (s : State) (g : ImageSet) : State :=
  let l := g.triggers.lines
  let s : State := { s with trg := { s.trg with modes := l.map Prod.fst, flags := l.map Prod.snd, rearmAt := [], rearmTo := 0 } }
  s.setReg XTB_STATUS (BitVec.ofNat 32 (maskOf 16 (fun i => bit ((l.map Prod.snd).getD i 0) 1)))
/-- Basins that are the same in both sets stay; the others start cleared, and the bits of a site without one clear (R297). -/
def State.swapBasins (s : State) (old : Nat → Option Region) (g : ImageSet) : State :=
  let stays := fun n => (g.basin n).isSome && old n == g.basin n
  s.forEach ((List.range 256).filter (fun n => !stays n)) (fun s n => match g.basin n with
    | some r => s.newBasin r
    | none => (s.setMaskBit (XTB_BASIN_HWM 0) n false).setMaskBit (XTB_BASIN_STOP 0) n false)
/-- Segments that do not lie wholly inside one SEGMENTS region become EMPTY (R49). -/
def State.swapSegs (s : State) (g : ImageSet) : State :=
  s.forEach ((s.segs.map Prod.fst).filter (fun n => !g.inRegion [1] (s.segBase n) (s.seg n).size)) State.emptySeg
/-- The new ENERGY_TABLE: standing reservations are computed anew, and a changed table sets every K to 1,024 (R420, R421). -/
def State.swapEnergy (s : State) (old : Option Energy) (g : ImageSet) : State :=
  let idle := fun (r : Resv) => ((g.energy.sites.find? (fun e => e.1 == r.ix)).map (fun e => e.2.idle)).getD r.p
  let s : State := { s with gov := { s.gov with resvs := s.gov.resvs.map (fun r =>
    if r.kind == 2 && r.release.isNone then { r with p := idle r } else r) } }
  if old = some g.energy then s else s.resetWords (NRG_K_A 0) 36
/-- The new generation is in force: registers, islands, and the lock of RWL fields (R48, R56, R58, R59). What follows when the
32-bit counter is exhausted is open: the model counts on, and the register shows the count modulo 2^32 (log entry 114). -/
def State.swapGeneration (s : State) (gen : Nat) : State :=
  let l := s.freshIslands
  let s := l.foldl (fun s i => s.setGen i gen) s
  let s : State := { s with cfg := { s.cfg with locked := true, reloading := [] } }
  ((s.setReg CFG_ACTIVE_GEN (BitVec.ofNat 32 gen)).setReg64 CFG_LAST_SWAP_GCC_LO CFG_LAST_SWAP_GCC_HI s.now).event CFG_STATUS 1
/-- The sets exchange, and everything that R48 and R49 give happens. -/
def State.swapSets (s : State) (g : ImageSet) (w : Swap) : State :=
  let old := s.cfg.active
  let l := s.freshIslands
  let s := s.swapSegs g
  let s := s.swapChannels (fun c => old.bind (fun o => o.siteOfCh c)) g
  let s := s.swapAbsent (fun n => old.bind (fun o => o.siteEnt n)) g
  let s := s.swapQueues (fun q => old.bind (fun o => o.queueRec q)) g
  let s := ((s.swapJets g).swapLines g).swapEnergy (old.map ImageSet.energy) g
  let s := s.swapBasins (fun n => old.bind (fun o => o.basin n)) g
  let s := (s.swapGeneration w.gen).forEach (l.filter (fun i => decide (i < 16))) (fun s k => s.loadTsets g k)
  let s := (s.putActive (some g)).putShadow (if w.asn.isSome then old else none)
  let s : State := { s with cfg := { s.cfg with swap := none } }
  let s := s.setShadow (if w.asn.isSome then 5 else 0)
  if (s.cont.slots.flatMap PfSlot.owed).any (fun x => (g.queueRec x.queue).isNone) then s.event MEM_EVENTS 4 else s
/-- The swap whose tick has come takes place. An ACTIVATE that the interlock holds back swaps when it is permitted (R48; log
entry 40). -/
def State.swapDue (s : State) : State :=
  match s.cfg.swap, s.cfg.shadow with
  | some w, some g =>
    if s.now < w.tick ∨ !s.mntRuns 1 0 then s
    else
      let s := s.swapSets g w
      match w.asn with
      | some a => s.endOp a 0 0 0
      | none => s.mntEnd 1 0
  | _, _ => s
/-- SWAP_TICK (R48). A reset that has begun cancels it (R52). -/
def execSwapTick (s : State) : Out :=
  .next (match s.cfg.swap with
    | some w => if s.aon.resetting ≠ 0 then s else (s.advanceTo w.tick).swapDue
    | none => s)

/-! Stale islands (R59 to R61, R529, R534). -/

/-- Both halves of every analog channel: class 3 stands for the source half, class 8 for the digitizer half (R363). -/
def analogUnits : List (Nat × Nat) := (List.range 16).map (fun a => (3, a)) ++ (List.range 16).map (fun a => (8, a))
/-- The units of R140 that an island holds. -/
def islandUnits (i : Nat) : List (Nat × Nat) :=
  if i < 16 then [(6, i)] else if i = 16 then analogUnits
  else if i < 25 then [(4, i - 17)] else (List.range 64).map (fun d => (5, d))
/-- Calibrated units that an island holds (R462). -/
def islandCals (i : Nat) : List Nat := if i ≤ 16 then [i] else if i = 25 then [17] else []
/-- The island still holds what it held of the active set: no swap since it left ON, and its retention kept (R534). -/
def State.keptPart (s : State) (i : Nat) : Bool :=
  Map.get natDefault s.cfg.leftGen i == s.activeGen && !s.cfg.lostRetention.contains i
/-- Step 1 of R60: the island's part of the active set (R173, R459, R475, R534). -/
def State.reloadPart (s : State) (i : Nat) : State :=
  if s.keptPart i then s
  else
    let lost := s.cfg.lostRetention.contains i
    let s := match s.cfg.active with
      | some g => if i < 16 then s.loadTsets g i else s
      | none => s
    if lost then (s.forEach (islandCals i) State.calLoad |> fun s => if i < 16 then (s.restoreVendor i).restoreStore i else s) else s
/-- STALE_RELOAD: a stale island that is ON begins its reload with step 1 (R60). -/
def execStaleReload (island : Nat) (s : State) : Out :=
  if 26 ≤ island || !s.stale island || s.islandMode island != 0 || s.cfg.reloading.contains island ||
      s.aon.resetting != 0 || (islandUnits island).all s.cont.faulted.contains then .next s
  else
    let s := s.reloadPart island
    .next { s with cfg := { s.cfg with reloading := s.cfg.reloading ++ [island] } }
/-- An island's reload is over. -/
def State.endReload (s : State) (i : Nat) : State :=
  { s with cfg := { s.cfg with reloading := s.cfg.reloading.filter (fun x => x != i),
                               lostRetention := s.cfg.lostRetention.filter (fun x => x != i),
                               leftGen := Map.set natDefault s.cfg.leftGen i 0 } }
/-- STALE_RELOAD_END: `upsets` gives bits of the control store that have flipped, and `ok` whether the rest of the reload has
succeeded. Where the control store passes its check too, the island has its calibration queued and takes the active generation;
otherwise it is faulted (R60, R61, R349). Every synchronizing reset that a reload brings happens now (R334). -/
def execStaleReloadEnd (island : Nat) (ok : Bool) (upsets : List (Nat × BitVec 128)) (s : State) : Out :=
  if !s.cfg.reloading.contains island then .next s
  else
    let s := s.endReload island
    let p := if island < 16 then (s.upsetStore island upsets).checkStore island else (s, true)
    let s := p.1
    .next (if ok && p.2 then
      let s := s.forEach ((islandCals island).filter s.calMoved) State.becomeDue
      let s := if island < 16 then s.syncReset island else s
      let s := (s.setGen island s.activeGen).event CFG_STATUS 2
      if island = 16 then s.forEach ((List.range 16).filter (fun a => s.anState a == 0)) State.parkAn else s
    else
      (s.event CFG_STATUS 3).forEach (islandUnits island) (fun s u => s.faultUnit u.1 u.2))

end Sys2Proof.Machine
end

