-- ==== Sys2Proof/Machine/Board.lean ====
section
/-! DEFINITION. What the board sees beside the ports: supply monitors (R594), the 1.8 V output balls (R588, R601, R604) and the
test access port (R605, R606). -/

namespace Sys2Proof.Machine

/-! Supplies. -/

/-- The units that a supply feeds, by R140 class and index (R594). -/
def supplyUnits (n : Nat) : List (Nat × Nat) :=
  match n with
  | 1 | 2 => (List.range 16).map (fun k => (6, k))
  | 3 => (List.range 8).map (fun g => (4, g))
  | 4 => analogUnits
  | _ => []
/-- The supply monitors act: RESET_N is high, outside the power-fail sequence and what follows it (R130, R594). -/
def State.monitors (s : State) : Bool :=
  s.aon.vaon && s.aon.vddCore && s.aon.resetN && s.deviceState != 4 && s.deviceState != 5
/-- SUPPLY_OUT: supply 1 to 6 has been out of its range for 2 µs; `mv` is the furthest value measured (R594). -/
def execSupplyOut (supply : Nat) (mv : Int) (s : State) : Out :=
  .next (if !s.monitors || supply == 0 || decide (6 < supply) then s
    else
      let s := s.logEvent 0x0701 supply (unsigned 32 mv)
      s.forEach (supplyUnits supply) (fun s u => s.faultUnit u.1 u.2))

/-! Output balls; `none` is high impedance. -/

/-- The service, GPIO and SEGTRIG balls are at high impedance: unpowered, in AON_ONLY, or in a reset (R566, R601, R604). -/
def State.ballsOff (s : State) : Bool := !s.aon.vaon || !s.aon.vddCore || s.aon.resetting != 0
/-- SEGTRIG ball of a sequencer (R254, R601). -/
def State.segtrigOut (s : State) (q : Nat) : Option Bool :=
  if s.ballsOff || !s.bitAt (SEG_Q_TRIG_CFG q) 8 then none else some (s.segtrigBall q)
/-- GPIO ball: the device interrupt under POL, or the level that an output drives (R576, R588). -/
def State.gpioLevel (s : State) (n : Nat) : Option Bool :=
  if s.ballsOff then none
  else if s.irqPin = some n then some (s.deviceIrq != s.bitAt GLB_IRQ_CFG 5)
  else if s.gpioOut n then some (s.svc.driven.testBit n) else none
/-- SVC_DO: the word of the frame last shifted out. In the slave role it is at high impedance while SVC_SEL_IN_N is high
(R564, R566). -/
def State.svcDo (s : State) : Option Word :=
  if s.ballsOff || (!s.bitAt SVC_STATUS 1 && !s.svc.selLow) then none
  else some (if s.bitAt SVC_STATUS 1 then BitVec.ofNat 32 (s.svc.lastFrame.getD 0) else s.svc.sent)

/-! Test access port. -/

/-- The port operates (R605). -/
def State.tapOn (s : State) : Bool := s.aon.vaon && s.aon.vddCore
/-- An instruction that acts on balls has its effect: RESET_N is low (R606). -/
def State.tapActs (s : State) : Bool := s.tapOn && !s.aon.resetN
/-- The instruction in force: one that needs RESET_N low acts as BYPASS while it is high (R606). -/
def State.tapInstr (s : State) : Nat := if [0, 3, 4, 5, 6].contains s.jtag.ir && !s.tapActs then 0xFF else s.jtag.ir
/-- The covered balls drive the boundary register's cells. -/
def State.tapDrives (s : State) : Bool := [0, 3, 5, 6].contains s.tapInstr
/-- The covered balls are at high impedance. -/
def State.tapHighZ (s : State) : Bool := s.tapInstr == 4
/-- IDCODE (R605). -/
def idcodeWord : Nat := 0x00512A73 + stepping * 2 ^ 28
/-- The instruction register takes a code, and the data register it selects captures: the identification word, or 0 in the bypass
register. -/
def State.loadInstr (s : State) (code : Nat) : State :=
  if !s.tapOn then s
  else
    let s : State := { s with jtag := { s.jtag with ir := code } }
    match s.tapInstr with
    | 2 => { s with jtag := { s.jtag with captured := idcodeWord } }
    | 0 | 1 | 5 | 6 => { s with jtag := { s.jtag with captured := Config.ballLevels s.free }, free := s.free + 1 }
    | _ => { s with jtag := { s.jtag with captured := 0 } }
/-- An instruction that selects the boundary register; `cells` is shifted into it, unless the instruction acts as BYPASS. -/
def State.boundary (s : State) (code cells : Nat) : State :=
  let s := s.loadInstr code
  if s.tapOn && s.tapInstr == code then { s with jtag := { s.jtag with cells := cells } } else s
/-- TEST_LOGIC_RESET: IDCODE is the instruction after it (R605). -/
def execTestLogicReset (s : State) : Out := .next (s.loadInstr 2)
/-- EXTEST (R606). -/
def execExtest (cells : Nat) (s : State) : Out := .next (s.boundary 0 cells)
/-- SAMPLE/PRELOAD: in every state of RESET_N (R605). -/
def execSamplePreload (cells : Nat) (s : State) : Out := .next (s.boundary 1 cells)
/-- IDCODE. -/
def execIdcode (s : State) : Out := .next (s.loadInstr 2)
/-- CLAMP: the balls drive the cells with the bypass register selected (R606). -/
def execClamp (s : State) : Out := .next (s.loadInstr 3)
/-- HIGHZ (R606). -/
def execHighz (s : State) : Out := .next (s.loadInstr 4)
/-- EXTEST_PULSE (R606). -/
def execExtestPulse (s : State) : Out := .next (s.loadInstr 5)
/-- EXTEST_TRAIN (R606). -/
def execExtestTrain (s : State) : Out := .next (s.loadInstr 6)
/-- BYPASS: its own code, and every code that R605 does not list. -/
def execBypass (s : State) : Out := .next (s.loadInstr 0xFF)

end Sys2Proof.Machine
end

