-- ==== Sys2Proof/Machine/Cont.lean ====
section
/-! DEFINITION. Fault continuity (R113 to R122, R139): the lockstep dispatch engines, the parity groups of the Cistern, the MRAM
banks and the control copies of a cluster. -/

namespace Sys2Proof.Machine

/-! Dispatch engines (R113 to R115). -/

/-- A fenced engine: its bit of MEM_CONT_STATUS and SIMPLEX set, and DE_FENCED is logged with the self-check result word. -/
def State.fenceEngine (s : State) (e : Nat) (resultWord : Word) : State :=
  (((s.setBitAt MEM_CONT_STATUS e true).setBitAt MEM_CONT_STATUS 2 true).event MEM_EVENTS 2).logEvent 0x0301 e resultWord.toNat
/-- A hub fault: acceptance stops and nothing further is dispatched until a warm reset (R113). -/
def State.hubFault (s : State) : State :=
  let s := ((s.setBitAt MEM_CONT_STATUS 3 true).event MEM_EVENTS 3).logEvent 0x0303 0 s.inFlight
  { s with cont := { s.cont with hubFaultAt := if s.bitAt AON_CFG 1 then some s.now else none } }
/-- Both engines passed: they reload their state from the journal; the third time within 1 s, DE-B is fenced as well. -/
def State.resync (s : State) (resultWord : Word) : State :=
  let l := s.cont.resyncs.filter (fun g => decide (s.now < g + 800000000)) ++ [s.now]
  let s : State := { s with cont := { s.cont with resyncs := l } }
  let s := (s.incSat MEM_DE_RESYNC).logEvent 0x0302 0 l.length
  if 3 ≤ l.length then s.fenceEngine 1 resultWord else s
/-- The hub is out of reset and both engines may still dispatch. -/
def State.lockstep (s : State) : Bool := !s.bitAt MEM_CONT_STATUS 2 && !s.bitAt MEM_CONT_STATUS 3

/-- DE_MISMATCH (R113): dispatch pauses while the self-checks run; running operations are not disturbed. -/
def execDeMismatch (s : State) : Out :=
  .next (if s.lockstep then { s with cont := { s.cont with mismatch := true } } else s)
/-- DE_SELF_CHECK_DONE (R113, R115). While one engine dispatches alone, a fault of that engine is a hub fault. -/
def execDeSelfCheckDone (aOk bOk : Bool) (resultWord : Word) (s : State) : Out :=
  let t : State := { s with cont := { s.cont with mismatch := false } }
  .next (if s.bitAt MEM_CONT_STATUS 3 then s
    else if s.bitAt MEM_CONT_STATUS 2 then
      (if (!s.bitAt MEM_CONT_STATUS 0 && !aOk) || (!s.bitAt MEM_CONT_STATUS 1 && !bOk) then t.hubFault else s)
    else if !s.cont.mismatch then s
    else match aOk, bOk with
      | true, false => t.fenceEngine 1 resultWord
      | false, true => t.fenceEngine 0 resultWord
      | true, true => t.resync resultWord
      | false, false => t.hubFault)

/-! Parity groups (R116 to R119). -/

/-- Faulted pseudo-channels of a parity group (R116). -/
def State.pcFaults (s : State) (g : Nat) : Nat := ((List.range 8).filter (fun i => s.bitAt MEM_PC_FAULT (8 * g + i))).length
/-- The segment holds a byte of the parity group. -/
def State.segInGroup (s : State) (n g : Nat) : Bool :=
  s.segState n != 0 && (List.range (s.seg n).size).any (fun i => (Config.parityGroup (s.segBase n + i)).toNat == g)
/-- A segment loses its contents: it becomes EMPTY, and a load that fills it completes with SEGMENT_LOST (R119; log
entry 45). -/
def State.loseSeg (s : State) (n : Nat) : State :=
  match (s.seg n).loader with
  | some a => (s.emptySeg n).endOp a 0xD 0 0
  | none => s.emptySeg n
/-- Beyond the exposure of R120 the operations in flight get no completion record: their work goes on, and they then leave
flight (R111; log entry 115). -/
def State.loseRecords (s : State) : State :=
  { s with ops := s.ops.map (fun (o : Op) => { o with lost := true }), heldRecs := [] }
/-- The journal copy that the group holds is lost; the other continues, unless it was lost before (R111, R119). -/
def State.loseJournal (s : State) (copy : Nat) : State :=
  let single := s.bitAt MEM_STATUS 2
  let s := (s.setBitAt MEM_STATUS 2 true).logEvent 0x0307 copy s.inFlight
  if single then s.loseRecords else s
/-- A parity group is lost with its second faulted pseudo-channel (R119). -/
def State.loseGroup (s : State) (g pc : Nat) : State :=
  let s := ((s.setBitAt MEM_GROUP_LOST g true).setBitAt MEM_STATUS 3 true).logEvent 0x0306 g pc
  let s := s.forEach ((s.segs.map Prod.fst).filter (fun n => s.segInGroup n g)) State.loseSeg
  s.forEach ([0, 1].filter (fun c => Config.journalGroupOf c == g)) State.loseJournal
/-- The Cistern controller corrects and rebuilds data of a pseudo-channel: both are counted (R117). -/
def State.countEcc (s : State) (pc corrected rebuilt : Nat) : State :=
  let s := (s.addSat MEM_ECC_CORR corrected).addSat MEM_ECC_RECON rebuilt
  let l := s.cont.rebuilt.filter (fun x => decide (s.now < x.2.1 + 800000)) ++ (if rebuilt = 0 then [] else [(pc, s.now, rebuilt)])
  { s with cont := { s.cont with rebuilt := l } }
/-- Bursts of a pseudo-channel rebuilt within the last 1 ms (R117). -/
def State.rebuiltOf (s : State) (pc : Nat) : Nat := ((s.cont.rebuilt.filter (fun x => x.1 == pc)).map (fun x => x.2.2)).sum
/-- PC_FAULT: what the controller corrected with the stack's ECC and rebuilt from parity, and whether a command or training check
failed. At the first failed check, or 16 rebuilt bursts within 1 ms, the pseudo-channel is declared faulted (R117 to R119).
Pseudo-channel 32 and above do not exist. -/
def execPcFault (pc corrected rebuilt : Nat) (failed : Bool) (s : State) : Out :=
  .next (if 32 ≤ pc then s
    else
      let s := s.countEcc pc corrected rebuilt
      if s.bitAt MEM_PC_FAULT pc || !(failed || decide (16 ≤ s.rebuiltOf pc)) then s
      else
        let g := pc / 8
        let n := s.pcFaults g
        let s := (s.setBitAt MEM_PC_FAULT pc true).event MEM_EVENTS 0
        let s := if n = 0 then s.logEvent 0x0305 pc g else if n = 1 then s.loseGroup g pc else s
        s.setBitAt MEM_STATUS 1 ((List.range 4).any (fun i => s.pcFaults i == 1)))

/-! MRAM banks (R120). -/

/-- MRAM_BANK_FAULT: reads use the other copy, and each object with a copy in the bank gets a new second one; how many there
are depends on where the device placed them (R120). A second bank before those are complete is beyond the exposure (R111). -/
def execMramBankFault (bank objects : Nat) (s : State) : Out :=
  .next (if 16 ≤ bank ∨ s.bitAt MEM_MRAM_BANK_FAULT bank then s
    else
      let s := (s.setBitAt MEM_MRAM_BANK_FAULT bank true).event MEM_EVENTS 1
      let s := (s.setBitAt MEM_CONT_STATUS 4 true).logEvent 0x0308 bank objects
      let s := if s.cont.recopying.isEmpty then s else s.loseRecords
      { s with cont := { s.cont with recopying := s.cont.recopying ++ [(bank, objects)] } })
/-- MRAM_RECOPY_DONE: the new second copies are complete; each is one MRAM object write (R120, R544). -/
def execMramRecopyDone (bank : Nat) (s : State) : Out :=
  .next (match s.cont.recopying.find? (fun x => x.1 == bank) with
    | none => s
    | some x =>
      let l := s.cont.recopying.filter (fun y => y.1 != bank)
      let s : State := { s with cont := { s.cont with recopying := l } }
      (if l.isEmpty then s.setBitAt MEM_CONT_STATUS 4 false else s).ltAdd 15 x.2)

/-! Control copies of a cluster (R120 to R122). -/

/-- A cluster has lost both control copies: it is faulted, and ISLAND_CTL_LOST reports it (R122, R139; log entry 47). -/
def State.loseCluster (s : State) (k : Nat) : State :=
  if s.isFaulted 6 k then s
  else
    let p := s.markFaulted 6 k
    p.1.logEvent 0x030A k p.2
/-- ISLAND_CTL_MISMATCH: the faulty copy is fenced, or the cluster is lost with its second one. `copy` 2 says that the check
finds both copies faulty; copy 0 is then fenced and logged before the cluster is lost (log entry 117). -/
def execIslandCtlMismatch (cluster copy : Nat) (s : State) : Out :=
  let fenced := s.cont.fencedCopies.any (fun x => x.1 == cluster)
  let fence := fun (t : State) (c : Nat) =>
    let t := ((t.setBitAt MEM_ISLAND_FENCED cluster true).event MEM_EVENTS 2).logEvent 0x0309 cluster c
    { t with cont := { t.cont with fencedCopies := t.cont.fencedCopies ++ [(cluster, c)] } }
  .next (if 16 ≤ cluster ∨ s.cont.fencedCopies.contains (cluster, copy) then s
    else if fenced then s.loseCluster cluster
    else if 2 ≤ copy then (fence s 0).loseCluster cluster
    else fence s copy)

end Sys2Proof.Machine
end

