-- ==== Sys2Proof/Machine/Gates.lean ====
section
/-! DEFINITION. Register writes of the islands that have a row of their own, as endpoint 0 writes them: one to an island that is
not ON is discarded and sets RANGE (R536). -/

namespace Sys2Proof.Machine

/-- TE_COMMIT. -/
def execTeCommit (cluster : Nat) (hi : Word) (s : State) : Out := s.gated 0 (TE_COMMIT_HI cluster) (doTeCommit cluster hi)
/-- LV_COMMIT. -/
def execLvCommit (cluster : Nat) (mask : Word) (s : State) : Out := s.gated 0 (LV_COMMIT cluster) (doLvCommit cluster mask)
/-- NEXT of ACQ_RD_CMD. -/
def execAcqNext (cluster : Nat) (upsets : List (Nat × Nat)) (s : State) : Out :=
  (s.upsetRing cluster upsets).gated 0 (ACQ_RD_CMD cluster) (doAcqNext cluster)
/-- MARK of ACQ_RD_CMD. -/
def execAcqMark (cluster : Nat) (upsets : List (Nat × Nat)) (s : State) : Out :=
  (s.upsetRing cluster upsets).gated 0 (ACQ_RD_CMD cluster) (doAcqMark cluster)
/-- REWIND of ACQ_RD_CMD. -/
def execAcqRewind (cluster : Nat) (upsets : List (Nat × Nat)) (s : State) : Out :=
  (s.upsetRing cluster upsets).gated 0 (ACQ_RD_CMD cluster) (doAcqRewind cluster)
/-- OLDEST of ACQ_RD_CMD. -/
def execAcqOldest (cluster : Nat) (upsets : List (Nat × Nat)) (s : State) : Out :=
  (s.upsetRing cluster upsets).gated 0 (ACQ_RD_CMD cluster) (doAcqOldest cluster)
/-- SYNC of MEAS_CTRL. -/
def execMeasSync (cluster : Nat) (s : State) : Out := s.gated 0 (MEAS_CTRL cluster) (doMeasSync cluster)
/-- SAVE of AN_PARK_CMD. -/
def execParkSave (ch : Nat) (s : State) : Out := s.gated 0 (AN_PARK_CMD ch) (doParkSave ch)
/-- OUT_RANGE_WRITE. -/
def execOutRangeWrite (ch : Nat) (v : Word) (s : State) : Out := s.gated 0 (AN_OUT_CFG ch) (doOutRangeWrite ch v)
/-- BANK_SWAP. -/
def execBankSwap (ch : Nat) (v : Word) (s : State) : Out := s.gated 0 (AN_RS_CMD ch) (doBankSwap 0 ch v)
/-- COEFFICIENT_WRITE. -/
def execCoefficientWrite (ch : Nat) (bankB : Bool) (index : Nat) (v : Word) (s : State) : Out :=
  s.gated 0 (if bankB then AN_COEF_B ch index else AN_COEF_A ch index) (doCoefficientWrite ch bankB index v)
/-- DPS_DISABLE. -/
def execDpsDisable (d : Nat) (s : State) : Out := s.gated 0 (DPS_CTRL d) (doDpsDisable d)
/-- CLEAR_TRIP. -/
def execClearTrip (d : Nat) (s : State) : Out := s.gated 0 (DPS_CTRL d) (doClearTrip 0 d)
/-- MSQ_TRAP. -/
def execMsqTrap (m : Nat) (s : State) : Out := s.gated 0 (MSQ_CTRL m) (doMsqTrap m)

end Sys2Proof.Machine
end

