-- ==== Sys2Proof/Machine/Mesh.lean ====
section
/-! DEFINITION. Routes of the mesh and the delivery of messages (R505 to R515): route candidates, DUP entries, failover, the
message flows of R508, and the forwarding of transit traffic. -/

namespace Sys2Proof.Machine

/-! Route entries (R510, R511, R514, R520). -/

/-- Endpoints that some candidate or a former entry names. -/
def State.knownEps (s : State) : List Nat := (s.net.cands.map Cand.ep ++ s.net.chosen.map Prod.fst).eraseDups
/-- An entry of the table is settled again: a change of DIST or PRIMARY is an event and is to be advertised; a destination that
becomes reachable starts its flows anew (R508, R510, R511, R520). -/
def State.settleRoute (s : State) (e : Nat) : State :=
  let new := (s.primary e).map (fun c => (c.dist, c.port))
  let old := (s.net.chosen.find? (fun x => x.1 == e)).map Prod.snd
  if new = old then s
  else
    let others := s.net.chosen.filter (fun x => x.1 != e)
    let s : State := { s with net := { s.net with
      chosen := match new with
        | some x => others ++ [(e, x)]
        | none => others
      changed := if s.net.changed.contains e then s.net.changed else s.net.changed ++ [e] } }
    let s := s.event APL_G_EVENTS 0
    match old, new with
    | some _, none => s.logEvent 0x0604 e 0
    | none, some x =>
      let s := s.logEvent 0x0605 e x.1
      { s with net := { s.net with txSeq := s.net.txSeq.map (fun y => if y.1 / 8 = e then (y.1, y.2.1, true) else y) } }
    | _, _ => s
/-- Every entry is settled again. -/
def State.settleRoutes (s : State) : State := s.forEach s.knownEps State.settleRoute
/-- A UID is learned for an endpoint number: one that differs from another known one makes the entry DUP (R514). -/
def State.learnUid (s : State) (e uid : Nat) : State :=
  let others := (if s.chipNum = some e then [Config.deviceUid.toNat] else []) ++
    (s.net.cands.filter (fun c => c.ep == e)).map Cand.uid
  if !others.any (fun u => u != uid) then s
  else
    let was := s.net.dups.any (fun d => d.1 == e)
    let s : State := { s with net := { s.net with dups := s.net.dups.filter (fun d => d.1 != e) ++ [(e, s.now)] } }
    if was then s
    else
      let s := (s.event APL_G_EVENTS 2).logEvent 0x0603 e 0
      { s with net := { s.net with changed := if s.net.changed.contains e then s.net.changed else s.net.changed ++ [e] } }
/-- A candidate is learned or refreshed (R510). -/
def State.learn (s : State) (c : Cand) : State :=
  let s := s.learnUid c.ep c.uid
  let others := s.net.cands.filter (fun d => !(d.ep == c.ep && d.port == c.port))
  ({ s with net := { s.net with cands := others ++ [c] } }).settleRoute c.ep
/-- Every candidate through a port lapses (R510). -/
def State.lapsePort (s : State) (p : Nat) : State :=
  ({ s with net := { s.net with cands := s.net.cands.filter (fun c => c.port != p) } }).settleRoutes

/-! Flits and messages (R496, R504). -/

/-- Fields of a flit (R496). -/
def flitVc (f : Flit) : Nat := flitAt f 0 1 / 4 % 8
def flitFirst (f : Flit) : Bool := bit (flitAt f 1 1) 4
def flitLast (f : Flit) : Bool := bit (flitAt f 1 1) 5
def flitDest (f : Flit) : Nat := flitAt f 2 2
def flitSrc (f : Flit) : Nat := flitAt f 4 2
def flitHops (f : Flit) : Nat := flitAt f 6 1
def flitLen (f : Flit) : Nat := flitAt f 7 1
def flitAbort (f : Flit) : Bool := bit (flitAt f 0 1) 5
/-- OP in the first flit of a message. -/
def flitOp (f : Flit) : Nat := flitAt f 0xC 1
/-- A DATA flit keeps to the tables of R496 and R513. -/
def flitLegal (f : Flit) : Bool :=
  let k := flitAt f 0 1; let fl := flitAt f 1 1; let d := flitDest f; let sr := flitSrc f; let vc := flitVc f
  k % 4 == 1 && k / 64 == 0 && decide (vc ≤ 4) && within 1 112 (flitLen f) && decide (flitHops f ≤ 63) &&
  (decide (d < 1024) || (d == epNeighbour && vc == 0) || (d == epBroadcast && vc == 4)) &&
  (decide (sr < 1024) || sr == 0xFFFF) && decide (flitAt f 8 2 < 4096) && bit (flitAt f 0xA 2 / 4096) 3 == bit (flitAt f 0xA 2) 15 &&
  flitAt f 0xA 2 / 4096 % 8 == 0 && (bit fl 7 || fl % 16 == 0) && (!bit fl 7 || vc == 0)
/-- An IDLE or CTRL flit keeps to the table of R496: the fields that it does not use are 0. -/
def idleCtlLegal (f : Flit) : Bool :=
  let k := flitAt f 0 1
  (k == 2 || (k == 0 && flitAt f 0xC 112 == 0)) && flitAt f 1 9 == 0 &&
  flitAt f 0xA 2 / 4096 % 8 == 0
/-- A flit that is no DATA flit and violates the table of R496. -/
def flitAlien (f : Flit) : Bool := flitCrcOk f && flitAt f 0 1 % 4 != 1 && !idleCtlLegal f
/-- A control flit of a type, received whole (R496, R497). -/
def ctlFlit (ctype : Nat) (f : Flit) : Bool := flitCrcOk f && flitAt f 0 1 == 2 && idleCtlLegal f && flitAt f 0xC 1 == ctype
/-- A flit with a new destination, hop count and relay flags, sealed anew (R512, R513). -/
def rewriteFlit (f : Flit) (dest hops : Nat) (clearRelay : Bool) : Flit :=
  let bs := leBytes 124 f.toNat
  let fl := flitAt f 1 1
  sealFlit (bs.take 1 ++ leBytes 1 (if clearRelay then fl / 16 % 8 * 16 else fl) ++ leBytes 2 dest ++ (bs.drop 4).take 2 ++
    leBytes 1 hops ++ bs.drop 7)
/-- Payload bytes of a flit. -/
def flitPayload (f : Flit) : List Byte := ((leBytes 124 f.toNat).drop 12).take (flitLen f)
/-- The message that a run of flits holds, as it came in on a port (R504). -/
def msgOf (p : Nat) (fs : List Flit) : Msg :=
  let bs := fs.flatMap flitPayload
  let f := fs.headD 0
  let at_ := fun (o n : Nat) => leNat ((bs.drop o).take n)
  { src := flitSrc f, dest := flitDest f, vc := flitVc f, op := at_ 0 1, status := at_ 1 1, tag := at_ 2 2, mseq := at_ 4 2,
    flowStart := bit (at_ 6 1) 0, arg := at_ 0xC 4, addr := at_ 0x10 8, body := bs.drop 24, port := p,
    poison := fs.any (fun g => bit (flitAt g 1 1) 6), relay := none,
    bad := decide (at_ 6 1 / 2 ≠ 0) || at_ 7 1 != 0 || at_ 8 4 != (bs.drop 24).length }
/-- Flits that a message takes (R504). -/
def msgLen (m : Msg) : Nat := (24 + m.body.length + 111) / 112

/-! Buffers (R501, R502). -/

/-- A CREDIT flit of a port is queued (R497, R501). -/
def State.sendCredit (s : State) (p : Nat) : State :=
  let s := s.setPort p { s.port p with sinceCredit := 0 }
  s.sendCtrl p (leBytes 2 2 ++ (s.port p).released.flatMap (leBytes 2))
/-- Flits of a VC that came in on a port are released; every eighth brings a CREDIT flit (R501). -/
def State.releaseFlits (s : State) (p vc n : Nat) : State :=
  if 16 ≤ p then s
  else
    let t := s.port p
    let s := s.setPort p { t with released := t.released.modify vc (fun x => (x + n) % 2 ^ 16), sinceCredit := t.sinceCredit + n }
    if 8 ≤ t.sinceCredit + n then s.sendCredit p else s
/-- A message of the chip's own inbox has been served: its flits are released (R502). -/
def State.consume (s : State) (m : Msg) : State :=
  if s.net.inbox.contains m then
    ({ s with net := { s.net with inbox := s.net.inbox.erase m } }).releaseFlits m.port m.vc (msgLen m)
  else s

/-! Messages without a route (R509, R512). -/

/-- A message of the chip's own was discarded: the next of its flow carries FLOW_START (R509). -/
def State.restartFlow (s : State) (dest vc : Nat) : State := s.setMseq dest vc (s.nextMseq dest vc).1 true
/-- A request that this chip discards is answered with NO_ROUTE, where its source has a route (R512); `f` is its first flit. -/
def State.answerNoRoute (s : State) (p : Nat) (f : Flit) : State :=
  let m := msgOf p [f]
  if bit m.op 7 then s
  else if flitSrc f < 1024 ∧ s.chipNum = some (flitSrc f) then s.restartFlow (flitDest f) (flitVc f)
  else if flitSrc f < 1024 ∧ (s.routePort (flitSrc f)).isSome then
    s.reply { m with dest := 0, port := p } (m.op + 128) 3 m.arg [] clean
  else s
/-- A whole message is put on its way again after its port failed: by the new PRIMARY, or it is discarded (R519). -/
def State.reroute (s : State) (p : Nat) (fs : List Flit) : State :=
  let f := fs.headD 0
  match (if flitDest f < 1024 then s.routePort (flitDest f) else none) with
  | some q => s.enqueue q (flitVc f) fs
  | none => (s.noRoute fs.length).answerNoRoute p f
/-- Runs of flits up to a LAST one: the whole messages, and what is left. -/
def splitMsgs : List Flit → List Flit → List (List Flit) × List Flit
  | acc, [] => ([], acc)
  | acc, f :: fs =>
    if flitLast f then
      let r := splitMsgs [] fs
      ((acc ++ [f]) :: r.1, r.2)
    else splitMsgs (acc ++ [f]) fs

/-! Transit (R512, R513, R519). -/

/-- A transit message has been taken whole into a queue: the messages that waited for it follow (R499). -/
def State.closeQueue (s : State) (q vc : Nat) : State :=
  let t := s.port q
  s.setPort q { t with opened := t.opened.set vc none, queue := t.queue.modify vc (· ++ t.waitq.getD vc []),
                       waitq := t.waitq.set vc [] }
/-- A flit for another endpoint leaves by a port: at once when its message may enter that queue, else with its whole message
(R499, R512). -/
def State.transit (s : State) (p q : Nat) (f : Flit) : State :=
  let vc := flitVc f
  let g := rewriteFlit f (flitDest f) (flitHops f - 1) false
  let t := s.port q
  let mine := t.opened.getD vc none == some p
  let free := (t.opened.getD vc none).isNone
  let held := (s.port p).partials.getD vc []
  let setHeld := fun (s : State) (l : List Flit) => s.setPort p { s.port p with partials := (s.port p).partials.set vc l }
  let put := fun (s : State) => s.setPort q { s.port q with queue := (s.port q).queue.modify vc (· ++ [g]) }
  if mine then
    let s := (put s).releaseFlits p vc 1
    if flitLast f then (setHeld s []).closeQueue q vc else s
  else if flitFirst f ∧ free ∧ !flitLast f then
    let s := (setHeld (put s) [f]).releaseFlits p vc 1
    s.setPort q { s.port q with opened := (s.port q).opened.set vc (some p) }
  else if flitLast f then
    let fs := (held ++ [f]).map (fun x => rewriteFlit x (flitDest x) (flitHops x - 1) false)
    ((setHeld s []).enqueue q vc fs).releaseFlits p vc fs.length
  else setHeld s (held ++ [f])
/-- A flit finds no way on: it is discarded, and its request is answered once (R512). -/
def State.dropTransit (s : State) (p : Nat) (f : Flit) : State :=
  let s := (s.noRoute 1).releaseFlits p (flitVc f) 1
  if flitFirst f then s.answerNoRoute p f else s

/-! Delivery (R508, R509, R515). -/

/-- A response reaches this chip. NO_ROUTE says that a message of one of its flows was discarded; which one the response does
not tell, so each flow of the VC starts anew (R509; log entry 49). -/
def State.takeResponse (s : State) (m : Msg) : State :=
  let s : State := if m.status = 3 then { s with net := { s.net with
      txSeq := s.net.txSeq.map (fun y => if y.1 % 8 = m.vc then (y.1, y.2.1, true) else y) } } else s
  s.releaseFlits m.port m.vc (msgLen m)
/-- A delivered message: a response is taken, a defined request waits to be served, another one is answered BAD_MSG, and a
broadcast goes on to the other chip-facing ports (R505, R515). -/
def State.accept1 (s : State) (m : Msg) (hops : Nat) : State :=
  let s := if m.dest = epBroadcast ∧ 0 < hops then
      s.forEach (s.chipPorts.filter (fun q => q != m.port)) (fun s q => s.enqueue q m.vc (msgFlits m (hops - 1) clean))
    else s
  let known := match m.vc with
    | 0 => m.op == 1 || m.op == 2
    | 1 => m.op == 0x10
    | 3 => m.op == 0x30 || m.op == 0x31
    | 4 => m.op == 0x40 || m.op == 0x41
    | _ => false
  if 128 ≤ m.op then s.takeResponse m
  else if known then { s with net := { s.net with inbox := s.net.inbox ++ [m] } }
  else
    let s := s.releaseFlits m.port m.vc (msgLen m)
    if m.dest = epBroadcast ∨ (m.vc = 2 ∧ m.op = 0x20) then s else s.reply m (m.op + 128) 2 m.arg [] clean
/-- The receiving flow of a message. -/
def State.flow? (s : State) (m : Msg) : Option Flow :=
  s.net.flows.find? (fun w => w.src == m.src && w.dest == m.dest && w.vc == m.vc)
/-- A receiving flow takes a value. -/
def State.setFlow (s : State) (w : Flow) : State :=
  { s with net := { s.net with
      flows := s.net.flows.filter (fun x => !(x.src == w.src && x.dest == w.dest && x.vc == w.vc)) ++ [w] } }
/-- Held messages that follow the last delivered one without a gap are delivered, `n` at most (R508). -/
def State.drainFlow (s : State) (w : Flow) : Nat → State
  | 0 => s.setFlow w
  | n + 1 =>
    match w.held.find? (fun x => x.1.mseq == (w.last + 1) % 2 ^ 16) with
    | none => s.setFlow w
    | some x => (s.accept1 x.1 0).drainFlow
        { w with last := x.1.mseq, held := w.held.filter (fun y => y.1.mseq != x.1.mseq) } n
/-- A whole message for this chip is delivered, held or discarded as a duplicate (R508). -/
def State.deliverMsg (s : State) (m : Msg) (hops : Nat) : State :=
  let fresh : Flow := { src := m.src, dest := m.dest, vc := m.vc, last := m.mseq, held := [] }
  match s.flow? m with
  | none => (s.accept1 m hops).setFlow fresh
  | some w =>
    if m.flowStart then (s.accept1 m hops).drainFlow { w with last := m.mseq } 256
    else
      let d := (m.mseq + 2 ^ 16 - w.last) % 2 ^ 16
      if m.dest = epBroadcast then
        (if within 1 32767 d then (s.accept1 m hops).setFlow { w with last := m.mseq }
         else (s.incSat APL_DUPS).releaseFlits m.port m.vc (msgLen m))
      else if d = 1 then (s.accept1 m hops).drainFlow { w with last := m.mseq } 256
      else if within 2 256 d ∧ !w.held.any (fun x => x.1.mseq == m.mseq) then
        s.setFlow { w with held := w.held ++ [(m, s.now)] }
      else (s.incSat APL_DUPS).releaseFlits m.port m.vc (msgLen m)

/-- A request with RELAY reaches its chip: it goes on to the neighbour at RELAY_PORT (R513). -/
def State.relayOn (s : State) (p : Nat) (fs : List Flit) : State :=
  let f := fs.headD 0
  let q := flitAt f 1 1 % 16
  let s := s.releaseFlits p 0 fs.length
  if s.portUp q ∧ !bit (flitOp f) 7 then
    s.enqueue q 0 (fs.map (fun x => rewriteFlit x epNeighbour (flitHops x - 1) true))
  else (s.noRoute fs.length).answerNoRoute p f
/-- A flit for this chip joins the message that it belongs to; with the LAST one the message is delivered, passed on under RELAY,
or discarded when it was aborted (R499, R508, R513, R519). -/
def State.collect (s : State) (p : Nat) (f : Flit) : State :=
  let vc := flitVc f
  let t := s.port p
  let fs := (if flitFirst f then [] else t.partials.getD vc []) ++ [f]
  if !flitLast f then s.setPort p { t with partials := t.partials.set vc fs }
  else
    let s := s.setPort p { t with partials := t.partials.set vc [] }
    if flitAbort f then s.releaseFlits p vc fs.length
    else if bit (flitAt f 1 1) 7 then s.relayOn p fs
    else s.deliverMsg (msgOf p fs) (flitHops f)
/-- A flit accepted on a port is consumed, forwarded or discarded (R512, R513). -/
def State.handleFlit (s : State) (p : Nat) (f : Flit) : State :=
  let d := flitDest f
  let vc := flitVc f
  if d = epNeighbour ∨ d = epBroadcast ∨ (d < 1024 ∧ s.chipNum = some d) then s.collect p f
  else if flitHops f = 0 then s.dropTransit p f
  else match s.routePort d with
    | some q => s.transit p q f
    | none =>
      let s := s.setPort p { s.port p with partials := (s.port p).partials.set vc [] }
      s.dropTransit p f

/-! Failover (R519). -/

/-- A transit message that was leaving by a failed port goes back to the port it comes in on, to leave whole by another one. -/
def State.pullBack (s : State) (p vc : Nat) (rest : List Flit) : State :=
  match (s.port p).opened.getD vc none with
  | none => s
  | some i =>
    let s := s.setPort p { s.port p with opened := (s.port p).opened.set vc none }
    s.setPort i { s.port i with partials := (s.port i).partials.set vc rest }
/-- A message that came in on a failed port and has begun to leave by another one is ended there with ABORT (R519). -/
def State.abortTransit (s : State) (p vc : Nat) : State :=
  let s := s.forEach (List.range 16) (fun s q =>
    if (s.port q).opened.getD vc none = some p then
      let f := ((s.port p).partials.getD vc []).headD 0
      let a := dataFlit vc (flitDest f) (flitSrc f) (flitHops f - 1)
        { first := false, last := true, poison := false, relay := none, abort := true } [0]
      (s.setPort q { s.port q with queue := (s.port q).queue.modify vc (· ++ [a]) }).closeQueue q vc
    else s)
  s.setPort p { s.port p with partials := (s.port p).partials.set vc [] }
/-- Everything that a port holds of a VC in the order of sending: unacknowledged messages, then what has not left. -/
def Port.pendingOf (t : Port) (vc : Nat) : List Flit :=
  t.kept.getD vc [] ++ (t.unacked.map Prod.fst).filter (fun f => flitVc f == vc) ++ t.queue.getD vc [] ++ t.waitq.getD vc []
/-- A port that left UP gives up its messages: each goes by another route, or is discarded (R519). The first port that takes one
over is answered. -/
def State.failover (s : State) (p : Nat) : State × Option Nat :=
  let t := s.port p
  let parts := (List.range 5).map (fun vc => splitMsgs [] (t.pendingOf vc))
  let s := s.setPort p { t with unacked := [], resend := [], kept := List.replicate 5 [], queue := List.replicate 5 [],
                                waitq := List.replicate 5 [] }
  let s := s.forEach (List.range 5) (fun s vc => (s.pullBack p vc ((parts.getD vc ([], [])).2)).abortTransit p vc)
  let msgs := parts.flatMap Prod.fst
  let first := msgs.findSome? (fun fs => if flitDest (fs.headD 0) < 1024 then s.routePort (flitDest (fs.headD 0)) else none)
  (s.forEach msgs (fun s fs => s.reroute p fs), first)
/-- UPLOADs whose endpoint no route reaches end with NO_ROUTE (R325). -/
def State.settleUplRoutes (s : State) : State :=
  s.forEach s.ops (fun s o => match s.uplOf o.asn with
    | some (o, w) => if s.reachable w.ep then s else s.endUpload o w 9 2
    | none => s)

/-! Commands of the mesh. -/

/-- FLOW_HOLD_TIMEOUT: messages held for 100 µs from an endpoint on a VC; missing ones count as lost (R509). -/
def State.holdTimeout (s : State) (w : Flow) : State :=
  match w.held.map Prod.snd with
  | [] => s
  | t :: ts =>
    let due := ts.foldl min t + 80000
    let s := s.advanceTo due
    if s.now < due then s
    else
      -- everything below the oldest expired message is lost
      let dist := fun (m : Msg) => (m.mseq + 2 ^ 16 - w.last) % 2 ^ 16
      let lim : Nat := (w.held.filter (fun x => decide (x.2 + 80000 ≤ s.now))).foldl (fun n x => max n (dist x.1)) 0
      let upTo := (List.range 256).filterMap (fun (i : Nat) => w.held.find? (fun x => dist x.1 == i + 1 && decide (i + 1 ≤ lim)))
      let s := (s.addSat APL_GAPS (lim - upTo.length)).event APL_G_EVENTS 4
      let s := s.forEach upTo (fun s x => s.accept1 x.1 0)
      s.drainFlow { w with last := (w.last + lim) % 2 ^ 16,
                           held := w.held.filter (fun x => decide (lim < dist x.1)) } 256
/-- FLOW_HOLD_TIMEOUT (R509). -/
def execFlowHoldTimeout (src vc : Nat) (s : State) : Out :=
  .next (s.forEach (s.net.flows.filter (fun w => w.src == src && w.vc == vc)) State.holdTimeout)
/-- DUP_CLEAR: only one UID has been seen for 4 ms (R514). -/
def execDupClear (endpoint : Nat) (s : State) : Out :=
  .next (match s.net.dups.find? (fun d => d.1 == endpoint) with
    | none => s
    | some d =>
      let due := d.2 + 3200000
      let s := s.advanceTo due
      if s.now < due then s
      else { s with net := { s.net with dups := s.net.dups.filter (fun x => x.1 != endpoint),
                                        changed := s.net.changed.filter (fun x => x != endpoint) ++ [endpoint] } })
/-- ROUTE_LAPSE: a candidate was not refreshed for 4 ms (R510). -/
def execRouteLapse (endpoint p : Nat) (s : State) : Out :=
  .next (match s.net.cands.find? (fun c => c.ep == endpoint && c.port == p) with
    | none => s
    | some c =>
      let due := c.seen + 3200000
      let s := s.advanceTo due
      if s.now < due then s
      else ({ s with net := { s.net with cands := s.net.cands.filter (fun x => x != c) } }).settleRoute endpoint)

/-- An ADVERT entry of an endpoint as it leaves by a port (R511): 13 bytes, or none for an entry that is unreachable. -/
def State.advertEntry (s : State) (p : Nat) (gone : Bool) (e : Nat) : List Byte :=
  let row := fun (dup host : Bool) (dist lat uid : Nat) =>
    leBytes 2 (e + (if dup then 2 ^ 14 else 0) + (if host then 2 ^ 15 else 0)) ++ leBytes 1 dist ++ leBytes 2 lat ++ leBytes 8 uid
  if s.chipNum = some e then row (s.isDup e) false 0 0 Config.deviceUid.toNat
  else match s.primary e with
    | some c => row (s.isDup e) c.host (if c.port = p then 63 else c.dist) c.lat c.uid
    | none => if gone then row (s.isDup e) false 63 0 0 else []
/-- Groups of at most eight. -/
def eights : Nat → List (List Byte) → List (List (List Byte))
  | 0, _ => []
  | n + 1, l => if l.isEmpty then [] else l.take 8 :: eights n (l.drop 8)
/-- ADVERT flits for a list of endpoints on a port. -/
def State.sendAdverts (s : State) (p : Nat) (gone : Bool) (es : List Nat) : State :=
  let rows := (es.map (s.advertEntry p gone)).filter (fun r => !r.isEmpty)
  s.forEach (eights 128 rows) (fun s g => s.sendCtrl p (leBytes 1 6 ++ leBytes 1 g.length ++ leBytes 2 0 ++ g.flatten))
/-- ADVERT_TIMER: changed entries leave within 10 µs; without any, the whole table leaves (R511). -/
def execAdvertTimer (s : State) : Out :=
  let ch := s.net.changed
  let all := (match s.chipNum with
    | some e => [e]
    | none => []) ++ s.knownEps
  let t := s.forEach s.chipPorts (fun s p => s.sendAdverts p (!ch.isEmpty) (if ch.isEmpty then all.eraseDups else ch))
  .next { t with net := { t.net with changed := [] } }
/-- APL_CHIP_NUM_WRITE: the chip takes its number and advertises itself (R513, R522). A value that is no number in bits [30:0]
is out of range. -/
def State.writeChipNum (s : State) (path : Path) (v : Word) : State :=
  if s.bitAt APL_CHIP_NUM 31 ∨ v.field 30 10 ≠ 0 then s.rangeFlag path APL_CHIP_NUM
  else
    let s := s.setReg APL_CHIP_NUM v
    match s.chipNum with
    | some e => { s with net := { s.net with changed := s.net.changed.filter (fun x => x != e) ++ [e] } }
    | none => s
def execAplChipNumWrite (path : Path) (v : Word) (s : State) : Out := .next (s.writeChipNum path v)
/-- APL_RT_SEL_WRITE: the selected entry in one instant (R522). -/
def execAplRtSelWrite (v : Word) (s : State) : Out :=
  let e := v.toNat % 1024
  let s := s.setReg APL_RT_SEL (BitVec.ofNat 32 e)
  let own := s.chipNum == some e
  let c := s.primary e
  let a := s.alt e
  let info := s.dist e + 256 * (if own then 0 else (c.map Cand.port).getD 0) + 2 ^ 12 * (a.map Cand.port).getD 0 +
    (if a.isSome then 2 ^ 16 else 0) + (if (c.map Cand.host).getD false then 2 ^ 17 else 0) + (if s.isDup e then 2 ^ 18 else 0)
  let s := (s.setReg APL_RT_INFO (BitVec.ofNat 32 info)).setReg APL_RT_LAT
    (BitVec.ofNat 32 (if own then 0 else min 65535 ((c.map Cand.lat).getD 0)))
  .next (s.setReg64 APL_RT_UID_LO APL_RT_UID_HI (if own then Config.deviceUid.toNat else (c.map Cand.uid).getD 0))

/-! Messages of VC4 (R310, R505, R515). -/

/-- TRIG: a delivered TRIG is a SYSTEM source event of its line, which acts under what the line holds at the fire tick (R310, R317,
R515). It came to the other chips with its delivery. -/
def execTrig (m : Msg) (s : State) : Out :=
  let s := s.consume m
  .next (if m.bad ∨ m.op ≠ 0x40 ∨ m.vc ≠ 4 ∨ 16 ≤ m.arg ∨ m.body ≠ [] then s
    else s.addFire m.arg (m.addr + s.fld GLB_TB_XLAT 15 0) true)
/-- TIME_QUERY: the GCC and the RTC sampled on one edge (R505). -/
def execTimeQuery (m : Msg) (s : State) : Out :=
  let s := s.consume m
  .next (if m.bad ∨ m.op ≠ 0x41 ∨ m.vc ≠ 4 ∨ m.arg ≠ 0 ∨ m.addr ≠ 0 ∨ m.body ≠ [] then s.reply m 0xC1 2 m.arg [] clean
    else
      let r := s.rtcNow
      r.2.reply m 0xC1 0 0 (leBytes 8 s.now ++ leBytes 8 r.1) clean)

end Sys2Proof.Machine
end

