-- ==== Sys2Proof/Machine/Links.lean ====
section
/-! DEFINITION. Link ports (R488 to R503, R516 to R520): port states, the identity exchange, link-level replay, credits, and
the timestamp exchanges. -/

namespace Sys2Proof.Machine

/-- State of a port (R491). -/
def State.portState (s : State) (p : Nat) : Nat := s.fld (APL_STATUS p) 2 0
/-- A port takes a state; the peer is known only in UP (R491). -/
def State.setPortState (s : State) (p v : Nat) : State :=
  let s := s.setReg (APL_STATUS p) (BitVec.ofNat 32 v)
  s.setPort p { s.port p with since := s.now, badRow := 0, cleanRow := 0 }
/-- A line starts anew: LSEQ, credits and the flits in flight count from 0 on both ends (log entry 50). What has not left yet
stays in its queues. -/
def State.freshLine (s : State) (p : Nat) : State :=
  let t := s.port p
  s.setPort p { portDefault p with since := t.since, queue := t.queue, waitq := t.waitq, opened := t.opened, lats := t.lats,
                                   skewed := t.skewed, line := t.line, partials := t.partials, flitsOut := t.flitsOut }

/-! Timestamp exchanges (R516, R517). -/

/-- A timestamp of this chip: 16 sub-steps to a GCC step; the fraction is an open value (R516). -/
def State.stamp (s : State) : Nat × State :=
  let p := s.fresh 4
  ((16 * s.now + p.1) % 2 ^ 64, p.2)
/-- The next TS_REQ of a round leaves (R516). -/
def State.sendTsReq (s : State) (p n : Nat) : State :=
  let t := s.stamp
  t.2.sendCtrl p (leBytes 1 4 ++ leBytes 1 n ++ leBytes 6 0 ++ leBytes 8 t.1)
/-- A round of 64 exchanges begins (R516). -/
def State.startExchanges (s : State) (p : Nat) : State :=
  let s := s.setPort p { s.port p with exchanges := 64, best := none, lats := [] }
  s.sendTsReq p 0
/-- GLB_TB_STATUS.PEER_SKEW follows the ports in UP (R517). -/
def State.refreshSkew (s : State) : State :=
  s.setBitAt GLB_TB_STATUS 4 ((List.range 16).any (fun p => s.portUp p && (s.port p).skewed))
/-- A round of exchanges is complete: APL_LAT and APL_SKEW take its results (R516, R517). -/
def State.endExchanges (s : State) (p : Nat) : State :=
  let t := s.port p
  let l := t.lats.foldl max 0
  let s := s.setReg (APL_LAT p) (BitVec.ofNat 32 (l % 2 ^ 16 + 2 ^ 16 * (ceilDiv l 16 % 2 ^ 16)))
  match t.best with
  | none => s
  | some (_, off, ok) =>
    let s := s.setReg (APL_SKEW p) (BitVec.ofNat 32 (unsigned 16 off + (if ok then 2 ^ 16 else 0)))
    let bad := ok && decide (8 ≤ off.natAbs)
    let s := s.setPort p { s.port p with skewed := bad }
    let s := if bad then s.event GLB_TB_EVENTS 7 else s
    let s := if bad ∧ !t.skewed then s.event (APL_EVENTS p) 2 else s
    s.refreshSkew

/-! Port states (R491, R492, R519, R520). -/

/-- A port in UP leaves it: its routes lapse, PORT_DOWN says why (R510, R520). -/
def State.leaveUp (s : State) (p why : Nat) : State :=
  let s := ((s.event (APL_EVENTS p) 1).setPort p { s.port p with skewed := false }).refreshSkew
  (if why = 0 then s else s.logEvent 0x0602 p why).lapsePort p
/-- IDENT begins: the exchanges start (R495, R516). -/
def State.enterIdent (s : State) (p : Nat) : State := ((s.setPortState p 3).freshLine p).startExchanges p
/-- A port that is not in UP enters OFF, DETECT or TRAIN; the activity of RETRAIN ends (R491). -/
def State.enterPort (s : State) (p v : Nat) : State :=
  ((if s.portState p = 5 then s.mntEnd 4 p else s).setPortState p v).freshLine p
/-- A port in UP enters another state: its routes switch, its messages go by other ports, and uploads that no route reaches end
(R325, R510, R519). `event` says that APL_FAILOVER reports it; without it the same is done for a port that leaves UP in
another way than R519 names (log entry 51). -/
def State.dropUp (s : State) (p v why : Nat) (event : Bool) : State :=
  let r := ((s.setPortState p v).leaveUp p why).failover p
  let s := if event then (r.1.event (APL_EVENTS p) 3).logEvent 0x0304 p (r.2.getD (2 ^ 32 - 1)) else r.1
  let s := (s.settleUplRoutes).freshLine p
  if v = 5 then s.mntAsk 4 p else s

/-- PORT_ENABLE (R491). -/
def execPortEnable (p : Nat) (s : State) : Out :=
  let s := s.setReg (APL_CTRL p) 1
  .next (if s.portState p = 0 then s.enterPort p 1 else s)
/-- PORT_DISABLE (R491). -/
def execPortDisable (p : Nat) (s : State) : Out :=
  let s := s.setReg (APL_CTRL p) 0
  .next (if s.portUp p then s.dropUp p 0 5 false else s.enterPort p 0)
/-- SIGNAL_DETECT: signal present for 1 ms (R491). -/
def execSignalDetect (p : Nat) (s : State) : Out := .next (if s.portState p = 1 then s.enterPort p 2 else s)
/-- TRAIN_DONE: 1,024 clean codewords in a row (R491). -/
def execTrainDone (p : Nat) (s : State) : Out :=
  .next (if (s.port p).cleanRow < 1024 then s
    else if s.portState p = 2 then s.enterIdent p
    else if s.portState p = 5 then (s.mntEnd 4 p).enterIdent p else s)
/-- TRAIN_TIMEOUT: 10 ms in TRAIN or RETRAIN (R491). -/
def execTrainTimeout (p : Nat) (s : State) : Out :=
  if s.portState p ≠ 2 ∧ s.portState p ≠ 5 then .next s
  else
    let due := (s.port p).since + 8000000
    let s := s.advanceTo due
    .next (if s.now < due then s else s.enterPort p 1)
/-- IDENT_TIMEOUT: 1 ms in IDENT (R491). -/
def execIdentTimeout (p : Nat) (s : State) : Out :=
  if s.portState p ≠ 3 then .next s
  else
    let due := (s.port p).since + 800000
    let s := s.advanceTo due
    .next (if s.now < due then s else s.enterPort p 1)

/-- Fields of an IDENT flit (R493). -/
def idHost (f : Flit) : Bool := flitAt f (12 + 1) 1 == 1
def idPort (f : Flit) : Nat := flitAt f (12 + 2) 1
def idTb (f : Flit) : Nat := flitAt f (12 + 3) 1
def idEp (f : Flit) : Nat := flitAt f (12 + 4) 2
def idUid (f : Flit) : Nat := flitAt f (12 + 8) 8
/-- APL_STATUS and APL_PEER_UID take the peer's values (R495). -/
def State.takePeer (s : State) (p : Nat) (f : Flit) : State :=
  let v := s.portState p + 16 * (idPort f % 16) + (if idHost f then 256 else 0) +
    (if idEp f < 1024 then 512 + 65536 * idEp f else 0) + 2 ^ 26 * (idTb f % 4)
  (s.setReg (APL_STATUS p) (BitVec.ofNat 32 v)).setReg64 (APL_PEER_UID_LO p) (APL_PEER_UID_HI p) (idUid f)
/-- The peer is learned as an endpoint: a host that faces the port has DIST 1 through it; the UID of a numbered peer counts
for its number (R510, R514). -/
def State.learnPeer (s : State) (p : Nat) (f : Flit) : State :=
  if 1024 ≤ idEp f then s
  else if idHost f then
    s.learn { ep := idEp f, port := p, dist := 1, lat := s.fld (APL_LAT p) 31 16, uid := idUid f, host := true, dup := false,
              seen := s.now }
  else s.learnUid (idEp f) (idUid f)
/-- IDENT_COMPLETE: two equal IDENT flits and 64 exchanges bring the port UP (R495, R520, R522). -/
def execIdentComplete (p : Nat) (s : State) : Out :=
  let t := s.port p
  match t.lastIdent with
  | none => .next s
  | some f =>
    if s.portState p ≠ 3 ∨ t.same < 2 ∨ t.exchanges ≠ 0 ∨ t.lats.length < 64 then .next s
    else
      let s := (s.setPortState p 4).takePeer p f
      let s := (s.event (APL_EVENTS p) 0).logEvent 0x0601 p (idEp f + (if idHost f then 2 ^ 16 else 0))
      let s := if !idHost f ∧ 1024 ≤ idEp f then s.event APL_G_EVENTS 1 else s
      .next ((s.refreshSkew).learnPeer p f)
/-- SIGNAL_LOST: for 1 µs in UP, or at once in IDENT (R491). -/
def execSignalLost (p : Nat) (s : State) : Out :=
  .next (match s.portState p with
    | 3 => s.enterPort p 1
    | 4 => s.dropUp p 1 1 false
    | _ => s)
/-- The same LSEQ was NAKed 8 times, 16 codewords in a row could not be corrected, or a flit stays unacknowledged for 20 µs
(R500): the instant from which the port has failed, if it is known. -/
def Port.failsAt (t : Port) (now : Nat) : Option Nat :=
  if 8 ≤ t.nakCount ∨ 16 ≤ t.badRow then some now else (t.unacked.head?).map (fun x => x.2 + 16000)
/-- PORT_FAILURE (R500, R519): alignment is lost, or one of the other failures has come. -/
def execPortFailure (p : Nat) (alignmentLost : Bool) (s : State) : Out :=
  if !s.portUp p then .next s
  else if alignmentLost then .next ((s.incSat (APL_FAILS p)).dropUp p 5 3 true)
  else match (s.port p).failsAt s.now with
    | none => .next s
    | some g =>
      let s := s.advanceTo g
      .next (if s.now < g then s else (s.incSat (APL_FAILS p)).dropUp p 5 2 true)
/-- RETRAIN: APL_CMD RETRAIN on a port in UP (R519). -/
def execRetrain (p : Nat) (s : State) : Out := .next (if s.portUp p then s.dropUp p 5 6 true else s)
/-- APL_MEASURE: APL_CMD MEASURE on a port in UP (R516). -/
def execAplMeasure (p : Nat) (s : State) : Out := .next (if s.portUp p then s.startExchanges p else s)
/-- TIMESTAMP_TIMER: every 100 ms in UP (R516). -/
def execTimestampTimer (p : Nat) (s : State) : Out := .next (if s.portUp p then s.startExchanges p else s)
/-- What a port has sent and not seen acknowledged goes back in front of its queues (R492). -/
def State.requeue (s : State) (p : Nat) : State :=
  let t := s.port p
  s.setPort p { t with
    queue := (List.range 5).map (fun vc => t.kept.getD vc [] ++
      (t.unacked.map Prod.fst).filter (fun f => flitVc f == vc) ++ t.queue.getD vc []),
    unacked := [], resend := [], kept := List.replicate 5 [] }
/-- RESYNC: the peer had a warm reset; its messages in progress are gone, ours are sent again after the exchange (R491, R492). -/
def execResync (p : Nat) (s : State) : Out :=
  .next (if s.portUp p then
      let s := ((s.setPortState p 3).leaveUp p 0).forEach (List.range 5) (fun s vc => s.abortTransit p vc)
      (s.requeue p).enterIdent p
    else s)

/-! Receiving (R489, R490, R496 to R498, R501). -/

/-- Flits up to a cumulative acknowledgment leave the transmitter; those of a message whose LAST flit is still to be
acknowledged are kept (R498). -/
def ackFlits (a : Nat) : Nat → Port → Port
  | 0, t => t
  | n + 1, t =>
    match t.unacked with
    | [] => t
    | (f, _) :: rest =>
      let q := flitAt f 8 2
      if 2048 ≤ (a + 4096 - q) % 4096 then t
      else
        let vc := flitVc f
        let k := if flitLast f then t.kept.set vc [] else t.kept.modify vc (· ++ [f])
        ackFlits a n { t with unacked := rest, kept := k, resend := t.resend.filter (fun g => flitAt g 8 2 != q),
                              nakCount := if t.nakAt = q then 0 else t.nakCount }
/-- The ACK field of a flit whose CRC checks (R497, R498). -/
def State.takeAck (s : State) (p : Nat) (f : Flit) : State :=
  let a := flitAt f 0xA 2
  if bit a 15 then s.setPort p (ackFlits (a % 4096) 256 (s.port p)) else s

/-- CODEWORD_RECEIVE: up to 15 symbol errors are corrected; more discard the codeword's flits (R488, R490). Every flit of a good
codeword gives its acknowledgment; DATA and CTRL flits have commands of their own (log entry 48). A flit of another type, or a
CTRL or IDLE flit outside the table of R496, is counted and discarded. -/
def execCodewordReceive (p symbolErrors : Nat) (flits : List Flit) (s : State) : Out :=
  let st := s.portState p
  .next (if st < 2 then s
    else if 15 < symbolErrors then
      let t := s.port p
      (s.incSat (APL_FEC_UNCORR p)).setPort p { t with badRow := t.badRow + 1, cleanRow := 0 }
    else
      let s := if symbolErrors = 0 then s else s.incSat (APL_FEC_CORR p)
      let t := s.port p
      let s := s.setPort p { t with badRow := 0, cleanRow := if st = 2 ∨ st = 5 then t.cleanRow + 1 else 0 }
      let s := if st < 3 ∨ st = 5 then s else s.addSat APL_DROPS (flits.filter flitAlien).length
      if st = 4 then s.forEach (flits.filter flitCrcOk) (fun s f => s.takeAck p f) else s)
/-- A gap: the receiver asks once for the flit it expects (R498). -/
def State.sendNak (s : State) (p : Nat) : State :=
  let t := s.port p
  if t.gap then s
  else (s.setPort p { t with gap := true }).sendCtrl p (leBytes 1 3 ++ leBytes 1 0 ++ leBytes 2 t.expect)
/-- DATA_FLIT (R496, R498, R508, R512). -/
def execDataFlit (p : Nat) (f : Flit) (s : State) : Out :=
  if !s.portUp p then .next s
  else if !flitCrcOk f then .next (s.sendNak p)
  else
    let s := s.takeAck p f
    let t := s.port p
    if flitAt f 8 2 % 4096 ≠ t.expect then .next (s.sendNak p)
    else
      let s := s.setPort p { t with expect := (t.expect + 1) % 4096, accepted := true, gap := false }
      .next (if flitLegal f then s.handleFlit p f else (s.incSat APL_DROPS).releaseFlits p (min 4 (flitVc f)) 1)
/-- NAK: everything before EXPECT is acknowledged, the rest is sent again (R498, R500). -/
def execNak (p expect : Nat) (s : State) : Out :=
  .next (if !s.portUp p then s
    else
      let e := expect % 4096
      let t := ackFlits ((e + 4095) % 4096) 256 (s.port p)
      let n := if t.nakAt = e then t.nakCount + 1 else 1
      s.setPort p { t with resend := t.unacked.map Prod.fst, nakAt := e, nakCount := n })
/-- CREDIT: FREED of each VC (R501). -/
def execCredit (p : Nat) (freed : List Nat) (s : State) : Out :=
  .next (if s.portUp p then s.setPort p { s.port p with freed := freed } else s)
/-- IDENT: in IDENT it counts towards the exchange; in UP it shows what the peer is now, and a changed UID fails the port
(R491, R493, R495, R514). -/
def execIdent (p : Nat) (f : Flit) (s : State) : Out :=
  let t := s.port p
  .next (if !ctlFlit 1 f then s else match s.portState p with
    | 3 =>
      let same := match t.lastIdent with
        | some g => if flitAt g 12 112 = flitAt f 12 112 then t.same + 1 else 1
        | none => 1
      s.setPort p { t with lastIdent := some f, same := same }
    | 4 =>
      if idUid f ≠ s.reg64 (APL_PEER_UID_LO p) (APL_PEER_UID_HI p) then s.dropUp p 5 4 false
      else ((s.setPort p { t with lastIdent := some f }).takePeer p f).learnPeer p f
    | _ => s)
/-- TS_REQ: answered with T2 and T3, which the port takes at reception and transmission (R516). -/
def execTsReq (p : Nat) (f : Flit) (t2 t3 : Nat) (s : State) : Out :=
  .next (if ctlFlit 4 f ∧ (s.portState p = 3 ∨ s.portState p = 4) then
      s.sendCtrl p (leBytes 1 5 ++ leBytes 1 (flitAt f 13 1) ++ leBytes 1 (s.fld GLB_TB_STATUS 1 0) ++ leBytes 5 0 ++
        leBytes 8 (flitAt f (12 + 8) 8) ++ leBytes 8 t2 ++ leBytes 8 t3)
    else s)
/-- TS_RESP: one exchange is complete: L and OFFSET (R516, R517). -/
def execTsResp (p : Nat) (f : Flit) (t4 : Nat) (s : State) : Out :=
  let t := s.port p
  let n := flitAt f 13 1
  if !ctlFlit 5 f ∨ (s.portState p ≠ 3 ∧ s.portState p ≠ 4) ∨ t.exchanges = 0 ∨ n ≠ 64 - t.exchanges then .next s
  else
    let t1 : Int := (flitAt f (12 + 8) 8 : Nat); let t2 : Int := (flitAt f (12 + 16) 8 : Nat); let t3 : Int := (flitAt f (12 + 24) 8 : Nat)
    let d := fun (a b : Int) => signed 64 (unsigned 64 (a - b))
    let trip := (d t4 t1).toNat
    let l := ((d t4 t1 - d t3 t2 + 1).fdiv 2).toNat
    let off := (d t2 t1 - d t4 t3).tdiv 2
    let ok := flitAt f (12 + 2) 1 == 3 && s.fld GLB_TB_STATUS 1 0 == 3
    let best := match t.best with
      | some b => if b.1 ≤ trip then some b else some (trip, off, ok)
      | none => some (trip, off, ok)
    let s := s.setPort p { t with exchanges := t.exchanges - 1, lats := t.lats ++ [l], best := best }
    .next (if t.exchanges = 1 then s.endExchanges p else s.sendTsReq p (n + 1))
/-- ADVERT: its entries are candidates through the port (R510, R511, R514). -/
def State.takeAdvert (s : State) (p : Nat) (f : Flit) (i : Nat) : State :=
  let o := 12 + 4 + 13 * i
  let w := flitAt f o 2; let d := flitAt f (o + 2) 1; let lat := flitAt f (o + 3) 2; let uid := flitAt f (o + 5) 8
  let e := w % 1024
  if s.chipNum = some e then (if d < 63 then s.learnUid e uid else s)
  else if 63 ≤ d + 1 then
    ({ s with net := { s.net with cands := s.net.cands.filter (fun c => !(c.ep == e && c.port == p)) } }).settleRoute e
  else s.learn { ep := e, port := p, dist := d + 1, lat := s.fld (APL_LAT p) 31 16 + lat + (if d = 0 then 0 else 32), uid := uid,
                 host := bit w 15, dup := bit w 14, seen := s.now }
def execAdvert (p : Nat) (f : Flit) (s : State) : Out :=
  let n := flitAt f 13 1
  .next (if !ctlFlit 6 f ∨ !s.portUp p ∨ s.facesHost p ∨ !within 1 8 n then s
    else s.forEach (List.range n) (fun s i => s.takeAdvert p f i))

/-! Sending (R493, R501, R503). -/

/-- IDENT_TIMER (R493). -/
def execIdentTimer (p : Nat) (s : State) : Out :=
  .next (if s.portState p = 3 ∨ s.portState p = 4 then
      s.sendCtrl p (leBytes 1 1 ++ leBytes 1 0 ++ leBytes 1 p ++ leBytes 1 (s.fld GLB_TB_STATUS 1 0) ++ leBytes 2 s.srcNum ++
        leBytes 2 0 ++ leBytes 8 Config.deviceUid.toNat ++ leBytes 4 0x512)
    else s)
/-- CREDIT_TIMER (R501). -/
def execCreditTimer (p : Nat) (s : State) : Out := .next (if s.portUp p then s.sendCredit p else s)
/-- Buffer and request share of a VC in flits (R501). -/
def vcBuffer (vc : Nat) : Nat := [32, 64, 32, 256, 16].getD vc 0
def vcShare (vc : Nat) : Nat := [24, 48, 24, 192, 12].getD vc 0
/-- The next flit of a VC may leave: one is ready, and the credit of its kind allows it (R501). -/
def Port.mayNow (t : Port) (vc : Nat) : Bool :=
  match t.queue.getD vc [] with
  | [] => false
  | f :: _ =>
    let resp := if flitFirst f then bit (flitOp f) 7 else t.resp.getD vc false
    let used := (t.sent.getD vc 0 + 2 ^ 16 - t.freed.getD vc 0) % 2 ^ 16
    decide (used < if resp then vcBuffer vc else vcShare vc)
/-- The VC whose turn it is (R503): VC4 first, then VC0, VC2, VC1 and VC3 in turn after the one served last. -/
def Port.nextVc (t : Port) : Option Nat :=
  if t.mayNow 4 then some 4
  else
    let order := [0, 2, 1, 3]
    let i := (order.findIdx (fun v => v == t.rr)) + 1
    (order.drop i ++ order.take i).find? t.mayNow
/-- ACK field of the flits that a port sends (R496, R498). -/
def Port.ackField (t : Port) : Nat := if t.accepted then (t.expect + 4095) % 4096 + 2 ^ 15 else 0
/-- A NAK or CREDIT flit (R497). -/
def isUrgent (f : Flit) : Bool := flitAt f 12 1 == 2 || flitAt f 12 1 == 3
/-- An IDLE flit. -/
def idleFlit : Flit := sealFlit []
/-- The header of the codeword that a port's next flit is sent in: CWSEQ, then 0b1010 (R489). -/
def Port.codewordHeader (t : Port) : Nat := t.flitsOut / 5 % 4096 + 0xA000
/-- FLIT_TRANSMIT: the flit of highest precedence that has credit leaves (R498, R501, R503). Other control flits leave after NAK
and CREDIT, and flits that are sent again before new ones (log entry 52). A flit keeps its LSEQ 0 and takes an ACK when it is
no DATA flit. -/
def execFlitTransmit (p : Nat) (s : State) : Out :=
  let t := s.port p
  let st := s.portState p
  let t := { t with flitsOut := t.flitsOut + 1 }
  let out := fun (t : Port) (f : Flit) => Host.Outcome.next (s.setPort p { t with line := f })
  if st < 3 ∨ st = 5 then out t idleFlit
  else
    let ctl := t.ctrl.filter isUrgent ++ t.ctrl.filter (fun f => !isUrgent f)
    match ctl with
    | f :: rest => out { t with ctrl := rest } (stampFlit f 0 (if st = 4 then t.ackField else 0))
    | [] =>
      if st ≠ 4 then out t idleFlit
      else match t.resend with
        | f :: rest =>
          let g := stampFlit f (flitAt f 8 2) t.ackField
          let s := s.incSat (APL_REPLAYS p)
          let again := t.unacked.map (fun (x : Flit × Nat) => if flitAt x.1 8 2 = flitAt f 8 2 then (x.1, s.now) else x)
          .next (s.setPort p { t with resend := rest, line := g, unacked := again })
        | [] =>
          match (if t.unacked.length < 256 then t.nextVc else none) with
          | none => out t (stampFlit idleFlit 0 t.ackField)
          | some vc => match t.queue.getD vc [] with
            | [] => out t idleFlit
            | f :: rest =>
              let g := stampFlit f t.lseq t.ackField
              let resp := if flitFirst f then t.resp.set vc (bit (flitOp f) 7) else t.resp
              let sent := t.sent.modify vc (fun n => (n + 1) % 2 ^ 16)
              out { t with queue := t.queue.set vc rest, lseq := (t.lseq + 1) % 4096, unacked := t.unacked ++ [(g, s.now)],
                           sent := sent, rr := if vc = 4 then t.rr else vc, resp := resp } g

end Sys2Proof.Machine
end

