-- ==== Sys2Proof/Machine/Sec.lean ====
section
/-! DEFINITION. Identity, key slots, floors, host rights and attestation (R547 to R563). -/

namespace Sys2Proof.Machine

/-- RESULT of SEC_STATUS. -/
def State.secResult (s : State) (n : Nat) : State := s.setFld SEC_STATUS 15 8 n
/-- A key command or a floor write runs (SEC_STATUS.BUSY). -/
def State.secBusy (s : State) : Bool := s.sec.writing.isSome || s.sec.floorWrite.isSome
/-- The bytes that `n` registers from `a` hold, byte 4i in bits [7:0] of register i (R547). -/
def State.regBytes (s : State) (a n : Nat) : List Byte := (List.range n).flatMap (fun i => leBytes 4 (s.reg (a + 4 * i)).toNat)
/-- Registers from `a` take the bytes of a list. -/
def State.setRegBytes (s : State) (a : Nat) (bs : List Byte) : State :=
  (List.range (bs.length / 4)).foldl (fun s i => s.setReg (a + 4 * i) (BitVec.ofNat 32 (leNat ((bs.drop (4 * i)).take 4)))) s
/-- The key of a slot as bytes, x then y, big-endian; 0 for an EMPTY slot (R549). -/
def State.keyBytes (s : State) (i : Nat) : List Byte := beBytes 64 (((s.sec.keys[i]?).map (fun k => k.2.toNat)).getD 0)
/-- State of a key slot: 0 EMPTY, 1 ENROLLED, 2 REVOKED. -/
def State.keyState (s : State) (i : Nat) : Nat := ((s.sec.keys[i]?).map Prod.fst).getD 0
/-- KEY_STATES (R562). -/
def State.keyStates (s : State) : Nat := (List.range 4).foldl (fun n i => n + s.keyState i * 4 ^ i) 0

/-! Key commands (R552 to R555). -/

/-- A slot has signed the active set, a shadow set that holds an image, or a loaded control-store image (R553). -/
def State.keyInUse (s : State) (i : Nat) : Bool :=
  (s.cfg.active.map (fun g => g.keySlot == i)).getD false ||
  ([2, 4, 5].contains s.shadowState && (s.cfg.shadow.map (fun g => g.keySlot == i)).getD false) ||
  (List.range 17).any (fun m => ((s.msq m).image.map (fun im => im.keySlot == i)).getD false)
/-- The first check of R553 that the staged command fails, or 0. Check 0x01 names OP, SLOT, AUTH_SLOT, TARGET_PART and the reserved
bytes only, so the PUBKEY of a REVOKE and the SIG of an unsigned command are read by no check (log entry 136). -/
def State.keyCheck (s : State) (c : List Byte) : Nat :=
  let f := fun (off n : Nat) => leNat ((c.drop off).take n)
  let op := f 0 1; let slot := f 1 1; let auth := f 2 1
  let key := beNat ((c.drop 0x20).take 64)
  let form := allOf [op == 1 || op == 2, slot ≤ 3, auth ≤ 3 || auth == 0xFF, f 3 1 == 0, f 4 4 == 0x512, f 0x18 8 == 0,
    f 0xA0 96 == 0]
  let others := (List.range 4).filter (fun i => i != slot && s.keyState i != 0)
  if !form then 1
  else if f 8 8 ≠ Config.deviceUid.toNat then 2
  else if f 0x10 8 ≠ s.sec.kseq then 3
  else if s.keyState slot ≠ (if op = 1 then 0 else 1) then 4
  else if !(if auth = 0xFF then (List.range 4).all (fun i => s.keyState i == 0) else s.keyState auth == 1) then 5
  else if auth ≠ 0xFF ∧
      !slotVerifies s.sec.keys auth (c.take 0x60) (beNat ((c.drop 0x60).take 32)) (beNat ((c.drop 0x80).take 32)) then 6
  else if op = 1 ∧ (!keyOk key || others.any (fun i => beNat (s.keyBytes i) == key)) then 7
  else if op = 2 ∧ ((List.range 4).filter (fun i => s.keyState i == 1)).length = 1 then 8
  else if op = 2 ∧ s.keyInUse slot then 9
  else 0
/-- KEY_CMD: the staged command is checked, and one that passes begins to be written (R553 to R555). -/
def execKeyCmd (s : State) : Out :=
  .next (if s.secBusy ∨ s.shadowState = 1 ∨ s.sec.load.isSome then s.secResult 0xA
    else
      let c := s.regBytes (SEC_KCMD 0) 64
      let e := s.keyCheck c
      if e ≠ 0 then s.secResult e
      else
        let slot := leNat ((c.drop 1).take 1)
        let key := BitVec.ofNat 512 (beNat ((c.drop 0x20).take 64))
        let v := if leNat (c.take 1) = 1 then (1, key) else (2, ((s.sec.keys[slot]?).map Prod.snd).getD 0)
        { s with sec := { s.sec with writing := some (s.sec.keys.set slot v) } })
/-- KEY_TABLE_WRITTEN: the new table is in force with KSEQ + 1 (R554). -/
def execKeyTableWritten (s : State) : Out :=
  .next (match s.sec.writing with
    | none => s
    | some t =>
      let s : State := { s with sec := { s.sec with keys := t, writing := none, kseq := (s.sec.kseq + 1) % 2 ^ 64 } }
      (s.mramWrite.event SEC_EVENTS 1).secResult 0)

/-! Floors (R556, R557). -/

/-- A RAISE command: BUSY, NO_CHANGE, or the write of a floor begins. -/
def State.raiseFloor (s : State) (which old : Nat) (v : Option Nat) : State :=
  if s.secBusy ∨ (s.shadowState = 4 ∧ (s.cfg.swap.bind Swap.asn).isSome) then s.secResult 0xA
  else match v with
    | some n => if old < n then { s with sec := { s.sec with floorWrite := some (which, n) } } else s.secResult 0xC
    | none => s.secResult 0xC
/-- RAISE_CFG_FLOOR. -/
def execRaiseCfgFloor (s : State) : Out := .next (s.raiseFloor 0 s.sec.cfgFloor (s.cfg.active.map ImageSet.version))
/-- RAISE_CS_FLOOR. -/
def execRaiseCsFloor (s : State) : Out := .next (s.raiseFloor 1 s.sec.csFloor s.sec.csVersion)
/-- FLOOR_WRITTEN. A floor never decreases. -/
def execFloorWritten (s : State) : Out :=
  .next (match s.sec.floorWrite with
    | none => s
    | some (w, v) =>
      let x := s.sec
      let s : State := { s with sec := { x with floorWrite := none, cfgFloor := if w = 0 then max x.cfgFloor v else x.cfgFloor,
                                                csFloor := if w = 1 then max x.csFloor v else x.csFloor } }
      (s.mramWrite.event SEC_EVENTS 2).secResult 0)

/-! Host rights (R558 to R560). -/

/-- R559 is in force: POLICY_ON. -/
def State.policyOn (s : State) : Bool := (s.cfg.active.map (fun g => !g.policy.hosts.isEmpty)).getD false
/-- R560 is in force: SVC_LOCK. -/
def State.svcLocked (s : State) : Bool := (s.cfg.active.map (fun g => g.policy.svcLock)).getD false
/-- A request of the kind of right `r` (bit of RIGHTS) is served: the policy is off, or its source is a listed host. -/
def State.rightOf (s : State) (src r : Nat) : Bool :=
  !s.policyOn || (match s.primary src, s.cfg.active with
    | some c, some g => c.host && g.policy.hosts.any (fun h => h.1 == c.uid && bit h.2 r)
    | _, _ => false)

/-! Attestation (R561, R562). -/

/-- Bytes 0x00 to 0xBF of a report, sampled now; `rtc` is the RTC on that edge. -/
def State.reportBody (s : State) (rtc : Nat) : List Byte :=
  let flags := (if s.bitAt AON_PWR_STATUS 9 then 1 else 0) + (if s.chipNum.isSome then 2 else 0)
  let keys := sha256 ((List.range 4).flatMap s.keyBytes)
  let cs := sha256 ((List.range 17).flatMap (fun m => ((s.msq m).image.map MsqImage.digest).getD (List.replicate 32 0)))
  [0x58, 0x4A, 0x41, 0x54] ++ leBytes 2 1 ++ leBytes 1 stepping ++ leBytes 1 flags ++ leBytes 8 Config.deviceUid.toNat ++
  s.regBytes (SEC_NONCE 0) 8 ++ leBytes 8 s.now ++ leBytes 8 rtc ++
  leBytes 4 s.activeGen ++ leBytes 4 (s.reg CFG_ACTIVE_IMAGE_ID).toNat ++ leBytes 4 (s.reg CFG_ACTIVE_VERSION).toNat ++
  leBytes 4 s.sec.cfgFloor ++ s.regBytes (CFG_ACTIVE_DIGEST 0) 8 ++
  leBytes 4 (s.reg CFG_SHADOW_IMAGE_ID).toNat ++ leBytes 4 (s.reg CFG_SHADOW_VERSION).toNat ++
  leBytes 1 s.shadowState ++ leBytes 1 s.keyStates ++ leBytes 2 (s.chipNum.getD 0) ++ leBytes 4 s.sec.csFloor ++ keys ++ cs
/-- ATTEST: every value is sampled on this edge (R561). -/
def execAttest (s : State) : Out :=
  .next (if s.sec.report.isSome then s.secResult 0xA
    else
      let p := s.rtcNow
      let s := p.2
      { s with sec := { s.sec with report := some (s.reportBody p.1) } }.secResult 0)
/-- ATTEST_DONE: the signed report replaces the window (R561). -/
def execAttestDone (s : State) : Out :=
  .next (match s.sec.report with
    | none => s
    | some b =>
      let s := s.setRegBytes (SEC_REPORT 0) (b ++ beBytes 64 (Config.identitySign b).toNat)
      let s : State := { s with sec := { s.sec with report := none } }
      (s.setBitAt SEC_STATUS 17 true).event SEC_EVENTS 0)

end Sys2Proof.Machine
end

