-- ==== Sys2Proof/Machine/Store.lean ====
section
/-! DEFINITION. Host accesses to the store space (R16, R34, R38, R106, R228, R232, R295, R456, R507, R579). -/

namespace Sys2Proof.Machine

/-- First byte beyond the store space, and the bounds of its windows (R579). -/
def storeEnd : Nat := 0x600000000
/-- The image staging window (R34). -/
def inStaging (a : Nat) : Bool := decide (0x540000000 ≤ a) && decide (a < 0x541000000)
/-- The set store (R16). -/
def inSetStore (a : Nat) : Bool := decide (0x541000000 ≤ a) && decide (a < 0x543000000)
/-- Addresses that hold nothing (R579). -/
def inHole (a : Nat) : Bool := decide (0x543010000 ≤ a)
/-- The byte belongs to a region of a kind of the active set. -/
def State.inKind (s : State) (kind a : Nat) : Bool :=
  match s.cfg.active with
  | some g => g.regions.any (fun r => r.kind == kind && decide (r.base ≤ a) && decide (a < r.base + r.size))
  | none => false
/-- Host reads of the byte return zero (R16, R106, R579). -/
def State.readsZero (s : State) (a : Nat) : Bool := inSetStore a || inHole a || s.inKind 7 a
/-- Host writes of the byte are discarded and DISCARDED says so, whatever the segments (R16, R106, R295, R579). -/
def State.fixedDrop (s : State) (a : Nat) : Bool := s.readsZero a || s.inKind 3 a
/-- The STREAM load under way of a segment (R228, R232). -/
def State.streamLoad (s : State) (n : Nat) : Option (Op × LoadWork) :=
  if s.segState n ≠ 1 then none
  else match (s.seg n).loader.bind s.op? with
    | some o => match o.work with
      | .load w => if o.pay 2 1 = 0 then none else some (o, w)
      | _ => none
    | none => none
/-- Writes into the segment are discarded: a COPY load runs, or it is ARMED or ACTIVE (R228). -/
def State.segDrops (s : State) (n : Nat) : Bool :=
  match s.segState n with
  | 1 => (s.streamLoad n).isNone
  | 3 | 4 => true
  | _ => false
/-- A written segment that is READY or DRAINED becomes EMPTY; a STREAM load counts the blocks that the write completes (R228, R232). -/
def State.touchSeg (s : State) (a len n : Nat) : State :=
  if s.segState n = 2 ∨ s.segState n = 5 then (s.emptySeg n).event SEG_EVENTS 2
  else match s.streamLoad n with
    | some (o, w) => s.setWork o.asn (.load (countWrite o a len w))
    | none => s
/-- Runs of consecutive kept bytes, with the address of the first of each. -/
def keptRuns (keep : Nat → Bool) : Nat → List Byte → List (Nat × List Byte)
  | _, [] => []
  | a, b :: bs =>
    let r := keptRuns keep (a + 1) bs
    if keep a then
      match r with
      | (c, l) :: t => if c = a + 1 then (a, b :: l) :: t else (a, [b]) :: r
      | [] => [(a, [b])]
    else r
/-- Words that a range touches take a poison tag (log entry 14). -/
def State.addPoison (s : State) (a n : Nat) : State :=
  let ws := (List.range ((a + n + 7) / 8 - a / 8)).map (fun i => a / 8 + i)
  { s with poison := s.poison ++ ws.filter (fun w => !s.poison.contains w) }
/-- One host store write: what is kept is stored and acts on the segments it reaches; the answer's Bool is DISCARDED. No region
and no segment lies in the staging window, whose writes the shadow state alone decides (R33, R34, R38,
R507). -/
def State.hostWrite (s : State) (a : Nat) (body : List Byte) (poison : Bool) : State × Bool :=
  let n := body.length
  let segs := s.segsIn a n
  let shut := segs.filter s.segDrops
  let dropped := fun x => !inStaging x && (s.fixedDrop x || shut.any (fun m => s.segOverlaps m x 1))
  let staged := fun x => s.shadowState == 1 && inStaging x
  let addrs := (List.range n).map (fun i => a + i)
  let t := if addrs.any staged then s.incSat CFG_STAGE_DROPS else s
  let t := if shut.isEmpty then t else (t.incSat SEG_WR_DROPS).event SEG_EVENTS 4
  let t := t.forEach segs (fun t m => t.touchSeg a n m)
  let runs := keptRuns (fun x => !dropped x && !staged x) a body
  let t := t.forEach runs (fun t r =>
    let t := t.writeBytes r.1 r.2
    if poison then t.addPoison r.1 r.2.length else t)
  (t, addrs.any dropped)
/-- A host store read. -/
def State.hostRead (s : State) (a n : Nat) : List Byte :=
  (List.range n).map (fun i => if s.readsZero (a + i) then 0 else s.byte (a + i))
/-- Some byte of a host store read belongs to a poison-tagged word. -/
def State.hostPoison (s : State) (a : Nat) : Bool := !s.readsZero a && s.poisonAt a

end Sys2Proof.Machine
end

