-- ==== Sys2Proof/Machine/MsqLoad.lean ====
section
/-! DEFINITION. Loading a control-store image (R456 to R459, R461). -/

namespace Sys2Proof.Machine

/-- First byte of the control-store staging window (R456). -/
def csStage : Nat := 0x0543000000
/-- The control-store staging window. -/
def State.csImg (s : State) : Rd := fun off n => s.le (csStage + off) n
/-- An address lies in a block that the sequencer of a kind may access (R435): offsets of the cluster for kind 0, the blocks of
MSQ16 for kind 1. -/
def msqReach (kind a : Nat) : Bool :=
  if kind = 0 then decide (a < 0x100000)
  else within 0x02000000 0x021FFFFF a || within 0x03000000 0x030FFFFF a || within 0x03100000 0x0317FFFF a ||
    within 0x03200000 0x0320FFFF a || within 0x000A0000 0x000A020F a

/-! Micro-words (R432, R433). -/

/-- Bits [hi:lo] of a micro-word. -/
def mwField (w hi lo : Nat) : Nat := w / 2 ^ lo % 2 ^ (hi + 1 - lo)
def mwOp (w : Nat) : Nat := mwField w 119 112
def mwRd (w : Nat) : Nat := mwField w 111 108
def mwRa (w : Nat) : Nat := mwField w 107 104
def mwRb (w : Nat) : Nat := mwField w 103 100
def mwCond (w : Nat) : Nat := mwField w 99 96
def mwLc (w : Nat) : Nat := mwField w 95 94
def mwSig (w : Nat) : Bool := bit w 93
def mwTarget (w : Nat) : Nat := mwField w 92 80
def mwRoff (w : Nat) : Nat := mwField w 79 54
def mwImm (w : Nat) : Nat := mwField w 31 0
/-- The fields that an operation uses, as bits: 0 RD, 1 RA, 2 RB, 3 COND, 4 LC, 5 TARGET, 6 ROFF, 7 IMM; none for an illegal
OP. -/
def mwUses (op : Nat) : Option Nat :=
  match op with
  | 0x00 | 0x12 | 0x19 => some 0
  | 0x01 => some 0x81
  | 0x02 | 0x04 | 0x05 | 0x06 | 0x07 => some 0x07
  | 0x03 | 0x08 | 0x09 => some 0x83
  | 0x0A => some 0x41
  | 0x0B => some 0x43
  | 0x0C => some 0x44
  | 0x0D => some 0x46
  | 0x0E => some 0xC0
  | 0x10 | 0x11 => some 0xA8
  | 0x13 => some 0x30
  | 0x14 => some 0x90
  | 0x15 | 0x17 | 0x18 => some 0x80
  | 0x16 => some 0x06
  | 0x1A => some 0x86
  | _ => none
/-- Check 0x08 of R458 on one word: a legal OP and COND, no field set that the operation does not use, reserved bits 0, TARGET
within the loaded words, ROFF within reach (R432). -/
def wordOk (kind base count w : Nat) : Bool :=
  match mwUses (mwOp w) with
  | none => false
  | some u =>
    let z := fun (i v : Nat) => bit u i || v == 0
    allOf [z 0 (mwRd w), z 1 (mwRa w), z 2 (mwRb w), z 3 (mwCond w), z 4 (mwLc w), z 5 (mwTarget w), z 6 (mwRoff w),
      z 7 (mwImm w), mwCond w ≤ 8, mwField w 53 32 == 0, w / 2 ^ 120 == 0,
      !bit u 5 || within base (base + count - 1) (mwTarget w), !bit u 6 || msqReach kind (mwRoff w)]

/-! The image (R456, R457). -/

/-- An entry record is good (R457). -/
def entryOk (e : Rd) (kind base count : Nat) : Bool :=
  let inside := fun (a : Nat) => within base (base + count - 1) a
  allOf [inside (e 0 2), e 2 2 == 0 || inside (e 2 2), e 4 2 == 0 || inside (e 4 2), e 6 2 == 0, decide (e 8 4 < 2 ^ 17),
    e 0xC 4 == 0, decide (e 0x10 8 < 2 ^ (if kind = 0 then 36 else 60)), e 0x18 8 == 0]
/-- The image that the staging window holds. -/
def csImageOf (b : Rd) : MsqImage :=
  let n := b 0xE 2; let w := b 0x1E 2; let len := b 8 4
  { imageId := b 0x14 4, version := b 0x10 4, keySlot := b 0xD 1, digest := b.bytes (len - 96) 32, base := b 0x20 2,
    entries := (List.range n).map (fun i => let e := b.from_ (0x80 + 32 * i)
      { start := e 0 2, unwind := e 2 2, trap := e 4 2, trapEn := e 8 4, own := e 0x10 8 }),
    words := (List.range w).map (fun i => BitVec.ofNat 128 (b (0x80 + 32 * n + 16 * i) 16)) }
/-- Sequencers of a mask that a load cannot write: they run a routine, a vendor's or a customer's, are faulted, or their island is
stale (R458, code 0x09). -/
def State.loadBlocked (s : State) (targets : Nat) : Bool :=
  (bitsOf targets 17).any (fun m => s.msqRuns m || s.vendorRuns m || s.bitAt (MSQ_STATUS m) 7 || (m < 16 && (s.isFaulted 6 m || s.stale m)))
/-- Outcome of a load as (code, index) (R458). -/
def State.loadCheck (s : State) (b : Rd) (targets : Nat) : Nat × Nat :=
  let kind := b 0xC 1; let n := b 0xE 2; let w := b 0x1E 2; let base := b 0x20 2; let len := b 8 4
  let body := b.bytes 0 (len - 96)
  if !allOf [b 0 4 == 0x534D4A58, b 4 2 == 1, b 6 2 == 128, b 0x14 4 != 0, b 0x22 94 == 0] then (1, 0)
  else if !allOf [within 1 256 n, within 1 3072 w, within 0x1400 (0x2000 - w) base, len == 224 + 32 * n + 16 * w,
      decide (len ≤ 65536)] then (2, 0)
  else if !allOf [b 0x18 4 == 0x512, within (b 0x1C 1) (b 0x1D 1) stepping,
      (bitsOf targets 17).all (fun m => (if m = 16 then 1 else 0) == kind)] then (3, 0)
  else if sha256 body != b.bytes (len - 96) 32 then (4, 0)
  else if !slotVerifies s.sec.keys (b 0xD 1) body (beNat (b.bytes (len - 64) 32)) (beNat (b.bytes (len - 32) 32)) then (5, 0)
  else if b 0x10 4 < s.sec.csFloor then (6, 0)
  else match firstBad 0 n (fun i => entryOk (b.from_ (0x80 + 32 * i)) kind base w) with
  | some i => (7, i)
  | none => match firstBad 0 w (fun i => wordOk kind base w (b (0x80 + 32 * n + 16 * i) 16)) with
    | some i => (8, i)
    | none => if s.loadBlocked targets then (9, 0) else (0, 0)
/-- MSQ_LOAD_RESULT takes an outcome; LOAD_DONE of MSQ16 sets (R458). -/
def State.loadResult (s : State) (code ix : Nat) : State :=
  (s.setReg MSQ_LOAD_RESULT (BitVec.ofNat 32 (code + 65536 * ix))).event (MSQ_EVENTS 16) 5
/-- LOAD of MSQ_LOAD_CMD (R458, R461, R555). The checks see the window and the key table as they stand now. -/
def State.loadCommand (s : State) (path : Path) : State :=
  let t := s.fld MSQ_LOAD_TARGETS 16 0
  if s.sec.load.isSome then s.setFld MSQ_LOAD_RESULT 7 0 9
  else if t = 0 then s.rangeFlag path MSQ_LOAD_CMD
  else if s.keyBusy then s.loadResult 9 0
  else
    let r := s.loadCheck s.csImg t
    if r.1 ≠ 0 then s.loadResult r.1 r.2
    else
      let s := s.setReg MSQ_LOAD_RESULT 256
      { s with sec := { s.sec with load := some (t, csImageOf s.csImg) } }
/-- MSQ_LOAD, from endpoint 0. -/
def execMsqLoad (s : State) : Out := .next (s.loadCommand 0)
/-- MSQ_LOAD_DONE: the customer regions and the entry tables of the targets take the image (R458, R459). -/
def execMsqLoadDone (s : State) : Out :=
  .next (match s.sec.load with
    | none => s
    | some (t, im) =>
      let s : State := { s with sec := { s.sec with load := none, csVersion := some im.version } }
      let s := s.forEach (bitsOf t 17) (fun s m => (s.setMsq m { s.msq m with image := some im }).restoreStore m)
      (s.setReg MSQ_LOAD_IMAGE_ID (BitVec.ofNat 32 im.imageId)).loadResult 0 0)

end Sys2Proof.Machine
end

