-- ==== Sys2Proof/Machine/Resets.lean ====
section
/-! DEFINITION. Resets (R123 to R125, R525 to R529) and the power-fail sequence (R127 to R138, R614). -/

namespace Sys2Proof.Machine

/-! What both stop. -/

/-- Clusters that lag behind the leading one of a run play the vectors that it has started (R252). -/
def State.catchUp (s : State) (g : ImageSet) (a : Asn) (k lim : Nat) : Nat → State
  | 0 => s
  | n + 1 => match s.runOf a with
    | some (o, w) =>
      if (s.clu k).vec < min w.vectors (w.stopAt.getD w.vectors) ∧ (s.clu k).sNext / 4096 ≤ lim then
        (s.playVector g o w k).catchUp g a k lim n
      else s
    | none => s
/-- A run stops at its next vector boundary, or at the instant `cut` when that comes first (R528 step 2, R129 step 2). -/
def State.haltAt (s : State) (a : Asn) (cut : Option Nat) : State :=
  match s.cfg.active, s.runOf a with
  | some g, some (o, w) =>
    if o.phase ≠ .running ∨ w.stop.isSome then s
    else
      let s := s.forEach w.clusters (fun s k => s.catchUp g a k (cut.getD (2 ^ 64)) w.vectors)
      match s.runOf a with
      | some (o, w) =>
        let e := (w.clusters.map (fun k => (s.clu k).sNext)).foldl max 0 / 4096
        let e := if w.vectors = 0 then s.now else max e s.now
        s.stopAllAt g o w (match cut with
          | some c => min e c
          | none => e)
      | none => s
  | _, _ => s
/-- Progress marker of a started operation: where it stands now, or stood when its work ended (R124, R137). -/
def State.markerOf (s : State) (o : Op) : Nat :=
  let g := if o.phase = .ended then o.gcc else s.now
  match o.work with
  | .run w => runDetail w 4
  | .lanes w => if o.phase = .ended ∨ w.step < 3 then o.progress else min (g - w.openGcc) (o.pay 0x10 4)
  | .play w => if o.phase = .ended then o.progress else awgPlayed o w g
  | _ => o.progress
/-- The loads under way journal how far they are (R109). -/
def State.copyMarks (s : State) : State :=
  s.forEach (s.ops.filter (fun o => o.phase == .running && o.opcode == 2)) State.copyOn
/-- Last GCC at which an operation acted (R124, R137). -/
def State.lastOf (s : State) (o : Op) : Nat :=
  if o.phase = .ended then o.gcc
  else match o.work with
    | .run w => w.stop.getD o.lastGcc
    | .play w => if w.begun then s.now else o.lastGcc
    | .lanes w => if w.step = 3 then s.now else o.lastGcc
    | _ => o.lastGcc
/-- An operation that has not started gives up what it was admitted with: it stands WAITING as if it had just been accepted,
and is judged afresh (R123, R52). -/
def Op.backToWaiting (o : Op) : Op :=
  { o with phase := .waiting, admitted := false, candSince := none, holding := false, never := false, permitted := false,
           judged := false, started := false, startAt := 0, progress := 0, work := .nothing }

/-- Routines stop without unwind; deferred writes and trap frames are gone (R451, R460). -/
def State.dropRoutines (s : State) : State :=
  s.forEach (List.range 17) (fun s m => ((s.dropDeferred m).clearFrames m).freeMsq m)
/-- Controllers that are on begin to discharge at the fast rate (R390, R528 step 3, R129 step 3). -/
def State.dischargeAll (s : State) : State := s.forEach (List.range 64) (fun s d => s.discharge d 0 true)
/-- Controllers have ramped down (R528 step 4, R129 step 4). -/
def State.allDpsOff (s : State) : State :=
  s.forEach ((List.range 64).filter (fun d => [1, 2, 3].contains (s.dpsState d))) State.dpsOff
/-- Analog outputs take a state: MUTED in a reset, or their park codes, which a MUTED and a FAULTED channel keep; plays, fades and
swap requests are gone (R349, R361, R371). -/
def State.allAnTo (s : State) (st : Nat) : State :=
  s.forEach (List.range 16) (fun s a =>
    let s := if st = 1 ∧ (s.anState a = 0 ∨ s.anState a = 5) then s else s.setAnState a st
    let s := (s.setFld (AN_RS_STATUS a) 25 23 0).setFld (AN_RS_STATUS a) 16 0 0
    let s := (s.setReg64 (AN_SAMPLES_LO a) (AN_SAMPLES_HI a) 0).setReg (AN_COEF_DROPS a) 0
    s.setAna a { s.ana a with muteUntil := none, swaps := [], pend := none, fadeEnd := none })
/-- Every direction of every lane is off (R373, R387). -/
def State.allLanesOff (s : State) : State :=
  let s : State := { s with relocks := [] }
  s.forEach (List.range 8) (fun s g => (s.lanesOff g).setReg (LG_STATUS g) 0)
/-- Records that have not left their feeders are counted in UNLOGGED (R297). -/
def State.dropFeeders (s : State) : State :=
  s.forEach (List.range 16) (fun s k =>
    let u := s.clu k
    let s := s.forEach (u.formed ++ u.feeder) (fun s r => match s.basinOf r.site with
      | some b => s.bumpBhead b 0x18 1
      | none => s)
    let gaps := (u.feeder.filter (fun r => ((s.basinOf r.site).map (fun b => decide (r.ix < basinCap b))).getD false)).map
      (fun r => (r.site, r.ix))
    let s : State := { s with basinGaps := s.basinGaps ++ gaps }
    s.setClu k { s.clu k with strobes := [], formed := [], feeder := [] })
/-- CH_CFG.MODE of every channel is DISCONNECTED in both copies (R185). -/
def State.clearModes (s : State) : State :=
  s.forEach (List.range 512) (fun s c =>
    let s := if s.fld (CH_CFG c) 1 0 = 0 then s else s.setFld (CH_CFG c) 1 0 0
    if s.liveFld (CH_CFG c) 1 0 = 0 then s else s.setLive (CH_CFG c) ((s.liveReg (CH_CFG c)).withField 1 0 0))
/-- The pins of every cluster leave what they drove: every channel is in the reset pin state, and CH_CFG.MODE is DISCONNECTED in
both copies. A PPMU that was connected counts as a transition (R183, R185, R544). -/
def State.dropPins (s : State) : State :=
  let s := (s.pmuLeaves (List.range 512)).clearModes
  { s with chans := [] }
/-- The island logic of the clusters is reset: no run, no ring in use, no scheduled SYNC, no pending level commit (R192, R255,
R327). -/
def State.dropClusters (s : State) : State :=
  let s := s.forEach (List.range 16) (fun s k =>
    let u := s.clu k
    let u := { u with run := none, syncAt := [], pendLv := none, stopped := false, ring := { u.ring with asn := none, uploader := none, st := 3 } }
    let s := (s.setClu k u).setFld (TE_STATUS k) 13 8 0
    (s.setBitAt (ACQ_STATUS k) 0 false).setBitAt (ACQ_STATUS k) 5 false)
  let s := s.forEach (List.range 16) (fun s q => (s.setBitAt (SEG_Q_STATUS q) 0 false).setReg (SEG_Q_REQ q) 0)
  { s with trg := { s.trg with segPulses := [] } }
/-- The generators' state is lost; the fountains show neither RUNNING nor HALTED (R283, R284). -/
def State.dropFountains (s : State) : State :=
  let s := s.forEach (List.range 32) (fun s f => (s.setBitAt (FNT_STATUS f) 1 false).setBitAt (FNT_STATUS f) 2 false)
  { s with fnts := [] }
/-- Calibration runs stop, and maintenance but the training of a port (R475, R481). -/
def State.dropMaint (s : State) : State :=
  let s := s.forEach (List.range 18) State.calDrop
  { s with mnt := { running := s.mnt.running.filter (fun x => x.kind == 4), waiting := s.mnt.waiting.filter (fun x => x.kind == 4) } }
/-- Work of the hub that no reset finishes: a report and a control-store load are dropped, and a pending load of the GCC is
given up (R151, R461, R554). Of a key table or a floor under way, either the old or the new
is in force: an open value. -/
def State.dropHub (s : State) : State :=
  let s := if s.tbState = 2 then s.leaveArmed s.tb.before else s
  let p := if s.sec.writing.isSome ∨ s.sec.floorWrite.isSome then s.fresh 1 else (0, s)
  let s := p.2
  let x := s.sec
  let x : Sec := if p.1 = 1 then
      { x with keys := x.writing.getD x.keys, kseq := x.kseq + (if x.writing.isSome then 1 else 0),
               cfgFloor := (match x.floorWrite with
                 | some (0, v) => max x.cfgFloor v
                 | _ => x.cfgFloor),
               csFloor := (match x.floorWrite with
                 | some (1, v) => max x.csFloor v
                 | _ => x.csFloor) }
    else x
  let s : State := { s with sec := { x with writing := none, floorWrite := none, report := none, load := none } }
  { s with cfg := { s.cfg with reloading := [] }, cont := { s.cont with mismatch := false } }

/-! Warm reset (R528). -/

/-- A reset or the power-fail sequence is under way, or the device idles after it (R526). -/
def State.resetBusy (s : State) : Bool := s.aon.resetting != 0 || s.deviceState == 4 || s.deviceState == 5
/-- Step 1 of R528, or RESET_IGNORED (R526). A swap whose tick has come has taken place (R52). -/
def State.warmBegin (s : State) (cause : Nat) : State :=
  if s.resetBusy then s.event AON_EVENTS 5
  else
    let s := s.swapDue
    let s := ((s.setFld AON_PWR_STATUS 2 0 0).setFld AON_PWR_STATUS 19 16 cause).ltAdd 3 1
    { s with aon := { s.aon with resetting := 1 } }

/-- What a warm reset makes of an operation (R123). -/
def State.warmOp (s : State) (o : Op) : Op :=
  match o.phase with
  | .ended => o
  | .waiting | .scheduled => o.backToWaiting
  | .running =>
    match o.opcode, o.work with
    | 2, _ => { o with resumed := true }
    | 0xB, .upload w =>
      let lost := o.pay 0 1 == 3 && !(w.fifo.isEmpty && w.flight.isEmpty)
      let next := match w.flight.flatten ++ w.fifo with
        | i :: _ => i.ix
        | [] => w.next
      { o with resumed := true, work := .upload { w with
          fifo := [], flight := [], next := next, gone := w.gone || lost,
          srcEnded := if uplFollow o then w.srcEnded else decide (w.limit ≤ next) } }
    | 0xE, _ => o.backToWaiting
    | _, _ => { o with phase := .ended, status := 3, reason := 0, gcc := s.lastOf o, detail := s.markerOf o % 2 ^ 48,
                       aborting := false, faulting := false, candSince := none, holding := false }
/-- Steps 2 to 5 of R528 for the operations: runs stop at a vector boundary, what has not started waits again without its
admission, and the work of the others ends or stays to be resumed (R123). -/
def State.warmOps (s : State) : State :=
  let s := (s.forEach s.ops (fun s o => s.haltAt o.asn none)).copyMarks
  let s := s.forEach (s.ops.filter (fun o => o.phase == .running)) (fun s o => match o.work with
    | .upload w => s.flushPartial w
    | _ => s)
  let s := s.forEach (s.ops.filter (fun o => o.phase == .scheduled)) (fun s o => match o.work with
    | .run w => s.closeRun o.asn w
    | _ => s)
  let s := s.forEach (s.ops.filter (fun o => o.phase == .waiting || o.phase == .scheduled || o.opcode == 0xE)) (fun s o =>
    (s.release 0 o.asn).releaseReads o.asn)
  let old := s.ops
  let s : State := { s with ops := s.ops.map s.warmOp }
  let s := s.forEach (old.filter (fun o => o.phase == .running && !([2, 0xB, 0xE].contains o.opcode))) State.producerEnds
  match s.cfg.swap with
  | some _ => { s.setShadow s.cfg.before with cfg := { s.cfg with swap := none } }
  | none => s
/-- UP ports send RESYNC and enter IDENT; buffers and flows are gone (R492). -/
def State.warmPorts (s : State) : State :=
  let s : State := { s with net := { s.net with flows := [], txSeq := [], inbox := [] } }
  s.forEach (List.range 16) (fun s p =>
    let up := s.portUp p
    let s := if up then s.leaveUp p 0 else s
    let s := s.setPort p { s.port p with
      queue := (portDefault p).queue, waitq := (portDefault p).waitq, opened := (portDefault p).opened, partials := (portDefault p).partials }
    if up then (((s.setPortState p 3).freshLine p).sendCtrl p [7]).startExchanges p else s)
/-- The service port and the pulses of GPIO balls (R566). A slave transaction goes on: its access is served in RESET (R571). -/
def State.warmSvc (s : State) : State :=
  let s : State := { s with svc := { s.svc with tx := [], rx := [], left := 0, chain := false, lastFrame := none, paused := none },
                            trg := { s.trg with pulses := [], pulseEnd := [] } }
  (s.setBitAt SVC_STATUS 0 false).settleRole.forEach (List.range 8) State.settleGpio

/-- WARM_CMD: AON_RESET_CMD with CMD WARM, from endpoint 0 (R525, R526). -/
def State.warmCommand (s : State) (path : Path) (key : Nat) : State :=
  if key ≠ 0x5A17 then s.rangeFlag path AON_RESET_CMD
  else (s.warmBegin 4).setFld AON_PWR_STATUS 31 28 (if s.resetBusy then 2 else 0)
/-- WARM_CMD. -/
def execWarmCmd (key : Nat) (s : State) : Out := .next (s.warmCommand 0 key)
/-- HUB_FAULT_RESET: 10 µs after a hub fault with AUTO_WARM (R525). -/
def execHubFaultReset (s : State) : Out :=
  match s.cont.hubFaultAt with
  | none => .next s
  | some g =>
    let s := s.advanceTo (g + 8000)
    .next (if s.now < g + 8000 then s
      else
        let s := s.warmBegin 5
        { s with cont := { s.cont with hubFaultAt := none } })
/-- WARM_RESET_START: steps 2 to 5 of R528. -/
def execWarmResetStart (s : State) : Out :=
  .next (if s.aon.resetting ≠ 1 then s
    else
      let s := (s.warmOps.dropRoutines.dischargeAll.allAnTo 0).allLanesOff
      let s := s.warmPorts.warmSvc.dropFeeders.dropPins.dropClusters.dropFountains
      let s := if s.shadowState = 1 then s.endVerify (0x0E, 0, 0) 3 else s
      let s := s.dropMaint.dropHub.setBitAt AON_PWR_STATUS 8 true
      { s with aon := { s.aon with resetting := 3, waking := [], after := [] }, cont := { s.cont with hubFaultAt := none } })

/-- An island has lost retention: it takes the reset values that the chapters give for that case, holds no generation, and
reloads (R529, R60, R173, R185, R327, R346, R460). -/
def State.loseIsland (s : State) (i : Nat) : State :=
  let s := s.setGen i 0
  let l := if s.cfg.lostRetention.contains i then s.cfg.lostRetention else s.cfg.lostRetention ++ [i]
  let s : State := { s with cfg := { s.cfg with leftGen := Map.set natDefault s.cfg.leftGen i 0, lostRetention := l } }
  if 16 ≤ i then s
  else
    let s := s.resetWords (clBase i) 262144
    let s := s.setClu i default
    { s with chans := s.chans.filter (fun e => e.1 / 32 != i) }
/-- Uploads of a ring that is lost with its cluster no longer find the item at their marker (R326). -/
def State.loseRingItems (s : State) (i : Nat) : State :=
  if (s.ring i).all.isEmpty then s
  else
    let mark := fun (o : Op) => match o.work with
      | .upload w => if o.phase == .running && o.pay 0 1 == 3 && o.pay 4 2 == i then
          { o with work := .upload { w with gone := true } } else o
      | _ => o
    { s with ops := s.ops.map mark }
/-- Self-checks of a warm reset: MEM_CONT_STATUS and MEM_ISLAND_FENCED are set again (R141). What they find makes no DE_FENCED or
ISLAND_CTL_FENCED record and no FENCE event, but for the loss of a cluster and a hub fault (log entry 118). Bit e of `deFail` is an engine that
fails, bits 2k and 2k + 1 of `ctlFail` the control copies of cluster k. -/
def State.selfChecks (s : State) (deFail ctlFail : Nat) : State :=
  let s := s.setFld MEM_CONT_STATUS 3 0 (deFail % 4 + (if deFail % 4 = 1 ∨ deFail % 4 = 2 then 4 else 0))
  let ks := (List.range 16).filter (fun k => ctlFail / 4 ^ k % 4 != 0)
  let s := s.setReg MEM_ISLAND_FENCED (BitVec.ofNat 32 (maskOf 16 (fun k => ctlFail / 4 ^ k % 4 != 0)))
  let s : State := { s with cont := { s.cont with fencedCopies := ks.flatMap (fun k =>
    ((List.range 2).filter (fun c => bit (ctlFail / 4 ^ k) c)).map (fun c => (k, c))) } }
  let s := s.forEach (ks.filter (fun k => ctlFail / 4 ^ k % 4 == 3)) State.loseCluster
  if deFail % 4 = 3 then s.hubFault else s
/-- An UPLOAD reads its source again from its marker (R109, R326). -/
def State.resumeUpload (s : State) (o : Op) : State :=
  match s.uplOf o.asn with
  | none => s
  | some (_, w) =>
    if w.gone then s.endUpload o w 9 3
    else
      let k := o.pay 4 2
      let s := if o.pay 0 1 = 3 then
          (s.setRing k { s.ring k with uploader := some o.asn }).setBitAt (ACQ_STATUS k) 5 true
        else s
      let s := if uplFollow o then s.followUpload o.asn o (2 ^ 24) else s.fillUpload o.asn o (uplCap o)
      s.settleUpload o.asn
/-- The records owed after a warm reset are written in ascending acceptance order, and WARM_RECOVERY counts them (R125, R139). -/
def State.warmRecords (s : State) (owed : List Asn) : State :=
  let t := s.forEach owed (fun s a => match s.op? a with
    | some o => s.deliver o
    | none => s)
  t.logEvent 0x0310 0 (owed.filter (fun a => (t.op? a).isNone && !((s.op? a).map Op.lost).getD false && !t.heldRecs.any (fun o => o.asn == a))).length
/-- WARM_RESET_END: step 6 of R528. `upsets` gives, by island, what has flipped in its retained memories by their check; an
island that was OFF has lost its retention as well (R529, R539). -/
def execWarmResetEnd (upsets : List (Nat × Nat × Nat)) (deFail ctlFail : Nat) (s : State) : Out :=
  .next (if s.aon.resetting ≠ 3 then s
    else
      let s := s.allDpsOff
      let gone := (List.range 26).filter (fun i => !retentionHolds ((upsets.filter (fun x => x.1 == i)).map Prod.snd) || (s.islandMode i != 0 && s.cfg.lostRetention.contains i))
      let s := ((s.setReg AON_ISL_MODE0 0).setReg AON_ISL_MODE1 0).clearModes
      let s := s.forEach (List.range 16) State.settleTe
      let s := s.forEach gone (fun s i => (s.loseRingItems i).loseIsland i)
      let s := s.forEach ((List.range 16).filter (fun a => s.anState a == 0)) State.parkAn
      let s := s.forEach (List.range 18) State.calSettle
      let owed := (s.byAsn.filter (fun o => o.phase == .ended)).map Op.asn
      let s := s.selfChecks deFail ctlFail
      let s := s.forEach (List.range 16) State.syncReset
      let s := ((s.setFld AON_PWR_STATUS 2 0 1).setBitAt AON_PWR_STATUS 8 false).event AON_EVENTS 4
      let s : State := { s with aon := { s.aon with resetting := 0 } }
      let s := s.forEach (List.range 8) State.settleGpio
      let s := s.warmRecords owed
      s.forEach (s.byAsn.filter (fun o => o.opcode == 0xB && o.phase == .running)) State.resumeUpload)

/-! Power-fail sequence (R127 to R138). -/

/-- The entry that the power-fail record keeps of an operation (R132, R137). -/
def State.owedOf (s : State) (start : Nat) (o : Op) : Owed :=
  let own := o.started && o.opcode != 0xE && o.opcode != 0xF
  { queue := o.queue, seq := o.seq, opcode := o.opcode, tag := o.tag, started := o.started,
    gcc := if own then s.lastOf o else start,
    detail := (if own then s.markerOf o % 2 ^ 48 else 0) + 2 ^ 48 * (s.lifetime 4 % 2 ^ 16) }
/-- The slot that takes a new record: the lowest without pending records, else the older one, whose records are lost (R136). -/
def State.pfSlot (s : State) : Nat :=
  let l := s.cont.slots
  match (List.range 2).find? (fun i => (l.getD i pfSlotEmpty).owed.isEmpty) with
  | some i => i
  | none => if (l.getD 0 pfSlotEmpty).order ≤ (l.getD 1 pfSlotEmpty).order then 0 else 1
/-- The operations as the record keeps them, in acceptance order, held ones included (R51, R131). -/
def State.pfRecord (s : State) (start : Nat) : State :=
  let i := s.pfSlot
  let lost := (s.cont.slots.getD i pfSlotEmpty).owed.length
  let s := if lost = 0 then s else s.logEvent 0x030F i lost
  let ops := ((s.heldRecs ++ s.ops).filter (fun o => !o.lost)).foldr insertByAsn []
  let owed := ops.map (s.owedOf start)
  let qs := ((ops.map Op.queue).eraseDups).map (fun q => (q, s.nextSeq q))
  let slot : PfSlot := { valid := false, epoch := s.lifetime 4 % 2 ^ 16, gcc := start, order := s.cont.pfOrder + 1, owed := owed,
                         total := owed.length, nextSeqs := qs }
  { s with cont := { s.cont with slots := s.cont.slots.set i slot, pfOrder := s.cont.pfOrder + 1 } }
/-- POWER_FAIL_START: steps 1 to 5 of R129, with the conditions of R127 that have begun it. The shadow set is EMPTY (R39). The record's content is decided
here; it counts from PF_SEQUENCE_END on. -/
def execPowerFailStart (pfN detector : Bool) (s : State) : Out :=
  .next (if !s.aon.vddCore || !s.aon.vaon || 3 < s.deviceState || !(pfN || detector) then s
    else
      let start := s.now
      let s := s.forEach ((List.range 512).filter (fun c => pmuOn (s.liveMode c))) (fun s c => s.ltAdd (16 + c / 32) 1)
      let s := (s.ltAdd 4 1).setBitAt WKE_STATUS 3 true
      let s := (s.setFld AON_PWR_STATUS 2 0 4).logEvent 0x030C 0 ((if pfN then 1 else 0) + (if detector then 2 else 0))
      let s : State := { s with free := s.free + 512, cont := { s.cont with pfStart := start, pfFree := s.free, hubFaultAt := none } }
      let s := s.forEach s.ops (fun s o => s.haltAt o.asn (some (start + 8000)))
      let quiet := s.ops.foldl (fun m o => match o.work with
        | .run w => max m (w.stop.getD start)
        | _ => m) start
      let s : State := { s with cont := { s.cont with pfQuiet := min quiet (start + 8000) } }
      let s := s.copyMarks.pfRecord start
      let s : State := { s with ops := s.ops.map (fun o => { o with phase := .ended, status := 5, reason := 0, candSince := none,
                                                                    holding := false, aborting := false, faulting := false }) }
      let s := (s.dropRoutines.dischargeAll.allAnTo 1).allLanesOff
      let s := s.dropFeeders.dropClusters.dropFountains.dropMaint.dropHub
      let s := ((s.putShadow none).setShadow 0).setBitAt CFG_CMD_STATUS 8 false
      { s with cfg := { s.cfg with swap := none }, aon := { s.aon with resetting := 0, waking := [], after := [] } })

/-! Cold reset (R527). -/

/-- The registers of the AON block, which only a rise of VAON resets (R546), without the modes of the islands. -/
def State.aonRegs (s : State) : Map Word :=
  s.regs.filter (fun e => decide (0x40000 ≤ e.1) && decide (e.1 < 0x40300) && e.1 != AON_ISL_MODE0 && e.1 != AON_ISL_MODE1)
/-- What a cold reset leaves: the AON, MRAM and the test port; everything else is at its reset value, and the power-up sequence
has yet to run (R111, R527, R530, R546). -/
def State.coldState (s : State) : State :=
  let s := s.dropHub
  let r := State.reset
  let cals := s.cals.foldl (fun (m : Map Cal) e => Map.set calDefault m e.1 { (default : Cal) with slots := e.2.slots }) []
  let anas := s.anas.foldl (fun (m : Map Ana) e => Map.set anaDefault m e.1 { (default : Ana) with park := e.2.park }) []
  { r with
    regs := s.aonRegs
    cals := cals
    anas := anas
    cfg := { r.cfg with genCounter := s.cfg.genCounter }
    cont := { r.cont with slots := s.cont.slots, pfGen := s.cont.pfGen, pfOrder := s.cont.pfOrder, pfFree := s.cont.pfFree }
    aon := { s.aon with resetting := 2, powerStep := 0, waking := [], after := [] }
    sec := { r.sec with keys := s.sec.keys, kseq := s.sec.kseq, cfgFloor := s.sec.cfgFloor, csFloor := s.sec.csFloor }
    svc := { r.svc with selLow := s.svc.selLow }
    jtag := s.jtag
    free := s.free
    pending := s.pending }
/-- A cold reset begins, with its cause, or 0 where AON ready is to show it (R525). -/
def State.coldBegin (s : State) (cause : Nat) : State :=
  let s := s.dropPins.coldState
  ((s.setFld AON_PWR_STATUS 2 0 0).setBitAt AON_PWR_STATUS 8 false).setFld AON_PWR_STATUS 19 16 cause
/-- COLD of AON_RESET_CMD; the power-fail sequence runs to its end, and the device then stays idle (R128). -/
def State.coldCommand (s : State) (path : Path) (key : Nat) : State :=
  if key ≠ 0x5A17 then s.rangeFlag path AON_RESET_CMD
  else if s.deviceState = 4 ∨ s.deviceState = 5 then s.setFld AON_PWR_STATUS 31 28 2
  else (s.setFld AON_PWR_STATUS 31 28 0).coldBegin 3
/-- COLD_CMD: AON_RESET_CMD with CMD COLD, from endpoint 0 (R525). -/
def execColdCmd (key : Nat) (s : State) : Out := .next (s.coldCommand 0 key)
/-- AON_RESET_CMD (R525, R526). -/
def State.resetCommand (s : State) (path : Path) (v : Word) : State :=
  let key := v.field 31 16
  match v.field 3 0 with
  | 1 => s.warmCommand path key
  | 2 => s.coldCommand path key
  | _ => if key ≠ 0x5A17 then s.rangeFlag path AON_RESET_CMD else s.setFld AON_PWR_STATUS 31 28 3
/-- RESET_N acts: a cold reset. After a loss of power the cause shows at AON ready (R525, R128). -/
def State.resetPin (s : State) : State :=
  s.coldBegin (if s.fld AON_PWR_STATUS 19 16 = 0 ∨ s.aon.pfDone then 0 else 2)
/-- RESET_N_LOW: RESET_N is low for 1 µs (R525). In the power-fail sequence it waits for step 8 (R128). -/
def execResetNLow (s : State) : Out :=
  let s : State := { s with aon := { s.aon with resetN := false } }
  .next (if !s.aon.vaon || !s.aon.vddCore || s.deviceState == 4 then s else s.resetPin)
/-- The lifetime counters go into the older mirror slot (R545). -/
def State.mirrorWrite (s : State) : State :=
  let l := s.aon.mirror
  let q : Nat → Nat := fun i => match l[i]? with
    | some (n, true, _) => n
    | _ => 0
  let i := if q 0 ≤ q 1 then 0 else 1
  let s : State := { s with aon := { s.aon with mirror := l.set i (max (q 0) (q 1) + 1, true, s.aon.lt) } }
  s.mramWrite
/-- PF_SEQUENCE_END: steps 6 to 8 of R129. The record is valid, the generation and the lifetime counters are in MRAM, the device
idles; a RESET_N that is low acts now (R62, R128, R545). -/
def execPfSequenceEnd (s : State) : Out :=
  .next (if s.deviceState ≠ 4 then s
    else
      let slots := s.cont.slots.map (fun x => if x.order == s.cont.pfOrder then { x with valid := true } else x)
      let s : State := { s with chans := [], cont := { s.cont with slots := slots, pfGen := s.activeGen } }
      let s := s.allDpsOff.mramWrite.mirrorWrite
      let s : State := { s with aon := { s.aon with pfDone := true } }
      let s := (s.setBitAt MEM_STATUS 0 false).setFld AON_PWR_STATUS 2 0 5
      if s.aon.resetN then s else s.resetPin)

/-! Records owed after a loss of power (R134 to R138). -/

/-- The slot whose pending records are older, if one holds any (R136, R141). -/
def State.olderSlot (s : State) : Option Nat :=
  let x := s.cont.slots.getD 0 pfSlotEmpty
  let y := s.cont.slots.getD 1 pfSlotEmpty
  if x.owed.isEmpty then (if y.owed.isEmpty then none else some 1)
  else if y.owed.isEmpty ∨ x.order < y.order then some 0 else some 1
/-- An owed record takes its place in ascending SEQ order. -/
def insertOwed (x : Owed) : List Owed → List Owed
  | [] => [x]
  | y :: ys => if x.seq < y.seq then x :: y :: ys else y :: insertOwed x ys
/-- Records of one slot go into the ring of a queue while it has room; a slot that is then empty reports PF_DELIVERED (R134,
R137, R139). -/
def State.deliverOwed (s : State) (r : QRec) (i : Nat) : State :=
  let mine := ((s.cont.slots.getD i pfSlotEmpty).owed.filter (fun x => x.queue == r.queue)).foldr insertOwed []
  s.forEach mine (fun s x =>
    if !s.cqRoom r then s
    else
      let s := s.putRecord r (fun ph =>
        recordBytes x.queue x.seq ph 5 x.opcode (if x.started then 1 else 0) 0 x.tag x.gcc x.detail)
      let sl := s.cont.slots.getD i pfSlotEmpty
      let sl' : PfSlot := { sl with owed := sl.owed.filter (fun y => !(y.queue == x.queue && y.seq == x.seq)) }
      let done := sl'.owed.isEmpty
      let s : State := { s with cont := { s.cont with slots := s.cont.slots.set i (if done then pfSlotEmpty else sl') } }
      if done then s.mramWrite.logEvent 0x030E i sl.total else s)
/-- ABORTED_POWER_DELIVERY (R134): the older slot first. -/
def execAbortedPowerDelivery (q : Nat) (s : State) : Out :=
  .next (match s.queueRec q with
    | none => s
    | some r =>
      if !s.recordsFlow || s.deviceState != 1 then s
      else match s.olderSlot with
        | none => s
        | some i => (s.deliverOwed r i).deliverOwed r (1 - i))
/-- DISCARD_OLDEST of MEM_PF_CMD (R136, R141). -/
def State.discardOldest (s : State) (path : Path) : State :=
  match s.olderSlot with
  | none => s.rangeFlag path MEM_PF_CMD
  | some i =>
    let n := (s.cont.slots.getD i pfSlotEmpty).owed.length
    let s : State := { s with cont := { s.cont with slots := s.cont.slots.set i pfSlotEmpty } }
    s.mramWrite.logEvent 0x030F i n
/-- DISCARD_OLDEST, from endpoint 0. -/
def execDiscardOldest (s : State) : Out := .next (s.discardOldest 0)

end Sys2Proof.Machine
end

