-- ==== Sys2Proof/Machine/Power.lean ====
section
/-! DEFINITION. Supplies and power-up (R523, R524, R530, R531), island modes (R532 to R536), device sleep (R537 to R539), the
real-time clock (R541 to R543) and the lifetime counters (R544, R545). -/

namespace Sys2Proof.Machine

/-! Supplies and power-up. -/

/-- The newest mirror slot (R545). -/
def State.mirrored (s : State) : Map Nat :=
  (s.aon.mirror.foldl (fun (m : Nat × Map Nat) x => if x.2.1 && decide (m.1 < x.1) then (x.1, x.2.2) else m) (0, [])).2
/-- VDD_CORE is out of range: only the AON runs, counts since the last mirror are lost unless a power-fail sequence stored them,
and the test access port stops operating (R524, R545, R605). -/
def State.coreOff (s : State) : State :=
  let s := s.coldBegin 0
  { s with aon := { s.aon with vddCore := false, lt := if s.aon.pfDone then s.aon.lt else s.mirrored },
           jtag := { ir := 2, cells := 0, captured := 0 } }
/-- VDD_CORE_FALL. -/
def execVddCoreFall (s : State) : Out := .next (if s.aon.vaon ∧ s.aon.vddCore then s.coreOff else s)
/-- VAON_FALL: OFF. The AON registers and what the AON counts are lost (R524, R545, R546). -/
def execVaonFall (s : State) : Out :=
  let s := s.coreOff
  .next { s with regs := [], aon := { s.aon with vaon := false, lt := s.mirrored } }
/-- VAON_RISE: AON_ONLY. The RTC starts at 0 with RTC_VALID 0 (R524, R543, R546). -/
def execVaonRise (s : State) : Out :=
  .next (if s.aon.vaon then s
    else { s with regs := [], aon := { s.aon with vaon := true, rtcSec := 0, rtcSub := 0, rtcLoad := none } })
/-- Power-fail records without a commit marker are ignored (R138). -/
def State.dropInvalid (s : State) (i : Nat) : State :=
  let x := s.cont.slots.getD i pfSlotEmpty
  if x.valid || x.order == 0 then s
  else
    let s := (s.setBitAt MEM_PF_STATUS 2 true).logEvent 0x030D i 0
    { s with cont := { s.cont with slots := s.cont.slots.set i pfSlotEmpty } }
/-- POWER_UP_SEQUENCE: with `ready`, AON is ready (R530) and steps 1 to 4 of R531 run. -/
def execPowerUpSequence (ready : Bool) (s : State) : Out :=
  .next (if !ready || !s.aon.vaon || s.aon.resetting != 2 || s.aon.powerStep != 0 || s.deviceState != 0 then s
    else
      let cause := s.fld AON_PWR_STATUS 19 16
      let s := if cause = 0 then s.setFld AON_PWR_STATUS 19 16 (if s.aon.pfDone then 6 else 1) else s
      let s : State := { s with aon := { s.aon with vddCore := true, resetN := true, pfDone := false, powerStep := 4 } }
      let s := s.forEach (List.range 16) (fun s p => s.setPortState p 1)
      let s := (s.ltAdd 2 1).setBitAt AON_PWR_STATUS 11 true
      let s := if s.aon.mirror.any (fun x => x.1 != 0 && !x.2.1) then s.event AON_EVENTS 3 else s
      let s := s.forEach (List.range 16) State.loadPark
      let s := s.forEach (List.range 18) State.calLoad
      let s := s.setReg CFG_PF_GEN (BitVec.ofNat 32 s.cont.pfGen)
      (s.dropInvalid 0).dropInvalid 1)
/-- CISTERN_TRAINED: step 5 of R531. -/
def execCisternTrained (s : State) : Out :=
  .next (if s.aon.resetting ≠ 2 ∨ s.aon.powerStep ≠ 4 then s
    else
      let s := (s.setBitAt MEM_STATUS 0 true).setFld AON_PWR_STATUS 2 0 1
      { s with aon := { s.aon with resetting := 0, powerStep := 5 } })

/-! Island modes. -/

/-- Something holds the island: a running operation, a maintenance activity, or a controller that is neither OFF nor FAULTED
(R533). -/
def State.islandBusy (s : State) (i : Nat) : Bool :=
  s.ops.any (fun o => o.phase == .running && (s.islandsOf o).contains i) ||
  s.mnt.running.any (fun a => (a.kind == 6 && (islandCals i).contains a.ix) || (a.kind == 5 && i == 25)) ||
  (i == 25 && (List.range 64).any (fun d => s.dpsState d != 0 && s.dpsState d != 5))
/-- The pins of one cluster disconnect (R183, R534, R544). -/
def State.sleepPins (s : State) (k : Nat) : State :=
  let cs := (List.range 32).map (fun j => 32 * k + j)
  let s := s.pmuLeaves cs
  let s := s.forEach cs (fun s c =>
    (s.setFld (CH_CFG c) 1 0 0).setLive (CH_CFG c) ((s.liveReg (CH_CFG c)).withField 1 0 0))
  { s with chans := s.chans.filter (fun e => e.1 / 32 != k) }
/-- An island enters RETAIN or OFF (R534, R349). -/
def State.enterMode (s : State) (i m : Nat) : State :=
  let c := s.cfg
  let left := if s.islandMode i = 0 then Map.set natDefault c.leftGen i (s.genOf i) else c.leftGen
  let lost := if m = 2 ∧ !c.lostRetention.contains i then c.lostRetention ++ [i] else c.lostRetention
  let s : State := { s with cfg := { c with leftGen := left, lostRetention := lost, reloading := c.reloading.filter (fun x => x != i) } }
  let s := ((if i < 16 then s.sleepPins i else s).setGen i 0).setIslandMode i m
  if i = 16 then
    s.forEach (List.range 16) (fun s a =>
      (s.setAnState a 0).setAna a { s.ana a with muteUntil := none })
  else s
/-- A mode request that passes its field ranges (R533 to R535). -/
def State.askMode (s : State) (i m : Nat) : State :=
  let ok := fun (t : State) => t.setFld AON_PWR_STATUS 31 28 0
  let drop := fun (t : State) => { t with aon := { t.aon with after := t.aon.after.filter (fun x => x.1 != i) } }
  if s.islandMode i = 3 then
    let t := drop s
    ok (if m = 0 then t else { t with aon := { t.aon with after := t.aon.after ++ [(i, m)] } })
  else if m = 0 then ok (s.startWake i)
  else if s.islandBusy i then s.setFld AON_PWR_STATUS 31 28 1
  else ok (s.enterMode i m)
/-- AON_ISL_CMD (R533, R546). In a reset, or once power fails, it is not allowed. -/
def State.islandCommand (s : State) (path : Path) (v : Word) : State :=
  let i := v.field 4 0; let m := v.field 9 8
  if 25 < i ∨ m = 3 then s.rangeFlag path AON_ISL_CMD
  else if !([1, 2, 3].contains s.deviceState) then s.setFld AON_PWR_STATUS 31 28 2
  else s.askMode i m
/-- ISLAND_MODE_REQUEST, from endpoint 0. -/
def execIslandModeRequest (v : Word) (s : State) : Out := .next (s.islandCommand 0 v)
/-- ISLAND_WAKE_DONE: the island is ON; `upsets` gives what has flipped in its retained memories by its retention check (R529, R534,
R535). -/
def execIslandWakeDone (island : Nat) (upsets : List (Nat × Nat)) (s : State) : Out :=
  .next (if !s.aon.waking.contains island || s.islandMode island != 3 then s
    else
      let s := s.setIslandMode island 0
      let s : State := { s with aon := { s.aon with waking := s.aon.waking.filter (fun x => x != island) } }
      let s := if !retentionHolds upsets || s.cfg.lostRetention.contains island then s.loseIsland island else s
      match s.aon.after.find? (fun x => x.1 == island) with
      | some (_, m) =>
        let s : State := { s with aon := { s.aon with after := s.aon.after.filter (fun x => x.1 != island) } }
        s.askMode island m
      | none => s)

/-! Device sleep. -/

/-- DEVICE_SLEEP of AON_SLEEP_CMD (R537): only an ACTIVE device can sleep. An island that is waking enters its mode at once. -/
def State.sleepCommand (s : State) : State :=
  if s.deviceState ≠ 1 then s.setFld AON_PWR_STATUS 31 28 2
  else if s.inFlight ≠ 0 ∨ !s.mnt.running.isEmpty ∨ !s.mnt.waiting.isEmpty then s.setFld AON_PWR_STATUS 31 28 1
  else
    let m := if s.bitAt AON_CFG 2 then 2 else 1
    let s : State := { s with aon := { s.aon with waking := [], after := [] } }
    let s := s.forEach (List.range 26) (fun s i => if s.islandMode i = 2 then s else s.enterMode i m)
    ((s.setFld AON_PWR_STATUS 31 28 0).setBitAt AON_PWR_STATUS 8 true).setFld AON_PWR_STATUS 2 0 2
/-- DEVICE_SLEEP. -/
def execDeviceSleep (s : State) : Out := .next s.sleepCommand
/-- AON_SLEEP_CMD (R537, R538). WAKE outside SLEEP changes nothing. -/
def State.sleepWrite (s : State) (v : Word) : State :=
  match v.field 3 0 with
  | 1 => s.sleepCommand
  | 2 => s.wakeUp.setFld AON_PWR_STATUS 31 28 0
  | _ => s.setFld AON_PWR_STATUS 31 28 3
/-- WAKE of AON_SLEEP_CMD (R538). -/
def execWake (s : State) : Out := .next (s.wakeUp.setFld AON_PWR_STATUS 31 28 0)
/-- WAKING_DONE: the Cistern serves again (R524, R538). -/
def execWakingDone (s : State) : Out :=
  .next (if s.deviceState = 3 then (s.setBitAt AON_PWR_STATUS 8 false).setFld AON_PWR_STATUS 2 0 1 else s)

/-! Real-time clock and lifetime counters. -/

/-- The alarm: the seconds have reached a value of AON_ALARM that is not 0. It wakes a sleeping device where it may (R538,
R543). -/
def State.checkAlarm (s : State) : State :=
  let al := s.reg64 AON_ALARM_LO AON_ALARM_HI
  if al ≠ 0 ∧ al = s.aon.rtcSec then
    let s := s.event AON_EVENTS 2
    if s.bitAt AON_CFG 9 then s.wakeUp else s
  else s
/-- The RTC takes loaded seconds, with sub-second 0 (R542). -/
def State.loadRtc (s : State) (n : Nat) : State :=
  let s : State := { s with aon := { s.aon with rtcSec := n, rtcSub := 0, rtcLoad := none } }
  (s.setBitAt AON_PWR_STATUS 9 true).checkAlarm
/-- SET of AON_RTC_CMD: the load takes place at the next crystal edge, at once while the crystal runs (R542). -/
def State.setRtc (s : State) : State :=
  let n := s.reg64 AON_RTC_SET_LO AON_RTC_SET_HI % 2 ^ 48
  let s := s.setFld AON_PWR_STATUS 31 28 0
  if s.bitAt AON_PWR_STATUS 10 then s.loadRtc n else { s with aon := { s.aon with rtcLoad := some n } }
/-- RTC_SET. -/
def execRtcSet (s : State) : Out := .next s.setRtc
/-- Lifetime counter of the temperature band of the hottest unit (R544): T in sixteenths of a degree. -/
def State.tempBand (s : State) : Nat :=
  let t := ((List.range 18).map (fun u => signed 16 (s.fld (MNT_U_TEMP u) 15 0))).foldl max (-32768)
  if t < 720 then 8 else if t < 1200 then 9 else if t < 1520 then 10 else if t < 1680 then 11 else 12
/-- One second of lifetime (R544). -/
def State.countSecond (s : State) : State :=
  let s := s.ltAdd 1 1
  if s.aon.vddCore then (s.ltAdd 0 1).ltAdd s.tempBand 1 else s
/-- RTC_SECOND: 32,768 crystal cycles have passed (R541, R543, R544). -/
def execRtcSecond (s : State) : Out :=
  .next (if !s.aon.vaon then s
    else
      let s := s.setBitAt AON_PWR_STATUS 10 true
      let s : State := { s with aon := { s.aon with rtcSec := (s.aon.rtcSec + 1) % 2 ^ 48, rtcSub := 0 } }
      let s := s.checkAlarm.countSecond
      match s.aon.rtcLoad with
      | some n => s.loadRtc n
      | none => s)
/-- XTAL_FAIL (R543). -/
def execXtalFail (s : State) : Out :=
  .next (if s.aon.vaon then ((s.setBitAt AON_PWR_STATUS 10 false).setBitAt AON_PWR_STATUS 9 false).event AON_EVENTS 1 else s)
/-- XTAL_RETURN: crystal edges arrive again; a load that waits for one takes place (R542, R543). -/
def execXtalReturn (s : State) : Out :=
  .next (if !s.aon.vaon then s
    else
      let s := s.setBitAt AON_PWR_STATUS 10 true
      match s.aon.rtcLoad with
      | some n => s.loadRtc n
      | none => s)
/-- SREF_DERIVED_SECOND: without the crystal, the core counts the seconds (R544). -/
def execSrefDerivedSecond (s : State) : Out :=
  .next (if s.aon.vaon ∧ s.aon.vddCore ∧ !s.bitAt AON_PWR_STATUS 10 then s.countSecond else s)
/-- LIFETIME_MIRROR: every 10 s (R545). -/
def execLifetimeMirror (s : State) : Out := .next (if s.aon.vaon ∧ s.aon.vddCore then s.mirrorWrite else s)

end Sys2Proof.Machine
end

