-- ==== Sys2Proof/Machine/SvcMaster.lean ====
section
/-! DEFINITION. The service port in the master role and the general-purpose inputs (R573 to R576, R313, R538). -/

namespace Sys2Proof.Machine

/-- SVC_STATUS.CMD_RESULT (R577). -/
def State.svcResult (s : State) (n : Nat) : State := s.setFld SVC_STATUS 31 28 n
/-- Bits of a chain frame (R575). -/
def State.chainLen (s : State) : Nat := if s.fld SVC_CHAIN_LEN 11 0 = 0 then 4096 else s.fld SVC_CHAIN_LEN 11 0
/-- The chain buffer as one number (R575). -/
def State.chainBits (s : State) : Nat :=
  (List.range 128).foldr (fun i n => (s.reg (SVC_CHAIN i)).toNat + 2 ^ 32 * n) 0
/-- A received chain frame replaces the bits that were sent (R575). -/
def State.takeChain (s : State) (v : Nat) : State :=
  let n := s.chainLen
  let w := v % 2 ^ n + s.chainBits / 2 ^ n * 2 ^ n
  s.forEach (List.range 128) (fun s i => s.setReg (SVC_CHAIN i) (BitVec.ofNat 32 (w / 2 ^ (32 * i))))
/-- A master transfer ends once no frame is left and every received one has its place (R574). -/
def State.endMaster (s : State) : State :=
  if s.bitAt SVC_STATUS 0 ∧ s.svc.left = 0 ∧ s.svc.paused = none then
    ((s.setBitAt SVC_STATUS 0 false).event SVC_EVENTS 0).settleRole
  else s
/-- START of SVC_M_CTRL (R574, R575). -/
def State.startMaster (s : State) : State :=
  if !s.bitAt SVC_STATUS 1 then s.svcResult 2
  else if s.bitAt SVC_STATUS 0 then s.svcResult 1
  else
    let chain := s.bitAt SVC_CFG 2
    let s : State := { s with svc := { s.svc with
      left := if chain then 1 else s.fld SVC_M_COUNT 15 0, chain := chain, lastFrame := none, paused := none } }
    (s.setBitAt SVC_STATUS 0 true).svcResult 0
/-- STOP of SVC_M_CTRL: the frame in progress is the last; during a pause none is in progress (R574). -/
def State.stopMaster (s : State) : State :=
  let n := if s.svc.paused = none then min s.svc.left 1 else 0
  ({ s with svc := { s.svc with left := n } }).svcResult 0
/-- SVC_M_CTRL (R574, R577). -/
def State.masterCommand (s : State) (v : Word) : State :=
  match v.field 3 0 with
  | 1 => s.startMaster
  | 2 => s.stopMaster
  | _ => s.svcResult 3
/-- MASTER_START. -/
def execMasterStart (s : State) : Out := .next s.startMaster
/-- MASTER_STOP. -/
def execMasterStop (s : State) : Out := .next s.stopMaster
/-- The frame of a native transfer that begins now: the oldest one queued, or the previous one again (R573, R574). -/
def State.sendFrame (s : State) : State :=
  let n := s.fld SVC_CFG 13 8
  match s.svc.tx with
  | f :: r => { s with svc := { s.svc with tx := r, lastFrame := some (f % 2 ^ n) } }
  | [] =>
    let s := (s.incSat SVC_M_UNDERRUN).event SVC_EVENTS 1
    { s with svc := { s.svc with lastFrame := some (s.svc.lastFrame.getD 0) } }
/-- A received frame enters SVC_RX; a full one keeps it out and pauses SVC_CLK (R573, R574). -/
def State.takeFrame (s : State) (f : Nat) : State :=
  if s.svc.rx.length < 16 then { s with svc := { s.svc with rx := s.svc.rx ++ [f] } }
  else { s with svc := { s.svc with paused := some f } }
/-- MASTER_FRAME: one frame is sent and `received` taken in (R573 to R575). -/
def execMasterFrame (received : Nat) (s : State) : Out :=
  .next (if !s.bitAt SVC_STATUS 0 || s.svc.left == 0 || s.svc.paused.isSome then s
    else
      let s : State := { s with svc := { s.svc with left := s.svc.left - 1 } }
      if s.svc.chain then
        let s : State := { s with svc := { s.svc with lastFrame := some (s.chainBits % 2 ^ s.chainLen) } }
        s.takeChain received
      else s.sendFrame.takeFrame (received % 2 ^ s.fld SVC_CFG 13 8))
/-- MASTER_TRANSFER_END. -/
def execMasterTransferEnd (s : State) : Out := .next s.endMaster
/-- A write of SVC_TX (R573). -/
def State.queueFrame (s : State) (path : Path) (v : Word) : State :=
  if 16 ≤ s.svc.tx.length then s.rangeFlag path SVC_TX
  else { s with svc := { s.svc with tx := s.svc.tx ++ [v.toNat] } }
/-- SVC_TX_WRITE. -/
def execSvcTxWrite (path : Path) (v : Word) (s : State) : Out := .next (s.queueFrame path v)
/-- A read of SVC_RX: the oldest frame leaves, and a frame that waited enters (R573, R574). -/
def State.popFrame (s : State) (path : Path) : State :=
  match s.svc.rx with
  | [] => { s.rangeFlag path SVC_RX with rdata := 0 }
  | f :: r =>
    let l := match s.svc.paused with
      | some p => r ++ [p]
      | none => r
    { s with rdata := BitVec.ofNat 32 f, svc := { s.svc with rx := l, paused := none } }
/-- SVC_RX_READ. -/
def execSvcRxRead (path : Path) (s : State) : Out := .next (({ s with flagged := false }).popFrame path)

/-- A general-purpose pin is an input: its direction bit is 0 and it does not carry the device interrupt (R576, R588). -/
def State.gpioIn (s : State) (n : Nat) : Bool := !s.gpioOut n && s.irqPin != some n
/-- GPIO_INPUT_EDGE: a sampled edge of a ball. On an input it is a source event, and it may wake the device (R313, R538, R576). -/
def execGpioInputEdge (pin : Nat) (rising : Bool) (s : State) : Out :=
  .next (if s.bitAt SVC_GPIO_IN pin = rising then s
    else
      let s := s.setBitAt SVC_GPIO_IN pin rising
      if !s.gpioIn pin then s
      else
        let s := if s.bitAt AON_CFG 10 && s.fld AON_CFG 14 12 == pin then s.wakeUp else s
        s.source 0x0A pin (if rising then 0 else 1) s.now)

end Sys2Proof.Machine
end

