-- ==== Sys2Proof/Machine/RegRead.lean ====
section
/-! DEFINITION. Reads of the register space (R13, R536, R578 to R585): what each register shows, the RC clears, and the holding
copies of the 64-bit pairs. -/

namespace Sys2Proof.Machine

/-- A word from a number. -/
def word (n : Nat) : Word := BitVec.ofNat 32 n
/-- Number with bit i when a condition holds. -/
def bitIf (b : Bool) (i : Nat) : Nat := if b then 2 ^ i else 0
/-- A stored register with further bits. -/
def State.plus (s : State) (a n : Nat) : Word := s.reg a ||| word n

/-! Registers that show what the state holds elsewhere. -/

/-- GLB registers (R156, R591). -/
def State.viewGlb (s : State) (a : Nat) : Word :=
  if a = GLB_ID then s.plus a stepping
  else if a = GLB_IRQ_STATUS then word s.irqStatus
  else if a = GLB_IRQ_CL then word s.irqCl
  else if a = GLB_IRQ_FNT then word s.irqFnt
  else if a = GLB_IRQ_AN_LG then word s.irqAnLg
  else if a = GLB_IRQ_DPS_LO then word s.irqDps
  else if a = GLB_IRQ_DPS_HI then word (s.irqDps / 2 ^ 32)
  else if a = GLB_IRQ_APL then word s.irqApl
  else if a = GLB_EVQ_STATUS then s.plus a s.evq.recs.length
  else if a = GLB_GCC_LO then word s.now
  else if a = GLB_GCC_HI then word (s.now / 2 ^ 32)
  else s.reg a
/-- SEC registers; floors, KSEQ and keys read 0 before step 2 of the power-up sequence (R547, R548, R563). -/
def State.viewSec (s : State) (a : Nat) : Word :=
  let on := decide (2 ≤ s.aon.powerStep)
  if a = SEC_STATUS then s.plus a ((if on then s.keyStates else 0) + bitIf s.secBusy 16 + bitIf s.policyOn 18 + bitIf s.svcLocked 19)
  else if a = SEC_CFG_FLOOR then (if on then word s.sec.cfgFloor else 0)
  else if a = SEC_CS_FLOOR then (if on then word s.sec.csFloor else 0)
  else if a = SEC_KSEQ_LO then (if on then word s.sec.kseq else 0)
  else if a = SEC_KSEQ_HI then (if on then word (s.sec.kseq / 2 ^ 32) else 0)
  else if SEC_DEVID_PUB 0 ≤ a ∧ a < SEC_DEVID_PUB 16 then
    word (leNat ((List.range 4).map (fun i => Config.identityPub (a - SEC_DEVID_PUB 0 + i))))
  else if a = SEC_CERT_LEN then word (min Config.certLength 1024)
  else if SEC_CERT 0 ≤ a ∧ a < SEC_CERT 256 then
    word (leNat ((List.range 4).map (fun i =>
      let n := a - SEC_CERT 0 + i
      if n < Config.certLength then Config.certByte n else 0)))
  else if SEC_KEY 0 ≤ a ∧ a < SEC_KEY 64 then
    (if on then word (leNat (((s.keyBytes ((a - SEC_KEY 0) / 64)).drop (a % 64)).take 4)) else 0)
  else s.reg a
/-- Window charge of a rail in µJ, IDLE_MW included, truncated (R413, R425). -/
def State.usedUj (s : State) (r us : Nat) : Nat :=
  (s.windowCharge r us + ((s.limits r).map (idleMw r)).getD 0 * us) / 1000
/-- NRG registers (R425). -/
def State.viewNrg (s : State) (a : Nat) : Word :=
  let r := (a - NRG_R_PEAK_RES 0) / 32
  if a = NRG_STATUS then
    let overs := (List.range 6).any (fun i => match s.limits i with
      | some m => s.monAbove i m.peak
      | none => false)
    word (bitIf (s.bitAt NRG_CTRL 0) 0 + bitIf (s.energy.refine && !s.bitAt NRG_CTRL 1) 1 +
      bitIf (s.ops.any (fun o => o.holding && !o.admitted && o.phase == .waiting)) 2 + bitIf overs 3)
  else if a = NRG_WAITING then word s.candidates.length
  else if NRG_R_PEAK_RES 0 ≤ a ∧ r < 6 then
    let i := (a - NRG_R_PEAK_RES 0) % 32
    if i = 0 then word (s.peakRes r + ((s.limits r).map (idleMw r)).getD 0)
    else if i = 4 then word (s.usedUj r 10)
    else if i = 8 then word (s.usedUj r 1000)
    else if i = 12 then word (s.usedUj r 1000000)
    else s.reg a
  else if NRG_SITE_RES 0 ≤ a ∧ a < NRG_SITE_RES 256 then word (min (s.peakRes (6 + (a - NRG_SITE_RES 0) / 4)) (2 ^ 24 - 1))
  else s.reg a
/-- AON lifetime counters (R544, R546). -/
def State.viewAon (s : State) (a : Nat) : Word :=
  if AON_LT_LO 0 ≤ a ∧ a < AON_LT_LO 32 then
    let n := s.lifetime ((a - AON_LT_LO 0) / 8)
    if a % 8 = 0 then word n else word (n / 2 ^ 32)
  else s.reg a
/-- SVC registers (R575, R577). -/
def State.viewSvc (s : State) (a : Nat) : Word :=
  if a = SVC_STATUS then s.plus a (bitIf s.svc.slave.isSome 2 + s.svc.tx.length * 8 + s.svc.rx.length * 256)
  else if SVC_CHAIN 0 ≤ a ∧ a < SVC_CHAIN 128 ∧ s.bitAt SVC_STATUS 0 then 0
  else s.reg a
/-- Ranks of maintenance activities, rank r at bit r − 1 (R486). -/
def ranks (l : List Act) : Nat := maskOf 6 (fun i => l.any (fun x => x.kind == i + 1))
/-- MNT registers (R486). -/
def State.viewMnt (s : State) (a : Nat) : Word :=
  if a = MNT_STATUS then word (ranks s.mnt.running + 2 ^ 8 * ranks s.mnt.waiting)
  else if a = MNT_CAL_RUNNING then word (maskOf 18 (fun u => (s.cal u).st != 0 && (s.cal u).st != 9))
  else s.reg a
/-- A queue has records that the host has not retired. -/
def State.unread (s : State) (q : Nat) : Bool := s.reg (WQ_CQ_TAIL q) != s.reg (WQ_CQ_HEAD q)
/-- WKE registers (R79, R84, chapter 02). -/
def State.viewWke (s : State) (a : Nat) : Word :=
  if a = WKE_STATUS then s.plus a (bitIf s.accepting 0 + bitIf (decide (65536 ≤ s.inFlight)) 1 + bitIf (s.bitAt WKE_CTRL 0) 2 +
    bitIf (decide (1024 ≤ (s.ops.filter Op.slot).length)) 4)
  else if a = WKE_INFLIGHT then word s.inFlight
  else if WKE_ATTN_SUM 0 ≤ a ∧ a < WKE_ATTN_SUM 4 then
    let k := (a - WKE_ATTN_SUM 0) / 4
    word (maskOf 32 (fun i => (List.range 32).any (fun j => s.unread (32 * (32 * k + i) + j))))
  else if WKE_ATTN 0 ≤ a ∧ a < WKE_ATTN 128 then word (maskOf 32 (fun i => s.unread (8 * (a - WKE_ATTN 0) + i)))
  else if WKE_OPEN 0 ≤ a ∧ a < WKE_OPEN 128 then word (maskOf 32 (fun i => s.openQ (8 * (a - WKE_OPEN 0) + i)))
  else s.reg a
/-- WQ registers of a queue (R102). -/
def State.viewWq (s : State) (a : Nat) : Word :=
  let q := (a - WQ_SQ_TAIL 0) / 0x40
  if a = WQ_STATUS q then s.plus a (bitIf (s.openQ q) 0)
  else if a = WQ_INFLIGHT q then word ((s.queueOps q).length + (s.heldRecs.filter (fun o => o.queue == q)).length)
  else s.reg a
/-- MSQ registers (R460). -/
def State.viewMsq (s : State) (m a : Nat) : Word :=
  if a = MSQ_STATUS m then s.plus a (bitIf (s.vendorRuns m) 0 + bitIf (s.vendorRuns m) 6 + bitIf (s.msq m).image.isSome 1)
  else s.reg a
/-- A channel's mode change is in progress (R182); a channel that a reset holds shows none (R614). -/
def State.switching (s : State) (c : Nat) : Bool :=
  !s.pinsHeld c && match (s.chan c).switching with
  | some g => decide (s.now < g)
  | none => false
/-- Parts of the mode that a channel has left are still connected (R182). -/
def State.leavingNow (s : State) (c : Nat) : Option Leave :=
  if s.inPinReset c then none else (s.chan c).leaving.filter (fun l => decide (s.now < l.till))
/-- Driver and load of a channel now, the overlap of a mode change included (R170, R182, R186, R196). -/
def State.drivingNow (s : State) (c : Nat) : Bool := s.driverOn c || ((s.leavingNow c).map Leave.driving).getD false
def State.loadNow (s : State) (c : Nat) : Bool := s.loadOn c || ((s.leavingNow c).map Leave.load).getD false
/-- The PPMU is connected to the ball, in the mode in force or in the one that the channel leaves (R181, R182). -/
def State.pmuConnected (s : State) (c : Nat) : Bool := pmuOn (s.liveMode c) || ((s.leavingNow c).map (fun l => pmuOn l.mode)).getD false
/-- CH_STATUS (R221). -/
def State.chStatus (s : State) (c : Nat) : Nat :=
  let gone := match s.cfg.active.bind (fun g => g.siteOfCh c) with
    | some n => s.absent n
    | none => false
  s.liveMode c + bitIf (s.loadNow c) 2 + bitIf (s.drivingNow c) 3 + bitIf (s.switching c) 4 +
    bitIf (s.isFaulted 1 c || s.isFaulted 6 (c / 32)) 5 + bitIf (s.assigned c) 6 + bitIf gone 7
/-- CAL_STATUS: RUNNING, the pass in progress and the part that it measures (R469, R487). -/
def State.calStatus (s : State) (u : Nat) : Nat :=
  let x := s.cal u
  let run := x.st != 0 && x.st != 9
  let pass := if x.st = 2 then 1 else if x.st = 3 then 2 else 0
  let t := passSteps u x.parts - (x.due - s.now)
  let t0 := passSteps u (x.parts % 2); let t1 := passSteps u (x.parts % 4)
  let part := if pass = 0 then 0 else if bit x.parts 0 ∧ t < t0 then 1 else if bit x.parts 1 ∧ t < t1 then 2 else 4
  bitIf run 0 + pass * 2 + part * 16
/-- Registers of a cluster at offset `o` (R180, R221, R327, R346, R460, R487). -/
def State.viewCl (s : State) (k o a : Nat) : Word :=
  if o < 0x800 then
    (if a = TE_STATUS k then
      s.plus a (bitIf s.counting 0 + bitIf (s.clu k).run.isSome 1 + bitIf (s.clu k).pendTe.isSome 2)
    else if a = LV_STATUS k then
      word (bitIf (s.clu k).pendLv.isSome 0 + bitIf ((List.range 32).any (fun j => s.switching (32 * k + j))) 1)
    else if TE_CAL_DESKEW k 0 ≤ a ∧ a < TE_CAL_DESKEW k 32 then word (s.deskewShown k (o % 128 / 4))
    else s.reg a)
  else if o < 0x10000 then s.viewMsq k a
  else if o < 0x20000 then
    let c := 32 * k + (o - 0x10000) / 0x400
    (if a = CH_STATUS c then word (s.chStatus c)
    else if a = CH_PMU_STATUS c then word (bitIf (s.pmuConnected c) 0 + bitIf (s.clamped c) 1 + bitIf (pmuOn (s.liveMode c) && s.bitAt a 2) 2)
    else s.reg a)
  else if o < 0x30000 then s.reg a
  else if o < 0x40000 then
    (if a = MEAS_STATUS k then s.plus a (s.preset k + bitIf (s.measHolder k).isSome 2) else s.reg a)
  else if o < 0x50000 then
    let r := s.ring k
    (if a = ACQ_HELD k then word r.all.length
    else if a = ACQ_RD_STATUS k then s.plus a (bitIf r.shown.isSome 8 + bitIf r.mark.isSome 10)
    else if ACQ_RD k 0 ≤ a ∧ a < ACQ_RD k 4 then word (((r.shown.map recordBits).getD 0) / 2 ^ (8 * (a - ACQ_RD k 0)))
    else if a = CMP_FEED_LEVEL k then word (s.clu k).feeder.length
    else s.reg a)
  else
    let j := o % 0x80 / 4
    (if a = CAL_STATUS k then word (s.calStatus k)
    else if CAL_CMP_SEL k 0 ≤ a ∧ a < CAL_CMP_SEL k 32 then word (s.cmpSelShown k j)
    else if CAL_SPARE k 0 ≤ a ∧ a < CAL_SPARE k 32 then word (s.spareShown k j)
    else if CAL_TAP k 0 ≤ a ∧ a < CAL_TAP k 32 then word (s.tapShown k j)
    else s.reg a)
/-- SEG registers (R255). -/
def State.viewSeg (s : State) (a : Nat) : Word :=
  if a = SEG_RD_RESERVED then word s.readsTaken
  else if a = SEG_LOADING then
    word (s.regs.filter (fun e => SEG_D_INFO 0 ≤ e.1 && e.1 < SEG_D_INFO 16384 && e.1 % 16 == 0 && e.2.field 2 0 == 1)).length
  else s.reg a
/-- Registers of an analog channel (R349, R361, R371). -/
def State.viewAn (s : State) (a : Nat) : Word :=
  let n := (a - 0x03000000) / 0x10000
  let assigned := match s.cfg.active with
    | some g => (g.siteOfAn n).isSome
    | none => false
  let play := match s.awgOp n with
    | some o => (awgWork o).map (fun w => awgPlayed o w s.now)
    | none => none
  if a = AN_STATUS n then s.plus a (bitIf assigned 0 +
    bitIf (s.ops.any (fun o => o.holds && o.opcode == 8 && (s.resources o).contains (.anDig n))) 7)
  else if a = AN_SAMPLES_LO n then ((play.map word).getD (s.reg a))
  else if a = AN_SAMPLES_HI n then ((play.map (fun m => word (m / 2 ^ 32))).getD (s.reg a))
  else if a = AN_RS_STATUS n then
    (match (s.ana n).fadeEnd, (s.awgOp n).bind (fun o => (awgWork o).map (fun w => awgBall o w s.now)) with
    | some e, some m => (s.reg a).withField 16 0 (e - max (s.ana n).fadeStart m)
    | _, _ => s.reg a)
  else s.reg a
/-- Registers of a power supply controller (R407). -/
def State.viewDps (s : State) (a : Nat) : Word :=
  let d := (a - 0x03200000) / 0x400
  if a = DPS_STATUS d then
    let assigned := match s.cfg.active with
      | some g => (g.siteOfDps d).isSome
      | none => false
    s.plus a (bitIf assigned 8 + bitIf (s.ops.any (fun o => o.phase == .running && (s.resources o).contains (.dps d))) 9)
  else s.reg a
/-- MEM registers: the power-fail slots, once step 4 of the power-up sequence has loaded them (R141). -/
def State.viewMem (s : State) (a : Nat) : Word :=
  let owed := fun (i : Nat) => (s.cont.slots.getD i pfSlotEmpty).owed
  let older := match s.olderSlot with
    | some i => s.cont.slots.getD i pfSlotEmpty
    | none => pfSlotEmpty
  if s.aon.powerStep < 4 then s.reg a
  else if a = MEM_PF_STATUS then
    s.plus a (bitIf (!(owed 0).isEmpty) 0 + bitIf (!(owed 1).isEmpty) 1 + bitIf (s.olderSlot == some 1) 3)
  else if a = MEM_PF_PENDING then word ((owed 0).length + (owed 1).length)
  else if a = MEM_PF_EPOCH then word older.epoch
  else if a = MEM_PF_GCC_LO then word older.gcc
  else if a = MEM_PF_GCC_HI then word (older.gcc / 2 ^ 32)
  else s.reg a
/-- APL common registers (R522). -/
def State.viewAplG (s : State) (a : Nat) : Word :=
  if a = APL_UID_LO then word Config.deviceUid.toNat
  else if a = APL_UID_HI then word (Config.deviceUid.toNat / 2 ^ 32)
  else if a = APL_ROUTES then
    let all := (match s.chipNum with
      | some e => [e]
      | none => []) ++ s.knownEps
    word ((all.eraseDups.filter (fun e => decide (s.dist e < 63))).length)
  else s.reg a

/-- What a register shows, but for the values that the spec leaves open (R13). -/
def State.view (s : State) (a : Nat) : Word :=
  if a < 0x10000 then s.viewGlb a
  else if a < 0x20000 then s.viewSec a
  else if a = CFG_STALE_ISLANDS then word (maskOf 26 s.stale)
  else if a < 0x30000 then s.reg a
  else if a < 0x40000 then s.viewNrg a
  else if a < 0x50000 then s.viewAon a
  else if a < 0x60000 then s.viewSvc a
  else if a < 0x80000 then s.viewMnt a
  else if a < 0xA0000 then s.viewWke a
  else if a < 0x100000 then s.viewMsq 16 a
  else if a < 0x200000 then s.viewWq a
  else if a < 0x1200000 then s.viewCl ((a - 0x200000) / 0x100000) ((a - 0x200000) % 0x100000) a
  else if a < 0x2400000 then
    let f := (a - 0x2000000) / 0x10000
    if a = FNT_STATUS f then s.plus a (bitIf (s.isFaulted 2 f) 0) else s.reg a
  else if a < 0x3000000 then s.viewSeg a
  else if a < 0x3100000 then s.viewAn a
  else if a < 0x3200000 then
    let g := (a - 0x3100000) / 0x10000
    if a = LG_STATUS g then s.plus a (bitIf (s.groupHeld g) 0) else s.reg a
  else if a < 0x3400000 then s.viewDps a
  else if a = XTB_ARM then s.reg XTB_STATUS &&& 0xFFFF
  else if a < 0x4100000 then s.reg a
  else if a < 0x5000000 then s.viewAplG a
  else s.viewMem a

/-! 64-bit pairs (R583). -/

/-- Where a value stands in an array of registers: `n` of them, `d` apart from `b`. -/
def inArr (a b d n : Nat) : Bool := decide (b ≤ a) && decide (a < b + d * n) && (a - b) % d == 0
/-- The LO register of a 64-bit pair: its read snapshots the register after it. Of the pairs that software writes these are the
ones of the analog channels, whose block says so of every pair (R371, R583; log entry 55). -/
def snapLo (a : Nat) : Bool :=
  [GLB_GCC_LO, GLB_TB_LAST_SYNC_LO, GLB_CONTACT_GCC_LO, SEC_KSEQ_LO, CFG_LAST_SWAP_GCC_LO, NRG_NEVER_SEQ_LO, AON_RTC_LO, WKE_ASN_LO,
    MSQ_WORDS_LO 16, APL_UID_LO, APL_RT_UID_LO, MEM_PF_GCC_LO].contains a ||
  inArr a (AON_LT_LO 0) 8 32 || inArr a (MNT_U_TIME_LO 0) 0x20 18 || inArr a (WQ_NEXT_SEQ_LO 0) 0x40 4096 ||
  inArr a (MSQ_WORDS_LO 0) 0x100000 16 || inArr a (MEAS_SYNC_GCC_LO 0) 0x100000 16 || inArr a (FNT_CYCLES_LO 0) 0x10000 32 ||
  inArr a (SEG_Q_VADDR_LO 0) 0x40 16 || inArr a (SEG_Q_VECTORS_LO 0) 0x40 16 || inArr a (SEG_D_BASE_LO 0) 16 16384 ||
  inArr a (AN_SAMPLES_LO 0) 0x10000 16 || inArr a (AN_FTW_LO 0) 0x10000 16 || inArr a (AN_NOISE_SEED_LO 0) 0x10000 16 || (List.range 8).any (fun g => inArr a (LN_BITS_LO g 0) 0x20 16 ||
  inArr a (LN_ERR_LO g 0) 0x20 16) || inArr a (DPS_ENERGY_LO 0) 0x400 64 || inArr a (XTB_FIRE_GCC_LO 0) 8 16 ||
  inArr a (APL_PEER_UID_LO 0) 0x10000 16
/-- The HI register of such a pair. -/
def snapHi (a : Nat) : Bool := decide (4 ≤ a) && snapLo (a - 4)

/-! A read. -/

/-- Bits that a read returns: those of a field that is not WO (R13). -/
def Row.readMask (r : Row) : Word :=
  r.flds.foldl (fun m f => if f.acc = .wo then m else m ||| word (2 ^ (f.hi + 1) - 2 ^ f.lo)) 0
/-- RC fields take their reset value (R13). -/
def Row.clearRc (r : Row) (v : Word) : Word :=
  r.flds.foldl (fun v f => if f.acc = .rc then v.withField f.hi f.lo (r.reset / 2 ^ f.lo) else v) v
/-- The control-store window that holds an address: sequencer and byte offset (R428). -/
def csWindow (a : Nat) : Option (Nat × Nat) :=
  if 0xC0000 ≤ a ∧ a < 0xE0000 then some (16, a - 0xC0000)
  else if 0x200000 ≤ a ∧ a < 0x1200000 ∧ 0x80000 ≤ (a - 0x200000) % 0x100000 ∧ (a - 0x200000) % 0x100000 < 0xA0000 then
    some ((a - 0x200000) / 0x100000, (a - 0x200000) % 0x100000 - 0x80000)
  else none
/-- A word of a control-store window: vendor words read 0 (R428). -/
def State.csWord (s : State) (m off : Nat) : Word :=
  if off / 16 < customerBase then 0 else word ((s.storeAt m (off / 16)).toNat / 2 ^ (8 * (off % 16)))
/-- What a register shows. The registers that follow a generator's position show it where it stands by now (R284, R541). -/
def State.show (s : State) (a : Nat) : Nat × State :=
  let f := (a - 0x2000000) / 0x10000
  if a = AON_RTC_LO then (s.aon.rtcSec % 2 ^ 32, s)
  else if 0x2000000 ≤ a ∧ a < 0x2200000 ∧ (a = FNT_STATUS f ∨ a = FNT_REF_STATUS f ∨ (FNT_LC f 0 ≤ a ∧ a < FNT_LC f 8)) then
    ((((s.runAhead f).view a).toNat, s.runAhead f))
  else ((s.view a).toNat, s)
/-- The HI register of a pair as its LO read snapshots it. -/
def State.snapshot (s : State) (path a : Nat) : State :=
  let p := if a = AON_RTC_LO then s.rtcNow else (2 ^ 32 * (s.view (a + 4)).toNat, s)
  let s := p.2
  { s with hold := Map.set holdDefault s.hold (holdKey path (a + 4)) (word (p.1 / 2 ^ 32)) }
/-- What a read does beside returning a word: POISON of a ring's record (R306). -/
def State.readSide (s : State) (a : Nat) : State :=
  let k := (a - 0x200000) / 0x100000
  if 0x200000 ≤ a ∧ k < 16 ∧ ACQ_RD k 0 ≤ a ∧ a < ACQ_RD k 4 then s.readShown k ((a - ACQ_RD k 0) / 4) else s
/-- A read of one register by a path: the word read stands in `rdata` (R13, R536, R579, R583). -/
def State.readReg (s : State) (path : Path) (a : Nat) : State :=
  if s.asleepAt a then { s.rangeFlag path a with rdata := 0 }
  else match csWindow a with
  | some (m, o) => { s with rdata := s.csWord m o }
  | none => match regAt a with
    | none => { s with rdata := 0 }
    | some r =>
      if a = SVC_RX then s.popFrame path
      else if snapHi a then { s with rdata := Map.get holdDefault s.hold (holdKey path a) }
      else
        let p := s.show a
        let s := if snapLo a then p.2.snapshot path a else p.2
        let s := s.setReg a (r.clearRc (s.reg a))
        let s := s.readSide a
        { s with rdata := word p.1 &&& r.readMask }
/-- A read of a burst: beyond the end of the block that holds its first address, or where no block lies, it is a past-end access
(R584). -/
def State.burstRead (s : State) (path : Path) (start a : Nat) : State :=
  if mapped start ∧ a ≤ blockEnd start then s.readReg path a else { s.accessFlag path a 2 with rdata := 0 }

/-- A read of one register, as a command: an access moves one aligned word, so any other address makes none (R580). -/
def State.readAccess (s : State) (path : Path) (a : Nat) : State :=
  if a % 4 = 0 then ({ s with flagged := false }).burstRead path a a else s
/-- RC_REGISTER_READ (R13). -/
def execRcRegisterRead (path : Path) (addr : Nat) (s : State) : Out := .next (s.readAccess path addr)
/-- LO_REGISTER_READ (R583). -/
def execLoRegisterRead (path : Path) (addr : Nat) (s : State) : Out := .next (s.readAccess path addr)

end Sys2Proof.Machine
end

