-- ==== Sys2Proof/Machine/RegWrite.lean ====
section
/-! DEFINITION. Writes of the register space (R13, R536, R580 to R586): the access codes, the command registers, and the window of
the event queue (R590). -/

namespace Sys2Proof.Machine

/-! Fields (R13, R585). -/

/-- One field of a register takes its part of a write: an RW value outside its codes keeps the old one and sets RANGE; a locked
RWL field keeps its value, and another one sets LOCKED (R13, R56, R585). -/
def State.writeField (s : State) (path : Path) (a : Nat) (v : Word) (f : Fld) : State :=
  let n := v.field f.hi f.lo
  match f.acc with
  | .rw => if within f.min f.max n then s.setFld a f.hi f.lo n else s.rangeFlag path a
  | .rwl =>
    if s.cfg.locked then (if n = s.fld a f.hi f.lo then s else s.accessFlag path a 1)
    else if within f.min f.max n then s.setFld a f.hi f.lo n else s.rangeFlag path a
  | .w1c => s.setReg a (s.reg a &&& ~~~ word (n * 2 ^ f.lo))
  | .w1s => s.orReg a (n * 2 ^ f.lo)
  | _ => s
/-- Registers whose bits outside their field must be 0: a write with one of them set leaves the old value (R346, R575). -/
def strictHigh (a : Nat) : Bool :=
  a == SVC_CHAIN_LEN || (List.range 16).any (fun k => inArr a (MEAS_MASK_LO k 0) 4 32 || inArr a (MEAS_MASK_HI k 0) 4 32)
/-- A register takes a write field by field (R13). -/
def State.writeFields (s : State) (path : Path) (a : Nat) (v : Word) : State :=
  match regAt a with
  | none => s
  | some r =>
    if strictHigh a ∧ v &&& ~~~ r.readMask ≠ 0 then s.rangeFlag path a
    else s.forEach r.flds (fun s f => s.writeField path a v f)

/-! The event queue's window (R589, R590). -/

/-- NEXT: the record shown is discarded, and the oldest held one takes its place; a word of it that fails its parity check gives it
a poison tag (R589, R590). -/
def State.evqNext (s : State) : State :=
  match s.evq.recs with
  | [] => ((s.setBitAt GLB_EVQ_STATUS 11 false).setBitAt GLB_EVQ_STATUS 12 false).setFld GLB_EVQ_STATUS 31 24 1
  | r :: l =>
    let s : State := { s with evq := { recs := l } }
    let s := s.forEach (List.range 4) (fun s i => s.setReg (GLB_EVQ_RD i) (word (recordBits r / 2 ^ (32 * i))))
    ((s.setBitAt GLB_EVQ_STATUS 12 (badWords r != 0)).setBitAt GLB_EVQ_STATUS 11 true).setFld GLB_EVQ_STATUS 31 24 0
/-- The event queue after soft errors: of each, the record from the oldest and the bit (R589; log entry 84). -/
def State.upsetEvq (s : State) (upsets : List (Nat × Nat)) : State :=
  let flip := fun (l : List (BitVec 130)) (e : Nat × Nat) => l.modify e.1 (fun r => r ^^^ BitVec.ofNat 130 (2 ^ e.2))
  { s with evq := { recs := upsets.foldl flip s.evq.recs } }
/-- GLB_EVQ_NEXT; `upsets` are the soft errors that the queue has taken before (R589, R590). -/
def execGlbEvqNext (upsets : List (Nat × Nat)) (s : State) : Out := .next ((s.upsetEvq upsets).evqNext)

/-! Command registers, block by block. -/

/-- GLB registers. -/
def State.writeGlb (s : State) (path : Path) (a : Nat) (v : Word) : State :=
  if a = GLB_EVQ_CMD then (if v.field 3 0 = 1 then s.evqNext else s.setFld GLB_EVQ_STATUS 31 24 2)
  else if a = GLB_TB_CTRL then
    (match v.field 3 0 with
    | 1 => s.took (execArm s)
    | 2 => s.took (execDisarm s)
    | _ => s.tbResult 2)
  else s.writeFields path a v
/-- SEC_CMD and the other SEC registers (R563). -/
def State.writeSec (s : State) (path : Path) (a : Nat) (v : Word) : State :=
  if a = SEC_CMD then
    (match v.field 3 0 with
    | 1 => s.took (execKeyCmd s)
    | 2 => s.took (execAttest s)
    | 3 => s.took (execRaiseCfgFloor s)
    | 4 => s.took (execRaiseCsFloor s)
    | _ => s.secResult 0xB)
  else s.writeFields path a v
/-- CFG_CMD and the other CFG registers (R63). -/
def State.writeCfg (s : State) (path : Path) (a : Nat) (v : Word) : State :=
  if a = CFG_CMD then
    (match v.field 7 0 with
    | 1 => s.took (execVerify s)
    | 2 => s.took (execActivate s)
    | 3 => s.took (execDiscard s)
    | 4 => s.took (execAbortVerify s)
    | _ => s.cfgResult 4)
  else s.writeFields path a v
/-- AON registers (R546). -/
def State.writeAon (s : State) (path : Path) (a : Nat) (v : Word) : State :=
  if a = AON_RESET_CMD then s.resetCommand path v
  else if a = AON_SLEEP_CMD then s.sleepWrite v
  else if a = AON_ISL_CMD then s.islandCommand path v
  else if a = AON_RTC_CMD then (if v.field 3 0 = 1 then s.setRtc else s.setFld AON_PWR_STATUS 31 28 3)
  else s.writeFields path a v
/-- SVC registers (R564, R573 to R577). -/
def State.writeSvc (s : State) (path : Path) (a : Nat) (v : Word) : State :=
  if a = SVC_M_CTRL then s.masterCommand v
  else if a = SVC_TX then s.queueFrame path v
  else if a = SVC_GPIO_DIR then s.setGpioDir v
  else if a = SVC_GPIO_OUT then s.took (execGpioOutWrite v s)
  else if a = SVC_CFG then (s.writeFields path a v).settleRole
  else s.writeFields path a v
/-- MNT registers (R486). -/
def State.writeMnt (s : State) (path : Path) (a : Nat) (v : Word) : State :=
  if a = MNT_CMD then
    (match v.field 3 0 with
    | 1 => s.mntCommand 2 (v.getLsbD 8)
    | 2 => s.mntCommand 3 (v.getLsbD 8)
    | _ => s.setReg MNT_CMD_STATUS 3)
  else s.writeFields path a v
/-- WQ registers; of a closed queue only the doorbell, WQ_NOTIFY_EP and WQ_EVENTS take a write (R69, R100). -/
def State.writeWq (s : State) (path : Path) (a : Nat) (v : Word) : State :=
  let q := (a - WQ_SQ_TAIL 0) / 0x40
  if a = WQ_SQ_TAIL q then s.took (execDoorbell path q v s)
  else if a = WQ_NOTIFY_EP q ∨ a = WQ_EVENTS q then s.writeFields path a v
  else if !s.openQ q then s
  else if a = WQ_CQ_HEAD q then s.took (execCqHeadWrite path q v s)
  else if a = WQ_CTRL q then
    (match v.field 3 0 with
    | 1 => s.took (execResume q s)
    | 2 => s.took (execSkip q s)
    | 3 => s.took (execFlush q s)
    | 4 => s.took (execPause q s)
    | 5 => s.took (execAbortAll q s)
    | 6 => s.took (execAbortSeq q s)
    | _ => s.wqResult q 3)
  else s.writeFields path a v
/-- MSQ registers. MSQ_TRAP_EN is read-only but for the sequencer's own routine (R436, R460). -/
def State.writeMsq (s : State) (path : Path) (m a : Nat) (v : Word) : State :=
  if a = MSQ_CTRL m then (if v.field 3 0 = 1 then s.took (doMsqTrap m s) else s.setFld (MSQ_STATUS m) 31 28 2)
  else if a = MSQ_TRAP_EN m ∧ path = msqPath m then s.setReg a (word (v.toNat % 2 ^ 17))
  else if m = 16 ∧ a = MSQ_LOAD_CMD then
    (if v.field 3 0 = 1 then s.loadCommand path else s.setFld MSQ_LOAD_RESULT 7 0 0xA)
  else s.writeFields path a v
/-- A commit that the routine of a RUNNING MICRO_CALL writes counts as written while no operation holds the cluster (R438). -/
def State.heldFor (s : State) (path : Path) (k : Nat) : Bool := path != msqPath k && s.clusterHeld k
/-- CH_PMU_FORCE of a channel takes a code that the staged PMU_MODE allows (R187, R221). -/
def State.writeForce (s : State) (path : Path) (c : Nat) (v : Word) : State :=
  if forceCode (s.fld (CH_PMU_CTRL c) 2 0) (v.field 15 0) then s.writeFields path (CH_PMU_FORCE c) v
  else s.rangeFlag path (CH_PMU_FORCE c)
/-- Registers of a cluster (R171, R187, R191, R308, R334). -/
def State.writeCl (s : State) (path : Path) (k o a : Nat) (v : Word) : State :=
  if a = TE_COMMIT_LO k then s.setClu k { s.clu k with commitLo := v.toNat }
  else if a = TE_COMMIT_HI k then s.commitTe (s.heldFor path k) k (v.toNat * 2 ^ 32 + (s.clu k).commitLo)
  else if a = LV_COMMIT k then s.commitLv (s.heldFor path k) k v.toNat
  else if 0x800 ≤ o ∧ o < 0x10000 then s.writeMsq path k a v
  else if a = MEAS_CTRL k then (if v.field 3 0 = 1 then s.took (doMeasSync k s) else s.setFld (MEAS_STATUS k) 7 4 2)
  else if a = MEAS_CFG k then
    let t := s.writeFields path a v
    (if t.preset k = s.preset k then t else t.reclock k)
  else if 0x10000 ≤ o ∧ o < 0x18000 ∧ o % 0x400 = 0x2C then s.writeForce path (32 * k + (o - 0x10000) / 0x400) v
  else if a = ACQ_RD_CMD k then
    (match v.field 3 0 with
    | 1 => s.took (doAcqNext k s)
    | 2 => s.took (doAcqMark k s)
    | 3 => s.took (doAcqRewind k s)
    | 4 => s.took (doAcqOldest k s)
    | _ => s.rdResult k 4)
  else s.writeFields path a v
/-- SEG registers (R242, R255). -/
def State.writeSeg (s : State) (path : Path) (a : Nat) (v : Word) : State :=
  let q := (a - SEG_Q_STATUS 0) / 0x40
  if 16 ≤ q then s.writeFields path a v
  else if a = SEG_Q_REQ q then s.took (execHostRequest q v s)
  else if a = SEG_Q_REQ_CLR q then s.took (execHostRequestClear q v s)
  else s.writeFields path a v
/-- Registers of an analog channel (R350, R352, R361, R362). -/
def State.writeAn (s : State) (path : Path) (a : Nat) (v : Word) : State :=
  let n := (a - 0x03000000) / 0x10000
  let o := (a - 0x03000000) % 0x10000
  if a = AN_OUT_CFG n then s.took (doOutRangeWrite n v s)
  else if a = AN_RS_CMD n then s.took (doBankSwap path n v s)
  else if a = AN_PARK_CMD n then
    (if v.field 3 0 = 1 then s.took (doParkSave n s) else s.setFld (AN_STATUS n) 15 12 (if s.bitAt (AN_STATUS n) 6 then 1 else 2))
  else if a = AN_NOISE_SEED_LO n ∨ a = AN_NOISE_SEED_HI n then
    (if v = 0 ∧ s.reg (if a = AN_NOISE_SEED_LO n then AN_NOISE_SEED_HI n else AN_NOISE_SEED_LO n) = 0 then s.rangeFlag path a
    else s.writeFields path a v)
  else if a = AN_DIG_MASK n then (s.latchDig n).writeFields path a v
  else if 0x4000 ≤ o ∧ o < 0x8000 then s.took (doCoefficientWrite n (decide (0x6000 ≤ o)) (o % 0x2000 / 4) v s)
  else s.writeFields path a v
/-- Registers of a power supply controller (R390, R398). -/
def State.writeDps (s : State) (path : Path) (a : Nat) (v : Word) : State :=
  let d := (a - 0x03200000) / 0x400
  if a = DPS_CTRL d then
    (match v.field 3 0 with
    | 1 => s.took (doDpsDisable d s)
    | 2 => s.took (doClearTrip path d s)
    | _ => s.rangeFlag path a)
  else if a = DPS_PG d then (s.writeFields path a v).refreshPg d true
  else s.writeFields path a v
/-- XTB registers (R296, R310, R311). -/
def State.writeXtb (s : State) (path : Path) (a : Nat) (v : Word) : State :=
  if a = XTB_ARM then s.took (execXtbArm v s)
  else if a = XTB_DISARM then s.took (execXtbDisarm v s)
  else if a = XTB_FIRE then s.took (execXtbFire v s)
  else if a = XTB_BASIN_CMD then
    (if v.field 31 24 = 1 then s.took (execBasinClear (v.field 7 0) s) else s.setReg XTB_BASIN_RESULT 3)
  else s.writeFields path a v
/-- Registers of a link port (R491, R521). -/
def State.writeApl (s : State) (path : Path) (a : Nat) (v : Word) : State :=
  let p := (a - 0x04000000) / 0x10000
  if a = APL_CTRL p then
    (if v.field 0 0 = s.fld a 0 0 then s
    else if v.field 0 0 = 1 then s.took (execPortEnable p s) else s.took (execPortDisable p s))
  else if a = APL_CMD p then
    (match v.field 3 0 with
    | 1 => s.took (execRetrain p s)
    | 2 => s.took (execAplMeasure p s)
    | _ => s.rangeFlag path a)
  else s.writeFields path a v
/-- APL common registers (R522). -/
def State.writeAplG (s : State) (path : Path) (a : Nat) (v : Word) : State :=
  if a = APL_CHIP_NUM then s.writeChipNum path v
  else if a = APL_RT_SEL then s.took (execAplRtSelWrite v s)
  else s.writeFields path a v
/-- MEM registers (R136, R141). -/
def State.writeMem (s : State) (path : Path) (a : Nat) (v : Word) : State :=
  if a = MEM_PF_CMD then (if v.field 3 0 = 1 then s.discardOldest path else s.rangeFlag path a) else s.writeFields path a v

/-! A write. -/

/-- A write of one register by a path. Through the service port under SVC_LOCK it is discarded with LOCKED; to an island that is
not ON, or to a control-store window, with RANGE (R428, R536, R560). -/
def State.writeReg (s : State) (path : Path) (a : Nat) (v : Word) : State :=
  if path = svcPath ∧ s.svcLocked then s.accessFlag path a 1
  else if s.asleepAt a ∨ (csWindow a).isSome then s.rangeFlag path a
  else if (regAt a).isNone then s
  else if a < 0x10000 then s.writeGlb path a v
  else if a < 0x20000 then s.writeSec path a v
  else if a < 0x30000 then s.writeCfg path a v
  else if a < 0x40000 then s.writeFields path a v
  else if a < 0x50000 then s.writeAon path a v
  else if a < 0x60000 then s.writeSvc path a v
  else if a < 0x80000 then s.writeMnt path a v
  else if a < 0xA0000 then s.writeFields path a v
  else if a < 0x100000 then s.writeMsq path 16 a v
  else if a < 0x200000 then s.writeWq path a v
  else if a < 0x1200000 then s.writeCl path ((a - 0x200000) / 0x100000) ((a - 0x200000) % 0x100000) a v
  else if a < 0x2400000 then s.writeFields path a v
  else if a < 0x3000000 then s.writeSeg path a v
  else if a < 0x3100000 then s.writeAn path a v
  else if a < 0x3200000 then s.writeFields path a v
  else if a < 0x3400000 then s.writeDps path a v
  else if a < 0x4000000 then s.writeXtb path a v
  else if a < 0x4100000 then s.writeApl path a v
  else if a < 0x5000000 then s.writeAplG path a v
  else s.writeMem path a v
/-- A write of a burst (R584). -/
def State.burstWrite (s : State) (path : Path) (start a : Nat) (v : Word) : State :=
  if mapped start ∧ a ≤ blockEnd start then s.writeReg path a v
  else if path = svcPath ∧ s.svcLocked then s.accessFlag path a 1 else s.accessFlag path a 2
/-- REGISTER_WRITE (R13); an access moves one aligned word (R580). -/
def execRegisterWrite (path : Path) (addr : Nat) (v : Word) (s : State) : Out :=
  .next (if addr % 4 = 0 then ({ s with flagged := false }).burstWrite path addr addr v else s)

end Sys2Proof.Machine
end

