-- ==== Sys2Proof/Machine/SvcSlave.lean ====
section
/-! DEFINITION. The service port in the slave role (R564 to R572). Each command of a transaction is one whole 32-bit frame; a frame
cut short has no effect and is no command (R571). -/

namespace Sys2Proof.Machine

/-- Register access is served: from step 2 of the power-up sequence on (R531, R571). -/
def State.regServed (s : State) : Bool :=
  s.aon.vaon && s.aon.vddCore && !(s.aon.resetting == 2 && decide (s.aon.powerStep < 2))
/-- The device is in PF_SEQUENCE or PF_IDLE (R530, R571). -/
def State.inPf (s : State) : Bool := s.deviceState == 4 || s.deviceState == 5
/-- The status word (R572). -/
def State.slvStatus (s : State) : Word := word (0xA5000000 + s.fld SVC_STATUS 20 16)
/-- UNDERRUN, BAD_CMD and the access flags clear (R568). -/
def State.slvClear (s : State) : State := s.setFld SVC_STATUS 20 16 0
/-- SEL_FALL: a transaction starts in the slave role (R564, R571). -/
def execSelFall (s : State) : Out :=
  .next (if s.svc.selLow then s
    else
      let t : Option SlvTx := if !s.bitAt SVC_STATUS 1 && s.regServed then
          some { frames := 0, op := 0, addr := 0, count := 0, reading := false, reply := none, clears := false }
        else none
      { s with svc := { s.svc with selLow := true, slave := t } })
/-- SEL_RISE: the transaction ends, and a stored role takes effect (R564). -/
def execSelRise (s : State) : Out :=
  .next (if s.svc.selLow then ({ s with svc := { s.svc with selLow := false, slave := none } }).settleRole else s)
/-- The word SVC_DO carries during a frame: the reply to the frame before, and the flags clear when a STATUS command asked for them
(R568). -/
def State.shiftReply (s : State) (t : SlvTx) : State :=
  let s : State := { s with svc := { s.svc with sent := t.reply.getD s.slvStatus } }
  if t.clears then s.slvClear else s
/-- The transaction after one more frame. -/
def State.nextFrame (s : State) (t : SlvTx) : State :=
  { s with svc := { s.svc with slave := some { t with frames := t.frames + 1 } } }
/-- A frame: SVC_DO carries its word, then `f` gives the frame its effect (R568). In PF_SEQUENCE and PF_IDLE the frame carries the
status word and has no other effect (R571). -/
def State.frame (s : State) (f : State → SlvTx → State) : State :=
  match s.svc.slave with
  | none => s
  | some t =>
    if s.inPf then ({ s with svc := { s.svc with sent := s.slvStatus } }).nextFrame t
    else f ({ (s.shiftReply t) with flagged := false }) { t with clears := false }
/-- A command frame; the rows that name one are a transaction's frame 0 (R567). -/
def State.commandFrame (s : State) (f : State → SlvTx → State) : State :=
  match s.svc.slave with
  | none => s
  | some t => if t.frames = 0 then s.frame f else s
/-- A later frame (R567, R568). -/
def State.laterFrame (s : State) (f : State → SlvTx → State) : State :=
  match s.svc.slave with
  | none => s
  | some t => if t.frames = 0 then s else s.frame f
/-- The word at the transaction's next address is read (R569). -/
def State.slvRead (s : State) (t : SlvTx) : State :=
  let s := s.burstRead svcPath t.addr (t.addr + 4 * t.count)
  s.nextFrame { t with count := t.count + 1, reading := true, reply := some s.rdata }
/-- Effect of a frame after the command frame (R568, R569). After a STATUS command the table names none: the next one carries
the status word, without clearing (log entry 137). -/
def State.dataFrame (s : State) (t : SlvTx) (w : Word) : State :=
  match t.op with
  | 1 =>
    if bit w.toNat 31 ∧ t.reading then s.slvRead t
    else s.nextFrame { t with reading := false, reply := none }
  | 2 => (s.burstWrite svcPath t.addr (t.addr + 4 * t.count) w).nextFrame { t with count := t.count + 1, reply := some w }
  | _ => s.nextFrame { t with reply := none }
/-- SVC_STATUS: the next frame carries the status word, and the flags clear (R568). -/
def execSvcStatus (s : State) : Out :=
  .next (s.commandFrame (fun s t => s.nextFrame { t with op := 0, reply := none, clears := true }))
/-- SVC_READ (R569). -/
def execSvcRead (addr : Nat) (s : State) : Out :=
  .next (s.commandFrame (fun s t => s.slvRead { t with op := 1, addr := addr }))
/-- A reply that is not ready: the word sent before goes out again, UNDERRUN sets, and the word read is lost (R570). -/
def State.lateReply (s : State) : State :=
  match s.svc.slave with
  | none => s
  | some t =>
    if t.op = 1 ∧ t.reply.isSome ∧ !s.inPf then
      let s : State := { s with svc := { s.svc with slave := some { t with reply := some s.svc.sent } } }
      (s.setBitAt SVC_STATUS 19 true).event SVC_EVENTS 2
    else s
/-- SVC_READ_CONTINUATION: a frame whose bit 31 is CONT; `late` says that the reply to the frame before was not ready (R567 to
R570). -/
def execSvcReadContinuation (cont late : Bool) (s : State) : Out :=
  let s := if late then s.lateReply else s
  .next (s.laterFrame (fun s t => s.dataFrame t (if cont then 0x80000000 else 0)))
/-- SVC_WRITE: the command frame comes back as received (R568). -/
def execSvcWrite (addr : Nat) (s : State) : Out :=
  .next (s.commandFrame (fun s t =>
    s.nextFrame { t with op := 2, addr := addr, reply := some (word (0x80000000 + addr / 4 % 2 ^ 30)) }))
/-- SVC_WRITE_DATA: a data frame (R569). -/
def execSvcWriteData (v : Word) (s : State) : Out := .next (s.laterFrame (fun s t => s.dataFrame t v))
/-- SVC_BAD_OP: the frame is ignored and BAD_CMD sets (R567). -/
def execSvcBadOp (s : State) : Out :=
  .next (s.commandFrame (fun s t => (s.setBitAt SVC_STATUS 20 true).nextFrame { t with op := 3, reply := none }))

end Sys2Proof.Machine
end

