-- ==== Sys2Proof/Machine/Messages.lean ====
section
/-! DEFINITION. Request messages that this chip serves (R504 to R507, R559, R580, R584). -/

namespace Sys2Proof.Machine

/-- The answer to a request: OP with bit 7 set, ADDR and ARG as in the request (R505). -/
def State.answer (s : State) (m : Msg) (status : Nat) (body : List Byte) (pois : Nat → Bool) : State :=
  s.reply m (m.op % 128 + 128) status m.arg body pois
/-- A request outside R505. -/
def State.badMsg (s : State) (m : Msg) : State := s.answer m 2 [] clean
/-- A request that R559 refuses. -/
def State.denied (s : State) (m : Msg) : State := (s.event SEC_EVENTS 3).answer m 5 [] clean
/-- Header fields that every request shares: its VC and OP, and nothing in fields that are 0 in a request (R504, R505). -/
def msgIs (m : Msg) (vc op : Nat) : Bool := !m.bad && m.vc == vc && m.op == op && m.status == 0

/-! Registers. -/

/-- ADDR and ARG of a register request lie in their ranges (R505, R580). -/
def regShape (m : Msg) : Bool := decide (m.addr < 2 ^ 32) && m.addr % 4 == 0 && decide (1 ≤ m.arg) && decide (m.arg ≤ 64)
/-- Byte addresses of the words of a register request (R584). -/
def regWords (m : Msg) : List Nat := (List.range m.arg).map (fun i => m.addr + 4 * i)
/-- A read that R559 always serves: every word lies in the SEC block or is GLB_ID. -/
def openRead (m : Msg) : Bool :=
  (regWords m).all (fun a => a == GLB_ID || (decide (0x10000 ≤ a) && decide (a ≤ blockEnd 0x10000)))
/-- The words of a read, in order. -/
def State.readWords (s : State) (path : Path) (start : Nat) : List Nat → State × List Byte
  | [] => (s, [])
  | a :: r =>
    let s := s.burstRead path start a
    let p := s.readWords path start r
    (p.1, leBytes 4 s.rdata.toNat ++ p.2)
/-- The words of a write, in order. -/
def State.writeWords (s : State) (path : Path) (start : Nat) : List Nat → List Byte → State
  | [], _ => s
  | a :: r, bs => (s.burstWrite path start a (word (leNat (bs.take 4)))).writeWords path start r (bs.drop 4)
/-- STATUS OK, or ACCESS when a word set a flag (R506). -/
def State.regStatus (s : State) : Nat := if s.flagged then 1 else 0

/-- REG_RD. -/
def execRegRd (m : Msg) (s : State) : Out :=
  .next (if !s.regServed then s
    else
      let s := s.consume m
      if !(msgIs m 0 1 && regShape m && m.body.isEmpty) then s.badMsg m
      else if !(openRead m || s.rightOf m.src 0) then s.denied m
      else
        let p := ({ s with flagged := false }).readWords m.src m.addr (regWords m)
        p.1.answer m p.1.regStatus p.2 clean)
/-- REG_WR: acknowledged after it takes effect (R505). -/
def execRegWr (m : Msg) (s : State) : Out :=
  .next (if !s.regServed then s
    else
      let s := s.consume m
      if !(msgIs m 0 2 && regShape m && m.body.length == 4 * m.arg) then s.badMsg m
      else if !s.rightOf m.src 1 then s.denied m
      else
        let s := ({ s with flagged := false }).writeWords m.src m.addr (regWords m) m.body
        s.answer m s.regStatus [] clean)

/-! Work. -/

/-- Descriptors of a SUBMIT whose counts lie from SQ_TAIL to T − 1 go into their slots; `i` is the first one's count (R507). -/
def State.storeDescs (s : State) (r : QRec) (tail t : Nat) (poison : Bool) : Nat → Nat → List Byte → State
  | 0, _, _ => s
  | n + 1, c, bs =>
    let a := r.sqBase + 64 * (c % 2 ^ r.sqLog2)
    let s := if wrapSub c tail < wrapSub t tail then
        let u := s.writeBytes a (bs.take 64)
        if poison then u.addPoison a 64 else u
      else s
    s.storeDescs r tail t poison n (wrapAdd c 1) (bs.drop 64)
/-- SUBMIT (R507). During a warm reset it is not acknowledged and has no effect (R126, R528). -/
def execSubmit (m : Msg) (s : State) : Out :=
  .next (if !s.regServed || s.aon.resetting == 1 || s.aon.resetting == 3 then s
    else
      let s := s.consume m
      let n := m.body.length / 64
      let q := m.addr
      if !(msgIs m 1 0x10 && decide (q < 4096) && m.body.length % 64 == 0 && decide (1 ≤ n) && decide (n ≤ 16)) then s.badMsg m
      else if !s.rightOf m.src 2 then s.denied m
      else
        let s := match s.queueRec q with
          | some r =>
            if s.dbCode q m.arg = 0 then
              s.storeDescs r (s.reg (WQ_SQ_TAIL q)).toNat m.arg m.poison n (wrapSub m.arg n) m.body
            else s
          | none => s
        let s := ({ s with flagged := false }).doorbell m.src q m.arg
        s.reply { m with addr := (s.reg (WQ_SQ_TAIL q)).toNat } 0x90 0 (s.fld (WQ_STATUS q) 23 16) [] clean)

/-! The store. -/

/-- The Cistern serves store requests: in ACTIVE, and in a warm reset before it enters self-refresh (R528, R531, R538). -/
def State.storeServed (s : State) : Bool := s.deviceState == 1 || s.aon.resetting == 1
/-- A store request that the Cistern does not serve yet waits; it wakes the device from SLEEP (R531, R538). -/
def State.storeRequest (s : State) (f : State → State) : State := if s.storeServed then f s else s.wakeUp
/-- STORE_WR: acknowledged once its bytes are visible (R507). -/
def execStoreWr (m : Msg) (s : State) : Out :=
  .next (s.storeRequest (fun s =>
    let s := s.consume m
    if !(msgIs m 3 0x30 && m.arg == 0 && !m.body.isEmpty && decide (m.body.length ≤ 4096) &&
        decide (m.addr + m.body.length ≤ storeEnd)) then s.badMsg m
    else if !s.rightOf m.src 4 then s.denied m
    else
      let p := s.hostWrite m.addr m.body m.poison
      p.1.reply m 0xB0 0 (if p.2 then 1 else 0) [] clean))
/-- STORE_RD: bytes of poison-tagged words come with STATUS POISON (R506). -/
def execStoreRd (m : Msg) (s : State) : Out :=
  .next (s.storeRequest (fun s =>
    let s := s.consume m
    if !(msgIs m 3 0x31 && decide (1 ≤ m.arg) && decide (m.arg ≤ 4096) && m.body.isEmpty &&
        decide (m.addr + m.arg ≤ storeEnd)) then s.badMsg m
    else if !s.rightOf m.src 3 then s.denied m
    else
      let pois := fun i => s.hostPoison (m.addr + i)
      s.answer m (if (List.range m.arg).any pois then 4 else 0) (s.hostRead m.addr m.arg) pois))

end Sys2Proof.Machine
end

