-- ==== Sys2Proof/Machine/Micro.lean ====
section
/-! DEFINITION. Micro-words (R432 to R447): what each operation does, ownership and deferred writes, waits, and the check of a
restored control store (R429). -/

namespace Sys2Proof.Machine

/-! Access (R435, R436). -/

/-- KIND of a sequencer (R456). -/
def msqKind (m : Nat) : Nat := if m = 16 then 1 else 0
/-- Register address of an address that a sequencer's word gives (R435). -/
def msqFull (m a : Nat) : Nat := if m = 16 then a else 0x200000 + 0x100000 * m + a
/-- The word's address is one that its sequencer may reach, and aligned (R435, R580). -/
def msqAddrOk (m a : Nat) : Bool := msqReach (msqKind m) a && a % 4 == 0
/-- The OWN bit of the class that holds an address, if one does (R436). -/
def ownClass (m a : Nat) : Option Nat :=
  if m = 16 then
    if within 0x02000000 0x021FFFFF a then some ((a - 0x02000000) / 0x10000)
    else if within 0x03000000 0x030FFFFF a then some (32 + (a - 0x03000000) / 0x10000)
    else if within 0x03100000 0x0317FFFF a then some (48 + (a - 0x03100000) / 0x10000)
    else if within 0x03200000 0x0320FFFF a then some (56 + (a - 0x03200000) / 0x4000)
    else none
  else if within 0x10000 0x17FFF a then some ((a - 0x10000) / 0x400)
  else if within 0x400 0x5FF a || within 0x20000 0x2FFFF a then some 32
  else if within 0x600 0x6FF a then some 33
  else if within 0x30000 0x3FFFF a then some 34
  else if within 0x40000 0x4FFFF a then some 35
  else if within 0x50000 0x5FFFF a then some 36
  else none
/-- The routine owns the class of an address (R436). -/
def State.msqOwns (s : State) (m a : Nat) : Bool :=
  match ownClass m a with
  | some i => bit (s.msq m).entry.own i
  | none => false
/-- An access inside the device: RDATA and the access flag of the port's last access stay as they were. -/
def State.inside (s : State) (f : State → State) : State := { f s with rdata := s.rdata, flagged := s.flagged }
/-- A register write of a sequencer. -/
def State.msqPut (s : State) (m a : Nat) (v : Word) : State := s.inside (fun s => s.burstWrite (msqPath m) a a v)

/-! Arithmetic (R433). -/

/-- Flags V, C, N, Z in bits [3:0] of a result (R443). -/
def aluFlags (v c : Bool) (r : Word) : Nat := bitIf v 3 + bitIf c 2 + bitIf r.msb 1 + bitIf (r == 0) 0
/-- Flags of a sum. -/
def addFlags (a b : Word) : Nat :=
  aluFlags (a.msb == b.msb && (a + b).msb != a.msb) (decide (2 ^ 32 ≤ a.toNat + b.toNat)) (a + b)
/-- Flags of a difference; C is 1 when no borrow occurs. -/
def subFlags (a b : Word) : Nat :=
  aluFlags (a.msb != b.msb && (a - b).msb != a.msb) (decide (b.toNat ≤ a.toNat)) (a - b)
/-- Flags after a logic operation or shift: C and V stay. -/
def logicFlags (old : Nat) (r : Word) : Nat := aluFlags (bit old 3) (bit old 2) r
/-- G(RD) takes a value. -/
def State.putG (s : State) (m w : Nat) (v : Word) : State := s.setReg (MSQ_G m (mwRd w)) v
/-- G(RA) and G(RB). -/
def State.gA (s : State) (m w : Nat) : Word := s.reg (MSQ_G m (mwRa w))
def State.gB (s : State) (m w : Nat) : Word := s.reg (MSQ_G m (mwRb w))
/-- The flags take a value. -/
def State.putFlags (s : State) (m n : Nat) : State := s.setMsq m { s.msq m with flags := n }
/-- COND holds (R434); none for an illegal value. -/
def State.condHolds (s : State) (m w : Nat) : Option Bool :=
  let f := (s.msq m).flags
  match mwCond w with
  | 0 => some true
  | 1 => some (bit f 0)
  | 2 => some (!bit f 0)
  | 3 => some (bit f 1)
  | 4 => some (!bit f 1)
  | 5 => some (bit f 2)
  | 6 => some (!bit f 2)
  | 7 => some (bit f 3)
  | 8 => some ((s.reg (MSQ_EVFLAGS m)).toNat % 65536 &&& mwImm w != 0)
  | _ => none

/-! Effects of a word. -/

/-- What a word does: it completes and PC takes a value, it faults with a code and a REASON, it waits, it ends the routine, or it
is no legal word. -/
inductive WordEff where
  | go (pc : Nat) (f : State → State)
  | fault (code reason : Nat)
  | wait (kind arg : Nat)
  | finish (f : State → State)
  | illegal

/-- A read of the register at an address into G(RD) (R435). -/
def wordLoad (s : State) (m w a : Nat) : WordEff :=
  if !msqAddrOk m a then .fault 3 3
  else .go (s.msqPc m + 1) (fun s =>
    let t := s.burstRead (msqPath m) (msqFull m a) (msqFull m a)
    { t.putG m w t.rdata with rdata := s.rdata, flagged := s.flagged })
/-- A write of the register at an address (R435, R437, R445). -/
def wordStore (s : State) (m a : Nat) (v : Word) : WordEff :=
  let pc := s.msqPc m + 1
  let full := msqFull m a
  if !msqAddrOk m a then .fault 3 3
  else if s.msqDepth m = 0 then
    if s.msqOwns m a || full == MSQ_TRAP_EN m then .go pc (fun s => s.msqPut m full v) else .fault 7 4
  else if s.msqOwns m a then
    if 32 ≤ (s.msq m).deferred.length then .fault 5 3
    else .go pc (fun s => s.setDeferred m ((s.msq m).deferred ++ [(full, v)]))
  else .go pc (fun s => s.msqPut m full v)
/-- TRAPRET (R446). -/
def trapReturn (s : State) (m : Nat) : WordEff :=
  let d := s.msqDepth m
  let f := fun (i : Nat) => s.reg (frameAddr m d + 4 * i)
  if d = 0 ∨ (s.msq m).stack.length ≠ (f 1).field 7 4 then .fault 4 3
  else .go ((f 0).field 12 0) (fun s =>
    let s := s.forEach (List.range 4) (fun s i => s.setReg (MSQ_CNT m i) (f (2 + i)))
    let s := s.forEach (List.range 8) (fun s i => s.setReg (MSQ_G m (8 + i)) (f (8 + i)))
    (s.putFlags m ((f 1).field 3 0)).setFld (MSQ_STATUS m) 4 3 (d - 1))
/-- END: the deferred writes apply in order, then the MICRO_CALL completes; the end of an unwind completes what was decided before
it (R447, R448). IMM[1:0] of 3, and a REASON outside 0x40 to 0x7F, have no stated completion: a free one. -/
def State.endRoutine (s : State) (m w : Nat) : State :=
  if s.bitAt (MSQ_STATUS m) 5 then s.endUnwind m false
  else
    let detail := (s.gB m w).toNat * 2 ^ 32 + (s.gA m w).toNat
    let l := (s.msq m).deferred
    let s := (s.setFld (MSQ_STATUS m) 4 3 0).setDeferred m []
    let s := s.forEach l (fun s x => s.msqPut m x.1 x.2)
    let r := mwField w 15 8
    match mwField w 1 0 with
    | 0 => s.finishRoutine m 0 0 detail
    | 1 => s.finishRoutine m 1 0 detail
    | 2 =>
      if within 0x40 0x7F r then s.finishRoutine m 9 r detail
      else
        let p := s.fresh 8
        p.2.finishRoutine m 9 p.1 detail
    | _ =>
      let p := s.fresh 8
      let q := p.2.fresh 8
      q.2.finishRoutine m p.1 q.1 detail
/-- The effect of a micro-word (R433). -/
def wordEff (s : State) (m w : Nat) : WordEff :=
  let pc := s.msqPc m + 1
  let a := s.gA m w
  let b := s.gB m w
  let imm : Word := word (mwImm w)
  let set := fun (v : Word) => WordEff.go pc (fun s => s.putG m w v)
  let sum := fun (v : Word) (n : Nat) => WordEff.go pc (fun s => (s.putG m w v).putFlags m n)
  let logic := fun (v : Word) => sum v (logicFlags (s.msq m).flags v)
  let sh := mwImm w % 32
  let indexed := (mwRoff w + a.toNat) % 2 ^ 32
  let cnt := s.reg (MSQ_CNT m (mwLc w))
  match mwOp w with
  | 0x00 => .go pc id
  | 0x01 => set imm
  | 0x02 => sum (a + b) (addFlags a b)
  | 0x03 => sum (a + imm) (addFlags a imm)
  | 0x04 => sum (a - b) (subFlags a b)
  | 0x05 => logic (a &&& b)
  | 0x06 => logic (a ||| b)
  | 0x07 => logic (a ^^^ b)
  | 0x08 => logic (a <<< sh)
  | 0x09 => logic (a >>> sh)
  | 0x0A => wordLoad s m w (mwRoff w)
  | 0x0B => wordLoad s m w indexed
  | 0x0C => wordStore s m (mwRoff w) b
  | 0x0D => wordStore s m indexed b
  | 0x0E => wordStore s m (mwRoff w) imm
  | 0x10 => match s.condHolds m w with
    | some c => .go (if c then mwTarget w else pc) id
    | none => .illegal
  | 0x11 => match s.condHolds m w with
    | some true =>
      if 8 ≤ (s.msq m).stack.length then .fault 1 3
      else .go (mwTarget w) (fun s => s.setStack m (pc :: (s.msq m).stack))
    | some false => .go pc id
    | none => .illegal
  | 0x12 => match (s.msq m).stack with
    | [] => .fault 2 3
    | r :: rest => .go r (fun s => s.setStack m rest)
  | 0x13 =>
    if 1 < cnt.toNat then .go (mwTarget w) (fun s => s.setReg (MSQ_CNT m (mwLc w)) (cnt - 1))
    else .go pc (fun s => s.setReg (MSQ_CNT m (mwLc w)) 0)
  | 0x14 => .go pc (fun s => s.setReg (MSQ_CNT m (mwLc w)) imm)
  | 0x15 => .wait 1 (s.now + mwImm w)
  | 0x16 => .wait 1 (b.toNat * 2 ^ 32 + a.toNat)
  | 0x17 => .wait 2 (mwImm w % 65536)
  | 0x18 => .go pc (fun s => s.clrReg (MSQ_EVFLAGS m) (mwImm w % 65536))
  | 0x19 => trapReturn s m
  | 0x1A => .finish (fun s => s.endRoutine m w)
  | _ => .illegal

/-! Running. -/

/-- PC stays in the customer region (R450). -/
def pcOk (a : Nat) : Bool := decide (customerBase ≤ a) && decide (a < 8192)
/-- A completed word with SIG is a source event at this GCC (R440). -/
def State.signal (s : State) (m w : Nat) : State := if mwSig w then s.source 0x0B m 0 s.now else s
/-- A micro-word executes: it counts, signals, and then a pending trap is taken (R442, R450, R451). -/
def State.runWord (s : State) (m w : Nat) : State :=
  match wordEff s m w with
  | .go pc f =>
    if pcOk pc then (((f (s.setPc m pc)).countWord m).signal m w).takeTrap m else s.progFault m 6 3
  | .fault code reason => s.progFault m code reason
  | .wait kind arg => if pcOk (s.msqPc m + 1) then s.setWait m (some (kind, arg)) else s.progFault m 6 3
  | .finish f => (f (s.countWord m)).signal m w
  | .illegal => s
/-- A fetched word with an uncorrectable error: the routine stops without unwind, and the store is restored (R429). -/
def State.badWord (s : State) (m : Nat) : State :=
  let pc := s.msqPc m
  ((s.dropDeferred m).finishRoutine m 0xE 0 pc).closeStore m pc
/-- MICRO_WORD: the next word of the running routine is fetched and executes; `upsets` gives bits of the store that have flipped
since. -/
def execMicroWord (m : Nat) (upsets : List (Nat × BitVec 128)) (s : State) : Out :=
  let s := if 17 ≤ m then s else s.upsetStore m upsets
  .next (if 17 ≤ m ∨ !s.msqRuns m ∨ (s.msq m).asn = none ∨ (s.msq m).wait ≠ none then s
    else match fetchWord (s.storeAt m (s.msqPc m)) with
      | .clean w => s.runWord m w
      | .corrected w => (s.countCorrected m (s.msqPc m) w).runWord m w
      | .bad => s.badWord m)
/-- The wait word completes. -/
def State.endWait (s : State) (m : Nat) : State :=
  let w := (s.writtenAt m (s.msqPc m)).toNat % 2 ^ 120
  ((((s.setWait m none).setPc m (s.msqPc m + 1)).countWord m).signal m w).takeTrap m
/-- WAIT_END: the condition of a wait holds (R439). -/
def execWaitEnd (m : Nat) (s : State) : Out :=
  .next (match (s.msq m).wait with
    | none => s
    | some (1, g) =>
      let s := s.advanceTo g
      if s.now < g then s else s.endWait m
    | some (_, mask) => if (s.reg (MSQ_EVFLAGS m)).toNat &&& mask = 0 then s else s.endWait m)

/-- CONTROL_STORE_RESTORE_DONE: the whole store is checked after a restore; `upsets` gives bits that have flipped since. A second
uncorrectable word faults the sequencer (R61, R429). -/
def execControlStoreRestoreDone (m : Nat) (upsets : List (Nat × BitVec 128)) (s : State) : Out :=
  .next (if !(s.msq m).restoring then s
    else
      let s := (s.upsetStore m upsets).setMsq m { (s.upsetStore m upsets).msq m with restoring := false }
      match s.readStore m with
      | (t, none) => t
      | (t, some _) =>
        let t := t.countBad m
        if m < 16 then (t.event CFG_STATUS 3).forEach (islandUnits m) (fun s u => s.faultUnit u.1 u.2)
        else if t.isFaulted 7 16 then t
        else ((t.setBitAt (MSQ_STATUS 16) 7 true).markFaulted 7 16).1)

end Sys2Proof.Machine
end

