-- ==== Sys2Proof/Machine/Dispatch.lean ====
section
/-! DEFINITION. The dispatch of the commands: one arm for each constructor of Instr, each one direct call of its meaning. -/

namespace Sys2Proof.Machine

/-- What each command does to everything but the queue of waiting commands (R13 to R614, by the row's rule). -/
def exec (i : Instr) (s : State) : Host.Outcome State Fault Refusal :=
  match i with
  | .registerWrite path addr v => Sys2Proof.Machine.execRegisterWrite path addr v s
  | .rcRegisterRead path addr => Sys2Proof.Machine.execRcRegisterRead path addr s
  | .loRegisterRead path addr => Sys2Proof.Machine.execLoRegisterRead path addr s
  | .glbEvqNext upsets => Sys2Proof.Machine.execGlbEvqNext upsets s
  | .verify => Sys2Proof.Machine.execVerify s
  | .verificationComplete => Sys2Proof.Machine.execVerificationComplete s
  | .activate => Sys2Proof.Machine.execActivate s
  | .discard => Sys2Proof.Machine.execDiscard s
  | .abortVerify => Sys2Proof.Machine.execAbortVerify s
  | .configSwapDrainPoint => Sys2Proof.Machine.execConfigSwapDrainPoint s
  | .configSwapLate => Sys2Proof.Machine.execConfigSwapLate s
  | .swapTick => Sys2Proof.Machine.execSwapTick s
  | .depUnmeetable => Sys2Proof.Machine.execDepUnmeetable s
  | .staleReload island => Sys2Proof.Machine.execStaleReload island s
  | .staleReloadEnd island ok upsets => Sys2Proof.Machine.execStaleReloadEnd island ok upsets s
  | .doorbell path q tail => Sys2Proof.Machine.execDoorbell path q tail s
  | .submit m => Sys2Proof.Machine.execSubmit m s
  | .descriptorAcceptance q => Sys2Proof.Machine.execDescriptorAcceptance q s
  | .startCheckPoint a => Sys2Proof.Machine.execStartCheckPoint a s
  | .dispatchStart a => Sys2Proof.Machine.execDispatchStart a s
  | .deadline a => Sys2Proof.Machine.execDeadline a s
  | .completionRecordWrite a => Sys2Proof.Machine.execCompletionRecordWrite a s
  | .barrierComplete a => Sys2Proof.Machine.execBarrierComplete a s
  | .cqHeadWrite path q h => Sys2Proof.Machine.execCqHeadWrite path q h s
  | .resume q => Sys2Proof.Machine.execResume q s
  | .skip q => Sys2Proof.Machine.execSkip q s
  | .flush q => Sys2Proof.Machine.execFlush q s
  | .pause q => Sys2Proof.Machine.execPause q s
  | .abortAll q => Sys2Proof.Machine.execAbortAll q s
  | .abortSeq q => Sys2Proof.Machine.execAbortSeq q s
  | .wkePauseWrite v => Sys2Proof.Machine.execWkePauseWrite v s
  | .deMismatch => Sys2Proof.Machine.execDeMismatch s
  | .deSelfCheckDone aOk bOk resultWord => Sys2Proof.Machine.execDeSelfCheckDone aOk bOk resultWord s
  | .pcFault pc corrected rebuilt failed => Sys2Proof.Machine.execPcFault pc corrected rebuilt failed s
  | .mramBankFault bank objects => Sys2Proof.Machine.execMramBankFault bank objects s
  | .mramRecopyDone bank => Sys2Proof.Machine.execMramRecopyDone bank s
  | .islandCtlMismatch cluster copy => Sys2Proof.Machine.execIslandCtlMismatch cluster copy s
  | .unitFault cls ix => Sys2Proof.Machine.execUnitFault cls ix s
  | .powerFailStart pfN detector => Sys2Proof.Machine.execPowerFailStart pfN detector s
  | .pfSequenceEnd => Sys2Proof.Machine.execPfSequenceEnd s
  | .abortedPowerDelivery q => Sys2Proof.Machine.execAbortedPowerDelivery q s
  | .discardOldest => Sys2Proof.Machine.execDiscardOldest s
  | .warmCmd key => Sys2Proof.Machine.execWarmCmd key s
  | .coldCmd key => Sys2Proof.Machine.execColdCmd key s
  | .hubFaultReset => Sys2Proof.Machine.execHubFaultReset s
  | .resetNLow => Sys2Proof.Machine.execResetNLow s
  | .warmResetStart => Sys2Proof.Machine.execWarmResetStart s
  | .warmResetEnd upsets deFail ctlFail => Sys2Proof.Machine.execWarmResetEnd upsets deFail ctlFail s
  | .trefLost => Sys2Proof.Machine.execTrefLost s
  | .trefValid => Sys2Proof.Machine.execTrefValid s
  | .arm => Sys2Proof.Machine.execArm s
  | .disarm => Sys2Proof.Machine.execDisarm s
  | .loadEdge levels => Sys2Proof.Machine.execLoadEdge levels s
  | .gccBroadcastCheck differs => Sys2Proof.Machine.execGccBroadcastCheck differs s
  | .teCommit cluster hi => Sys2Proof.Machine.execTeCommit cluster hi s
  | .tsetLoadWriteTick a => Sys2Proof.Machine.execTsetLoadWriteTick a s
  | .lvCommit cluster mask => Sys2Proof.Machine.execLvCommit cluster mask s
  | .modeChangeComplete ch => Sys2Proof.Machine.execModeChangeComplete ch s
  | .forceSetWriteTick a => Sys2Proof.Machine.execForceSetWriteTick a s
  | .forceSetSettled a => Sys2Proof.Machine.execForceSetSettled a s
  | .levelsSetWriteTick a => Sys2Proof.Machine.execLevelsSetWriteTick a s
  | .levelsSetDone a => Sys2Proof.Machine.execLevelsSetDone a s
  | .contactCheckMeasure a samples => Sys2Proof.Machine.execContactCheckMeasure a samples s
  | .contactCheckRestore a => Sys2Proof.Machine.execContactCheckRestore a s
  | .segmentLoadTake a => Sys2Proof.Machine.execSegmentLoadTake a s
  | .segmentLoadCrcDone a => Sys2Proof.Machine.execSegmentLoadCrcDone a s
  | .vectorPlay cluster => Sys2Proof.Machine.execVectorPlay cluster s
  | .needInstant a => Sys2Proof.Machine.execNeedInstant a s
  | .decisionPoint a => Sys2Proof.Machine.execDecisionPoint a s
  | .segmentBoundary a => Sys2Proof.Machine.execSegmentBoundary a s
  | .segtrigPulseEnd seq => Sys2Proof.Machine.execSegtrigPulseEnd seq s
  | .patternRunStop a => Sys2Proof.Machine.execPatternRunStop a s
  | .feederDrainEnd a => Sys2Proof.Machine.execFeederDrainEnd a s
  | .hostRequest seq bits => Sys2Proof.Machine.execHostRequest seq bits s
  | .hostRequestClear seq bits => Sys2Proof.Machine.execHostRequestClear seq bits s
  | .fountainInstruction f upsets => Sys2Proof.Machine.execFountainInstruction f upsets s
  | .refreshInterval f => Sys2Proof.Machine.execRefreshInterval f s
  | .vectorResultComplete cluster vec samples => Sys2Proof.Machine.execVectorResultComplete cluster vec samples s
  | .feederEntry cluster => Sys2Proof.Machine.execFeederEntry cluster s
  | .basinRecordStore cluster => Sys2Proof.Machine.execBasinRecordStore cluster s
  | .basinClear site => Sys2Proof.Machine.execBasinClear site s
  | .acqSample cluster volts upsets => Sys2Proof.Machine.execAcqSample cluster volts upsets s
  | .acqFrameRearm cluster => Sys2Proof.Machine.execAcqFrameRearm cluster s
  | .acquireEnd a => Sys2Proof.Machine.execAcquireEnd a s
  | .acqNext cluster upsets => Sys2Proof.Machine.execAcqNext cluster upsets s
  | .acqMark cluster upsets => Sys2Proof.Machine.execAcqMark cluster upsets s
  | .acqRewind cluster upsets => Sys2Proof.Machine.execAcqRewind cluster upsets s
  | .acqOldest cluster upsets => Sys2Proof.Machine.execAcqOldest cluster upsets s
  | .xtbFire mask => Sys2Proof.Machine.execXtbFire mask s
  | .triggerLineFire line => Sys2Proof.Machine.execTriggerLineFire line s
  | .lineRearm line => Sys2Proof.Machine.execLineRearm line s
  | .xtbArm mask => Sys2Proof.Machine.execXtbArm mask s
  | .xtbDisarm mask => Sys2Proof.Machine.execXtbDisarm mask s
  | .gpioPulseStart pin => Sys2Proof.Machine.execGpioPulseStart pin s
  | .gpioPulseEnd pin => Sys2Proof.Machine.execGpioPulseEnd pin s
  | .uploadPacket a upsets => Sys2Proof.Machine.execUploadPacket a upsets s
  | .uploadAck a => Sys2Proof.Machine.execUploadAck a s
  | .synchronizingReset cluster => Sys2Proof.Machine.execSynchronizingReset cluster s
  | .measSync cluster => Sys2Proof.Machine.execMeasSync cluster s
  | .measSampleOutput cluster ch value outOfSpan => Sys2Proof.Machine.execMeasSampleOutput cluster ch value outOfSpan s
  | .measureEnd a => Sys2Proof.Machine.execMeasureEnd a s
  | .parkSave ch => Sys2Proof.Machine.execParkSave ch s
  | .parkSaveDone ch => Sys2Proof.Machine.execParkSaveDone ch s
  | .outRangeWrite ch v => Sys2Proof.Machine.execOutRangeWrite ch v s
  | .rangeMuteEnd ch => Sys2Proof.Machine.execRangeMuteEnd ch s
  | .awgPlayEnd a => Sys2Proof.Machine.execAwgPlayEnd a s
  | .bankSwap ch v => Sys2Proof.Machine.execBankSwap ch v s
  | .bankSwapTakeEffect ch => Sys2Proof.Machine.execBankSwapTakeEffect ch s
  | .fadeEnd ch => Sys2Proof.Machine.execFadeEnd ch s
  | .coefficientWrite ch bankB index v => Sys2Proof.Machine.execCoefficientWrite ch bankB index v s
  | .digitizerSample a code drained => Sys2Proof.Machine.execDigitizerSample a code drained s
  | .digitizeEnd a => Sys2Proof.Machine.execDigitizeEnd a s
  | .laneDirectionsOn a locked => Sys2Proof.Machine.execLaneDirectionsOn a locked s
  | .countingWindowOpen a => Sys2Proof.Machine.execCountingWindowOpen a s
  | .countingWindowClose a bits => Sys2Proof.Machine.execCountingWindowClose a bits s
  | .eyePoint a eye => Sys2Proof.Machine.execEyePoint a eye s
  | .laneTestEnd a => Sys2Proof.Machine.execLaneTestEnd a s
  | .checkerLock lane bits => Sys2Proof.Machine.execCheckerLock lane bits s
  | .checkerLockLoss lane cdrLost bits => Sys2Proof.Machine.execCheckerLockLoss lane cdrLost bits s
  | .laneErr lane bits => Sys2Proof.Machine.execLaneErr lane bits s
  | .lanePllTimeout group => Sys2Proof.Machine.execLanePllTimeout group s
  | .dpsStepStart a site => Sys2Proof.Machine.execDpsStepStart a site s
  | .dpsStepEnd a site => Sys2Proof.Machine.execDpsStepEnd a site s
  | .pgoodTimeout a site => Sys2Proof.Machine.execPgoodTimeout a site s
  | .switchingPeriod d vsns wave => Sys2Proof.Machine.execSwitchingPeriod d vsns wave s
  | .limitTrip d cycle uv => Sys2Proof.Machine.execLimitTrip d cycle uv s
  | .dpsSample d isns vsns => Sys2Proof.Machine.execDpsSample d isns vsns s
  | .referenceUpdate d => Sys2Proof.Machine.execReferenceUpdate d s
  | .dpsDisable d => Sys2Proof.Machine.execDpsDisable d s
  | .clearTrip d => Sys2Proof.Machine.execClearTrip d s
  | .dpsSelfCheckFail d => Sys2Proof.Machine.execDpsSelfCheckFail d s
  | .admissionExamine => Sys2Proof.Machine.execAdmissionExamine s
  | .chargeExpiry => Sys2Proof.Machine.execChargeExpiry s
  | .candidateHolding a => Sys2Proof.Machine.execCandidateHolding a s
  | .stepEnergyTimeout a site => Sys2Proof.Machine.execStepEnergyTimeout a site s
  | .monitorSample rails units => Sys2Proof.Machine.execMonitorSample rails units s
  | .microWord m upsets => Sys2Proof.Machine.execMicroWord m upsets s
  | .waitEnd m => Sys2Proof.Machine.execWaitEnd m s
  | .msqTrap m => Sys2Proof.Machine.execMsqTrap m s
  | .unwindTimeout m => Sys2Proof.Machine.execUnwindTimeout m s
  | .controlStoreRestoreDone m upsets => Sys2Proof.Machine.execControlStoreRestoreDone m upsets s
  | .controlStoreScrub m upsets => Sys2Proof.Machine.execControlStoreScrub m upsets s
  | .msqLoad => Sys2Proof.Machine.execMsqLoad s
  | .msqLoadDone => Sys2Proof.Machine.execMsqLoadDone s
  | .temperatureCheck u tNow => Sys2Proof.Machine.execTemperatureCheck u tNow s
  | .autoCalStart u => Sys2Proof.Machine.execAutoCalStart u s
  | .calQuietCheck u samples tNow => Sys2Proof.Machine.execCalQuietCheck u samples tNow s
  | .calPassEnd u tNow values => Sys2Proof.Machine.execCalPassEnd u tNow values s
  | .calAgreementTest u tNow => Sys2Proof.Machine.execCalAgreementTest u tNow s
  | .calSlotCommit u => Sys2Proof.Machine.execCalSlotCommit u s
  | .calApplyTick u => Sys2Proof.Machine.execCalApplyTick u s
  | .calRunEnd u => Sys2Proof.Machine.execCalRunEnd u s
  | .ctrain noWait => Sys2Proof.Machine.execCtrain noWait s
  | .scrub noWait => Sys2Proof.Machine.execScrub noWait s
  | .scrubTimer => Sys2Proof.Machine.execScrubTimer s
  | .maintActivityEnd kind ix => Sys2Proof.Machine.execMaintActivityEnd kind ix s
  | .portEnable p => Sys2Proof.Machine.execPortEnable p s
  | .portDisable p => Sys2Proof.Machine.execPortDisable p s
  | .signalDetect p => Sys2Proof.Machine.execSignalDetect p s
  | .trainDone p => Sys2Proof.Machine.execTrainDone p s
  | .trainTimeout p => Sys2Proof.Machine.execTrainTimeout p s
  | .identTimeout p => Sys2Proof.Machine.execIdentTimeout p s
  | .identComplete p => Sys2Proof.Machine.execIdentComplete p s
  | .signalLost p => Sys2Proof.Machine.execSignalLost p s
  | .portFailure p alignmentLost => Sys2Proof.Machine.execPortFailure p alignmentLost s
  | .retrain p => Sys2Proof.Machine.execRetrain p s
  | .aplMeasure p => Sys2Proof.Machine.execAplMeasure p s
  | .resync p => Sys2Proof.Machine.execResync p s
  | .codewordReceive p symbolErrors flits => Sys2Proof.Machine.execCodewordReceive p symbolErrors flits s
  | .dataFlit p f => Sys2Proof.Machine.execDataFlit p f s
  | .nak p expect => Sys2Proof.Machine.execNak p expect s
  | .credit p freed => Sys2Proof.Machine.execCredit p freed s
  | .ident p f => Sys2Proof.Machine.execIdent p f s
  | .tsReq p f t2 t3 => Sys2Proof.Machine.execTsReq p f t2 t3 s
  | .tsResp p f t4 => Sys2Proof.Machine.execTsResp p f t4 s
  | .advert p f => Sys2Proof.Machine.execAdvert p f s
  | .routeLapse endpoint p => Sys2Proof.Machine.execRouteLapse endpoint p s
  | .advertTimer => Sys2Proof.Machine.execAdvertTimer s
  | .identTimer p => Sys2Proof.Machine.execIdentTimer p s
  | .creditTimer p => Sys2Proof.Machine.execCreditTimer p s
  | .timestampTimer p => Sys2Proof.Machine.execTimestampTimer p s
  | .flitTransmit p => Sys2Proof.Machine.execFlitTransmit p s
  | .regRd m => Sys2Proof.Machine.execRegRd m s
  | .regWr m => Sys2Proof.Machine.execRegWr m s
  | .storeWr m => Sys2Proof.Machine.execStoreWr m s
  | .storeRd m => Sys2Proof.Machine.execStoreRd m s
  | .trig m => Sys2Proof.Machine.execTrig m s
  | .timeQuery m => Sys2Proof.Machine.execTimeQuery m s
  | .flowHoldTimeout src vc => Sys2Proof.Machine.execFlowHoldTimeout src vc s
  | .dupClear endpoint => Sys2Proof.Machine.execDupClear endpoint s
  | .aplChipNumWrite path v => Sys2Proof.Machine.execAplChipNumWrite path v s
  | .aplRtSelWrite v => Sys2Proof.Machine.execAplRtSelWrite v s
  | .vaonRise => Sys2Proof.Machine.execVaonRise s
  | .powerUpSequence ready => Sys2Proof.Machine.execPowerUpSequence ready s
  | .cisternTrained => Sys2Proof.Machine.execCisternTrained s
  | .vaonFall => Sys2Proof.Machine.execVaonFall s
  | .vddCoreFall => Sys2Proof.Machine.execVddCoreFall s
  | .islandModeRequest v => Sys2Proof.Machine.execIslandModeRequest v s
  | .islandWakeDone island upsets => Sys2Proof.Machine.execIslandWakeDone island upsets s
  | .deviceSleep => Sys2Proof.Machine.execDeviceSleep s
  | .wake => Sys2Proof.Machine.execWake s
  | .wakingDone => Sys2Proof.Machine.execWakingDone s
  | .rtcSet => Sys2Proof.Machine.execRtcSet s
  | .rtcSecond => Sys2Proof.Machine.execRtcSecond s
  | .xtalFail => Sys2Proof.Machine.execXtalFail s
  | .lifetimeMirror => Sys2Proof.Machine.execLifetimeMirror s
  | .keyCmd => Sys2Proof.Machine.execKeyCmd s
  | .keyTableWritten => Sys2Proof.Machine.execKeyTableWritten s
  | .attest => Sys2Proof.Machine.execAttest s
  | .attestDone => Sys2Proof.Machine.execAttestDone s
  | .raiseCfgFloor => Sys2Proof.Machine.execRaiseCfgFloor s
  | .raiseCsFloor => Sys2Proof.Machine.execRaiseCsFloor s
  | .floorWritten => Sys2Proof.Machine.execFloorWritten s
  | .selFall => Sys2Proof.Machine.execSelFall s
  | .svcStatus => Sys2Proof.Machine.execSvcStatus s
  | .svcRead addr => Sys2Proof.Machine.execSvcRead addr s
  | .svcReadContinuation cont late => Sys2Proof.Machine.execSvcReadContinuation cont late s
  | .svcWrite addr => Sys2Proof.Machine.execSvcWrite addr s
  | .svcWriteData v => Sys2Proof.Machine.execSvcWriteData v s
  | .svcBadOp => Sys2Proof.Machine.execSvcBadOp s
  | .selRise => Sys2Proof.Machine.execSelRise s
  | .masterStart => Sys2Proof.Machine.execMasterStart s
  | .masterStop => Sys2Proof.Machine.execMasterStop s
  | .masterFrame received => Sys2Proof.Machine.execMasterFrame received s
  | .masterTransferEnd => Sys2Proof.Machine.execMasterTransferEnd s
  | .svcTxWrite path v => Sys2Proof.Machine.execSvcTxWrite path v s
  | .svcRxRead path => Sys2Proof.Machine.execSvcRxRead path s
  | .gpioOutWrite v => Sys2Proof.Machine.execGpioOutWrite v s
  | .gpioInputEdge pin rising => Sys2Proof.Machine.execGpioInputEdge pin rising s
  | .supplyOut supply mv => Sys2Proof.Machine.execSupplyOut supply mv s
  | .testLogicReset => Sys2Proof.Machine.execTestLogicReset s
  | .extest cells => Sys2Proof.Machine.execExtest cells s
  | .samplePreload cells => Sys2Proof.Machine.execSamplePreload cells s
  | .idcode => Sys2Proof.Machine.execIdcode s
  | .clamp => Sys2Proof.Machine.execClamp s
  | .highz => Sys2Proof.Machine.execHighz s
  | .extestPulse => Sys2Proof.Machine.execExtestPulse s
  | .extestTrain => Sys2Proof.Machine.execExtestTrain s
  | .bypass => Sys2Proof.Machine.execBypass s
  | .cisternRetraining => Sys2Proof.Machine.execCisternRetraining s
  | .xtalReturn => Sys2Proof.Machine.execXtalReturn s
  | .srefDerivedSecond => Sys2Proof.Machine.execSrefDerivedSecond s
  | .pmuClampEngage ch engaged => Sys2Proof.Machine.execPmuClampEngage ch engaged s
  | .pmuSettlingEnd ch => Sys2Proof.Machine.execPmuSettlingEnd ch s
  | .driverCurrentLimit ch => Sys2Proof.Machine.execDriverCurrentLimit ch s
  | .clampHit ch => Sys2Proof.Machine.execClampHit ch s

end Sys2Proof.Machine
end

