-- ==== Sys2Proof/Safety.lean ====
section
/-! DEFINITION. What counts as a safe run: a step that answers a next state, the canonical form of the state's maps, and the
vocabulary in which the statements say what a command leaves unchanged. -/

namespace Sys2Proof.Machine

/-- The command completes: exec answers a next state. -/
def Completes (c : Instr) (s : State) : Prop := ∃ t, exec c s = .next t

/-- Registers, live copies and the store are in canonical form (log entry 5). -/
def State.canonical (s : State) : Bool :=
  Map.wf regDefault s.regs && Map.wf regDefault s.live && Map.wf byteDefault s.store

/-- Every register outside a list holds in `t` what it holds in `s`. -/
def State.RegsKept (s t : State) (l : List Nat) : Prop := ∀ a, a ∉ l → t.reg a = s.reg a
/-- Every byte of the store outside the `n` bytes from `a` reads in `t` as in `s`. -/
def State.BytesKept (s t : State) (a n : Nat) : Prop := ∀ b, (b < a ∨ a + n ≤ b) → t.byte b = s.byte b
/-- `t` differs from `s` in registers of a list only. -/
def State.OnlyRegs (s t : State) (l : List Nat) : Prop := t = { s with regs := t.regs } ∧ s.RegsKept t l

/-- The registers that an access flag of a path may change (R435, R572, R585, R586). -/
def accessRegs (path : Path) : List Nat :=
  if 0x401 ≤ path ∧ path < 0x412 then [MSQ_EVENTS (path - 0x401)]
  else [GLB_ACCESS_STATUS, GLB_ACCESS_ADDR, GLB_ACCESS_SRC, SVC_STATUS]

/-- A register whose write acts as a command, or has an effect beside its fields; commands of their own say what those do. -/
def commandReg (a : Nat) : Bool :=
  [GLB_EVQ_CMD, GLB_TB_CTRL, SEC_CMD, CFG_CMD, AON_RESET_CMD, AON_SLEEP_CMD, AON_ISL_CMD, AON_RTC_CMD, SVC_M_CTRL, SVC_TX,
    SVC_GPIO_DIR, SVC_GPIO_OUT, SVC_CFG, MNT_CMD, MSQ_CTRL 16, MSQ_TRAP_EN 16, MSQ_LOAD_CMD, XTB_ARM, XTB_DISARM, XTB_FIRE,
    XTB_BASIN_CMD, APL_CHIP_NUM, APL_RT_SEL, MEM_PF_CMD].contains a ||
  [WQ_SQ_TAIL 0, WQ_CQ_HEAD 0, WQ_CTRL 0].any (fun b => inArr a b 0x40 4096) ||
  [MSQ_CTRL 0, MSQ_TRAP_EN 0, TE_COMMIT_LO 0, TE_COMMIT_HI 0, LV_COMMIT 0, MEAS_CTRL 0, MEAS_CFG 0, ACQ_RD_CMD 0].any
    (fun b => inArr a b 0x100000 16) ||
  [SEG_Q_REQ 0, SEG_Q_REQ_CLR 0].any (fun b => inArr a b 0x40 16) ||
  (List.range 16).any (fun k => inArr a (CH_PMU_FORCE (32 * k)) 0x400 32) ||
  [AN_OUT_CFG 0, AN_RS_CMD 0, AN_PARK_CMD 0, AN_NOISE_SEED_LO 0, AN_NOISE_SEED_HI 0, AN_DIG_MASK 0].any (fun b => inArr a b 0x10000 16) ||
  (decide (0x3000000 ≤ a ∧ a < 0x3100000) && decide (0x4000 ≤ a % 0x10000 ∧ a % 0x10000 < 0x8000)) ||
  [DPS_CTRL 0, DPS_PG 0].any (fun b => inArr a b 0x400 64) ||
  [APL_CTRL 0, APL_CMD 0].any (fun b => inArr a b 0x10000 16)
/-- A register that shows where a fountain's generator stands (R284). -/
def positionReg (a : Nat) : Bool :=
  let f := (a - 0x2000000) / 0x10000
  decide (0x2000000 ≤ a ∧ a < 0x2200000) && (a == FNT_STATUS f || a == FNT_REF_STATUS f || inArr a (FNT_LC f 0) 4 8)
/-- A word of the window of a capture ring (R306). -/
def ringReg (a : Nat) : Bool := (List.range 16).any (fun k => inArr a (ACQ_RD k 0) 4 4)
/-- A queue register that a closed queue does not take (R69). -/
def closedAt (s : State) (a : Nat) : Bool :=
  let q := (a - WQ_SQ_TAIL 0) / 0x40
  decide (0x100000 ≤ a ∧ a < 0x200000) && !s.openQ q && a != WQ_NOTIFY_EP q && a != WQ_EVENTS q
/-- A write or read of the register at `a` by a path reaches it: the address is aligned, its island is ON, it lies in no
control-store window, and the service port is not locked out of a write (R428, R536, R560, R580). -/
def State.reaches (s : State) (path : Path) (a : Nat) : Bool :=
  a % 4 == 0 && !s.asleepAt a && (csWindow a).isNone && !(path == svcPath && s.svcLocked)

/-- The registers that the end of an operation may change: those of the clusters, where commits that waited for it take effect,
those of the analog channels, where a play gives up its source half, and the governor's count and event of an operation that was
never admitted (R171, R191, R352, R361, R416). -/
def endReg (a : Nat) : Bool :=
  decide (0x200000 ≤ a ∧ a < 0x1200000) || decide (0x3000000 ≤ a ∧ a < 0x3100000) || a == NRG_DENIED || a == NRG_EVENTS
/-- `t` differs from `s` in what the end of an operation may change: the operations, the governor's reservations, the interlock,
the clusters and their channels with the live copies, the analog channels, lifetime counters, the registers of `endReg`, and the
model's own count of free values. -/
def State.EndFrame (s t : State) : Prop :=
  t = { s with ops := t.ops, gov := t.gov, mnt := t.mnt, clus := t.clus, chans := t.chans, anas := t.anas, live := t.live,
               regs := t.regs, free := t.free, aon := { s.aon with lt := t.aon.lt } } ∧
  ∀ a, endReg a = false → t.reg a = s.reg a
/-- An operation of `t` that has ended with an outcome and is otherwise the one given. -/
def Op.EndedAs (p o : Op) (status reason detail : Nat) : Prop :=
  p.asn = o.asn ∧ p.queue = o.queue ∧ p.seq = o.seq ∧ p.desc = o.desc ∧ p.started = o.started ∧ p.phase = .ended ∧
  p.status = status ∧ p.reason = reason ∧ p.detail = detail
/-- The operation `o` has ended in `t` with an outcome at a GCC. -/
def State.Ended (t : State) (o : Op) (status reason gcc detail : Nat) : Prop :=
  ∃ p, t.op? o.asn = some p ∧ p.EndedAs o status reason detail ∧ p.gcc = gcc
/-- A record of an event is the newest of the event queue (R139, R589). -/
def State.Logged (s t : State) (code unit data : Nat) : Prop :=
  t.evq.recs = (if s.evq.recs.length < 1024 then s.evq.recs else s.evq.recs.drop 1) ++ [withParity (eventRecord s.now code unit data)]

end Sys2Proof.Machine
end

