-- ==== Sys2Proof/Certificates/Slice0/Obligations.lean ====
section
/-! DEFINITION. The statements that are to be proved of the model: what each command does to the state, what it leaves
unchanged, and what every step keeps. A statement whose docstring says so rests on a choice of the model. -/

open Sys2Proof Sys2Proof.Machine

/-- A step runs the command at the front of the queue; with none waiting one tick passes (the queue and the tick are the model's choice, log entry 1) (00_scope.md, R148, R150). -/
def Obligations.StepRunsTheFrontCommand : Prop :=
(∀ (c : Instr) (r : List Instr) (s : State), s.pending = c :: r → step s = exec c { s with pending := r }) ∧
  (∀ s : State, s.pending = [] →
    (s.counting = true → step s = .next { s with tb := { s.tb with gcc := (s.now + 1) % 2 ^ 64 } }) ∧
    (s.counting = false → step s = .next s))

/-- What reset leaves (that no store byte reads other than 0 is the model's choice, log entry 5) (R14, R57, R149, R183, R223, R362, R579, R589). -/
def Obligations.ResetValues : Prop :=
(∀ a, State.reset.reg a = resetWord a) ∧
  State.reset.cfg.active = none ∧ State.reset.cfg.shadow = none ∧
  State.reset.reg CFG_ACTIVE_GEN = 0 ∧ State.reset.fld CFG_SHADOW_STATE 2 0 = 0 ∧
  (∀ q, State.reset.openQ q = false) ∧ State.reset.ops = [] ∧ State.reset.heldRecs = [] ∧
  State.reset.tbState = 0 ∧ State.reset.now = 0 ∧
  (∀ n, n < 16384 → State.reset.fld (SEG_D_INFO n) 2 0 = 0) ∧
  State.reset.evq.recs = [] ∧
  (∀ c, c < 512 → (State.reset.chan c).pinReset = true) ∧
  (∀ ch i, ch < 16 → i < 2048 →
    State.reset.reg (AN_COEF_A ch i) = (if i % 32 = 16 then 0x10000 else 0) ∧
    State.reset.reg (AN_COEF_B ch i) = (if i % 32 = 16 then 0x10000 else 0)) ∧
  (∀ a, State.reset.byte a = 0) ∧
  State.reset.canonical = true ∧ State.reset.evq.recs.length ≤ 1024

/-- Every step keeps the canonical form of the maps and the bound of the event queue (R14, R579, R589). -/
def Obligations.EveryStepKeepsTheInvariant : Prop :=
∀ s t : State, s.canonical = true → s.evq.recs.length ≤ 1024 → step s = .next t →
    t.canonical = true ∧ t.evq.recs.length ≤ 1024

/-- No command changes the queue of waiting commands (00_scope.md). -/
def Obligations.EveryCommandLeavesTheQueue : Prop :=
∀ (c : Instr) (s : State), ∃ t, exec c s = .next t ∧ t.pending = s.pending

/-- A legal register write sets each field as its access code gives and nothing else (R13, R56, R580, R585). -/
def Obligations.LegalRegisterWriteTakesEffect : Prop :=
∀ (path : Path) (a : Nat) (v : Word) (s : State) (r : Row),
    regAt a = some r → commandReg a = false → closedAt s a = false → s.reaches path a = true →
    (strictHigh a = true → v &&& ~~~ r.readMask = 0) →
    (∀ f ∈ r.flds, (f.acc = .rw ∨ (f.acc = .rwl ∧ s.cfg.locked = false)) → within f.min f.max (v.field f.hi f.lo) = true) →
    (∀ f ∈ r.flds, f.acc = .rwl → s.cfg.locked = true → v.field f.hi f.lo = s.fld a f.hi f.lo) →
    ∃ t, exec (.registerWrite path a v) s = .next t ∧
      (∀ f ∈ r.flds, t.fld a f.hi f.lo =
        match f.acc with
        | .rw => v.field f.hi f.lo
        | .rwl => v.field f.hi f.lo
        | .w1c => s.fld a f.hi f.lo &&& (2 ^ (f.hi + 1 - f.lo) - 1 - v.field f.hi f.lo)
        | .w1s => s.fld a f.hi f.lo ||| v.field f.hi f.lo
        | _ => s.fld a f.hi f.lo) ∧
      t = { s with regs := t.regs, flagged := false } ∧ s.RegsKept t [a]

/-- A write out of range, against the lock, past the end, to a sleeping island or through a locked service port keeps the register and sets its access flag (R56, R435, R536, R560, R584, R585, R586). -/
def Obligations.RefusedRegisterWriteKeepsTheField : Prop :=
∀ (path : Path) (a : Nat) (v : Word) (s : State), a % 4 = 0 →
    (∀ r : Row, regAt a = some r → commandReg a = false → closedAt s a = false → s.reaches path a = true →
      strictHigh a = true → v &&& ~~~ r.readMask ≠ 0 →
      exec (.registerWrite path a v) s = .next (({ s with flagged := false }).accessFlag path a 0)) ∧
    (∀ (r : Row) (f : Fld), regAt a = some r → r.flds = [f] → commandReg a = false →
      (strictHigh a = true → v &&& ~~~ r.readMask = 0) → closedAt s a = false → s.reaches path a = true →
      ((f.acc = .rw ∨ (f.acc = .rwl ∧ s.cfg.locked = false)) ∧ within f.min f.max (v.field f.hi f.lo) = false →
        exec (.registerWrite path a v) s = .next (({ s with flagged := false }).accessFlag path a 0)) ∧
      (f.acc = .rwl ∧ s.cfg.locked = true ∧ v.field f.hi f.lo ≠ s.fld a f.hi f.lo →
        exec (.registerWrite path a v) s = .next (({ s with flagged := false }).accessFlag path a 1))) ∧
    (mapped a = false → (path = svcPath → s.svcLocked = false) →
      exec (.registerWrite path a v) s = .next (({ s with flagged := false }).accessFlag path a 2)) ∧
    (mapped a = true → a ≤ blockEnd a → s.asleepAt a = true → (path = svcPath → s.svcLocked = false) →
      exec (.registerWrite path a v) s = .next (({ s with flagged := false }).accessFlag path a 0)) ∧
    (mapped a = true → a ≤ blockEnd a → path = svcPath → s.svcLocked = true →
      exec (.registerWrite path a v) s = .next (({ s with flagged := false }).accessFlag path a 1)) ∧
    (∀ b, b < 3 → 0x401 ≤ path → path < 0x412 → let t := s.accessFlag path a b
      t.bitAt (MSQ_EVENTS (path - 0x401)) 3 = true ∧ t = { s with regs := t.regs, flagged := true } ∧
      s.RegsKept t [MSQ_EVENTS (path - 0x401)]) ∧
    (∀ b, b < 3 → path ≤ 0x400 → let t := s.accessFlag path a b
      t.fld GLB_ACCESS_STATUS b b = 1 ∧ (path = 0x400 → t.bitAt SVC_STATUS (16 + b) = true) ∧
      (s.reg GLB_ACCESS_STATUS = 0 → t.reg GLB_ACCESS_ADDR = BitVec.ofNat 32 a ∧
        t.reg GLB_ACCESS_SRC = BitVec.ofNat 32 (if path = 0x400 then 0x400 else path % 1024)) ∧
      (s.reg GLB_ACCESS_STATUS ≠ 0 → t.reg GLB_ACCESS_ADDR = s.reg GLB_ACCESS_ADDR ∧
        t.reg GLB_ACCESS_SRC = s.reg GLB_ACCESS_SRC) ∧
      t = { s with regs := t.regs, flagged := true } ∧ s.RegsKept t (accessRegs path))

/-- A register read returns what the register shows, clears RC fields, and snapshots the upper half of a pair (R13, R284, R306, R428, R536, R579, R580, R583, R584). -/
def Obligations.RegisterReads : Prop :=
∀ (path : Path) (a : Nat) (s : State), ∀ c ∈ [Instr.rcRegisterRead path a, .loRegisterRead path a],
    (a % 4 ≠ 0 → exec c s = .next s) ∧
    (a % 4 = 0 → mapped a = false → exec c s = .next { ({ s with flagged := false }).accessFlag path a 2 with rdata := 0 }) ∧
    (a % 4 = 0 → mapped a = true → a ≤ blockEnd a →
      (s.asleepAt a = true → exec c s = .next { ({ s with flagged := false }).accessFlag path a 0 with rdata := 0 }) ∧
      (s.asleepAt a = false → ∀ m o, csWindow a = some (m, o) → exec c s = .next { s with rdata := s.csWord m o, flagged := false }) ∧
      (s.asleepAt a = false → csWindow a = none → regAt a = none → exec c s = .next { s with rdata := 0, flagged := false }) ∧
      (s.asleepAt a = false → csWindow a = none → ∀ r : Row, regAt a = some r → a ≠ SVC_RX →
        (a ≠ AON_RTC_LO → snapLo a = false → snapHi a = false → ringReg a = false → positionReg a = false →
          ∃ t, exec c s = .next t ∧ t.rdata = s.view a &&& r.readMask ∧ t.reg a = r.clearRc (s.reg a) ∧
            t = { s with regs := t.regs, rdata := t.rdata, flagged := false } ∧ s.RegsKept t [a]) ∧
        (a ≠ AON_RTC_LO → snapLo a = true →
          ∃ t, exec c s = .next t ∧ t.rdata = s.view a &&& r.readMask ∧
            Map.get holdDefault t.hold (holdKey path (a + 4)) = s.view (a + 4) ∧
            (∀ k, k ≠ holdKey path (a + 4) → Map.get holdDefault t.hold k = Map.get holdDefault s.hold k) ∧
            t = { s with regs := t.regs, hold := t.hold, rdata := t.rdata, flagged := false } ∧ s.RegsKept t [a]) ∧
        (snapHi a = true →
          exec c s = .next { s with rdata := Map.get holdDefault s.hold (holdKey path a), flagged := false }) ∧
        (a = AON_RTC_LO → ∃ t, exec c s = .next t ∧ t.rdata = BitVec.ofNat 32 s.aon.rtcSec ∧
          (Map.get holdDefault t.hold (holdKey path AON_RTC_HI)).field 15 0 = s.aon.rtcSec / 2 ^ 32 % 2 ^ 16 ∧
          t = { s with regs := t.regs, hold := t.hold, rdata := t.rdata, flagged := false, free := t.free,
                       aon := { s.aon with rtcSub := t.aon.rtcSub } } ∧ s.RegsKept t [a]) ∧
        (ringReg a = true → let k := (a - 0x200000) / 0x100000
          let bad := bit (((s.ring k).shown.map badWords).getD 0) ((a - ACQ_RD k 0) / 8)
          ∃ t, exec c s = .next t ∧ t.rdata = s.view a &&& r.readMask ∧
            t.bitAt (ACQ_RD_STATUS k) 9 = (s.bitAt (ACQ_RD_STATUS k) 9 || bad) ∧
            t.bitAt (ACQ_EVENTS k) 3 = (s.bitAt (ACQ_EVENTS k) 3 || bad) ∧
            t = { s with regs := t.regs, rdata := t.rdata, flagged := false } ∧ s.RegsKept t [ACQ_RD_STATUS k, ACQ_EVENTS k]) ∧
        (positionReg a = true → let u := ({ s with flagged := false } : State).runAhead ((a - 0x2000000) / 0x10000)
          ∃ t, exec c s = .next t ∧ t.rdata = u.view a &&& r.readMask ∧
            t = { u with regs := t.regs, rdata := t.rdata } ∧ u.RegsKept t [a])))

/-- NEXT moves the oldest record of the event queue into the window (R590). -/
def Obligations.EventQueueWindow : Prop :=
∀ (upsets : List (Nat × Nat)) (s : State), let l := (s.upsetEvq upsets).evq.recs
    l.length = s.evq.recs.length ∧ (upsets = [] → l = s.evq.recs) ∧
    ∃ t, exec (.glbEvqNext upsets) s = .next t ∧ t.evq.recs = l.drop 1 ∧
      (∀ r, l[0]? = some r → (∀ i, i < 4 → t.reg (GLB_EVQ_RD i) = BitVec.ofNat 32 (r.toNat / 2 ^ (32 * i))) ∧
        t.bitAt GLB_EVQ_STATUS 11 = true ∧ t.fld GLB_EVQ_STATUS 31 24 = 0 ∧
        t.bitAt GLB_EVQ_STATUS 12 = !(badWords r == 0)) ∧
      (l = [] → t.bitAt GLB_EVQ_STATUS 11 = false ∧ t.bitAt GLB_EVQ_STATUS 12 = false ∧ t.fld GLB_EVQ_STATUS 31 24 = 1 ∧
        (∀ i, i < 4 → t.reg (GLB_EVQ_RD i) = s.reg (GLB_EVQ_RD i))) ∧
      t = { s with regs := t.regs, evq := t.evq } ∧
      s.RegsKept t [GLB_EVQ_STATUS, GLB_EVQ_RD 0, GLB_EVQ_RD 1, GLB_EVQ_RD 2, GLB_EVQ_RD 3]

/-- A doorbell is checked against the queue and the ring, and moves SQ_TAIL or leaves it (R69, R75, R76, R99, R538, R585). -/
def Obligations.DoorbellChecksAndMovesTheTail : Prop :=
∀ (path : Path) (q : Nat) (v : Word) (s : State), path ≤ 0x400 → q < 4096 → s.aon.resetting = 0 →
    (s.bitAt AON_CFG 8 = true → s.deviceState ≠ 2) →
    (∀ r, s.queueRec q = some r → s.barred q = false → s.accepting = true →
      wrapSub v.toNat (s.reg (WQ_SQ_HEAD q)).toNat ≤ 2 ^ r.sqLog2 → wrapSub v.toNat (s.reg (WQ_SQ_TAIL q)).toNat ≤ 2 ^ r.sqLog2 →
      ∃ t, exec (.doorbell path q v) s = .next t ∧ t.reg (WQ_SQ_TAIL q) = v ∧ t.fld (WQ_STATUS q) 23 16 = 0 ∧
        (path < 1024 → t.reg (WQ_NOTIFY_EP q) = BitVec.ofNat 32 (path + 2 ^ 15)) ∧
        (path = 0x400 → t.reg (WQ_NOTIFY_EP q) = s.reg (WQ_NOTIFY_EP q)) ∧
        s.OnlyRegs t [WQ_SQ_TAIL q, WQ_STATUS q, WQ_NOTIFY_EP q]) ∧
    (∀ code, (s.queueRec q = none ∨ s.barred q = true ∨ s.accepting = false) ∧ code = 4 ∨
        (∃ r, s.queueRec q = some r ∧ s.barred q = false ∧ s.accepting = true ∧
          (2 ^ r.sqLog2 < wrapSub v.toNat (s.reg (WQ_SQ_HEAD q)).toNat ∨
            2 ^ r.sqLog2 < wrapSub v.toNat (s.reg (WQ_SQ_TAIL q)).toNat)) ∧ code = 3 →
      ∃ t, exec (.doorbell path q v) s = .next t ∧ t.reg (WQ_SQ_TAIL q) = s.reg (WQ_SQ_TAIL q) ∧
        t.fld (WQ_STATUS q) 23 16 = code ∧ t.bitAt (WQ_EVENTS q) 2 = true ∧ t.bitAt GLB_ACCESS_STATUS 0 = true ∧
        (t.reg (WQ_REJECTS q)).toNat = min ((s.reg (WQ_REJECTS q)).toNat + 1) (2 ^ 32 - 1) ∧
        (s.reg GLB_ACCESS_STATUS = 0 → t.reg GLB_ACCESS_ADDR = BitVec.ofNat 32 (WQ_SQ_TAIL q)) ∧
        t = { s with regs := t.regs, flagged := true } ∧
        s.RegsKept t ([WQ_STATUS q, WQ_EVENTS q, WKE_EVENTS, WQ_REJECTS q, WKE_REJECTS] ++ accessRegs path))

/-- Acceptance gives a descriptor of the queue whose turn it is its numbers and advances SQ_HEAD, or halts the queue at it (R76, R77, R78, R80, R81, R544). -/
def Obligations.AcceptanceTakesTheNextDescriptor : Prop :=
∀ (q : Nat) (s : State) (g : ImageSet) (r : QRec), q < 4096 → s.cfg.active = some g → s.queueRec q = some r →
    (s.takes = false ∨ s.posted r = false ∨ s.itsTurn g q = false → exec (.descriptorAcceptance q) s = .next s) ∧
    (s.takes = true → s.paused r = false → s.bitAt (WQ_STATUS q) 1 = false → s.reg (WQ_SQ_HEAD q) ≠ s.reg (WQ_SQ_TAIL q) →
    s.itsTurn g q = true →
    let d := s.slotDesc r (s.reg (WQ_SQ_HEAD q)).toNat
    let code := acceptCheck g r (s.nextSeq q) (s.streamNow d) d
    (code = 0 → ∃ t, exec (.descriptorAcceptance q) s = .next t ∧ t.served = q ∧
      (∃ o ∈ t.ops, o.asn = s.reg64 WKE_ASN_LO WKE_ASN_HI ∧ o.queue = q ∧ o.seq = s.nextSeq q ∧ o.desc = d ∧
        o.acceptGcc = s.now ∧ o.started = false) ∧
      t.reg (WQ_SQ_HEAD q) = s.reg (WQ_SQ_HEAD q) + 1 ∧
      (s.nextSeq q < 2 ^ 48 → t.nextSeq q = if s.nextSeq q = 2 ^ 48 - 1 then 1 else s.nextSeq q + 1) ∧
      (s.reg64 WKE_ASN_LO WKE_ASN_HI + 1 < 2 ^ 64 →
        t.reg64 WKE_ASN_LO WKE_ASN_HI = s.reg64 WKE_ASN_LO WKE_ASN_HI + 1) ∧
      t.store = s.store ∧ t.cfg = s.cfg ∧ t.sec = s.sec ∧ t.kept = s.kept ∧ t.heldRecs = s.heldRecs ∧ t.evq = s.evq) ∧
    (code ≠ 0 → ∃ t, exec (.descriptorAcceptance q) s = .next t ∧ t.bitAt (WQ_STATUS q) 1 = true ∧
      t.fld (WQ_STATUS q) 15 8 = code ∧ t.bitAt (WQ_EVENTS q) 1 = true ∧ t.bitAt WKE_EVENTS 1 = true ∧
      (t.reg (WQ_REJECTS q)).toNat = min ((s.reg (WQ_REJECTS q)).toNat + 1) (2 ^ 32 - 1) ∧
      t = { s with regs := t.regs, served := q } ∧
      s.RegsKept t [WQ_STATUS q, WQ_EVENTS q, WKE_EVENTS, WQ_REJECTS q, WKE_REJECTS]))

/-- RESUME, SKIP, FLUSH and PAUSE act on an open queue and report, and a closed queue ignores them (R69, R79, R81, R100). -/
def Obligations.QueueControlCommands : Prop :=
(∀ (q : Nat) (s : State), s.openQ q = true →
    (∃ t, exec (.resume q) s = .next t ∧ t.bitAt (WQ_STATUS q) 1 = false ∧ t.bitAt (WQ_STATUS q) 2 = false ∧
      t.fld (WQ_STATUS q) 15 8 = 0 ∧ t.fld (WQ_STATUS q) 7 4 = 0 ∧ t.fld (WQ_STATUS q) 23 16 = s.fld (WQ_STATUS q) 23 16 ∧
      s.OnlyRegs t [WQ_STATUS q]) ∧
    (s.bitAt (WQ_STATUS q) 1 = true → ∃ t, exec (.skip q) s = .next t ∧ t.bitAt (WQ_STATUS q) 1 = false ∧
      t.fld (WQ_STATUS q) 15 8 = 0 ∧ t.fld (WQ_STATUS q) 7 4 = 0 ∧ t.bitAt (WQ_STATUS q) 2 = s.bitAt (WQ_STATUS q) 2 ∧
      t.reg (WQ_SQ_HEAD q) = s.reg (WQ_SQ_HEAD q) + 1 ∧ s.OnlyRegs t [WQ_STATUS q, WQ_SQ_HEAD q]) ∧
    (s.bitAt (WQ_STATUS q) 1 = false → ∃ t, exec (.skip q) s = .next t ∧ t.fld (WQ_STATUS q) 7 4 = 2 ∧
      s.OnlyRegs t [WQ_STATUS q]) ∧
    (∃ t, exec (.flush q) s = .next t ∧ t.bitAt (WQ_STATUS q) 1 = false ∧ t.fld (WQ_STATUS q) 15 8 = 0 ∧
      t.fld (WQ_STATUS q) 7 4 = 0 ∧ t.reg (WQ_SQ_HEAD q) = s.reg (WQ_SQ_TAIL q) ∧
      s.OnlyRegs t [WQ_STATUS q, WQ_SQ_HEAD q]) ∧
    (∃ t, exec (.pause q) s = .next t ∧ t.bitAt (WQ_STATUS q) 2 = true ∧ t.fld (WQ_STATUS q) 7 4 = 0 ∧
      t.bitAt (WQ_STATUS q) 1 = s.bitAt (WQ_STATUS q) 1 ∧ s.OnlyRegs t [WQ_STATUS q])) ∧
  (∀ (q : Nat) (s : State), s.openQ q = false → ∀ c ∈ [Instr.resume q, .skip q, .flush q, .pause q, .abortAll q, .abortSeq q],
    exec c s = .next s) ∧
  (∀ (v : Word) (s : State), ∃ t, exec (.wkePauseWrite v) s = .next t ∧ t.fld WKE_CTRL 31 0 = v.toNat % 2 ∧
    s.OnlyRegs t [WKE_CTRL])

/-- ABORT_SEQ and ABORT_ALL end waiting operations with ABORTED_HOST (R100, R101). -/
def Obligations.AbortsEndWaitingOperations : Prop :=
∀ (q : Nat) (s : State), q < 4096 → s.openQ q = true →
    (∀ o, (s.queueOps q).find? (fun o => o.seq == s.reg64 (WQ_ARG_LO q) (WQ_ARG_HI q) % 2 ^ 48 && o.phase != .ended) = some o →
      s.op? o.asn = some o →
      (s.armedSwap o.asn = true → ∃ t, exec (.abortSeq q) s = .next t ∧ t.fld (WQ_STATUS q) 7 4 = 2 ∧ s.OnlyRegs t [WQ_STATUS q]) ∧
      (s.armedSwap o.asn = false → o.phase = .waiting → o.work = .nothing →
        ∃ (u t : State), exec (.abortSeq q) s = .next t ∧ u.Ended o 4 0 s.now 0 ∧ s.EndFrame u ∧ t.fld (WQ_STATUS q) 7 4 = 0 ∧
          u.OnlyRegs t [WQ_STATUS q])) ∧
    ((s.queueOps q).find? (fun o => o.seq == s.reg64 (WQ_ARG_LO q) (WQ_ARG_HI q) % 2 ^ 48 && o.phase != .ended) = none →
      ∃ t, exec (.abortSeq q) s = .next t ∧ t.fld (WQ_STATUS q) 7 4 = 1 ∧ s.OnlyRegs t [WQ_STATUS q]) ∧
    ((s.ops.map Op.asn).Nodup → (∀ o ∈ s.queueOps q, o.phase = .waiting ∧ o.work = .nothing ∧ s.armedSwap o.asn = false) →
      ∃ (u t : State), exec (.abortAll q) s = .next t ∧ (∀ o ∈ s.queueOps q, u.Ended o 4 0 s.now 0) ∧ s.EndFrame u ∧
        t.fld (WQ_STATUS q) 7 4 = 0 ∧ u.OnlyRegs t [WQ_STATUS q])

/-- The record of the operation that ended first goes into the next slot of its completion ring (R51, R68, R91, R92, R93, R94, R98). -/
def Obligations.CompletionRecordIsWritten : Prop :=
(∀ (a : Asn) (s : State) (o : Op), s.op? a = some o →
    (s.recordsFlow = false ∨ o.phase ≠ .ended ∨ s.endedBefore o = true → exec (.completionRecordWrite a) s = .next s) ∧
    (s.recordsFlow = true → o.phase = .ended → s.endedBefore o = false → o.lost = false →
      (∀ r, s.queueRec o.queue = some r → s.cqRoom r = false → exec (.completionRecordWrite a) s = .next s) ∧
      (s.queueRec o.queue = none → ∃ t, exec (.completionRecordWrite a) s = .next t ∧ t.heldRecs = s.heldRecs ++ [o] ∧
        t.ops = s.ops.filter (fun p => p.asn != o.asn) ∧ t.store = s.store ∧ t.regs = s.regs ∧ t.kept = s.kept))) ∧
  ∀ (a : Asn) (s : State) (o : Op) (r : QRec), s.recordsFlow = true → s.op? a = some o → o.phase = .ended →
    s.queueRec o.queue = some r → o.queue < 4096 → s.cqRoom r = true → s.endedBefore o = false → o.lost = false →
    let m := (s.reg (WQ_CQ_TAIL o.queue)).toNat
    let at_ := r.cqBase + 32 * (m % 2 ^ r.cqLog2)
    ∃ t, exec (.completionRecordWrite a) s = .next t ∧
      t.le at_ 6 = o.seq % 2 ^ 48 ∧ t.le (at_ + 6) 2 = o.queue + 2 ^ 15 * (1 - (m / 2 ^ r.cqLog2) % 2) ∧
      t.le (at_ + 8) 1 = o.status % 256 ∧ t.le (at_ + 9) 1 = o.opcode ∧
      t.le (at_ + 10) 1 = (if o.started then 1 else 0) + (if o.resumed then 2 else 0) + (if o.prioClamped then 4 else 0) ∧
      t.le (at_ + 11) 1 = o.reason % 256 ∧ t.le (at_ + 12) 4 = o.tag ∧ t.le (at_ + 16) 8 = o.gcc % 2 ^ 64 ∧
      t.le (at_ + 24) 8 = o.detail % 2 ^ 64 ∧
      (∀ b, (b < at_ ∨ at_ + 32 ≤ b) → t.byte b = s.byte b) ∧
      t.reg (WQ_CQ_TAIL o.queue) = BitVec.ofNat 32 (m + 1) ∧ t.op? a = none ∧ t.kept = s.kept ++ [⟨o.queue, o.seq, o.status, m⟩] ∧
      (o.irq = true → t.bitAt (WQ_EVENTS o.queue) 0 = true) ∧
      t.cfg = s.cfg ∧ t.sec = s.sec ∧ t.evq = s.evq ∧ t.tb = s.tb ∧ t.heldRecs = s.heldRecs

/-- A legal write of WQ_CQ_HEAD retires records and an illegal one sets RANGE (R97). -/
def Obligations.RecordsAreRetired : Prop :=
∀ (path : Path) (q : Nat) (h : Word) (s : State), q < 4096 →
    (s.openQ q = false → exec (.cqHeadWrite path q h) s = .next s) ∧
    (s.openQ q = true → (h - s.reg (WQ_CQ_HEAD q)).toNat ≤ (s.reg (WQ_CQ_TAIL q) - s.reg (WQ_CQ_HEAD q)).toNat →
      ∃ t, exec (.cqHeadWrite path q h) s = .next t ∧ t.reg (WQ_CQ_HEAD q) = h ∧
        t = { s with regs := t.regs, kept := t.kept } ∧ s.RegsKept t [WQ_CQ_HEAD q] ∧
        (∀ k ∈ t.kept, k ∈ s.kept) ∧ (∀ k ∈ s.kept, k.queue ≠ q → k ∈ t.kept)) ∧
    (s.openQ q = true → (s.reg (WQ_CQ_TAIL q) - s.reg (WQ_CQ_HEAD q)).toNat < (h - s.reg (WQ_CQ_HEAD q)).toNat →
      ∃ t, exec (.cqHeadWrite path q h) s = .next t ∧ t.reg (WQ_CQ_HEAD q) = s.reg (WQ_CQ_HEAD q) ∧
        (path ≤ 0x400 → t.bitAt GLB_ACCESS_STATUS 0 = true) ∧
        (∀ m, m < 17 → path = msqPath m → t.bitAt (MSQ_EVENTS m) 3 = true) ∧
        t = { s with regs := t.regs, flagged := t.flagged } ∧ s.RegsKept t (accessRegs path))

/-- The governor admits a lone operation whose conditions hold and whose reservations fit (R83, R85, R161, R414, R415). -/
def Obligations.AdmissionTakesACandidate : Prop :=
∀ (s : State) (o : Op), s.ops = [o] → o.phase = .waiting → o.dep0 = .absent → o.dep1 = .absent → o.judged = true →
    s.dispatching = true → s.resFree o.asn (s.resources o) = true → s.islandsOk o = true → o.startField = 0 →
    (s.unitsOf o).any s.cont.faulted.contains = false →
    s.bitAt NRG_CTRL 0 = false → s.fits (s.opResvs o) = true → s.readFits (s.readUnits o) = true →
    ∃ (t : State) (p : Op), exec .admissionExamine s = .next t ∧ t.ops = [p] ∧ p.asn = o.asn ∧ p.phase = .scheduled ∧ p.admitted = true ∧
      p.startAt = s.now ∧ p.desc = o.desc ∧ p.queue = o.queue ∧ p.seq = o.seq ∧
      t.gov.resvs = s.gov.resvs ++ s.opResvs o ∧ t = { s with ops := t.ops, gov := t.gov }

/-- A TIMESTAMP samples at its start, a BARRIER waits for what it names, deadlines and missed check points end what has not started (R83, R88, R89, R90, R161). -/
def Obligations.OperationsStartAndCompleteOnTime : Prop :=
∀ (a : Asn) (s : State) (o : Op), s.op? a = some o →
    (o.phase = .scheduled → o.startAt ≤ s.now → s.dispatching = false → exec (.dispatchStart a) s = .next s) ∧
    (o.opcode = 0x10 → o.phase = .scheduled → o.startField = 0 → o.startAt ≤ s.now → s.dispatching = true → s.aon.rtcSub < 32768 →
      ∃ (u t : State) (d : Nat), exec (.dispatchStart a) s = .next t ∧
        u = { s with ops := u.ops, free := s.free + 1, aon := { s.aon with rtcSub := u.aon.rtcSub } } ∧ u.EndFrame t ∧
        t.Ended { o with started := true } 0 0 s.now d ∧ d % 2 ^ 48 = s.aon.rtcSec % 2 ^ 48 ∧
        s.aon.rtcSub ≤ d / 2 ^ 48 ∧ d < 2 ^ 63) ∧
    (o.opcode = 0xF → o.phase = .running →
      ((s.barrierWaits o) = [] → ∃ t, exec (.barrierComplete a) s = .next t ∧ t.Ended o 0 0 s.now (o.waited % 2 ^ 64) ∧ s.EndFrame t) ∧
      ((s.barrierWaits o) ≠ [] → exec (.barrierComplete a) s = .next s)) ∧
    (∀ g, o.deadlineAt = some g → o.phase = .waiting → s.counting = true → s.now ≤ g →
      ∃ t, exec (.deadline a) s = .next t ∧ (s.advanceTo g).EndFrame t ∧ t.now = g ∧
        ((s.advanceTo g).candidates.contains a = true → t.Ended o 0xA 0 g 0) ∧
        ((s.advanceTo g).candidates.contains a = false → t.Ended o 9 0x82 g 0)) ∧
    (∀ g, o.deadlineAt = some g → o.phase = .scheduled → o.work = .nothing → s.counting = true → s.now ≤ g →
      ∃ t, exec (.deadline a) s = .next t ∧ (s.advanceTo g).EndFrame t ∧ t.Ended o 9 0x82 g 0) ∧
    (o.phase = .waiting → o.startField ≠ 0 → s.counting = true → s.now ≤ o.checkPoint →
      let u := (s.advanceTo o.checkPoint).examine
      ∀ p, u.op? a = some p →
        (p.phase ≠ .waiting ∨ p.lateOk = true → exec (.startCheckPoint a) s = .next u) ∧
        (p.phase = .waiting → p.lateOk = false → ∃ t, exec (.startCheckPoint a) s = .next t ∧
          t.Ended p 9 1 (max p.checkPoint p.acceptGcc) 0 ∧ u.EndFrame t))

/-- The timebase changes state as its table gives (R149, R150, R151, R152, R153, R154). -/
def Obligations.TimebaseChangesState : Prop :=
∀ s : State,
    ((s.ops.filter (fun o => o.phase == .running && s.needsTref o)) = [] →
      (∀ u, u < 17 → (s.cal u).auto = true → (s.cal u).st = 0) → s.tbState ≠ 0 →
      ∃ t, exec .trefLost s = .next t ∧ t.tbState = 0 ∧ t.bitAt GLB_TB_EVENTS 1 = true ∧ t.bitAt WKE_STATUS 5 = false ∧
        t = { s with regs := t.regs, tb := { s.tb with lost := true } } ∧
        s.RegsKept t [GLB_TB_STATUS, GLB_TB_EVENTS, WKE_STATUS]) ∧
    (s.tbState = 0 → exec .trefLost s = .next s ∧ (∀ l, exec (.loadEdge l) s = .next s) ∧
      (∃ t, exec .trefValid s = .next t ∧ t.tbState = 1 ∧ t.now = s.now ∧
        t.bitAt GLB_TB_EVENTS 2 = (s.bitAt GLB_TB_EVENTS 2 || s.tb.lost) ∧
        t = { s with regs := t.regs, tb := { s.tb with lost := false } } ∧ s.RegsKept t [GLB_TB_STATUS, GLB_TB_EVENTS]) ∧
      (∀ c ∈ [Instr.arm, .disarm], ∃ t, exec c s = .next t ∧ t.tbState = 0 ∧ t.fld GLB_TB_STATUS 11 8 = 1 ∧
        s.OnlyRegs t [GLB_TB_STATUS])) ∧
    (s.tbState ≠ 0 → exec .trefValid s = .next s) ∧
    (s.tbState = 1 ∨ s.tbState = 3 →
      (s.armAllowed = true → ∃ t, exec .arm s = .next t ∧ t.tbState = 2 ∧ t.fld GLB_TB_STATUS 11 8 = 0 ∧
        t.bitAt WKE_STATUS 5 = true ∧ t = { s with regs := t.regs, tb := { s.tb with before := s.tbState } } ∧
        s.RegsKept t [GLB_TB_STATUS, WKE_STATUS]) ∧
      (s.armAllowed = false → ∃ t, exec .arm s = .next t ∧ t.tbState = s.tbState ∧ t.fld GLB_TB_STATUS 11 8 = 1 ∧
        s.OnlyRegs t [GLB_TB_STATUS]) ∧
      (∃ t, exec .disarm s = .next t ∧ t.tbState = s.tbState ∧ t.fld GLB_TB_STATUS 11 8 = 0 ∧ s.OnlyRegs t [GLB_TB_STATUS]) ∧
      (∀ lv : Bool × Bool, s.tb.loadAt = [] → s.tb.syncHigh = false → s.syncOf lv = true →
        ∃ t, exec (.loadEdge [lv]) s = .next t ∧ t.tbState = s.tbState ∧ t.now = (s.now + 2 + s.fld GLB_TB_SYNC_CFG 5 0) % 2 ^ 64 ∧
          t.reg64 GLB_TB_LAST_SYNC_LO GLB_TB_LAST_SYNC_HI = t.now ∧ t.bitAt GLB_TB_STATUS 3 = true ∧
          (s.tbState = 1 → t.bitAt GLB_TB_EVENTS 3 = s.bitAt GLB_TB_EVENTS 3) ∧
          t = { s with regs := t.regs, tb := { s.tb with gcc := t.now, syncHigh := true } } ∧
          s.RegsKept t [GLB_TB_STATUS, GLB_TB_EVENTS, GLB_TB_LAST_SYNC_LO, GLB_TB_LAST_SYNC_HI])) ∧
    (∀ lv : Bool × Bool, s.tbState ≠ 0 → s.tb.loadAt = [] → s.syncOf lv = false →
      exec (.loadEdge [lv]) s = .next { s with tb := { s.tb with gcc := (s.now + 1) % 2 ^ 64, syncHigh := false } }) ∧
    (s.tbState = 2 →
      (∃ t, exec .arm s = .next t ∧ t.tbState = 2 ∧ t.fld GLB_TB_STATUS 11 8 = 0 ∧ s.OnlyRegs t [GLB_TB_STATUS]) ∧
      (∃ t, exec .disarm s = .next t ∧ t.tbState = s.tb.before % 4 ∧ t.fld GLB_TB_STATUS 11 8 = 0 ∧
        t.bitAt WKE_STATUS 5 = false ∧ s.OnlyRegs t [GLB_TB_STATUS, WKE_STATUS]) ∧
      (∀ lv : Bool × Bool, s.tb.loadAt = [] → s.tb.syncHigh = false → s.syncOf lv = true →
        ∃ t, exec (.loadEdge [lv]) s = .next t ∧ t.tbState = 3 ∧ t.now = s.reg64 GLB_TB_LOAD_LO GLB_TB_LOAD_HI ∧
        t.bitAt GLB_TB_EVENTS 0 = true ∧ t.bitAt WKE_STATUS 5 = false ∧ t.bitAt GLB_TB_STATUS 3 = true ∧
        t.reg64 GLB_TB_LAST_SYNC_LO GLB_TB_LAST_SYNC_HI = (s.now + 2 + s.fld GLB_TB_SYNC_CFG 5 0) % 2 ^ 64 ∧
        t = { s with regs := t.regs, chans := t.chans, tb := { s.tb with gcc := t.now, lastLoaded := t.now, syncHigh := true } } ∧
        s.RegsKept t [GLB_TB_STATUS, GLB_TB_EVENTS, GLB_TB_LAST_SYNC_LO, GLB_TB_LAST_SYNC_HI, WKE_STATUS]))

/-- An island whose GCC copy differs is stale and its running operations fault (R59, R122, R155). -/
def Obligations.GccCheckMakesIslandsStale : Prop :=
∀ (d : Nat) (s : State),
    (bitsOf d 26 = [] ∨ s.counting = false → exec (.gccBroadcastCheck d) s = .next s) ∧
    (s.counting = true → bitsOf d 26 ≠ [] → ∃ t, exec (.gccBroadcastCheck d) s = .next t ∧ t.bitAt GLB_TB_EVENTS 6 = true) ∧
    (∀ o, s.counting = true → s.ops = [o] → o.phase = .running → o.opcode = 5 ∨ o.opcode = 8 → (∀ i ∈ bitsOf d 26, i ∈ s.islandsOf o) →
      bitsOf d 26 ≠ [] → ∃ t p, exec (.gccBroadcastCheck d) s = .next t ∧ t.op? o.asn = some p ∧ p.faulting = true ∧
        (∀ i ∈ bitsOf d 26, t.genOf i = 0)) ∧
    (s.counting = true → bitsOf d 26 ≠ [] → (∀ o ∈ s.ops, o.phase = .running → ∀ i ∈ bitsOf d 26, i ∉ s.islandsOf o) →
      ∃ t, exec (.gccBroadcastCheck d) s = .next t ∧ t.bitAt GLB_TB_EVENTS 6 = true ∧
        (∀ i ∈ bitsOf d 26, t.genOf i = 0) ∧ (∀ i, i ∉ bitsOf d 26 → t.genOf i = s.genOf i) ∧
        t = { s with regs := t.regs, cfg := { s.cfg with gens := t.cfg.gens } } ∧ s.RegsKept t [GLB_TB_EVENTS])

/-- A disagreement of the dispatch engines pauses dispatch until the self-checks decide (R113, R115, R139). -/
def Obligations.DispatchEnginesDisagree : Prop :=
∀ s : State,
    (s.lockstep = true → exec .deMismatch s = .next { s with cont := { s.cont with mismatch := true } }) ∧
    (s.lockstep = false → exec .deMismatch s = .next s) ∧
    (∀ (aOk bOk : Bool) (w : Word), s.lockstep = true → s.cont.mismatch = true →
      ∃ t, exec (.deSelfCheckDone aOk bOk w) s = .next t ∧ t.cont.mismatch = false ∧
        (aOk = true → bOk = false → t.bitAt MEM_CONT_STATUS 1 = true ∧ t.bitAt MEM_CONT_STATUS 2 = true ∧
          t.bitAt MEM_EVENTS 2 = true ∧ s.Logged t 0x0301 1 w.toNat) ∧
        (aOk = false → bOk = true → t.bitAt MEM_CONT_STATUS 0 = true ∧ t.bitAt MEM_CONT_STATUS 2 = true ∧
          t.bitAt MEM_EVENTS 2 = true ∧ s.Logged t 0x0301 0 w.toNat) ∧
        (aOk = false → bOk = false → t.bitAt MEM_CONT_STATUS 3 = true ∧ t.bitAt MEM_EVENTS 3 = true ∧
          s.Logged t 0x0303 0 s.inFlight) ∧
        (aOk = true → bOk = true → let n := (s.cont.resyncs.filter (fun g => decide (s.now < g + 800000000))).length
          (t.reg MEM_DE_RESYNC).toNat = min ((s.reg MEM_DE_RESYNC).toNat + 1) (2 ^ 32 - 1) ∧
          (n < 2 → t.fld MEM_CONT_STATUS 3 0 = s.fld MEM_CONT_STATUS 3 0 ∧ s.Logged t 0x0302 0 (n + 1)) ∧
          (2 ≤ n → t.bitAt MEM_CONT_STATUS 1 = true ∧ t.bitAt MEM_CONT_STATUS 2 = true)) ∧
        t = { s with regs := t.regs, cont := t.cont, evq := t.evq, aon := { s.aon with lt := t.aon.lt } } ∧
        s.RegsKept t [MEM_CONT_STATUS, MEM_EVENTS, MEM_DE_RESYNC, GLB_EVQ_LOST]) ∧
    (∀ (aOk bOk : Bool) (w : Word), s.lockstep = true → s.cont.mismatch = false →
      exec (.deSelfCheckDone aOk bOk w) s = .next s) ∧
    (∀ (aOk bOk : Bool) (w : Word), s.bitAt MEM_CONT_STATUS 2 = true → s.bitAt MEM_CONT_STATUS 3 = false →
      ((s.bitAt MEM_CONT_STATUS 0 = false ∧ aOk = false) ∨ (s.bitAt MEM_CONT_STATUS 1 = false ∧ bOk = false)) →
      ∃ t, exec (.deSelfCheckDone aOk bOk w) s = .next t ∧ t.bitAt MEM_CONT_STATUS 3 = true ∧ t.bitAt MEM_EVENTS 3 = true ∧
        s.Logged t 0x0303 0 s.inFlight ∧ t.ops = s.ops)

/-- Faults of pseudo-channels, MRAM banks and control copies are recorded and ridden through (R111, R116, R117, R119, R120, R122, R139, R544). -/
def Obligations.MemoryFaultsAreRiddenThrough : Prop :=
(∀ (pc c r : Nat) (f : Bool) (s : State), 32 ≤ pc → exec (.pcFault pc c r f) s = .next s) ∧
  (∀ (pc c r : Nat) (f : Bool) (s : State), pc < 32 → let u := s.countEcc pc c r
    (u.reg MEM_ECC_CORR).toNat = min ((s.reg MEM_ECC_CORR).toNat + c) (2 ^ 32 - 1) ∧
    (u.reg MEM_ECC_RECON).toNat = min ((s.reg MEM_ECC_RECON).toNat + r) (2 ^ 32 - 1) ∧
    u = { s with regs := u.regs, cont := { s.cont with rebuilt := u.cont.rebuilt } } ∧ s.RegsKept u [MEM_ECC_CORR, MEM_ECC_RECON] ∧
    (s.bitAt MEM_PC_FAULT pc = true ∨ (f = false ∧ u.rebuiltOf pc < 16) → exec (.pcFault pc c r f) s = .next u) ∧
    (s.bitAt MEM_PC_FAULT pc = false → (f = true ∨ 16 ≤ u.rebuiltOf pc) →
      ∃ t, exec (.pcFault pc c r f) s = .next t ∧ t.bitAt MEM_PC_FAULT pc = true ∧ t.bitAt MEM_EVENTS 0 = true ∧
        t.bitAt MEM_STATUS 1 = (List.range 4).any (fun i => t.pcFaults i == 1) ∧ t.cfg = s.cfg ∧ t.store = s.store ∧
        (s.pcFaults (pc / 8) = 0 → s.Logged t 0x0305 pc (pc / 8) ∧
          t = { u with regs := t.regs, evq := t.evq, aon := { s.aon with lt := t.aon.lt } } ∧
          u.RegsKept t [MEM_PC_FAULT, MEM_EVENTS, MEM_STATUS, GLB_EVQ_LOST]) ∧
        (s.pcFaults (pc / 8) = 1 → t.bitAt MEM_GROUP_LOST (pc / 8) = true ∧ t.bitAt MEM_STATUS 3 = true ∧
          ((∀ n ∈ s.segs.map Prod.fst, s.segInGroup n (pc / 8) = false) →
            withParity (eventRecord s.now 0x0306 (pc / 8) pc) ∈ t.evq.recs ∧
            t.ops.map Op.asn = s.ops.map Op.asn ∧ t.ops.map Op.phase = s.ops.map Op.phase ∧
            t = { u with regs := t.regs, evq := t.evq, ops := t.ops, heldRecs := t.heldRecs, aon := { s.aon with lt := t.aon.lt } } ∧
            u.RegsKept t [MEM_PC_FAULT, MEM_EVENTS, MEM_STATUS, MEM_GROUP_LOST, GLB_EVQ_LOST])))) ∧
  (∀ (bank n : Nat) (s : State), 16 ≤ bank ∨ s.bitAt MEM_MRAM_BANK_FAULT bank = true → exec (.mramBankFault bank n) s = .next s) ∧
  (∀ (bank n : Nat) (s : State), bank < 16 → s.bitAt MEM_MRAM_BANK_FAULT bank = false →
    ∃ t, exec (.mramBankFault bank n) s = .next t ∧ t.bitAt MEM_MRAM_BANK_FAULT bank = true ∧ t.bitAt MEM_EVENTS 1 = true ∧
      t.bitAt MEM_CONT_STATUS 4 = true ∧ s.Logged t 0x0308 bank n ∧
      (s.cont.recopying = [] → t.ops = s.ops ∧ t.heldRecs = s.heldRecs) ∧
      (s.cont.recopying ≠ [] → t.ops = s.ops.map (fun o => { o with lost := true }) ∧ t.heldRecs = []) ∧
      t = { s with regs := t.regs, evq := t.evq, ops := t.ops, heldRecs := t.heldRecs, aon := { s.aon with lt := t.aon.lt },
                   cont := { s.cont with recopying := s.cont.recopying ++ [(bank, n)] } } ∧
      s.RegsKept t [MEM_MRAM_BANK_FAULT, MEM_EVENTS, MEM_CONT_STATUS, GLB_EVQ_LOST]) ∧
  (∀ (bank n : Nat) (s : State), s.cont.recopying = [(bank, n)] →
    ∃ t, exec (.mramRecopyDone bank) s = .next t ∧ t.bitAt MEM_CONT_STATUS 4 = false ∧ t.cont.recopying = [] ∧
      t.lifetime 15 = min (s.lifetime 15 + n) (2 ^ 64 - 1) ∧
      t = { s with regs := t.regs, cont := { s.cont with recopying := [] }, aon := { s.aon with lt := t.aon.lt } } ∧
      s.RegsKept t [MEM_CONT_STATUS]) ∧
  (∀ (k copy : Nat) (s : State), k < 16 → copy < 2 → s.cont.fencedCopies.contains (k, copy) = true →
    exec (.islandCtlMismatch k copy) s = .next s) ∧
  (∀ (k copy : Nat) (s : State), k < 16 → copy < 2 → (∀ x ∈ s.cont.fencedCopies, x.1 ≠ k) →
    ∃ t, exec (.islandCtlMismatch k copy) s = .next t ∧ t.bitAt MEM_ISLAND_FENCED k = true ∧ t.bitAt MEM_EVENTS 2 = true ∧
      s.Logged t 0x0309 k copy ∧
      t = { s with regs := t.regs, evq := t.evq, cont := { s.cont with fencedCopies := s.cont.fencedCopies ++ [(k, copy)] },
                   aon := { s.aon with lt := t.aon.lt } } ∧
      s.RegsKept t [MEM_ISLAND_FENCED, MEM_EVENTS, GLB_EVQ_LOST]) ∧
  (∀ (k copy : Nat) (s : State), k < 16 → copy < 2 → s.cont.fencedCopies.contains (k, copy) = false →
    s.cont.fencedCopies.contains (k, 1 - copy) = true → s.isFaulted 6 k = false → s.needing 6 k = [] →
    ∃ t, exec (.islandCtlMismatch k copy) s = .next t ∧ t.isFaulted 6 k = true ∧ s.Logged t 0x030A k 0 ∧ t.ops = s.ops ∧
      t.store = s.store ∧ t.cfg = s.cfg)

/-- A faulted unit is marked and reported, and what waits for it completes with RESOURCE_FAULT (R122, R139, R140, R385, R390). -/
def Obligations.FaultedUnitsStopWhatNeedsThem : Prop :=
(∀ (cls ix : Nat) (s : State), s.isFaulted cls ix = true → exec (.unitFault cls ix) s = .next s) ∧
  (∀ (cls ix : Nat) (s : State), s.isFaulted cls ix = false → s.needing cls ix = [] →
    ∃ t, exec (.unitFault cls ix) s = .next t ∧ t.isFaulted cls ix = true ∧ s.Logged t 0x030B (4096 * (if cls = 8 then 3 else cls) + ix) 0 ∧
      t.ops = s.ops ∧ t.store = s.store ∧ t.cfg = s.cfg ∧ t.sec = s.sec ∧ t.tb = s.tb) ∧
  (∀ (cls ix : Nat) (s : State) (o : Op), s.isFaulted cls ix = false → s.needing cls ix = [o] → s.op? o.asn = some o →
    o.phase = .waiting → o.work = .nothing →
    ∃ t, exec (.unitFault cls ix) s = .next t ∧ t.isFaulted cls ix = true ∧ t.Ended o 6 0 s.now 0 ∧
      s.Logged t 0x030B (4096 * (if cls = 8 then 3 else cls) + ix) 1 ∧ t.store = s.store ∧ t.cfg = s.cfg ∧ t.sec = s.sec) ∧
  (∀ (g : Nat) (s : State), (∀ x ∈ s.relocks, x.1 ≠ g) → exec (.lanePllTimeout g) s = .next s) ∧
  (∀ (g c : Nat) (s : State), g < 8 → s.relocks.find? (fun x => x.1 == g) = some (g, c) → s.counting = true → s.now ≤ c + 800000 →
    (s.isFaulted 4 g = true → exec (.lanePllTimeout g) s = .next (s.advanceTo (c + 800000))) ∧
    (s.isFaulted 4 g = false → s.needing 4 g = [] →
      ∃ t, exec (.lanePllTimeout g) s = .next t ∧ t.now = c + 800000 ∧ t.isFaulted 4 g = true ∧ t.bitAt (LG_EVENTS g) 2 = true ∧
        (s.advanceTo (c + 800000)).Logged t 0x030B (4096 * 4 + g) 0 ∧ t.ops = s.ops ∧ t.store = s.store)) ∧
  (∀ (d : Nat) (s : State), d < 64 → s.isFaulted 5 d = false → s.needing 5 d = [] →
    ∃ t, exec (.dpsSelfCheckFail d) s = .next t ∧ t.isFaulted 5 d = true ∧ t.dpsState d = 5 ∧ (t.ctl d).weir = false ∧
      t.bitAt (DPS_EVENTS d) 4 = true ∧ s.Logged t 0x030B (4096 * 5 + d) 0 ∧ t.ops = s.ops ∧ t.store = s.store)

/-- A power failure stops all work, records what is owed, and leaves the device idle (R127, R128, R129, R131, R136, R137, R139, R544). -/
def Obligations.PowerFailSequenceRuns : Prop :=
(∀ (pfN det : Bool) (s : State), s.aon.vddCore = true → s.aon.vaon = true → s.deviceState ≤ 3 → (pfN || det) = true →
    ∃ t, exec (.powerFailStart pfN det) s = .next t ∧ t.deviceState = 4 ∧ t.bitAt WKE_STATUS 3 = true ∧
      t.lifetime 4 = min (s.lifetime 4 + 1) (2 ^ 64 - 1) ∧
      (∀ o ∈ t.ops, o.phase = .ended ∧ o.status = 5) ∧ t.ops.map Op.asn = s.ops.map Op.asn ∧ t.heldRecs = s.heldRecs ∧
      withParity (eventRecord s.now 0x030C 0 ((if pfN then 1 else 0) + (if det then 2 else 0))) ∈ t.evq.recs ∧
      (s.cont.slots.length = 2 → ∃ x ∈ t.cont.slots, x.order = s.cont.pfOrder + 1 ∧ x.valid = false ∧ x.gcc = s.now ∧
        x.owed.length = ((s.heldRecs ++ s.ops).filter (fun o => !o.lost)).length) ∧
      t.cfg.active = s.cfg.active ∧ t.cfg.shadow = none ∧ t.shadowState = 0 ∧ t.cfg.swap = none ∧ t.jtag = s.jtag ∧
      (s.sec.writing = none → s.sec.floorWrite = none → t.sec.keys = s.sec.keys ∧ t.sec.kseq = s.sec.kseq ∧
        t.sec.cfgFloor = s.sec.cfgFloor ∧ t.sec.csFloor = s.sec.csFloor)) ∧
  (∀ (pfN det : Bool) (s : State), (s.aon.vddCore = false ∨ s.aon.vaon = false ∨ 3 < s.deviceState ∨ (pfN || det) = false) →
    exec (.powerFailStart pfN det) s = .next s) ∧
  (∀ s : State, s.deviceState = 4 → s.aon.resetN = true →
    ∃ t, exec .pfSequenceEnd s = .next t ∧ t.deviceState = 5 ∧ t.aon.pfDone = true ∧ t.cont.pfGen = s.activeGen ∧
      t.cont.slots.map PfSlot.owed = s.cont.slots.map PfSlot.owed ∧
      (∀ x ∈ t.cont.slots, x.order = s.cont.pfOrder → x.valid = true) ∧ (∀ c, t.inPinReset c = true) ∧
      (∀ d, d < 64 → t.dpsState d = 0 ∨ t.dpsState d = s.dpsState d) ∧ (∀ d, d < 64 → t.dpsState d ∉ [1, 2, 3]) ∧
      t.ops = s.ops ∧ t.sec = s.sec ∧ t.store = s.store ∧ t.cfg = s.cfg ∧
      (∀ a, ¬ (0x3200000 ≤ a ∧ a < 0x3400000) → a ≠ AON_PWR_STATUS → a ≠ MEM_STATUS → t.reg a = s.reg a)) ∧
  (∀ s : State, s.deviceState = 4 → s.aon.resetN = false →
    ∃ t, exec .pfSequenceEnd s = .next t ∧ t.deviceState = 0 ∧ t.aon.resetting = 2 ∧ t.aon.pfDone = true ∧ t.cont.pfGen = s.activeGen ∧
      t.ops = [] ∧ t.cfg.active = none ∧ (∀ c, t.inPinReset c = true)) ∧
  (∀ s : State, s.deviceState ≠ 4 → exec .pfSequenceEnd s = .next s)

/-- Owed ABORTED_POWER records go to the ring of their queue, or are dropped by DISCARD_OLDEST (R91, R92, R131, R134, R136, R139). -/
def Obligations.AbortedPowerRecordsAreDelivered : Prop :=
(∀ (q : Nat) (s : State) (r : QRec) (x : Owed) (sl : PfSlot), q < 4096 → s.queueRec q = some r → s.recordsFlow = true →
    s.deviceState = 1 → (s.cont.slots = [sl, pfSlotEmpty] ∨ s.cont.slots = [pfSlotEmpty, sl]) → sl.owed = [x] → x.queue = q → s.cqRoom r = true →
    let m := (s.reg (WQ_CQ_TAIL q)).toNat
    let at_ := r.cqBase + 32 * (m % 2 ^ r.cqLog2)
    ∃ t, exec (.abortedPowerDelivery q) s = .next t ∧
      t.le at_ 6 = x.seq % 2 ^ 48 ∧ t.le (at_ + 6) 2 = q + 2 ^ 15 * (1 - (m / 2 ^ r.cqLog2) % 2) ∧ t.le (at_ + 8) 1 = 5 ∧
      t.le (at_ + 9) 1 = x.opcode % 256 ∧ t.le (at_ + 10) 1 = (if x.started then 1 else 0) ∧ t.le (at_ + 11) 1 = 0 ∧
      t.le (at_ + 12) 4 = x.tag % 2 ^ 32 ∧ t.le (at_ + 16) 8 = x.gcc % 2 ^ 64 ∧ t.le (at_ + 24) 8 = x.detail % 2 ^ 64 ∧
      t.reg (WQ_CQ_TAIL q) = BitVec.ofNat 32 (m + 1) ∧ t.cont.slots = [pfSlotEmpty, pfSlotEmpty] ∧
      s.Logged t 0x030E (if s.cont.slots = [sl, pfSlotEmpty] then 0 else 1) sl.total ∧ (∀ b, (b < at_ ∨ at_ + 32 ≤ b) → t.byte b = s.byte b) ∧
      t.ops = s.ops ∧ t.cfg = s.cfg ∧ t.sec = s.sec) ∧
  (∀ (q : Nat) (s : State), s.queueRec q = none ∨ s.deviceState ≠ 1 ∨ s.olderSlot = none → exec (.abortedPowerDelivery q) s = .next s) ∧
  (∀ (i : Nat) (s : State), s.olderSlot = some i → s.cont.slots.length = 2 →
    ∃ t, exec .discardOldest s = .next t ∧ (t.cont.slots.getD i pfSlotEmpty) = pfSlotEmpty ∧
      (∀ j, j ≠ i → t.cont.slots[j]? = s.cont.slots[j]?) ∧
      s.Logged t 0x030F i (s.cont.slots.getD i pfSlotEmpty).owed.length ∧
      t = { s with regs := t.regs, evq := t.evq, cont := { s.cont with slots := t.cont.slots }, aon := { s.aon with lt := t.aon.lt } } ∧
      s.RegsKept t [GLB_EVQ_LOST]) ∧
  (∀ s : State, s.olderSlot = none → ∃ t, exec .discardOldest s = .next t ∧ t.bitAt GLB_ACCESS_STATUS 0 = true ∧
    t = { s with regs := t.regs, flagged := true } ∧ s.RegsKept t (accessRegs 0))

/-- A warm reset cause begins a warm reset, or is ignored during another reset or power failure (R113, R525, R526, R528, R544). -/
def Obligations.WarmResetsBegin : Prop :=
∀ s : State,
    (∀ key, key ≠ 0x5A17 → ∀ c ∈ [Instr.warmCmd key, .coldCmd key], ∃ t, exec c s = .next t ∧
      t.bitAt GLB_ACCESS_STATUS 0 = true ∧ t = { s with regs := t.regs, flagged := true } ∧ s.RegsKept t (accessRegs 0)) ∧
    (s.resetBusy = false → s.cfg.swap = none →
      (∃ t, exec (.warmCmd 0x5A17) s = .next t ∧ t.deviceState = 0 ∧ t.fld AON_PWR_STATUS 19 16 = 4 ∧
        t.fld AON_PWR_STATUS 31 28 = 0 ∧ t.lifetime 3 = min (s.lifetime 3 + 1) (2 ^ 64 - 1) ∧
        t = { s with regs := t.regs, aon := { s.aon with resetting := 1, lt := t.aon.lt } } ∧ s.RegsKept t [AON_PWR_STATUS]) ∧
      (∀ g, s.cont.hubFaultAt = some g → s.counting = true → s.now ≤ g + 8000 →
        ∃ t, exec .hubFaultReset s = .next t ∧ t.now = g + 8000 ∧ t.deviceState = 0 ∧ t.fld AON_PWR_STATUS 19 16 = 5 ∧
          t.aon.resetting = 1 ∧ t.cont.hubFaultAt = none ∧ t.ops = s.ops ∧ t.store = s.store ∧ t.cfg = s.cfg ∧
          s.RegsKept t [AON_PWR_STATUS])) ∧
    (s.resetBusy = true →
      (∃ t, exec (.warmCmd 0x5A17) s = .next t ∧ t.bitAt AON_EVENTS 5 = true ∧ t.fld AON_PWR_STATUS 31 28 = 2 ∧
        t.deviceState = s.deviceState ∧ s.OnlyRegs t [AON_EVENTS, AON_PWR_STATUS])) ∧
    (s.cont.hubFaultAt = none → exec .hubFaultReset s = .next s)

/-- A warm reset puts the pins away, ends or keeps the operations by their kind, and ends in ACTIVE (R113, R123, R183, R185, R390, R528, R529, R532). -/
def Obligations.WarmResetRuns : Prop :=
(∀ s : State, s.aon.resetting ≠ 1 → exec .warmResetStart s = .next s) ∧
  (∀ (l : List (Nat × Nat × Nat)) (d c : Nat) (s : State), s.aon.resetting ≠ 3 → exec (.warmResetEnd l d c) s = .next s) ∧
  (∀ s : State, s.aon.resetting = 1 → ∃ t, exec .warmResetStart s = .next t ∧ t.aon.resetting = 3 ∧
    (∀ c, t.inPinReset c = true) ∧ t.bitAt AON_PWR_STATUS 8 = true ∧
    (∀ o ∈ t.ops, o.phase = .running → o.opcode = 2 ∨ o.opcode = 0xB) ∧ (∀ o ∈ t.ops, o.phase ≠ .scheduled) ∧
    t.ops.map Op.asn = s.ops.map Op.asn ∧ t.cfg.active = s.cfg.active ∧ (∀ d, d < 64 → t.dpsState d ≠ 1 ∧ t.dpsState d ≠ 2) ∧
    (s.sec.writing = none → s.sec.floorWrite = none → t.sec.keys = s.sec.keys ∧ t.sec.cfgFloor = s.sec.cfgFloor) ∧
    t.kept = s.kept ∧ t.heldRecs = s.heldRecs) ∧
  (∀ (l : List (Nat × Nat × Nat)) (d c : Nat) (s : State), s.aon.resetting = 3 → s.ops = [] → s.heldRecs = [] →
    ∃ t, exec (.warmResetEnd l d c) s = .next t ∧ t.deviceState = 1 ∧ t.aon.resetting = 0 ∧ t.bitAt AON_EVENTS 4 = true ∧
      (∀ i, i < 26 → t.islandMode i = 0) ∧
      (∀ i, i < 26 → retentionHolds ((l.filter (fun x => x.1 == i)).map Prod.snd) = false → t.genOf i = 0) ∧
      (∀ d, d < 64 → t.dpsState d ∉ [1, 2, 3]) ∧
      t.fld MEM_CONT_STATUS 1 0 = d % 4 ∧ t.bitAt MEM_CONT_STATUS 2 = (d % 4 == 1 || d % 4 == 2) ∧
      t.bitAt MEM_CONT_STATUS 3 = (d % 4 == 3) ∧ (∀ k, k < 16 → t.bitAt MEM_ISLAND_FENCED k = (c / 4 ^ k % 4 != 0)) ∧
      t.ops = [] ∧ t.cfg.active = s.cfg.active ∧ t.sec = s.sec ∧ t.store = s.store ∧
      t.evq.recs.getLast? = some (withParity (eventRecord s.now 0x0310 0 0)))

/-- A cold reset puts everything outside the always-on domain and MRAM at its reset value (R14, R57, R111, R149, R525, R527, R530, R546). -/
def Obligations.ColdResetsClearTheDevice : Prop :=
∀ s : State,
    ((s.deviceState = 4 ∨ s.deviceState = 5) → ∃ t, exec (.coldCmd 0x5A17) s = .next t ∧ t.fld AON_PWR_STATUS 31 28 = 2 ∧
      s.OnlyRegs t [AON_PWR_STATUS]) ∧
    (s.aon.vaon = false ∨ s.aon.vddCore = false ∨ s.deviceState = 4 →
      exec .resetNLow s = .next { s with aon := { s.aon with resetN := false } }) ∧
    ∀ c : Instr, (c = .coldCmd 0x5A17 ∧ s.deviceState ≠ 4 ∧ s.deviceState ≠ 5) ∨
        (c = .resetNLow ∧ s.aon.vaon = true ∧ s.aon.vddCore = true ∧ s.deviceState ≠ 4) →
      ∃ t, exec c s = .next t ∧ t.deviceState = 0 ∧ t.aon.resetting = 2 ∧ t.aon.powerStep = 0 ∧
        (c = .coldCmd 0x5A17 → t.fld AON_PWR_STATUS 19 16 = 3) ∧
        (∀ a, ¬ (0x40000 ≤ a ∧ a < 0x40300) → t.reg a = resetWord a) ∧
        (∀ a, 0x40000 ≤ a → a < 0x40300 → a ≠ AON_ISL_MODE0 → a ≠ AON_ISL_MODE1 → a ≠ AON_PWR_STATUS → t.reg a = s.reg a) ∧
        t.cfg.active = none ∧ t.cfg.shadow = none ∧ t.ops = [] ∧ t.heldRecs = [] ∧ (∀ b, t.byte b = 0) ∧
        (∀ n, n < 16384 → t.fld (SEG_D_INFO n) 2 0 = 0) ∧ t.evq.recs = [] ∧ t.now = 0 ∧ t.tbState = 0 ∧
        t.cont.slots = s.cont.slots ∧ t.cfg.genCounter = s.cfg.genCounter ∧
        (s.sec.writing = none → s.sec.floorWrite = none → t.sec.keys = s.sec.keys ∧ t.sec.kseq = s.sec.kseq ∧
          t.sec.cfgFloor = s.sec.cfgFloor ∧ t.sec.csFloor = s.sec.csFloor)

/-- Supplies, the power-up sequence and the Cistern move the device between its states (R524, R525, R530, R531, R538, R543, R545, R546). -/
def Obligations.SuppliesMoveTheDevice : Prop :=
∀ s : State,
    (s.aon.vaon = false → ∃ t, exec .vaonRise s = .next t ∧ t.aon.vaon = true ∧ t.aon.rtcSec = 0 ∧ t.bitAt AON_PWR_STATUS 9 = false ∧
      (∀ a, t.reg a = resetWord a) ∧ t = { s with regs := [], aon := { s.aon with vaon := true, rtcSec := 0, rtcSub := 0, rtcLoad := none } }) ∧
    (s.aon.vaon = true → exec .vaonRise s = .next s) ∧
    (s.aon.vaon = true → s.aon.vddCore = true → ∃ t, exec .vddCoreFall s = .next t ∧ t.aon.vddCore = false ∧ t.aon.vaon = true ∧
      t.deviceState = 0 ∧ (∀ a, ¬ (0x40000 ≤ a ∧ a < 0x40300) → t.reg a = resetWord a) ∧ t.ops = [] ∧ t.cfg.active = none ∧
      (s.aon.pfDone = false → t.aon.lt = s.mirrored) ∧ t.aon.rtcSec = s.aon.rtcSec ∧
      (s.sec.writing = none → s.sec.floorWrite = none → t.sec.keys = s.sec.keys)) ∧
    (s.aon.vddCore = false → exec .vddCoreFall s = .next s) ∧
    (∃ t, exec .vaonFall s = .next t ∧ t.aon.vaon = false ∧ t.aon.vddCore = false ∧ (∀ a, t.reg a = resetWord a) ∧ t.ops = []) ∧
    (s.aon.vaon = true → s.aon.resetting = 2 → s.aon.powerStep = 0 → s.deviceState = 0 →
      ∃ t, exec (.powerUpSequence true) s = .next t ∧ t.aon.powerStep = 4 ∧ t.aon.vddCore = true ∧ t.aon.resetN = true ∧
        (s.fld AON_PWR_STATUS 19 16 = 0 → t.fld AON_PWR_STATUS 19 16 = if s.aon.pfDone then 6 else 1) ∧
        (s.fld AON_PWR_STATUS 19 16 ≠ 0 → t.fld AON_PWR_STATUS 19 16 = s.fld AON_PWR_STATUS 19 16) ∧
        t.bitAt AON_PWR_STATUS 11 = true ∧ t.lifetime 2 = min (s.lifetime 2 + 1) (2 ^ 64 - 1) ∧
        (∀ p, p < 16 → t.fld (APL_STATUS p) 2 0 = 1) ∧ t.reg CFG_PF_GEN = BitVec.ofNat 32 s.cont.pfGen ∧
        t.sec = s.sec ∧ t.ops = s.ops ∧ t.store = s.store) ∧
    (exec (.powerUpSequence false) s = .next s) ∧
    (s.aon.resetting = 2 → s.aon.powerStep = 4 → ∃ t, exec .cisternTrained s = .next t ∧ t.deviceState = 1 ∧
      t.bitAt MEM_STATUS 0 = true ∧
      t = { s with regs := t.regs, aon := { s.aon with resetting := 0, powerStep := 5 } } ∧
      s.RegsKept t [MEM_STATUS, AON_PWR_STATUS]) ∧
    (s.aon.powerStep ≠ 4 → exec .cisternTrained s = .next s) ∧
    (s.deviceState = 3 → ∃ t, exec .wakingDone s = .next t ∧ t.deviceState = 1 ∧ t.bitAt AON_PWR_STATUS 8 = false ∧
      s.OnlyRegs t [AON_PWR_STATUS]) ∧
    (s.deviceState ≠ 3 → exec .wakingDone s = .next s)

/-- Islands and the device enter and leave their low-power modes (R532, R533, R534, R535, R537, R538). -/
def Obligations.IslandsAndDeviceSleep : Prop :=
(∀ (v : Word) (s : State), (25 < v.field 4 0 ∨ v.field 9 8 = 3) → ∃ t, exec (.islandModeRequest v) s = .next t ∧
    t.bitAt GLB_ACCESS_STATUS 0 = true ∧ t = { s with regs := t.regs, flagged := true } ∧ s.RegsKept t (accessRegs 0)) ∧
  (∀ (v : Word) (s : State), v.field 4 0 ≤ 25 → v.field 9 8 ≠ 3 →
    let i := v.field 4 0
    let m := v.field 9 8
    ((s.deviceState = 0 ∨ 3 < s.deviceState) → ∃ t, exec (.islandModeRequest v) s = .next t ∧ t.fld AON_PWR_STATUS 31 28 = 2 ∧
      s.OnlyRegs t [AON_PWR_STATUS]) ∧
    (1 ≤ s.deviceState → s.deviceState ≤ 3 → s.islandMode i ≠ 3 →
      (m ≠ 0 → s.islandBusy i = true → ∃ t, exec (.islandModeRequest v) s = .next t ∧ t.fld AON_PWR_STATUS 31 28 = 1 ∧
        s.OnlyRegs t [AON_PWR_STATUS]) ∧
      (m ≠ 0 → s.islandBusy i = false → ∃ t, exec (.islandModeRequest v) s = .next t ∧ t.islandMode i = m ∧ t.genOf i = 0 ∧
        t.fld AON_PWR_STATUS 31 28 = 0 ∧ (∀ j, j ≠ i → j < 26 → t.islandMode j = s.islandMode j ∧ t.genOf j = s.genOf j) ∧
        t.ops = s.ops ∧ t.store = s.store ∧ t.sec = s.sec ∧ t.cfg.active = s.cfg.active) ∧
      (m = 0 → s.islandMode i ≠ 0 → ∃ t, exec (.islandModeRequest v) s = .next t ∧ t.islandMode i = 3 ∧
        t.fld AON_PWR_STATUS 31 28 = 0 ∧ i ∈ t.aon.waking ∧
        t = { s with regs := t.regs, aon := { s.aon with waking := s.aon.waking ++ [i] } } ∧
        s.RegsKept t [AON_ISL_MODE0, AON_ISL_MODE1, AON_PWR_STATUS]) ∧
      (m = 0 → s.islandMode i = 0 → ∃ t, exec (.islandModeRequest v) s = .next t ∧ t.fld AON_PWR_STATUS 31 28 = 0 ∧
        s.OnlyRegs t [AON_PWR_STATUS])) ∧
    (1 ≤ s.deviceState → s.deviceState ≤ 3 → s.islandMode i = 3 →
      ∃ t, exec (.islandModeRequest v) s = .next t ∧ t.fld AON_PWR_STATUS 31 28 = 0 ∧
        t.aon.after.filter (fun x => x.1 == i) = (if m = 0 then [] else [(i, m)]) ∧
        t = { s with regs := t.regs, aon := { s.aon with after := t.aon.after } } ∧ s.RegsKept t [AON_PWR_STATUS])) ∧
  (∀ (i : Nat) (upsets : List (Nat × Nat)) (s : State), i < 26 → i ∈ s.aon.waking → s.islandMode i = 3 →
    s.aon.after.find? (fun x => x.1 == i) = none →
    ∃ t, exec (.islandWakeDone i upsets) s = .next t ∧ t.islandMode i = 0 ∧ i ∉ t.aon.waking ∧
      (retentionHolds upsets = false ∨ s.cfg.lostRetention.contains i = true → t.genOf i = 0) ∧
      (retentionHolds upsets = true → s.cfg.lostRetention.contains i = false →
        t = { s with regs := t.regs, aon := { s.aon with waking := t.aon.waking } } ∧
        s.RegsKept t [AON_ISL_MODE0, AON_ISL_MODE1]) ∧
      t.ops = s.ops ∧ t.store = s.store) ∧
  (∀ (i m : Nat) (upsets : List (Nat × Nat)) (s : State), i < 26 → i ∈ s.aon.waking → s.islandMode i = 3 →
    retentionHolds upsets = true → s.cfg.lostRetention.contains i = false → (m = 1 ∨ m = 2) →
    s.aon.after.find? (fun x => x.1 == i) = some (i, m) →
    ∃ t, exec (.islandWakeDone i upsets) s = .next t ∧ t.islandMode i = (if s.islandBusy i then 0 else m) ∧
      i ∉ t.aon.waking ∧ t.fld AON_PWR_STATUS 31 28 = (if s.islandBusy i then 1 else 0) ∧ t.ops = s.ops ∧ t.store = s.store) ∧
  (∀ (i : Nat) (upsets : List (Nat × Nat)) (s : State), i ∉ s.aon.waking ∨ s.islandMode i ≠ 3 →
    exec (.islandWakeDone i upsets) s = .next s) ∧
  (∀ s : State, s.deviceState = 1 → s.inFlight = 0 → s.mnt.running = [] → s.mnt.waiting = [] →
    ∃ t, exec .deviceSleep s = .next t ∧ t.deviceState = 2 ∧ t.fld AON_PWR_STATUS 31 28 = 0 ∧ t.bitAt AON_PWR_STATUS 8 = true ∧
      (∀ i, i < 26 → t.islandMode i = if s.islandMode i = 2 then 2 else if s.bitAt AON_CFG 2 then 2 else 1) ∧
      t.store = s.store ∧ t.sec = s.sec ∧ t.cfg.active = s.cfg.active) ∧
  (∀ s : State, s.deviceState ≠ 1 ∨ s.inFlight ≠ 0 ∨ s.mnt.running ≠ [] ∨ s.mnt.waiting ≠ [] →
    ∃ t, exec .deviceSleep s = .next t ∧ t.fld AON_PWR_STATUS 31 28 = (if s.deviceState = 1 then 1 else 2) ∧
      s.OnlyRegs t [AON_PWR_STATUS]) ∧
  (∀ s : State, (s.deviceState = 2 → ∃ t, exec .wake s = .next t ∧ t.deviceState = 3 ∧ t.bitAt AON_EVENTS 0 = true ∧
      t.fld AON_PWR_STATUS 31 28 = 0 ∧ s.OnlyRegs t [AON_PWR_STATUS, AON_EVENTS]) ∧
    (s.deviceState ≠ 2 → ∃ t, exec .wake s = .next t ∧ t.deviceState = s.deviceState ∧ t.fld AON_PWR_STATUS 31 28 = 0 ∧
      s.OnlyRegs t [AON_PWR_STATUS]))

/-- The real-time clock and the lifetime counters count and are mirrored (R541, R542, R543, R544, R545). -/
def Obligations.ClockAndLifetimeCounters : Prop :=
∀ s : State,
    (s.aon.vaon = true → s.aon.rtcLoad = none → ∃ t, exec .rtcSecond s = .next t ∧ t.aon.rtcSec = (s.aon.rtcSec + 1) % 2 ^ 48 ∧
      t.bitAt AON_PWR_STATUS 10 = true ∧ t.lifetime 1 = min (s.lifetime 1 + 1) (2 ^ 64 - 1) ∧
      t.lifetime 0 = (if s.aon.vddCore then min (s.lifetime 0 + 1) (2 ^ 64 - 1) else s.lifetime 0) ∧
      (s.aon.vddCore = true → t.lifetime s.tempBand = min (s.lifetime s.tempBand + 1) (2 ^ 64 - 1)) ∧
      (∀ i, i ≠ 0 → i ≠ 1 → i ≠ s.tempBand → t.lifetime i = s.lifetime i) ∧
      (s.reg64 AON_ALARM_LO AON_ALARM_HI ≠ 0 → s.reg64 AON_ALARM_LO AON_ALARM_HI = (s.aon.rtcSec + 1) % 2 ^ 48 →
        t.bitAt AON_EVENTS 2 = true ∧
        (s.deviceState = 2 → s.bitAt AON_CFG 9 = true → t.deviceState = 3 ∧ t.bitAt AON_EVENTS 0 = true)) ∧
      (s.reg64 AON_ALARM_LO AON_ALARM_HI ≠ (s.aon.rtcSec + 1) % 2 ^ 48 → t.reg AON_EVENTS = s.reg AON_EVENTS) ∧
      t = { s with regs := t.regs, aon := { s.aon with rtcSec := t.aon.rtcSec, rtcSub := 0, lt := t.aon.lt } } ∧
      s.RegsKept t [AON_PWR_STATUS, AON_EVENTS]) ∧
    (s.aon.vaon = true → ∀ n, s.aon.rtcLoad = some n → ∃ t, exec .rtcSecond s = .next t ∧ t.aon.rtcSec = n ∧ t.aon.rtcSub = 0 ∧
      t.aon.rtcLoad = none ∧ t.bitAt AON_PWR_STATUS 9 = true ∧ t.bitAt AON_PWR_STATUS 10 = true ∧
      s.RegsKept t [AON_PWR_STATUS, AON_EVENTS]) ∧
    (s.aon.vaon = false → ∀ c ∈ [Instr.rtcSecond, .xtalFail, .xtalReturn, .srefDerivedSecond, .lifetimeMirror],
      exec c s = .next s) ∧
    (s.bitAt AON_PWR_STATUS 10 = true → ∃ t, exec .rtcSet s = .next t ∧
      t.aon.rtcSec = s.reg64 AON_RTC_SET_LO AON_RTC_SET_HI % 2 ^ 48 ∧ t.bitAt AON_PWR_STATUS 9 = true ∧
      t.fld AON_PWR_STATUS 31 28 = 0 ∧
      t = { s with regs := t.regs, aon := { s.aon with rtcSec := t.aon.rtcSec, rtcSub := 0, rtcLoad := none } } ∧
      s.RegsKept t [AON_PWR_STATUS, AON_EVENTS]) ∧
    (s.bitAt AON_PWR_STATUS 10 = false → ∃ t, exec .rtcSet s = .next t ∧ t.aon.rtcSec = s.aon.rtcSec ∧
      t.aon.rtcLoad = some (s.reg64 AON_RTC_SET_LO AON_RTC_SET_HI % 2 ^ 48) ∧ t.fld AON_PWR_STATUS 31 28 = 0 ∧
      t = { s with regs := t.regs, aon := { s.aon with rtcLoad := t.aon.rtcLoad } } ∧ s.RegsKept t [AON_PWR_STATUS]) ∧
    (s.aon.vaon = true → ∃ t, exec .xtalFail s = .next t ∧ t.bitAt AON_PWR_STATUS 10 = false ∧ t.bitAt AON_PWR_STATUS 9 = false ∧
      t.bitAt AON_EVENTS 1 = true ∧ t.aon.rtcSec = s.aon.rtcSec ∧ s.OnlyRegs t [AON_PWR_STATUS, AON_EVENTS]) ∧
    (s.aon.vaon = true → (s.aon.rtcLoad = none → ∃ t, exec .xtalReturn s = .next t ∧ t.bitAt AON_PWR_STATUS 10 = true ∧
        s.OnlyRegs t [AON_PWR_STATUS]) ∧
      (∀ n, s.aon.rtcLoad = some n → ∃ t, exec .xtalReturn s = .next t ∧ t.bitAt AON_PWR_STATUS 10 = true ∧
        t.bitAt AON_PWR_STATUS 9 = true ∧ t.aon.rtcSec = n ∧ t.aon.rtcLoad = none ∧ s.RegsKept t [AON_PWR_STATUS, AON_EVENTS])) ∧
    (s.aon.vaon = true → s.aon.vddCore = true → s.bitAt AON_PWR_STATUS 10 = false → ∃ t, exec .srefDerivedSecond s = .next t ∧
      t.lifetime 0 = min (s.lifetime 0 + 1) (2 ^ 64 - 1) ∧ t.lifetime 1 = min (s.lifetime 1 + 1) (2 ^ 64 - 1) ∧
      t = { s with aon := { s.aon with lt := t.aon.lt } }) ∧
    (s.bitAt AON_PWR_STATUS 10 = true → exec .srefDerivedSecond s = .next s) ∧
    (s.aon.vaon = true → s.aon.vddCore = true → s.aon.mirror.length = 2 → ∃ t, exec .lifetimeMirror s = .next t ∧
      t.mirrored = s.aon.lt ∧ t.lifetime 15 = min (s.lifetime 15 + 1) (2 ^ 64 - 1) ∧
      (∀ i, i ≠ 15 → t.lifetime i = s.lifetime i) ∧
      t = { s with aon := { s.aon with lt := t.aon.lt, mirror := t.aon.mirror } })

/-- Key commands, floors and attestation check, take effect when written, and report (R553, R554, R555, R556, R557, R561, R562). -/
def Obligations.KeysFloorsAndAttestation : Prop :=
∀ s : State,
    (s.secBusy = true ∨ s.shadowState = 1 ∨ s.sec.load.isSome = true → ∃ t, exec .keyCmd s = .next t ∧
      t.fld SEC_STATUS 15 8 = 0xA ∧ s.OnlyRegs t [SEC_STATUS]) ∧
    (s.secBusy = false → s.shadowState ≠ 1 → s.sec.load = none →
      let c := s.regBytes (SEC_KCMD 0) 64
      (s.keyCheck c ≠ 0 → ∃ t, exec .keyCmd s = .next t ∧ t.fld SEC_STATUS 15 8 = s.keyCheck c % 256 ∧ s.OnlyRegs t [SEC_STATUS]) ∧
      (s.keyCheck c = 0 → ∃ t w, exec .keyCmd s = .next t ∧ t = { s with sec := { s.sec with writing := some w } } ∧
        (∀ i, i ≠ (c.getD 1 0).toNat → w[i]? = s.sec.keys[i]?) ∧
        (∀ k, w[(c.getD 1 0).toNat]? = some k → if (c.getD 0 0).toNat = 1 then k = (1, BitVec.ofNat 512 (beNat ((c.drop 0x20).take 64)))
          else k.1 = 2))) ∧
    (∀ w, s.sec.writing = some w → ∃ t, exec .keyTableWritten s = .next t ∧ t.sec.keys = w ∧ t.sec.writing = none ∧
      t.sec.kseq = (s.sec.kseq + 1) % 2 ^ 64 ∧ t.fld SEC_STATUS 15 8 = 0 ∧ t.bitAt SEC_EVENTS 1 = true ∧
      t.sec.cfgFloor = s.sec.cfgFloor ∧ t.sec.csFloor = s.sec.csFloor ∧
      t = { s with regs := t.regs, sec := t.sec, aon := { s.aon with lt := t.aon.lt } } ∧ s.RegsKept t [SEC_STATUS, SEC_EVENTS]) ∧
    (s.sec.writing = none → exec .keyTableWritten s = .next s) ∧
    (s.secBusy = false → s.shadowState ≠ 4 ∨ s.cfg.swap.bind Swap.asn = none →
      (∀ g, s.cfg.active = some g → s.sec.cfgFloor < g.version →
        exec .raiseCfgFloor s = .next { s with sec := { s.sec with floorWrite := some (0, g.version) } }) ∧
      (∀ n, s.sec.csVersion = some n → s.sec.csFloor < n →
        exec .raiseCsFloor s = .next { s with sec := { s.sec with floorWrite := some (1, n) } }) ∧
      ((∀ g, s.cfg.active = some g → g.version ≤ s.sec.cfgFloor) →
        ∃ t, exec .raiseCfgFloor s = .next t ∧ t.fld SEC_STATUS 15 8 = 0xC ∧ s.OnlyRegs t [SEC_STATUS]) ∧
      ((∀ n, s.sec.csVersion = some n → n ≤ s.sec.csFloor) →
        ∃ t, exec .raiseCsFloor s = .next t ∧ t.fld SEC_STATUS 15 8 = 0xC ∧ s.OnlyRegs t [SEC_STATUS])) ∧
    (s.secBusy = true ∨ (s.shadowState = 4 ∧ (s.cfg.swap.bind Swap.asn).isSome = true) → ∀ c ∈ [Instr.raiseCfgFloor, .raiseCsFloor], ∃ t, exec c s = .next t ∧ t.fld SEC_STATUS 15 8 = 0xA ∧
      s.OnlyRegs t [SEC_STATUS]) ∧
    (s.sec.floorWrite = none → exec .floorWritten s = .next s) ∧
    (∀ w v, s.sec.floorWrite = some (w, v) → ∃ t, exec .floorWritten s = .next t ∧ t.sec.floorWrite = none ∧
      t.sec.cfgFloor = (if w = 0 then max s.sec.cfgFloor v else s.sec.cfgFloor) ∧
      t.sec.csFloor = (if w = 1 then max s.sec.csFloor v else s.sec.csFloor) ∧ t.sec.keys = s.sec.keys ∧
      t.fld SEC_STATUS 15 8 = 0 ∧ t.bitAt SEC_EVENTS 2 = true ∧
      t = { s with regs := t.regs, sec := t.sec, aon := { s.aon with lt := t.aon.lt } } ∧ s.RegsKept t [SEC_STATUS, SEC_EVENTS]) ∧
    (s.sec.report.isSome = true → ∃ t, exec .attest s = .next t ∧ t.fld SEC_STATUS 15 8 = 0xA ∧ s.OnlyRegs t [SEC_STATUS]) ∧
    (s.sec.report = none → ∃ t b, exec .attest s = .next t ∧ t.sec.report = some b ∧ t.fld SEC_STATUS 15 8 = 0 ∧
      b = s.reportBody (s.rtcNow).1 ∧ b.length = 192 ∧ b.take 6 = [0x58, 0x4A, 0x41, 0x54, 1, 0] ∧ (b.drop 16).take 32 = s.regBytes (SEC_NONCE 0) 8 ∧
      (b.drop 48).take 8 = leBytes 8 s.now ∧
      t = { s with regs := t.regs, sec := { s.sec with report := some b },
                   aon := { s.aon with rtcSub := t.aon.rtcSub }, free := s.free + 1 } ∧ s.RegsKept t [SEC_STATUS]) ∧
    (∀ b, s.sec.report = some b → b.length = 192 → ∃ t, exec .attestDone s = .next t ∧ t.sec.report = none ∧
      t.regBytes (SEC_REPORT 0) 64 = b ++ beBytes 64 (Config.identitySign b).toNat ∧ t.bitAt SEC_STATUS 17 = true ∧
      t.bitAt SEC_EVENTS 0 = true ∧ t = { s with regs := t.regs, sec := { s.sec with report := none } } ∧
      s.RegsKept t ([SEC_STATUS, SEC_EVENTS] ++ (List.range 64).map SEC_REPORT)) ∧
    (s.sec.report = none → exec .attestDone s = .next s)

/-- No step lowers an anti-rollback floor (R556, R557). -/
def Obligations.FloorsNeverFall : Prop :=
∀ s t : State, step s = .next t → s.sec.cfgFloor ≤ t.sec.cfgFloor ∧ s.sec.csFloor ≤ t.sec.csFloor

/-- VERIFY, its end, DISCARD, ABORT_VERIFY and ACTIVATE move the shadow set through its states (R35, R36, R39, R45, R54, R554, R557). -/
def Obligations.VerificationMovesTheShadowSet : Prop :=
∀ s : State,
    (s.shadowState = 1 ∨ s.shadowState = 4 → ∀ c ∈ [Instr.verify, .discard], ∃ t, exec c s = .next t ∧
      t.fld CFG_CMD_STATUS 7 0 = 2 ∧ s.OnlyRegs t [CFG_CMD_STATUS]) ∧
    (s.shadowState ≠ 1 → s.shadowState ≠ 4 →
      (s.sec.writing.isSome = true → ∃ t, exec .verify s = .next t ∧ t.fld CFG_CMD_STATUS 7 0 = 1 ∧ s.OnlyRegs t [CFG_CMD_STATUS]) ∧
      (s.sec.writing = none → ∃ t, exec .verify s = .next t ∧ t.shadowState = 1 ∧ t.fld CFG_CMD_STATUS 7 0 = 0 ∧
        t.bitAt CFG_CMD_STATUS 8 = true ∧
        t = { s with regs := t.regs, cfg := { s.cfg with shadow := none }, sec := { s.sec with verifyKeys := s.sec.keys } } ∧
        s.RegsKept t ([CFG_SHADOW_STATE, CFG_CMD_STATUS, CFG_SHADOW_IMAGE_ID, CFG_SHADOW_VERSION] ++
          (List.range 8).map CFG_SHADOW_DIGEST)) ∧
      (∃ t, exec .discard s = .next t ∧ t.shadowState = 0 ∧ t.fld CFG_CMD_STATUS 7 0 = 0 ∧
        t = { s with regs := t.regs, cfg := { s.cfg with shadow := none } } ∧
        s.RegsKept t ([CFG_SHADOW_STATE, CFG_CMD_STATUS, CFG_SHADOW_IMAGE_ID, CFG_SHADOW_VERSION] ++
          (List.range 8).map CFG_SHADOW_DIGEST))) ∧
    (s.shadowState = 1 →
      (∀ e, verdict s.img stepping s.sec.verifyKeys s.sec.cfgFloor s.cfg.active = .error e →
        ∃ t, exec .verificationComplete s = .next t ∧ t.shadowState = 3 ∧ t.fld CFG_VERIFY_ERROR 7 0 = e.1 % 256 ∧
          t.bitAt CFG_CMD_STATUS 8 = false ∧ t.bitAt CFG_STATUS 0 = true ∧
          s.OnlyRegs t [CFG_VERIFY_ERROR, CFG_SHADOW_STATE, CFG_CMD_STATUS, CFG_STATUS]) ∧
      (∀ g, verdict s.img stepping s.sec.verifyKeys s.sec.cfgFloor s.cfg.active = .ok g →
        ∃ t, exec .verificationComplete s = .next t ∧ t.shadowState = 2 ∧ t.cfg.shadow = some g ∧
          t.reg CFG_SHADOW_IMAGE_ID = BitVec.ofNat 32 g.imageId ∧ t.reg CFG_SHADOW_VERSION = BitVec.ofNat 32 g.version ∧
          t.reg CFG_VERIFY_ERROR = 0 ∧ t.bitAt CFG_CMD_STATUS 8 = false ∧ t.bitAt CFG_STATUS 0 = true ∧
          t = { s with regs := t.regs, cfg := { s.cfg with shadow := some g } } ∧
          s.RegsKept t ([CFG_VERIFY_ERROR, CFG_SHADOW_STATE, CFG_CMD_STATUS, CFG_STATUS, CFG_SHADOW_IMAGE_ID,
            CFG_SHADOW_VERSION] ++ (List.range 8).map CFG_SHADOW_DIGEST)) ∧
      (∃ t, exec .abortVerify s = .next t ∧ t.shadowState = 3 ∧ t.fld CFG_VERIFY_ERROR 7 0 = 0xE ∧ t.bitAt CFG_STATUS 0 = true ∧
        t.bitAt CFG_CMD_STATUS 8 = false ∧ t.fld CFG_CMD_STATUS 7 0 = 0 ∧
        s.OnlyRegs t [CFG_VERIFY_ERROR, CFG_SHADOW_STATE, CFG_CMD_STATUS, CFG_STATUS])) ∧
    (s.shadowState ≠ 1 → exec .verificationComplete s = .next s ∧
      ∃ t, exec .abortVerify s = .next t ∧ t.fld CFG_CMD_STATUS 7 0 = 2 ∧ s.OnlyRegs t [CFG_CMD_STATUS]) ∧
    (s.cfg.shadow = none ∨ s.activeGen ≠ 0 ∨ s.shadowState ≠ 2 → ∃ t, exec .activate s = .next t ∧
      t.fld CFG_CMD_STATUS 7 0 = 2 ∧ s.OnlyRegs t [CFG_CMD_STATUS]) ∧
    (∀ g, s.cfg.shadow = some g → s.activeGen = 0 → s.shadowState = 2 →
      let tick := s.reg64 CFG_SWAP_GCC_LO CFG_SWAP_GCC_HI
      (tick ≠ 0 → tick < s.now + 3200 → ∃ t, exec .activate s = .next t ∧ t.fld CFG_CMD_STATUS 7 0 = 3 ∧
        s.OnlyRegs t [CFG_CMD_STATUS]) ∧
      (tick = 0 ∨ s.now + 3200 ≤ tick → ∃ t, exec .activate s = .next t ∧ t.shadowState = 4 ∧
        t.cfg.swap = some ⟨if tick = 0 then s.now + 3200 else tick, none, s.cfg.genCounter + 1⟩ ∧
        t.cfg.genCounter = s.cfg.genCounter + 1 ∧ t.fld CFG_CMD_STATUS 7 0 = 0 ∧ t.cfg.active = s.cfg.active ∧
        t.sec.cfgFloor = max s.sec.cfgFloor g.policy.floorMin ∧ t.sec.csFloor = max s.sec.csFloor g.policy.csFloorMin ∧
        t = { s with regs := t.regs, cfg := t.cfg, sec := t.sec, mnt := t.mnt, aon := { s.aon with lt := t.aon.lt } } ∧
        s.RegsKept t [CFG_CMD_STATUS, CFG_SHADOW_STATE, SEC_EVENTS]))

/-- A CONFIG_SWAP that has drained arms the shadow set or fails with the first reason, and a late one fails (R41, R42, R43, R44, R45, R47, R82, R90). -/
def Obligations.ConfigSwapDrainsAndArms : Prop :=
∀ (s : State),
    (s.swapWaiting = none → ∀ c ∈ [Instr.configSwapDrainPoint, .configSwapLate, .depUnmeetable], exec c s = .next s) ∧
    (∀ o, s.swapWaiting = some o → s.op? o.asn = some o →
      (s.drained o = false → exec .configSwapDrainPoint s = .next s) ∧
      (let u := (s.mntAsk 1 0).modOp o.asn (fun p => { p with permitted := true })
       let w := if o.phase = .waiting then u.examine else u
       s.drained o = true →
        (u.mntRuns 1 0 = false → ∃ t, exec .configSwapDrainPoint s = .next t ∧ t = { s with mnt := t.mnt, ops := t.ops }) ∧
        (u.mntRuns 1 0 = true → ∀ p, w.op? o.asn = some p →
          (p.phase = .waiting → ∃ t, exec .configSwapDrainPoint s = .next t ∧ t = w) ∧
          (p.phase = .scheduled ∨ p.phase = .running → w.mntRuns 1 0 = true → o.opcode = 0xE → p.opcode = 0xE →
            (∀ g, w.cfg.shadow = some g → w.swapReason o = 0 →
              ∃ t q, exec .configSwapDrainPoint s = .next t ∧ t.shadowState = 4 ∧
                t.cfg.swap = some ⟨max (swapTarget o) (w.now + 3200), some o.asn, w.cfg.genCounter + 1⟩ ∧
                t.cfg.genCounter = w.cfg.genCounter + 1 ∧ t.op? o.asn = some q ∧ q.phase = .running ∧
                q.startGcc = (if p.phase = .running then p.startGcc else w.now) ∧
                t.cfg.active = w.cfg.active ∧ t.cfg.shadow = w.cfg.shadow ∧
                t.sec.cfgFloor = max w.sec.cfgFloor g.policy.floorMin ∧ t.sec.csFloor = max w.sec.csFloor g.policy.csFloorMin ∧
                t = { w with regs := t.regs, cfg := t.cfg, sec := t.sec, ops := t.ops, aon := { w.aon with lt := t.aon.lt } } ∧
                w.RegsKept t [CFG_SHADOW_STATE, SEC_EVENTS]) ∧
            (w.swapReason o ≠ 0 → ∃ t q, exec .configSwapDrainPoint s = .next t ∧ t.op? o.asn = some q ∧
              q.EndedAs { p with started := q.started } 9 (w.swapReason o) 0 ∧ q.gcc = (if w.swapReason o = 3 then lateGcc o else w.now) ∧
              (p.phase = .scheduled → q.started = true) ∧
              t.reg CFG_SWAP_FAIL = BitVec.ofNat 32 (w.swapReason o) ∧ t.cfg = w.cfg ∧ t.sec = w.sec ∧ t.store = w.store)))) ∧
      (swapTarget o = 0 ∨ swapLateOk o = true ∨ s.pastDrain o = true → exec .configSwapLate s = .next s) ∧
      (let u := s.advanceTo (lateGcc o)
       let w := if o.phase = .waiting then u.examine else u
       swapTarget o ≠ 0 → swapLateOk o = false → s.pastDrain o = false → lateGcc o ≤ u.now →
        ∀ p, w.op? o.asn = some p → p.phase ≠ .ended →
        ∃ t q, exec .configSwapLate s = .next t ∧ t.op? o.asn = some q ∧ q.EndedAs { p with started := q.started } 9 3 0 ∧
          q.gcc = lateGcc o ∧ (p.phase = .scheduled → q.started = true) ∧ (p.phase ≠ .scheduled → q.started = p.started) ∧
          t.reg CFG_SWAP_FAIL = 3 ∧ t.cfg = w.cfg ∧ t.sec = w.sec ∧ t.store = w.store) ∧
      (let all := s.ops.filter (fun p => p.asn < o.asn)
       (all.all (fun p => p.phase == .waiting && s.namesLater o p) = false → exec .depUnmeetable s = .next s) ∧
       (all.all (fun p => p.phase == .waiting && s.namesLater o p) = true → ∃ t, exec .depUnmeetable s = .next t ∧ s.EndFrame t ∧
        ∀ r ∈ all, s.op? r.asn = some r → t.Ended r 9 0x81 s.now 0)))

/-- At its swap tick the shadow set becomes the active set with its generation (R48, R54, R56, R58, R59, R69, R80). -/
def Obligations.SwapTickPutsTheSetInForce : Prop :=
(∀ (s : State) (g : ImageSet) (w : Swap), s.cfg.swap = some w → s.cfg.shadow = some g → s.aon.resetting = 0 → w.tick ≤ s.now →
    s.mntRuns 1 0 = true →
    ∃ t, exec .swapTick s = .next t ∧ t.cfg.active = some g ∧ t.cfg.swap = none ∧
      t.cfg.shadow = (if w.asn.isSome then s.cfg.active else none) ∧ t.shadowState = (if w.asn.isSome then 5 else 0) ∧
      t.reg CFG_ACTIVE_GEN = BitVec.ofNat 32 w.gen ∧ t.reg CFG_ACTIVE_IMAGE_ID = BitVec.ofNat 32 g.imageId ∧
      t.reg CFG_ACTIVE_VERSION = BitVec.ofNat 32 g.version ∧
      t.reg64 CFG_LAST_SWAP_GCC_LO CFG_LAST_SWAP_GCC_HI = s.now % 2 ^ 64 ∧ t.bitAt CFG_STATUS 1 = true ∧ t.cfg.locked = true ∧
      (∀ r ∈ g.queues, r.queue < 4096 → s.queueRec r.queue = none →
        t.reg (WQ_SQ_HEAD r.queue) = 0 ∧ t.reg (WQ_SQ_TAIL r.queue) = 0 ∧ t.reg (WQ_CQ_HEAD r.queue) = 0 ∧
        t.reg (WQ_CQ_TAIL r.queue) = 0 ∧ t.nextSeq r.queue = 1) ∧
      (∀ a, s.cfg.swap.bind Swap.asn = some a → ∀ o, s.op? a = some o → o.phase ≠ .ended → t.Ended o 0 0 s.now 0) ∧
      t.sec = s.sec ∧ t.tb = s.tb) ∧
  (∀ s : State, s.cfg.swap = none ∨ s.aon.resetting ≠ 0 → exec .swapTick s = .next s) ∧
  (∀ (s : State) (w : Swap), s.cfg.swap = some w → w.tick ≤ s.now → s.mntRuns 1 0 = false → exec .swapTick s = .next s) ∧
  (∀ (s : State) (w : Swap), s.cfg.swap = some w → s.counting = false → s.now < w.tick → exec .swapTick s = .next s)

/-- A stale island reloads and takes the active generation, or is faulted (R59, R60, R61, R122, R139, R349, R363). -/
def Obligations.StaleIslandsReload : Prop :=
(∀ (i : Nat) (s : State), i < 26 → s.stale i = true → s.islandMode i = 0 → s.cfg.reloading.contains i = false →
    s.aon.resetting = 0 → (islandUnits i).all s.cont.faulted.contains = false →
    ∃ t, exec (.staleReload i) s = .next t ∧ t.cfg.reloading = s.cfg.reloading ++ [i] ∧ t.genOf i = s.genOf i ∧
      t.cfg.active = s.cfg.active ∧ t.ops = s.ops ∧ t.store = s.store ∧ t.sec = s.sec ∧ t.tb = s.tb ∧
      (s.keptPart i = true → t = { s with cfg := { s.cfg with reloading := s.cfg.reloading ++ [i] } })) ∧
  (∀ (i : Nat) (s : State), 26 ≤ i ∨ s.stale i = false ∨ s.islandMode i ≠ 0 ∨ s.cfg.reloading.contains i = true ∨
    s.aon.resetting ≠ 0 ∨ (islandUnits i).all s.cont.faulted.contains = true → exec (.staleReload i) s = .next s) ∧
  (∀ (i : Nat) (ok : Bool) (upsets : List (Nat × BitVec 128)) (s : State), i < 26 → s.cfg.reloading.contains i = true →
    let good := ok && (decide (16 ≤ i) || (((s.endReload i).upsetStore i upsets).checkStore i).2)
    (good = true → ∃ t, exec (.staleReloadEnd i ok upsets) s = .next t ∧ t.genOf i = s.activeGen ∧ t.stale i = false ∧
      t.cfg.reloading.contains i = false ∧ t.bitAt CFG_STATUS 2 = true ∧ t.ops = s.ops ∧ t.store = s.store ∧ t.sec = s.sec ∧
      t.cfg.active = s.cfg.active ∧
      (17 ≤ i → i ≤ 24 → s.RegsKept t [CFG_STATUS] ∧
        t = { s with regs := t.regs, cfg := { s.cfg with reloading := t.cfg.reloading, gens := t.cfg.gens,
                                                         lostRetention := t.cfg.lostRetention, leftGen := t.cfg.leftGen } })) ∧
    (good = false → ∃ t, exec (.staleReloadEnd i ok upsets) s = .next t ∧ t.cfg.reloading.contains i = false ∧
      t.bitAt CFG_STATUS 3 = true ∧ (∀ u ∈ islandUnits i, t.isFaulted u.1 u.2 = true) ∧
      (i < 16 → s.ops = [] → s.isFaulted 6 i = false → s.Logged t 0x030B (4096 * 6 + i) 0 ∧ t.ops = [] ∧ t.store = s.store))) ∧
  (∀ (i : Nat) (ok : Bool) (upsets : List (Nat × BitVec 128)) (s : State), s.cfg.reloading.contains i = false →
    exec (.staleReloadEnd i ok upsets) s = .next s)

/-- REG_RD and REG_WR of one word make the register access and answer it (R505, R506, R559, R580, R584). -/
def Obligations.RegisterRequestsAreAnswered : Prop :=
(∀ (m : Msg) (s : State), s.regServed = false → exec (.regRd m) s = .next s ∧ exec (.regWr m) s = .next s) ∧
  ∀ (m : Msg) (s : State), s.regServed = true →
    (msgIs m 0 1 = true → m.arg = 1 → m.addr < 2 ^ 32 → m.addr % 4 = 0 → m.body = [] →
      openRead m = true ∨ s.rightOf m.src 0 = true →
      let p := (s.consume m).readAccess m.src m.addr
      exec (.regRd m) s = .next (p.answer m (if p.flagged then 1 else 0) (leBytes 4 p.rdata.toNat) clean) ∧
        exec (.rcRegisterRead m.src m.addr) (s.consume m) = .next p) ∧
    (msgIs m 0 2 = true → m.arg = 1 → m.addr < 2 ^ 32 → m.addr % 4 = 0 → m.body.length = 4 → s.rightOf m.src 1 = true →
      ∃ p : State, exec (.registerWrite m.src m.addr (word (leNat m.body))) (s.consume m) = .next p ∧
        exec (.regWr m) s = .next (p.answer m (if p.flagged then 1 else 0) [] clean)) ∧
    ((msgIs m 0 1 && regShape m && m.body.isEmpty) = false → exec (.regRd m) s = .next ((s.consume m).answer m 2 [] clean)) ∧
    ((msgIs m 0 2 && regShape m && m.body.length == 4 * m.arg) = false →
      exec (.regWr m) s = .next ((s.consume m).answer m 2 [] clean)) ∧
    (msgIs m 0 2 = true → regShape m = true → m.body.length = 4 * m.arg → s.rightOf m.src 1 = false →
      ∃ u : State, exec (.regWr m) s = .next (u.answer m 5 [] clean) ∧ u.bitAt SEC_EVENTS 3 = true ∧
        (s.consume m).OnlyRegs u [SEC_EVENTS]) ∧
    (msgIs m 0 1 = true → regShape m = true → m.body = [] → openRead m = false → s.rightOf m.src 0 = false →
      ∃ u : State, exec (.regRd m) s = .next (u.answer m 5 [] clean) ∧ u.bitAt SEC_EVENTS 3 = true ∧
        (s.consume m).OnlyRegs u [SEC_EVENTS]) ∧
    (msgIs m 0 1 = true → regShape m = true → m.body = [] → openRead m = true ∨ s.rightOf m.src 0 = true →
      ∃ (u : State) (bytes : List Byte), exec (.regRd m) s = .next (u.answer m (if u.flagged then 1 else 0) bytes clean) ∧
        bytes.length = 4 * m.arg) ∧
    (msgIs m 0 2 = true → regShape m = true → m.body.length = 4 * m.arg → s.rightOf m.src 1 = true →
      ∃ u : State, exec (.regWr m) s = .next (u.answer m (if u.flagged then 1 else 0) [] clean))

/-- STORE_WR, STORE_RD and SUBMIT write, read and submit, and are answered (R505, R506, R507, R579, R75, R559). -/
def Obligations.StoreAndSubmitRequestsAreServed : Prop :=
(∀ (m : Msg) (s : State), s.storeServed = true → msgIs m 3 0x30 = true → m.arg = 0 → m.body ≠ [] → m.body.length ≤ 4096 →
    m.addr + m.body.length ≤ storeEnd → s.rightOf m.src 4 = true → s.segsIn m.addr m.body.length = [] →
    (s.shadowState ≠ 1 → (∀ i, i < m.body.length → s.fixedDrop (m.addr + i) = false) →
      ∃ u : State, exec (.storeWr m) s = .next (u.reply m 0xB0 0 0 [] clean) ∧
        (∀ (i : Nat) (h : i < m.body.length), u.byte (m.addr + i) = m.body[i]) ∧ s.BytesKept u m.addr m.body.length ∧
        (m.poison = true → ∀ i, i < m.body.length → u.poisonAt (m.addr + i) = true) ∧
        u = { s.consume m with store := u.store, poison := u.poison }) ∧
    ((∀ i, i < m.body.length → inSetStore (m.addr + i) = true) →
      ∃ u : State, exec (.storeWr m) s = .next (u.reply m 0xB0 0 1 [] clean) ∧ (∀ b, u.byte b = s.byte b) ∧
        u = { s.consume m with store := u.store, poison := u.poison })) ∧
  (∀ (m : Msg) (s : State), s.storeServed = true → msgIs m 3 0x31 = true → 1 ≤ m.arg → m.arg ≤ 4096 → m.body = [] →
    m.addr + m.arg ≤ storeEnd → s.rightOf m.src 3 = true →
    ∃ (bytes : List Byte) (pois : Nat → Bool), bytes.length = m.arg ∧
      (∀ (i : Nat) (h : i < bytes.length), bytes[i] = if s.readsZero (m.addr + i) then 0 else s.byte (m.addr + i)) ∧
      (∀ i, pois i = (!s.readsZero (m.addr + i) && s.poisonAt (m.addr + i))) ∧
      exec (.storeRd m) s = .next ((s.consume m).answer m (if ∃ i < m.arg, pois i = true then 4 else 0) bytes pois)) ∧
  (∀ (m : Msg) (s : State) (r : QRec), s.regServed = true → s.aon.resetting = 0 → s.deviceState = 1 → msgIs m 1 0x10 = true →
    m.addr < 4096 → m.body.length = 64 → s.rightOf m.src 2 = true → s.queueRec m.addr = some r → m.src < 1024 →
    m.arg < 2 ^ 32 → s.dbCode m.addr m.arg = 0 → m.arg = wrapAdd (s.reg (WQ_SQ_TAIL m.addr)).toNat 1 →
    let a := r.sqBase + 64 * ((s.reg (WQ_SQ_TAIL m.addr)).toNat % 2 ^ r.sqLog2)
    ∃ u : State, exec (.submit m) s = .next (u.reply { m with addr := m.arg } 0x90 0 0 [] clean) ∧
      (∀ (i : Nat) (h : i < m.body.length), u.byte (a + i) = m.body[i]) ∧ s.BytesKept u a 64 ∧
      u.reg (WQ_SQ_TAIL m.addr) = BitVec.ofNat 32 m.arg ∧ u.fld (WQ_STATUS m.addr) 23 16 = 0 ∧
      u.reg (WQ_NOTIFY_EP m.addr) = BitVec.ofNat 32 (m.src + 2 ^ 15) ∧ u.ops = s.ops ∧ u.cfg = s.cfg) ∧
  (∀ (m : Msg) (s : State), s.storeServed = false → ∀ c ∈ [Instr.storeWr m, .storeRd m], ∃ t, exec c s = .next t ∧
    (s.deviceState ≠ 2 → t = s) ∧ (s.deviceState = 2 → t.deviceState = 3 ∧ s.OnlyRegs t [AON_PWR_STATUS, AON_EVENTS]))

/-- TIME_QUERY samples both clocks, held messages are given up after 100 µs, and a DUP entry clears after 4 ms (R160, R310, R505, R508, R509, R514, R515, R540). -/
def Obligations.FlowsTimeQueriesAndDupEntries : Prop :=
∀ s : State,
    (∀ m : Msg, m.bad = false → m.op = 0x41 → m.vc = 4 → m.arg = 0 → m.addr = 0 → m.body = [] →
      ∃ n, s.aon.rtcSub ≤ n ∧ (s.aon.rtcSub < 2 ^ 15 → n < 2 ^ 15) ∧ (s.bitAt AON_PWR_STATUS 10 = false → n = s.aon.rtcSub) ∧
        exec (.timeQuery m) s = .next
        (({ s.consume m with free := s.free + 1, aon := { s.aon with rtcSub := n } } : State).reply m 0xC1 0 0
          (leBytes 8 s.now ++ leBytes 8 (s.aon.rtcSec % 2 ^ 48 + 2 ^ 48 * n)) clean)) ∧
    (∀ m : Msg, m.bad = true ∨ m.op ≠ 0x41 ∨ m.vc ≠ 4 ∨ m.arg ≠ 0 ∨ m.addr ≠ 0 ∨ m.body ≠ [] →
      exec (.timeQuery m) s = .next ((s.consume m).reply m 0xC1 2 m.arg [] clean)) ∧
    (∀ m : Msg, m.bad = true ∨ m.op ≠ 0x40 ∨ m.vc ≠ 4 ∨ 16 ≤ m.arg ∨ m.body ≠ [] → exec (.trig m) s = .next (s.consume m)) ∧
    (∀ m : Msg, m.bad = false → m.op = 0x40 → m.vc = 4 → m.arg < 16 → m.body = [] →
      let due := m.addr + s.fld GLB_TB_XLAT 15 0
      (s.now ≤ due → exec (.trig m) s = .next
        { s.consume m with trg := { s.trg with fires := s.trg.fires ++ [⟨m.arg, due, true⟩] } }) ∧
      (due < s.now → ∃ t, exec (.trig m) s = .next t ∧ t.bitAt GLB_TB_EVENTS 4 = true ∧
        (t.reg GLB_TB_LATE_EVENTS).toNat = min ((s.reg GLB_TB_LATE_EVENTS).toNat + 1) (2 ^ 32 - 1) ∧
        t = { s.consume m with regs := t.regs, trg := { s.trg with fires := s.trg.fires ++ [⟨m.arg, s.now + 1, true⟩] } } ∧
        s.RegsKept t [GLB_TB_EVENTS, GLB_TB_LATE_EVENTS])) ∧
    (∀ (w : Flow) (m : Msg) (since : Nat), s.net.flows.filter (fun x => x.src == w.src && x.vc == w.vc) = [w] →
      w.held = [(m, since)] → since + 80000 ≤ s.now → m.mseq < 2 ^ 16 →
      within 2 256 ((m.mseq + 2 ^ 16 - w.last) % 2 ^ 16) = true → m.vc = 0 → m.op = 1 ∨ m.op = 2 → m.dest ≠ epBroadcast →
      ∃ t, exec (.flowHoldTimeout w.src w.vc) s = .next t ∧ t.net.inbox = s.net.inbox ++ [m] ∧
        (t.reg APL_GAPS).toNat = min ((s.reg APL_GAPS).toNat + ((m.mseq + 2 ^ 16 - w.last) % 2 ^ 16 - 1)) (2 ^ 32 - 1) ∧
        t.bitAt APL_G_EVENTS 4 = true ∧ { w with last := m.mseq, held := [] } ∈ t.net.flows ∧
        t = { s with regs := t.regs, net := t.net } ∧ s.RegsKept t [APL_GAPS, APL_G_EVENTS]) ∧
    (∀ src vc, (∀ w ∈ s.net.flows, w.held = []) → exec (.flowHoldTimeout src vc) s = .next s) ∧
    (∀ e g, s.net.dups.find? (fun d => d.1 == e) = some (e, g) → g + 3200000 ≤ s.now →
      exec (.dupClear e) s = .next { s with net := { s.net with dups := s.net.dups.filter (fun x => x.1 != e),
                                                                changed := s.net.changed.filter (fun x => x != e) ++ [e] } }) ∧
    (∀ e, s.net.dups.find? (fun d => d.1 == e) = none → exec (.dupClear e) s = .next s)

/-- Trigger lines take events, fire once when armed, miss when disarmed, and re-arm after 64 steps (R310, R311, R312, R314, R317, R544). -/
def Obligations.TriggerLinesFireAndRearm : Prop :=
(∀ (mask : Word) (s : State),
    let fires := s.trg.fires ++ (bitsOf mask.toNat 16).filterMap (fun l =>
      if s.lineMode l = 1 then some ⟨l, s.now + 32, false⟩
      else if s.lineMode l = 2 then some ⟨l, s.now + s.fld GLB_TB_XLAT 15 0, true⟩ else none)
    (∃ t, exec (.xtbFire mask) s = .next t ∧ t.trg = { s.trg with fires := fires }) ∧
    (s.chipNum = none → exec (.xtbFire mask) s = .next { s with trg := { s.trg with fires := fires } })) ∧
  (∀ (l : Nat) (s : State) (e : Fire), l < 16 → nextFire l s.trg.fires = some e → e.due ≤ s.now → e.due < 2 ^ 64 →
    (s.trg.rearmAt.any (fun x => x.1 == l && decide (x.2 ≤ e.due))) = false →
    let left := s.trg.fires.filter (fun x => !(x.line == l && x.due == e.due))
    let n := (s.trg.fires.filter (fun x => x.line == l && x.due == e.due)).length
    (s.lineMode l = 0 → exec (.triggerLineFire l) s = .next { s with trg := { s.trg with fires := left } }) ∧
    (s.lineMode l ≠ 0 → s.armed l = false → ∃ t, exec (.triggerLineFire l) s = .next t ∧
      (t.reg (XTB_MISSED l)).toNat = min ((s.reg (XTB_MISSED l)).toNat + n) (2 ^ 32 - 1) ∧ t.bitAt XTB_EVENTS 16 = true ∧
      t = { s with regs := t.regs, trg := { s.trg with fires := left } } ∧ s.RegsKept t [XTB_MISSED l, XTB_EVENTS]) ∧
    (s.lineMode l ≠ 0 → s.armed l = true → s.ops = [] → s.targets l = [] → ∃ t, exec (.triggerLineFire l) s = .next t ∧
      t.armed l = false ∧ t.rearming l = true ∧ t.reg64 (XTB_FIRE_GCC_LO l) (XTB_FIRE_GCC_HI l) = e.due ∧
      t.bitAt XTB_EVENTS l = true ∧ t.trg.rearmAt = s.trg.rearmAt ++ [(l, e.due + 64)] ∧
      bit t.trg.rearmTo l = bit (s.lineFlags l) 0 ∧ (∀ k, k < 16 → k ≠ l → t.armed k = s.armed k) ∧
      t = { s with regs := t.regs, trg := { s.trg with fires := left, rearmAt := t.trg.rearmAt, rearmTo := t.trg.rearmTo } } ∧
      s.RegsKept t [XTB_STATUS, XTB_EVENTS, XTB_FIRE_GCC_LO l, XTB_FIRE_GCC_HI l])) ∧
  (∀ (l : Nat) (s : State), (nextFire l s.trg.fires = none → exec (.triggerLineFire l) s = .next s) ∧
    (s.trg.rearmAt.find? (fun x => x.1 == l) = none → exec (.lineRearm l) s = .next s)) ∧
  (∀ (l g : Nat) (s : State), l < 16 → s.trg.rearmAt.find? (fun x => x.1 == l) = some (l, g) → g ≤ s.now →
    ∃ t, exec (.lineRearm l) s = .next t ∧ t.rearming l = false ∧ t.armed l = (bit s.trg.rearmTo l || s.armed l) ∧
      t.trg.rearmAt = s.trg.rearmAt.filter (fun y => y.1 != l) ∧
      t = { s with regs := t.regs, trg := { s.trg with rearmAt := t.trg.rearmAt, rearmTo := t.trg.rearmTo } } ∧
      s.RegsKept t [XTB_STATUS]) ∧
  (∀ (mask : Word) (s : State) (on : Bool), ∃ t, exec (if on then .xtbArm mask else .xtbDisarm mask) s = .next t ∧
    (∀ l, l < 16 → mask.getLsbD l = true →
      (s.rearming l = false → t.armed l = on) ∧ (s.rearming l = true → t.armed l = s.armed l ∧ bit t.trg.rearmTo l = on)) ∧
    (∀ l, l < 16 → mask.getLsbD l = false → t.armed l = s.armed l ∧ bit t.trg.rearmTo l = bit s.trg.rearmTo l) ∧
    (∀ l, l < 16 → t.rearming l = s.rearming l) ∧
    t = { s with regs := t.regs, trg := { s.trg with rearmTo := t.trg.rearmTo } } ∧ s.RegsKept t [XTB_STATUS])

/-- Writes to the staging window are discarded and counted while VERIFYING, and stored in every other shadow state (R38). -/
def Obligations.StagingWindowWrites : Prop :=
∀ (m : Msg) (s : State), s.storeServed = true → msgIs m 3 0x30 = true → m.arg = 0 → m.body ≠ [] → m.body.length ≤ 4096 →
    m.addr + m.body.length ≤ storeEnd → s.rightOf m.src 4 = true →
    ∃ t, exec (.storeWr m) s = .next t ∧ t.cfg = s.cfg ∧ t.reg CFG_SHADOW_STATE = s.reg CFG_SHADOW_STATE ∧
      (s.shadowState = 1 → (∀ b, inStaging b = true → t.byte b = s.byte b) ∧
        ((∃ i, i < m.body.length ∧ inStaging (m.addr + i) = true) →
          (t.reg CFG_STAGE_DROPS).toNat = min ((s.reg CFG_STAGE_DROPS).toNat + 1) (2 ^ 32 - 1))) ∧
      (s.shadowState ≠ 1 → t.reg CFG_STAGE_DROPS = s.reg CFG_STAGE_DROPS ∧
        ∀ (i : Nat) (h : i < m.body.length), inStaging (m.addr + i) = true → t.byte (m.addr + i) = m.body[i])

/-- A link port moves through its states (R491, R492, R493, R495, R500, R510, R514, R516, R519, R520). -/
def Obligations.PortsFollowTheirStates : Prop :=
(∀ (p : Nat) (s : State), p < 16 →
    (s.portState p = 0 → ∃ t, exec (.portEnable p) s = .next t ∧ t.portState p = 1 ∧ t.reg (APL_CTRL p) = 1 ∧
      t = { s with regs := t.regs, ports := t.ports } ∧ s.RegsKept t [APL_CTRL p, APL_STATUS p]) ∧
    (s.portState p ≠ 0 → ∃ t, exec (.portEnable p) s = .next t ∧ t.reg (APL_CTRL p) = 1 ∧ s.OnlyRegs t [APL_CTRL p]) ∧
    (s.portState p ≠ 4 → ∃ t, exec (.portDisable p) s = .next t ∧ t.portState p = 0 ∧ t.reg (APL_CTRL p) = 0 ∧
      (s.portState p = 5 → t.mntRuns 4 p = false) ∧ (s.portState p ≠ 5 → t.mnt = s.mnt) ∧
      t = { s with regs := t.regs, ports := t.ports, mnt := t.mnt } ∧ s.RegsKept t [APL_CTRL p, APL_STATUS p]) ∧
    (s.portState p = 1 → ∃ t, exec (.signalDetect p) s = .next t ∧ t.portState p = 2 ∧
      t = { s with regs := t.regs, ports := t.ports } ∧ s.RegsKept t [APL_STATUS p]) ∧
    (s.portState p ≠ 1 → exec (.signalDetect p) s = .next s) ∧
    (s.portState p = 2 ∨ s.portState p = 5 → 1024 ≤ (s.port p).cleanRow → ∃ t, exec (.trainDone p) s = .next t ∧ t.portState p = 3 ∧
      (t.port p).exchanges = 64 ∧ (t.port p).ctrl.length = 1 ∧ (t.port p).same = 0 ∧ (s.portState p = 5 → t.mntRuns 4 p = false) ∧
      (s.portState p = 2 → t.mnt = s.mnt) ∧
      t = { s with regs := t.regs, ports := t.ports, mnt := t.mnt, free := s.free + 1 } ∧ s.RegsKept t [APL_STATUS p]) ∧
    ((s.port p).cleanRow < 1024 → exec (.trainDone p) s = .next s) ∧
    (s.portState p ≠ 2 → s.portState p ≠ 5 → exec (.trainDone p) s = .next s ∧ exec (.trainTimeout p) s = .next s) ∧
    (s.portState p = 2 ∨ s.portState p = 5 → (s.port p).since + 8000000 ≤ s.now → ∃ t, exec (.trainTimeout p) s = .next t ∧
      t.portState p = 1 ∧ t.ops = s.ops ∧ t.net = s.net ∧ s.RegsKept t [APL_STATUS p]) ∧
    (s.portState p = 3 → (s.port p).since + 800000 ≤ s.now → ∃ t, exec (.identTimeout p) s = .next t ∧ t.portState p = 1 ∧
      t = { s with regs := t.regs, ports := t.ports } ∧ s.RegsKept t [APL_STATUS p]) ∧
    (s.portState p ≠ 3 → exec (.identTimeout p) s = .next s) ∧
    (s.portState p = 3 → ∃ t, exec (.signalLost p) s = .next t ∧ t.portState p = 1 ∧
      t = { s with regs := t.regs, ports := t.ports } ∧ s.RegsKept t [APL_STATUS p]) ∧
    (s.portState p ≠ 3 → s.portState p ≠ 4 → exec (.signalLost p) s = .next s) ∧
    ((s.port p).lastIdent = none ∨ s.portState p ≠ 3 ∨ (s.port p).same < 2 ∨ (s.port p).exchanges ≠ 0 ∨ (s.port p).lats.length < 64 →
      exec (.identComplete p) s = .next s) ∧
    (∀ f, (s.port p).lastIdent = some f → s.portState p = 3 → 2 ≤ (s.port p).same → (s.port p).exchanges = 0 →
      64 ≤ (s.port p).lats.length → ∃ t, exec (.identComplete p) s = .next t ∧ t.portState p = 4 ∧ t.facesHost p = idHost f ∧
        t.reg64 (APL_PEER_UID_LO p) (APL_PEER_UID_HI p) = idUid f ∧ t.bitAt (APL_EVENTS p) 0 = true ∧ t.ops = s.ops ∧
        (1024 ≤ idEp f → s.Logged t 0x0601 p (idEp f + (if idHost f then 2 ^ 16 else 0)) ∧ t.net = s.net) ∧
        (1024 ≤ idEp f → idHost f = false → t.bitAt APL_G_EVENTS 1 = true) ∧
        (idEp f < 1024 → idHost f = true → ∃ c ∈ t.net.cands, c.ep = idEp f ∧ c.port = p ∧ c.dist = 1 ∧ c.uid = idUid f ∧
          c.host = true ∧ c.seen = s.now))) ∧
  (∀ (p : Nat) (s : State), p < 16 → s.portState p = 4 → s.ops = [] → (∀ vc, (s.port p).pendingOf vc = []) →
    (∃ t, exec (.signalLost p) s = .next t ∧ t.portState p = 1 ∧ t.bitAt (APL_EVENTS p) 1 = true ∧
      (∀ c ∈ t.net.cands, c.port ≠ p) ∧ (s.net.cands = [] → s.net.chosen = [] → s.Logged t 0x0602 p 1) ∧ t.ops = []) ∧
    (∃ t, exec (.portDisable p) s = .next t ∧ t.portState p = 0 ∧ t.reg (APL_CTRL p) = 0 ∧ (∀ c ∈ t.net.cands, c.port ≠ p) ∧
      t.ops = []) ∧
    (∃ t, exec (.resync p) s = .next t ∧ t.portState p = 3 ∧ (t.port p).exchanges = 64 ∧ (∀ c ∈ t.net.cands, c.port ≠ p) ∧
      t.ops = []) ∧
    (∃ t, exec (.retrain p) s = .next t ∧ t.portState p = 5 ∧ t.bitAt (APL_EVENTS p) 3 = true ∧ (∀ c ∈ t.net.cands, c.port ≠ p) ∧
      (t.mntRuns 4 p = true ∨ t.mntWaits 4 p = true) ∧ t.reg (APL_FAILS p) = s.reg (APL_FAILS p) ∧ t.ops = []) ∧
    (∃ t, exec (.portFailure p true) s = .next t ∧ t.portState p = 5 ∧ t.bitAt (APL_EVENTS p) 3 = true ∧
      (t.reg (APL_FAILS p)).toNat = min ((s.reg (APL_FAILS p)).toNat + 1) (2 ^ 32 - 1) ∧ (∀ c ∈ t.net.cands, c.port ≠ p) ∧
      t.ops = []) ∧
    ((8 ≤ (s.port p).nakCount ∨ 16 ≤ (s.port p).badRow) → ∃ t, exec (.portFailure p false) s = .next t ∧ t.portState p = 5 ∧
      (t.reg (APL_FAILS p)).toNat = min ((s.reg (APL_FAILS p)).toNat + 1) (2 ^ 32 - 1)) ∧
    ((s.port p).nakCount < 8 → (s.port p).badRow < 16 → (s.port p).unacked = [] → exec (.portFailure p false) s = .next s)) ∧
  (∀ (p : Nat) (s : State), s.portState p ≠ 4 → ∀ c ∈ [Instr.retrain p, .resync p, .portFailure p true, .portFailure p false,
    .aplMeasure p, .timestampTimer p], exec c s = .next s)

/-- Received codewords, flits, NAKs and credits act on the link (R488, R490, R496, R497, R498, R500, R501, R505, R508). -/
def Obligations.CodewordsAndFlitsAreReceived : Prop :=
(∀ (p n : Nat) (fs : List Flit) (s : State), p < 16 →
    (s.portState p < 2 → exec (.codewordReceive p n fs) s = .next s) ∧
    (2 ≤ s.portState p → 15 < n → ∃ t, exec (.codewordReceive p n fs) s = .next t ∧
      (t.reg (APL_FEC_UNCORR p)).toNat = min ((s.reg (APL_FEC_UNCORR p)).toNat + 1) (2 ^ 32 - 1) ∧
      t.port p = { s.port p with badRow := (s.port p).badRow + 1, cleanRow := 0 } ∧ (∀ q, q ≠ p → t.port q = s.port q) ∧
      t = { s with regs := t.regs, ports := t.ports } ∧ s.RegsKept t [APL_FEC_UNCORR p]) ∧
    (2 ≤ s.portState p → n ≤ 15 → ∃ t, exec (.codewordReceive p n fs) s = .next t ∧
      (n = 0 → t.reg (APL_FEC_CORR p) = s.reg (APL_FEC_CORR p)) ∧
      (1 ≤ n → (t.reg (APL_FEC_CORR p)).toNat = min ((s.reg (APL_FEC_CORR p)).toNat + 1) (2 ^ 32 - 1)) ∧
      (s.portState p = 2 ∨ s.portState p = 5 → t.reg APL_DROPS = s.reg APL_DROPS ∧
        t.port p = { s.port p with badRow := 0, cleanRow := (s.port p).cleanRow + 1 }) ∧
      (s.portState p = 3 ∨ s.portState p = 4 → (t.reg APL_DROPS).toNat =
        min ((s.reg APL_DROPS).toNat + (fs.filter flitAlien).length) (2 ^ 32 - 1)) ∧
      (s.portState p = 3 → t.port p = { s.port p with badRow := 0, cleanRow := 0 }) ∧
      (s.portState p = 4 → t.port p = (fs.filter flitCrcOk).foldl
        (fun q f => if bit (flitAt f 0xA 2) 15 then ackFlits (flitAt f 0xA 2 % 4096) 256 q else q)
        { s.port p with badRow := 0, cleanRow := 0 }) ∧ (∀ q, q ≠ p → t.port q = s.port q) ∧
      t = { s with regs := t.regs, ports := t.ports } ∧ s.RegsKept t [APL_FEC_CORR p, APL_DROPS])) ∧
  (∀ (p : Nat) (f : Flit) (s : State), p < 16 → s.portUp p = true →
    (flitCrcOk f = false →
      ((s.port p).gap = true → exec (.dataFlit p f) s = .next s) ∧
      ((s.port p).gap = false → ∃ t, exec (.dataFlit p f) s = .next t ∧ (t.port p).gap = true ∧
        (t.port p).expect = (s.port p).expect ∧
        (t.port p).ctrl = (s.port p).ctrl ++ [ctrlFlit (leBytes 1 3 ++ leBytes 1 0 ++ leBytes 2 (s.port p).expect)] ∧
        t = { s with ports := t.ports })) ∧
    (flitCrcOk f = true → flitAt f 8 2 % 4096 ≠ (s.port p).expect → (s.port p).gap = false →
      ∃ t, exec (.dataFlit p f) s = .next t ∧ (t.port p).gap = true ∧ (t.port p).expect = (s.port p).expect ∧
        (t.port p).unacked = ((s.takeAck p f).port p).unacked ∧
        t.net = s.net ∧ t = { s with ports := t.ports }) ∧
    (flitCrcOk f = true → flitAt f 8 2 % 4096 = (s.port p).expect → flitLegal f = false →
      ∃ t, exec (.dataFlit p f) s = .next t ∧ (t.port p).expect = ((s.port p).expect + 1) % 4096 ∧
        (t.reg APL_DROPS).toNat = min ((s.reg APL_DROPS).toNat + 1) (2 ^ 32 - 1) ∧ t.net = s.net ∧
        t = { s with regs := t.regs, ports := t.ports } ∧ s.RegsKept t [APL_DROPS]) ∧
    (flitCrcOk f = true → flitAt f 8 2 % 4096 = (s.port p).expect → flitLegal f = true →
      flitDest f = epNeighbour → flitFirst f = true → flitLast f = true → flitAbort f = false → bit (flitAt f 1 1) 7 = false →
      flitOp f = 1 → (msgOf p [f]).op = 1 → s.flow? (msgOf p [f]) = none →
      ∃ t, exec (.dataFlit p f) s = .next t ∧ t.net.inbox = s.net.inbox ++ [msgOf p [f]] ∧
        (t.port p).expect = ((s.port p).expect + 1) % 4096 ∧ (t.port p).accepted = true ∧
        t = { s with ports := t.ports, net := t.net })) ∧
  (∀ (p e : Nat) (s : State), p < 16 → s.portUp p = true →
    (∃ t, exec (.nak p e) s = .next t ∧
      (t.port p).unacked = (ackFlits ((e % 4096 + 4095) % 4096) 256 (s.port p)).unacked ∧
      (t.port p).resend = (t.port p).unacked.map Prod.fst ∧ (t.port p).nakAt = e % 4096 ∧ t = { s with ports := t.ports }) ∧
    (∀ f rest, (s.port p).unacked = f :: rest → flitAt f.1 8 2 = e % 4096 →
      ∃ t, exec (.nak p e) s = .next t ∧ (t.port p).resend = (s.port p).unacked.map Prod.fst ∧
        (t.port p).unacked = (s.port p).unacked ∧ (t.port p).nakAt = e % 4096 ∧
        (t.port p).nakCount = (if (s.port p).nakAt = e % 4096 then (s.port p).nakCount + 1 else 1) ∧ t = { s with ports := t.ports }) ∧
    (∀ freed, exec (.credit p freed) s = .next (s.setPort p { s.port p with freed := freed }))) ∧
  (∀ (p e : Nat) (f : Flit) (freed : List Nat) (s : State), s.portUp p = false → ∀ c ∈ [Instr.dataFlit p f, .nak p e, .credit p freed],
    exec c s = .next s)

/-- Identity exchanges, timestamps, adverts and the chip's number (R493, R495, R497, R510, R511, R514, R516, R522). -/
def Obligations.IdentityTimestampsAndAdverts : Prop :=
(∀ (p : Nat) (f : Flit) (s : State), p < 16 →
    (ctlFlit 1 f = false → exec (.ident p f) s = .next s) ∧
    (ctlFlit 1 f = true → s.portState p = 3 → ∃ t, exec (.ident p f) s = .next t ∧ (t.port p).lastIdent = some f ∧
      (∀ g, (s.port p).lastIdent = some g → flitAt g 12 112 = flitAt f 12 112 → (t.port p).same = (s.port p).same + 1) ∧
      (∀ g, (s.port p).lastIdent = some g → flitAt g 12 112 ≠ flitAt f 12 112 → (t.port p).same = 1) ∧
      ((s.port p).lastIdent = none → (t.port p).same = 1) ∧ t = { s with ports := t.ports }) ∧
    (ctlFlit 1 f = true → s.portState p = 4 → idUid f ≠ s.reg64 (APL_PEER_UID_LO p) (APL_PEER_UID_HI p) → s.ops = [] →
      (∀ vc, (s.port p).pendingOf vc = []) → ∃ t, exec (.ident p f) s = .next t ∧ t.portState p = 5 ∧ t.ops = []) ∧
    (ctlFlit 1 f = true → s.portState p = 4 → idUid f = s.reg64 (APL_PEER_UID_LO p) (APL_PEER_UID_HI p) → idEp f < 1024 →
      ∃ t, exec (.ident p f) s = .next t ∧ t.portState p = 4 ∧ t.fld (APL_STATUS p) 25 16 = idEp f ∧
        t.facesHost p = idHost f ∧ (t.port p).lastIdent = some f ∧ t.ops = s.ops ∧ t.store = s.store ∧
        (idHost f = true → ∃ c ∈ t.net.cands, c.ep = idEp f ∧ c.port = p ∧ c.dist = 1 ∧ c.uid = idUid f ∧ c.seen = s.now)) ∧
    (ctlFlit 1 f = true → s.portState p = 4 → idUid f = s.reg64 (APL_PEER_UID_LO p) (APL_PEER_UID_HI p) → 1024 ≤ idEp f →
      ∃ t, exec (.ident p f) s = .next t ∧ t.portState p = 4 ∧ t.facesHost p = idHost f ∧ (t.port p).lastIdent = some f ∧
        t.reg64 (APL_PEER_UID_LO p) (APL_PEER_UID_HI p) = idUid f ∧
        t = { s with regs := t.regs, ports := t.ports } ∧ s.RegsKept t [APL_STATUS p, APL_PEER_UID_LO p, APL_PEER_UID_HI p]) ∧
    (s.portState p ≠ 3 → s.portState p ≠ 4 → exec (.ident p f) s = .next s)) ∧
  (∀ (p : Nat) (s : State), p < 16 → s.portState p = 3 ∨ s.portState p = 4 →
    (∃ t g, exec (.identTimer p) s = .next t ∧ (t.port p).ctrl = (s.port p).ctrl ++ [g] ∧ flitAt g 12 1 = 1 ∧ flitAt g 14 1 = p ∧
      flitAt g 15 1 = s.fld GLB_TB_STATUS 1 0 ∧ idUid g = Config.deviceUid.toNat ∧ t = { s with ports := t.ports }) ∧
    (∀ (f : Flit) (t2 t3 : Nat), ctlFlit 4 f = false → exec (.tsReq p f t2 t3) s = .next s) ∧
    (∀ (f : Flit) (t2 t3 : Nat), ctlFlit 4 f = true → ∃ t g, exec (.tsReq p f t2 t3) s = .next t ∧ (t.port p).ctrl = (s.port p).ctrl ++ [g] ∧
      flitAt g 12 1 = 5 ∧ flitAt g 13 1 = flitAt f 13 1 ∧ flitAt g (12 + 8) 8 = flitAt f (12 + 8) 8 ∧
      flitAt g (12 + 16) 8 = t2 % 2 ^ 64 ∧ flitAt g (12 + 24) 8 = t3 % 2 ^ 64 ∧ t = { s with ports := t.ports }) ∧
    (∀ (f : Flit) (t4 : Nat), (s.port p).exchanges = 1 → ctlFlit 5 f = true → flitAt f 13 1 = 63 →
      ∃ t, exec (.tsResp p f t4) s = .next t ∧ (t.port p).exchanges = 0 ∧ (t.port p).lats.length = (s.port p).lats.length + 1 ∧
        t.fld (APL_LAT p) 15 0 = (t.port p).lats.foldl max 0 % 2 ^ 16 ∧ t = { s with regs := t.regs, ports := t.ports } ∧
        s.RegsKept t [APL_LAT p, APL_SKEW p, APL_EVENTS p, GLB_TB_EVENTS, GLB_TB_STATUS]) ∧
    (∀ (f : Flit) (t4 : Nat), 1 < (s.port p).exchanges → (s.port p).exchanges ≤ 64 → ctlFlit 5 f = true →
      flitAt f 13 1 = 64 - (s.port p).exchanges → ∃ t, exec (.tsResp p f t4) s = .next t ∧
        (t.port p).exchanges = (s.port p).exchanges - 1 ∧ (t.port p).lats.length = (s.port p).lats.length + 1 ∧
        (t.port p).ctrl.length = (s.port p).ctrl.length + 1 ∧ t = { s with ports := t.ports, free := s.free + 1 }) ∧
    (∀ (f : Flit) (t4 : Nat), (s.port p).exchanges = 0 ∨ ctlFlit 5 f = false ∨ flitAt f 13 1 ≠ 64 - (s.port p).exchanges → exec (.tsResp p f t4) s = .next s)) ∧
  (∀ (p : Nat) (s : State), p < 16 → s.portState p = 4 →
    (∃ t g, exec (.creditTimer p) s = .next t ∧ (t.port p).ctrl = (s.port p).ctrl ++ [g] ∧ flitAt g 12 1 = 2 ∧
      (t.port p).sinceCredit = 0 ∧ t = { s with ports := t.ports }) ∧
    (∀ c ∈ [Instr.aplMeasure p, .timestampTimer p], ∃ t, exec c s = .next t ∧ (t.port p).exchanges = 64 ∧ (t.port p).lats = [] ∧
      (t.port p).ctrl.length = (s.port p).ctrl.length + 1 ∧ t = { s with ports := t.ports, free := s.free + 1 })) ∧
  (∀ (p : Nat) (f : Flit) (s : State), p < 16 → s.portUp p = true → s.facesHost p = false → ctlFlit 6 f = true → flitAt f 13 1 = 1 →
    flitAt f 18 1 < 62 → s.chipNum ≠ some (flitAt f 16 2 % 1024) →
    ∃ t, exec (.advert p f) s = .next t ∧ (∃ c ∈ t.net.cands, c.ep = flitAt f 16 2 % 1024 ∧ c.port = p ∧
      c.dist = flitAt f 18 1 + 1 ∧ c.uid = flitAt f 21 8 ∧ c.seen = s.now) ∧ t.ops = s.ops ∧ t.store = s.store ∧ t.cfg = s.cfg) ∧
  (∀ (p : Nat) (f : Flit) (s : State), s.portUp p = false ∨ s.facesHost p = true ∨ ctlFlit 6 f = false ∨
    flitAt f 13 1 = 0 ∨ 8 < flitAt f 13 1 → exec (.advert p f) s = .next s) ∧
  (∀ (p : Nat) (f : Flit) (s : State), ∃ t, exec (.advert p f) s = .next t ∧ t.ops = s.ops ∧ t.store = s.store ∧ t.cfg = s.cfg) ∧
  (∀ (e p : Nat) (c : Cand) (s : State), s.net.cands.find? (fun x => x.ep == e && x.port == p) = some c → c.seen + 3200000 ≤ s.now →
    ∃ t, exec (.routeLapse e p) s = .next t ∧ t.net.cands = s.net.cands.filter (fun x => x != c) ∧ t.ops = s.ops ∧ t.store = s.store) ∧
  (∀ s : State, ∃ t, exec .advertTimer s = .next t ∧ t.net = { s.net with changed := [] } ∧
    t = { s with ports := t.ports, net := t.net }) ∧
  (∀ (path : Path) (v : Word) (s : State), path ≤ 0x400 →
    (s.bitAt APL_CHIP_NUM 31 = false → v.field 30 10 = 0 → ∃ t, exec (.aplChipNumWrite path v) s = .next t ∧ t.reg APL_CHIP_NUM = v ∧
      (v.getLsbD 31 = true → t.chipNum = some (v.field 9 0) ∧ v.field 9 0 ∈ t.net.changed) ∧
      t = { s with regs := t.regs, net := t.net } ∧ s.RegsKept t [APL_CHIP_NUM]) ∧
    (s.bitAt APL_CHIP_NUM 31 = true ∨ v.field 30 10 ≠ 0 → ∃ t, exec (.aplChipNumWrite path v) s = .next t ∧
      t.bitAt GLB_ACCESS_STATUS 0 = true ∧ t.reg APL_CHIP_NUM = s.reg APL_CHIP_NUM ∧
      t = { s with regs := t.regs, flagged := true } ∧ s.RegsKept t (accessRegs path))) ∧
  (∀ (v : Word) (s : State), ∃ t, exec (.aplRtSelWrite v) s = .next t ∧ t.reg APL_RT_SEL = BitVec.ofNat 32 (v.toNat % 1024) ∧
    (s.chipNum = some (v.toNat % 1024) → t.reg64 APL_RT_UID_LO APL_RT_UID_HI = Config.deviceUid.toNat ∧ t.reg APL_RT_LAT = 0) ∧
    (s.chipNum ≠ some (v.toNat % 1024) → s.primary (v.toNat % 1024) = none → t.reg64 APL_RT_UID_LO APL_RT_UID_HI = 0 ∧
      t.fld APL_RT_INFO 7 0 = 63) ∧
    s.OnlyRegs t [APL_RT_SEL, APL_RT_INFO, APL_RT_LAT, APL_RT_UID_LO, APL_RT_UID_HI])

/-- The next flit of a port is an urgent one, a control flit, one sent again, or the next of the VC whose turn it is (R488, R497, R498, R501, R503). -/
def Obligations.FlitsAreTransmittedInOrderOfPrecedence : Prop :=
∀ (p : Nat) (s : State), p < 16 →
    let c := (s.port p).ctrl.filter isUrgent ++ (s.port p).ctrl.filter (fun f => !isUrgent f)
    let ack := if s.portState p = 4 then (s.port p).ackField else 0
    (s.portState p < 3 ∨ s.portState p = 5 → exec (.flitTransmit p) s = .next (s.setPort p { s.port p with line := idleFlit, flitsOut := (s.port p).flitsOut + 1 })) ∧
    (s.portState p = 3 → c = [] → exec (.flitTransmit p) s =
      .next (s.setPort p { s.port p with line := idleFlit, flitsOut := (s.port p).flitsOut + 1 })) ∧
    (s.portState p = 3 ∨ s.portState p = 4 → ∀ f rest, c = f :: rest →
      exec (.flitTransmit p) s = .next (s.setPort p { s.port p with ctrl := rest, line := stampFlit f 0 ack, flitsOut := (s.port p).flitsOut + 1 })) ∧
    (s.portState p = 4 → c = [] →
      (∀ f rest, (s.port p).resend = f :: rest → ∃ t, exec (.flitTransmit p) s = .next t ∧
        (t.port p).line = stampFlit f (flitAt f 8 2) ack ∧ (t.port p).resend = rest ∧
        (t.reg (APL_REPLAYS p)).toNat = min ((s.reg (APL_REPLAYS p)).toNat + 1) (2 ^ 32 - 1) ∧
        (t.port p).unacked.map Prod.fst = (s.port p).unacked.map Prod.fst ∧ (t.port p).lseq = (s.port p).lseq ∧
        t = { s with regs := t.regs, ports := t.ports } ∧ s.RegsKept t [APL_REPLAYS p]) ∧
      ((s.port p).resend = [] → 256 ≤ (s.port p).unacked.length → exec (.flitTransmit p) s =
        .next (s.setPort p { s.port p with line := stampFlit idleFlit 0 ack, flitsOut := (s.port p).flitsOut + 1 })) ∧
      ((s.port p).resend = [] → (s.port p).unacked.length < 256 →
        (∀ vc f rest, (s.port p).nextVc = some vc → vc < 5 → (s.port p).queue.length = 5 → (s.port p).queue.getD vc [] = f :: rest →
          ∃ t, exec (.flitTransmit p) s = .next t ∧ (t.port p).line = stampFlit f (s.port p).lseq ack ∧
            (t.port p).queue.getD vc [] = rest ∧ (t.port p).lseq = ((s.port p).lseq + 1) % 4096 ∧
            (t.port p).unacked = (s.port p).unacked ++ [(stampFlit f (s.port p).lseq ack, s.now)] ∧
            (∀ w, w ≠ vc → (t.port p).queue.getD w [] = (s.port p).queue.getD w []) ∧ t = { s with ports := t.ports }) ∧
        ((s.port p).nextVc = none →
          exec (.flitTransmit p) s = .next (s.setPort p { s.port p with line := stampFlit idleFlit 0 ack, flitsOut := (s.port p).flitsOut + 1 })))) ∧
    (∀ t, exec (.flitTransmit p) s = .next t → ∀ q, q ≠ p → t.port q = s.port q)

/-- A commit is checked, applied, kept pending or rejected, and TSET_LOAD writes both copies of its sets (R169, R171, R173, R176, R177, R190, R191, R536). -/
def Obligations.TimingAndLevelCommits : Prop :=
(∀ (k : Nat) (hi : Word) (s : State), k < 16 →
    (s.islandMode k ≠ 0 → ∃ t, exec (.teCommit k hi) s = .next t ∧ t.bitAt GLB_ACCESS_STATUS 0 = true ∧
      t = { s with regs := t.regs, flagged := true } ∧ s.RegsKept t (accessRegs 0)) ∧
    (s.islandMode k = 0 →
      let mask := hi.toNat * 2 ^ 32 + (s.clu k).commitLo
      (∀ code set pin, s.tsFirst k (bitsOf mask 64) = some (code, set, pin) → ∃ t, exec (.teCommit k hi) s = .next t ∧
        t.reg (TE_COMMIT_STATUS k) = rejectedWord pin set code ∧ s.OnlyRegs t [TE_COMMIT_STATUS k]) ∧
      (s.tsFirst k (bitsOf mask 64) = none → s.clusterHeld k = true → ∃ t, exec (.teCommit k hi) s = .next t ∧
        t.reg (TE_COMMIT_STATUS k) = 1 ∧ t.clu k = { s.clu k with pendTe := some ((s.clu k).pendTe.getD 0 ||| mask) } ∧
        t = { s with regs := t.regs, clus := t.clus } ∧ s.RegsKept t [TE_COMMIT_STATUS k]) ∧
      (s.tsFirst k (bitsOf mask 64) = none → s.clusterHeld k = false → ∃ t, exec (.teCommit k hi) s = .next t ∧
        t.reg (TE_COMMIT_STATUS k) = 0 ∧
        (∀ set ∈ bitsOf mask 64, ∀ o ∈ tsOffsets, t.liveReg (tsAddr k set + o) = s.reg (tsAddr k set + o)) ∧
        (∀ a, (∀ set ∈ bitsOf mask 64, ∀ o ∈ tsOffsets, a ≠ tsAddr k set + o) → t.liveReg a = s.liveReg a) ∧
        t = { s with regs := t.regs, live := t.live } ∧ s.RegsKept t [TE_COMMIT_STATUS k]))) ∧
  (∀ (k : Nat) (mask : Word) (s : State), k < 16 → s.islandMode k ≠ 0 → ∃ t, exec (.lvCommit k mask) s = .next t ∧
    t.bitAt GLB_ACCESS_STATUS 0 = true ∧ t = { s with regs := t.regs, flagged := true } ∧ s.RegsKept t (accessRegs 0)) ∧
  (∀ (k : Nat) (mask : Word) (s : State), k < 16 → s.islandMode k = 0 →
    let cs := maskChans k mask.toNat
    (∀ code c, lvFirst 7 (cs.map (fun c => (c, s.staged c))) = some (code, c) → ∃ t, exec (.lvCommit k mask) s = .next t ∧
      t.reg (LV_COMMIT_STATUS k) = rejectedWord (c % 32) 0 code ∧ s.OnlyRegs t [LV_COMMIT_STATUS k]) ∧
    (lvFirst 7 (cs.map (fun c => (c, s.staged c))) = none → s.clusterHeld k = true → ∃ t, exec (.lvCommit k mask) s = .next t ∧
      t.reg (LV_COMMIT_STATUS k) = 1 ∧ t.clu k = { s.clu k with pendLv := some ((s.clu k).pendLv.getD 0 ||| mask.toNat) } ∧
      t = { s with regs := t.regs, clus := t.clus } ∧ s.RegsKept t [LV_COMMIT_STATUS k]) ∧
    (lvFirst 7 (cs.map (fun c => (c, s.staged c))) = none → s.clusterHeld k = false → ∃ t, exec (.lvCommit k mask) s = .next t ∧
      t.reg (LV_COMMIT_STATUS k) = 0 ∧
      (∀ c ∈ cs, ∀ o ∈ lvOffsets, t.liveReg (CH_CFG c + o) = s.reg (CH_CFG c + o)) ∧
      (∀ a, (∀ c ∈ cs, ∀ o ∈ lvOffsets, a ≠ CH_CFG c + o) → t.liveReg a = s.liveReg a) ∧ (∀ c, c ∉ cs → t.chan c = s.chan c) ∧
      t = { s with regs := t.regs, live := t.live, chans := t.chans, free := t.free, aon := { s.aon with lt := t.aon.lt } } ∧
      s.RegsKept t (LV_COMMIT_STATUS k :: cs.map CH_PMU_STATUS))) ∧
  (∀ (a : Asn) (s : State) (o : Op), s.running? a 0x12 = some o →
    let n := o.pay 3 1
    let ks := bitsOf (o.pay 0 2) 16
    (s.poisonIn (o.pay 8 8) (n * 1024) = true → ∃ t, exec (.tsetLoadWriteTick a) s = .next t ∧ t.Ended o 0xE 0 s.now 0 ∧ s.EndFrame t) ∧
    (s.poisonIn (o.pay 8 8) (n * 1024) = false →
      (∀ i code pin, (List.range n).findSome? (fun i => (tsCheck (tsetBlock s o i)).map (fun r => (i, r))) = some (i, code, pin) →
        ∃ t, exec (.tsetLoadWriteTick a) s = .next t ∧ s.EndFrame t ∧
          t.Ended o 9 1 s.now ((code + 256 * (o.pay 2 1 + i) + 65536 * pin + 2 ^ 24 * ks.headD 0) % 2 ^ 64)) ∧
      ((List.range n).findSome? (fun i => (tsCheck (tsetBlock s o i)).map (fun r => (i, r))) = none →
        ∃ (u t : State), exec (.tsetLoadWriteTick a) s = .next t ∧
          (∀ k ∈ ks, ∀ i, i < n → ∀ off ∈ tsOffsets, u.reg (tsAddr k (o.pay 2 1 + i) + off) = tsetBlock s o i off ∧
            u.liveReg (tsAddr k (o.pay 2 1 + i) + off) = tsetBlock s o i off) ∧
          (∀ r, (∀ k ∈ ks, ∀ i, i < n → ∀ off ∈ tsOffsets, r ≠ tsAddr k (o.pay 2 1 + i) + off) →
            u.reg r = s.reg r ∧ u.liveReg r = s.liveReg r) ∧
          u = { s with regs := u.regs, live := u.live, ops := u.ops } ∧ u.EndFrame t ∧ t.Ended o 0 0 s.now (n * ks.length))))

/-- FORCE_SET, LEVELS_SET and CONTACT_CHECK write, settle, restore and report; pin events set their flags (R182, R197, R198, R199, R202, R203, R204, R207, R208, R212, R213, R214). -/
def Obligations.LevelOperationsAndPinEvents : Prop :=
(∀ (a : Asn) (s : State) (o : Op) (w : LevWork), s.running? a 4 = some o → o.work = .levels w → (∀ c ∈ w.chans, c < 512) →
    let chk := lvFirst 7 (((List.range 512).filter w.chans.contains).map (fun c => (c, forceWords s o c)))
    (w.wrote = false → (∀ code c, chk = some (code, c) → ∃ t, exec (.forceSetWriteTick a) s = .next t ∧
        t.Ended o 9 2 s.now ((code + 256 * c) % 2 ^ 64) ∧ s.EndFrame t) ∧
      (chk = none → ∃ t p, exec (.forceSetWriteTick a) s = .next t ∧ t.op? a = some p ∧ p.work = .levels { w with wrote := true } ∧
        p.phase = .running ∧
        (∀ c ∈ w.chans, t.fld (CH_CFG c) 1 0 = forceMode o ∧ t.liveReg (CH_CFG c) = forceWords s o c 0 ∧
          ∀ e ∈ forcePmu o, t.reg (CH_CFG c + e.1) = e.2 ∧ t.liveReg (CH_CFG c + e.1) = e.2) ∧
        t.store = s.store ∧ t.cfg = s.cfg ∧ t.gov = s.gov)) ∧
    (w.wrote = true → exec (.forceSetWriteTick a) s = .next s ∧
      (settledAt s w.chans ≤ s.now →
        let n := (w.chans.filter (fun c => s.bitAt (CH_PMU_STATUS c) 1)).length
        ∃ t, exec (.forceSetSettled a) s = .next t ∧ s.EndFrame t ∧
          t.Ended o (if n ≠ 0 ∧ bit (o.pay 0x12 1) 1 then 9 else 0) (if n ≠ 0 ∧ bit (o.pay 0x12 1) 1 then 3 else 0) s.now
            ((w.chans.length + 65536 * n) % 2 ^ 64)))) ∧
  (∀ (a : Asn) (s : State) (o : Op) (w : LevWork), s.running? a 0x11 = some o → o.work = .levels w → (∀ c ∈ w.chans, c < 512) →
    let words := fun c off => s.storeWord (levelBlock o c + off)
    let chk := lvFirst 8 (w.chans.map (fun c => (c, words c)))
    (w.wrote = false → w.chans.any (fun c => s.poisonIn (levelBlock o c) 64) = true →
      ∃ t, exec (.levelsSetWriteTick a) s = .next t ∧ t.Ended o 0xE 0 s.now 0 ∧ s.EndFrame t) ∧
    (w.wrote = false → w.chans.any (fun c => s.poisonIn (levelBlock o c) 64) = false →
      (∀ code c, chk = some (code, c) → ∃ t, exec (.levelsSetWriteTick a) s = .next t ∧
        t.Ended o 9 2 s.now ((code + 256 * c) % 2 ^ 64) ∧ s.EndFrame t) ∧
      (chk = none → ∃ t p, exec (.levelsSetWriteTick a) s = .next t ∧ t.op? a = some p ∧ p.work = .levels { w with wrote := true } ∧
        (∀ c ∈ w.chans, ∀ off ∈ lvOffsets, t.reg (CH_CFG c + off) = words c off ∧ t.liveReg (CH_CFG c + off) = words c off) ∧
        t.store = s.store ∧ t.cfg = s.cfg)) ∧
    (w.wrote = true → w.chans.foldl (fun m c => max m ((s.chan c).switching.getD 0)) 0 ≤ s.now →
      ∃ t, exec (.levelsSetDone a) s = .next t ∧ t.Ended o 0 0 s.now (w.chans.length % 2 ^ 64) ∧ s.EndFrame t)) ∧
  (∀ (a : Asn) (s : State) (o : Op) (w : LevWork) (g : ImageSet), s.running? a 5 = some o → o.work = .levels w →
    s.cfg.active = some g → (∀ c ∈ w.chans, c < 512) →
    (∀ samples, w.volts ≠ [] → exec (.contactCheckMeasure a samples) s = .next s) ∧
    (∀ samples, w.volts = [] → contactStep4 o o.startGcc ≤ s.now →
      ∃ t p, exec (.contactCheckMeasure a samples) s = .next t ∧ t.op? a = some p ∧
        (∃ l, l = (samples.filter (fun v => w.chans.contains v.1 && !s.isFaulted 1 v.1)).map
          (fun v => (v.1, contactMean v.2, s.bitAt (CH_PMU_STATUS v.1) 1)) ∧ p.work = .levels { w with volts := l, count := 1 }) ∧
        p.phase = .running ∧
        t.store = s.store ∧ t.cfg = s.cfg) ∧
    (w.count = 0 → o.aborting = false → o.faulting = false → exec (.contactCheckRestore a) s = .next s) ∧
    (o.aborting = true ∨ o.faulting = true → contactStep4 o o.startGcc + 4000 ≤ s.now → ∃ t, exec (.contactCheckRestore a) s = .next t ∧
      t.Ended o (if o.faulting then 6 else 4) 0 s.now 0 ∧ t.store = s.store ∧ t.reg GLB_CONTACT_KNOWN = s.reg GLB_CONTACT_KNOWN) ∧
    (o.aborting = false → o.faulting = false → w.count ≠ 0 → contactStep4 o o.startGcc + 4000 ≤ s.now → (∀ n ∈ namedSites o.desc, n < 256) →
      ∃ (u t : State), exec (.contactCheckRestore a) s = .next t ∧ u.EndFrame t ∧
        (∀ c ∈ w.chans, u.reg (CH_CONTACT c) = BitVec.ofNat 32 (contactEntry o w c)) ∧
        (bit (o.pay 7 1) 1 = false → ∀ n ∈ namedSites o.desc, u.absent n = !sitePresent g o w n) ∧
        u.reg64 GLB_CONTACT_GCC_LO GLB_CONTACT_GCC_HI = s.now % 2 ^ 64 ∧ u.cfg = s.cfg ∧
        (∀ b, (o.pay 0x18 8 = 0 ∨ b < o.pay 0x18 8 ∨ o.pay 0x18 8 + 2048 ≤ b) → t.byte b = s.byte b) ∧
        t.Ended o 0 0 s.now (((((namedSites o.desc).filter (fun n => sitePresent g o w n)).length +
          2 ^ 16 * ((namedSites o.desc).length - ((namedSites o.desc).filter (fun n => sitePresent g o w n)).length) +
          2 ^ 32 * classCount o w w.chans 1 + 2 ^ 48 * classCount o w w.chans 2)) % 2 ^ 64))) ∧
  (∀ (c : Nat) (s : State), c < 512 →
    (∀ g, (s.chan c).switching = some g → g ≤ s.now →
      exec (.modeChangeComplete c) s = .next (s.setChan c { s.chan c with switching := none, leaving := none })) ∧
    ((s.chan c).switching = none → exec (.modeChangeComplete c) s = .next s) ∧
    (∀ g, (s.chan c).settle = some g → g ≤ s.now → ∃ t, exec (.pmuSettlingEnd c) s = .next t ∧ t.bitAt (CH_PMU_STATUS c) 2 = true ∧
      t.chan c = { s.chan c with settle := none, oldRange := none } ∧ t = { s with regs := t.regs, chans := t.chans } ∧
      s.RegsKept t [CH_PMU_STATUS c]) ∧
    ((s.chan c).settle = none → exec (.pmuSettlingEnd c) s = .next s) ∧
    (∀ on, s.clampNow c ≠ 0 →
      ∃ t, exec (.pmuClampEngage c on) s = .next t ∧ t.bitAt (CH_PMU_STATUS c) 1 = on ∧
        (on = true → s.bitAt (CH_PMU_STATUS c) 1 = false → t.bitAt (CH_EVENTS c) 2 = true) ∧
        (on = false → t.reg (CH_EVENTS c) = s.reg (CH_EVENTS c)) ∧ s.OnlyRegs t [CH_PMU_STATUS c, CH_EVENTS c]) ∧
    (∀ on, s.clampNow c = 0 → exec (.pmuClampEngage c on) s = .next s) ∧
    (s.liveMode c = 1 ∨ s.liveMode c = 3 → ∃ t, exec (.driverCurrentLimit c) s = .next t ∧ t.bitAt (CH_EVENTS c) 0 = true ∧
      s.OnlyRegs t [CH_EVENTS c]) ∧
    (s.liveMode c ≠ 1 → s.liveMode c ≠ 3 → exec (.driverCurrentLimit c) s = .next s) ∧
    (s.liveMode c ≠ 0 → s.contactHolds c = false → ∃ t, exec (.clampHit c) s = .next t ∧ t.bitAt (CH_EVENTS c) 1 = true ∧ s.OnlyRegs t [CH_EVENTS c]) ∧
    (s.liveMode c = 0 ∨ s.contactHolds c = true → exec (.clampHit c) s = .next s))

/-- SEGMENT_LOAD takes its target and ends READY, poisoned or with a CRC failure; requests become pending; a SEGTRIG pulse ends (R223, R226, R231, R232, R233, R241, R242, R243, R254). -/
def Obligations.SegmentsAreLoaded : Prop :=
(∀ (a : Asn) (s : State) (o : Op) (w : LoadWork), s.running? a 2 = some o → o.work = .load w → loadSeg o < 16384 → s.aon.resetting = 0 →
    (w.took = false → s.loadBusy o = none → ∃ t p, exec (.segmentLoadTake a) s = .next t ∧ t.segState (loadSeg o) = 1 ∧
      t.segBase (loadSeg o) = loadBase o ∧ (t.seg (loadSeg o)).loader = some a ∧ (t.seg (loadSeg o)).size = loadSize o ∧
      (∀ m ∈ s.segsIn (loadBase o) (loadSize o), m < 16384 → m ≠ loadSeg o → t.segState m = 0) ∧
      (∀ m, m < 16384 → m ≠ loadSeg o → m ∉ s.segsIn (loadBase o) (loadSize o) → t.segState m = s.segState m) ∧
      t.op? a = some p ∧ p.phase = .running ∧ p.work = .load { took := true, counted := 0, partials := [], done := [] } ∧
      t.store = s.store ∧ t = { s with regs := t.regs, segs := t.segs, ops := t.ops }) ∧
    (w.took = true ∨ (s.loadBusy o).isSome = true → exec (.segmentLoadTake a) s = .next s) ∧
    (o.pay 2 1 ≠ 0 → w.counted < loadBlocks o → exec (.segmentLoadCrcDone a) s = .next s) ∧
    (w.took = true → o.pay 2 1 = 0 ∨ loadBlocks o ≤ w.counted →
      let n := loadDataLen o.desc
      let k := min o.progress n
      let data := if o.pay 2 1 = 0 then s.bytes (loadBase o) k ++ s.bytes (o.pay 0x18 8 + k) (n - k) else s.bytes (loadBase o) n
      let bad := o.pay 2 1 == 0 && s.poisonIn (o.pay 0x18 8 + k) (n - k)
      (bad = true → ∃ t, exec (.segmentLoadCrcDone a) s = .next t ∧ t.Ended o 0xE 0 s.now 0 ∧ t.segState (loadSeg o) = 0 ∧
        t.store = s.store) ∧
      (bad = false → crc32 data = o.pay 0xC 4 → ∃ t, exec (.segmentLoadCrcDone a) s = .next t ∧ t.segState (loadSeg o) = 2 ∧
        (t.seg (loadSeg o)).loader = none ∧ t.Ended o 0 0 s.now ((n + 2 ^ 32 * crc32 data) % 2 ^ 64) ∧
        t.bytes (loadBase o) n = data ∧ s.BytesKept t (loadBase o) n) ∧
      (bad = false → crc32 data ≠ o.pay 0xC 4 → ∃ t, exec (.segmentLoadCrcDone a) s = .next t ∧ t.segState (loadSeg o) = 0 ∧
        t.bitAt SEG_EVENTS 5 = true ∧ t.Ended o 0xD 2 s.now ((n + 2 ^ 32 * crc32 data) % 2 ^ 64) ∧
        s.BytesKept t (loadBase o) n)) ∧
    (w.took = false → exec (.segmentLoadCrcDone a) s = .next s)) ∧
  (∀ (a : Asn) (s : State), s.running? a 2 = none ∨ s.aon.resetting ≠ 0 →
    exec (.segmentLoadTake a) s = .next s ∧ exec (.segmentLoadCrcDone a) s = .next s) ∧
  (∀ (q : Nat) (v : Word) (s : State), q < 16 →
    (∃ t, exec (.hostRequest q v) s = .next t ∧ t.reg (SEG_Q_REQ q) = s.reg (SEG_Q_REQ q) ||| BitVec.ofNat 32 (v.toNat % 256) ∧
      t.store = s.store ∧ t.cfg = s.cfg ∧ (s.ops = [] → s.OnlyRegs t [SEG_Q_REQ q])) ∧
    (∃ t, exec (.hostRequestClear q v) s = .next t ∧
      t.reg (SEG_Q_REQ q) = s.reg (SEG_Q_REQ q) &&& ~~~ BitVec.ofNat 32 (v.toNat % 256) ∧ s.OnlyRegs t [SEG_Q_REQ q])) ∧
  (∀ (q : Nat) (s : State) (p : Nat × Nat × Nat), s.trg.segPulses.find? (fun x => x.1 == q) = some p → p.2.2 ≤ s.now →
    exec (.segtrigPulseEnd q) s = .next { s with trg := { s.trg with segPulses := s.trg.segPulses.filter (fun x => x != p) } }) ∧
  (∀ (q : Nat) (s : State), s.trg.segPulses.find? (fun x => x.1 == q) = none → exec (.segtrigPulseEnd q) s = .next s)

/-- A run plays vector after vector, resolves and passes its boundaries, stops, and ends when its records are stored (R162, R163, R165, R226, R240, R242, R248, R249, R252, R253, R281, R294). -/
def Obligations.PatternRunsPlayAndStop : Prop :=
∀ (a : Asn) (s : State) (o : Op) (w : RunWork) (g : ImageSet), s.runOf a = some (o, w) → o.asn = a →
    w.stop = none → s.cfg.active = some g →
    (∀ k, k < 16 → o.phase = .running → (s.clu k).run = some a → (∀ m, w.stopAt = some m → (s.clu k).vec < m) →
      w.seqMask = 0 ∨ (s.clu k).vec < w.endVec → (s.clu k).sNext / 4096 ≤ s.now →
      let n := (s.clu k).vec
      let f := s.forEach w.fnts (fun s f => s.fountainTo f n (n + 1))
      (n ≠ w.vectors ∨ f.endsBefore w n = none → ∃ t w', exec (.vectorPlay k) s = .next t ∧ (t.clu k).vec = n + 1 ∧
        (t.clu k).lastSet = f.setOf g w k n ∧ (t.clu k).lastS = (s.clu k).sNext ∧
        (t.clu k).sNext = (s.clu k).sNext + s.period k (f.setOf g w k n) ∧
        t.fld (TE_STATUS k) 13 8 = f.setOf g w k n % 64 ∧ (t.runOf a).map Prod.snd = some w' ∧
        (n = w.vectors → w'.vectors = n + 1 ∧ w'.vaddr = some (vecAddr w n)) ∧ (n ≠ w.vectors → w' = w) ∧
        t.store = s.store ∧ t.cfg = s.cfg ∧ t.sec = s.sec ∧ t.gov = s.gov) ∧
      (∀ st r rank, n = w.vectors → f.endsBefore w n = some (st, r, rank) → ∃ t, exec (.vectorPlay k) s = .next t ∧
        (t.runOf a).map Prod.snd = some (w.endAt st r rank n) ∧ (t.clu k).vec = n ∧ (t.clu k).sNext = (s.clu k).sNext ∧
        t.store = s.store ∧ t.cfg = s.cfg)) ∧
    (o.phase = .running ∨ o.phase = .scheduled → w.seqMask ≠ 0 → (w.plays ≠ [] ∨ w.ahead ≠ []) → (nextPlace o w).isSome = true →
      let done := w.ahead.takeWhile Bound.judged
      ∃ t w' b, exec (.needInstant a) s = .next t ∧ (t.runOf a).map Prod.snd = some w' ∧
        w'.ahead = done ++ b :: w.ahead.drop (done.length + 1) ∧ b.judged = true ∧ w'.plays = w.plays ∧
        (∀ x, w.ahead[done.length]? = some x → b.res = x.res ∧ b.chosen = x.chosen ∧ b.decided = x.decided) ∧
        (∀ m ∈ b.armed, s.segAvail m a = true) ∧ (∀ x ∈ b.lacking, s.segAvail x.1 a = false ∧ x.2 = s.segState x.1) ∧
        t.store = s.store ∧ t.cfg = s.cfg) ∧
    (o.phase = .running → w.seqMask ≠ 0 → w.plays ≠ [] →
      let done := w.ahead.takeWhile Bound.decided
      let segs := w.segsOf done
      let last := w.endVec + (segs.map (fun n => (s.reg (SEG_D_VCOUNT n)).toNat)).sum
      let at_ := leastOf (w.clusters.map (fun k => s.aheadStart w k (max (s.clu k).vec (last - 16)) segs))
      let waits := w.clusters.any (fun k => decide ((s.clu k).vec < w.endVec) && decide ((s.clu k).sNext < at_) || !s.strobesIn k a at_)
      ∀ b, ((∃ rest, w.ahead.drop done.length = b :: rest) ∨
          (w.ahead.drop done.length = [] ∧ ∃ p, placeAfter o w done = some p ∧ b = newBound w.table p.1 p.2.1)) →
        (waits = true → exec (.decisionPoint a) s = .next s) ∧
        (waits = false → at_ / 4096 ≤ s.now → ∃ t b', exec (.decisionPoint a) s = .next t ∧
          (t.runOf a).map Prod.snd = some { w with ahead := done ++ b' :: w.ahead.drop (done.length + 1) } ∧
          (b.decided = false → b'.decided = true) ∧
          (∀ c x, b.decided = false → b.res.cond = some (c, x) →
            b'.taken = condHolds c x (w.failLatch.any (fun e => decide (e < at_))) (s.pendTrig w) (s.pendReq w) ∧
            b'.chosen = some (if b'.taken then b.res.yes else b.res.no)) ∧
          (b.res.cond = none → b'.chosen = b.chosen) ∧ t.store = s.store ∧ t.cfg = s.cfg)) ∧
    (let p := if (w.ahead.head?.map Bound.judged).getD false then (s, w) else s.resolveNext o w true
     ∀ b rest, o.phase = .running → w.seqMask ≠ 0 → w.vectors = w.endVec → w.stopAt = none → p.2.ahead = b :: rest →
      (w.plays = [] ∨ (∃ b0 r, w.ahead = b0 :: r ∧ (b0.res.cond = none ∨ b0.decided = true))) →
      s.boundaryFine w [] / 4096 ≤ s.now →
      let c := p.1.latchBound p.2 (s.boundaryFine w []) b
      (∀ l, c.chosen = some ⟨none, l⟩ → ∃ t, exec (.segmentBoundary a) s = .next t ∧
        (t.runOf a).map Prod.snd = some (p.2.endAt 0 0 0 w.endVec)) ∧
      (∀ e l, c.chosen = some ⟨some e, l⟩ →
        let sg := (entAt w.table e).seg
        (∀ x, c.lacking.find? (fun x => x.1 == sg) = some x → ∃ t, exec (.segmentBoundary a) s = .next t ∧
          (t.runOf a).map Prod.snd = some { p.2.endAt 2 0 1 w.endVec with lack := some x } ∧ t.bitAt SEG_EVENTS 0 = true ∧
          (t.reg SEG_UNDERRUNS).toNat = min ((s.reg SEG_UNDERRUNS).toNat + 1) (2 ^ 32 - 1) ∧ t.store = s.store) ∧
        (c.lacking.find? (fun x => x.1 == sg) = none → sg < 16384 →
          let wrong := decide (s.fld (SEG_D_INFO sg) 15 12 + 1 ≠ w.seqs.length) || s.badSets w sg
          (p.1.segState sg = 0 → ∃ t, exec (.segmentBoundary a) s = .next t ∧
            (t.runOf a).map Prod.snd = some (p.2.endAt 0xD 0 5 w.endVec)) ∧
          (p.1.segState sg ≠ 0 → wrong = true → ∃ t, exec (.segmentBoundary a) s = .next t ∧
            (t.runOf a).map Prod.snd = some (p.2.endAt 9 3 2 w.endVec)) ∧
          (p.1.segState sg ≠ 0 → wrong = false → ∃ t w', exec (.segmentBoundary a) s = .next t ∧
            (t.runOf a).map Prod.snd = some w' ∧ t.store = s.store ∧ t.cfg = s.cfg ∧
            ((t.segState sg = 4 ∧ w'.plays.length = w.plays.length + 1 ∧ w'.plays.getLast?.map Play.seg = some sg ∧
              w'.ahead = rest ∧ w'.loops = l) ∨
             (c.late = true ∧ w' = { p.2.endAt 2 0 1 w.endVec with lack := some (sg, p.1.segState sg) })))))) ∧
    (∀ n, o.phase = .running → w.stopAt = some n → (∀ k ∈ w.clusters, n ≤ (s.clu k).vec) →
      ∃ t w', exec (.patternRunStop a) s = .next t ∧
      (t.runOf a).map Prod.snd = some w' ∧ w'.stop.isSome = true ∧ w'.ahead = [] ∧ w'.ending = w.ending ∧
      (∀ k ∈ w.clusters, (t.clu k).run ≠ some a) ∧ (∀ q ∈ w.seqs, t.bitAt (SEG_Q_STATUS q) 0 = false) ∧ t.store = s.store ∧
      t.cfg = s.cfg) ∧
    (∀ at_ st r rank, o.phase = .running → w.ending = some (st, r, rank) → (∀ k ∈ w.clusters, s.holdsRecords k a = false) →
      ∀ s' : State, s' = s.setRun a { w with stop := some at_ } → ∀ o' : Op, s'.op? a = some o' →
      let st' := if st = 0 ∧ w.failed then 1 else st
      ∃ (u t : State), exec (.feederDrainEnd a) s' = .next t ∧
        t.Ended o' st' r at_ (runDetail { w with stop := some at_ } st' % 2 ^ 64) ∧ s'.OnlyRegs u (w.fnts.map FNT_STATUS) ∧
        u.EndFrame t)

/-- A fountain executes an instruction and shows where it stands; a refresh interval makes it owe a refresh (R256, R266, R269, R273, R274, R275, R276, R279, R281, R284). -/
def Obligations.FountainsRunTheirPrograms : Prop :=
∀ (f : Nat) (upsets : List (Nat × BitVec 128)) (s : State), f < 32 →
    let f0 : Fnt := if upsets.isEmpty || (s.fnt f).asn.isNone then s.fnt f else { s.fnt f with flips := (s.fnt f).flips ++ upsets }
    let kept := [FNT_STATUS f, FNT_EVENTS f, FNT_REF_STATUS f, FNT_REF_LATE f, FNT_ECC_CORR f] ++ (List.range 8).map (FNT_LC f)
    let wrong := popCount (flippedBits f0.flips f0.pc).toNat 128
    ((s.fnt f).alive = true →
      let r := runInstr ⟨f0, s.fld (FNT_REF_STATUS f) 7 0, 0, 0⟩
      ∃ t, exec (.fountainInstruction f upsets) s = .next t ∧ t.fnt f = r.f ∧
        (wrong ≤ 1 → (t.fnt f).emitted = (s.fnt f).emitted + insRep ((s.fnt f).prog.getD (s.fnt f).pc 0) + 1) ∧
        (wrong = 1 → t.bitAt (FNT_EVENTS f) 3 = true ∧
          (t.reg (FNT_ECC_CORR f)).toNat = min ((s.reg (FNT_ECC_CORR f)).toNat + 1) (2 ^ 32 - 1)) ∧
        (1 < wrong → r.f.faulted = 3 ∧ (t.fnt f).emitted = (s.fnt f).emitted) ∧
        t.fld (FNT_REF_STATUS f) 7 0 = r.owed % 256 ∧
        (∀ i, i < 8 → t.reg (FNT_LC f i) = BitVec.ofNat 32 (r.f.lcs.getD i 0)) ∧
        t.fld (FNT_STATUS f) 21 19 = r.f.stack.length % 8 ∧ t.bitAt (FNT_STATUS f) 3 = r.f.inRefresh.isSome ∧
        (r.f.halted = true → t.bitAt (FNT_STATUS f) 2 = true ∧ t.bitAt (FNT_EVENTS f) 4 = true) ∧
        (r.f.faulted ≠ 0 → t.fld (FNT_STATUS f) 15 8 = r.f.faulted % 256 ∧ t.bitAt (FNT_EVENTS f) 1 = true) ∧
        (r.late ≠ 0 → t.bitAt (FNT_EVENTS f) 2 = true ∧
          (t.reg (FNT_REF_LATE f)).toNat = min ((s.reg (FNT_REF_LATE f)).toNat + r.late) (2 ^ 32 - 1)) ∧
        (∀ x, x ≠ f → t.fnt x = s.fnt x) ∧ t = { s with regs := t.regs, fnts := t.fnts } ∧ s.RegsKept t kept) ∧
    ((s.fnt f).alive = false → ∃ t, exec (.fountainInstruction f upsets) s = .next t ∧ t.fnt f = f0 ∧
      (∀ x, x ≠ f → t.fnt x = s.fnt x) ∧ t = { s with fnts := t.fnts }) ∧
    ((s.fnt f).asn = none → exec (.fountainInstruction f upsets) s = .next s) ∧
    ((s.fnt f).refInterval = 0 → exec (.refreshInterval f) s = .next s) ∧
    ((s.fnt f).refInterval ≠ 0 → s.refreshNear f = true → exec (.refreshInterval f) s = exec (.fountainInstruction f []) s) ∧
    (∃ t, exec (.refreshInterval f) s = .next t ∧ (∀ x, x ≠ f → t.fnt x = s.fnt x) ∧
      t = { s with regs := t.regs, fnts := t.fnts } ∧ s.RegsKept t kept)

/-- Compare results are counted and formed into records, which pass the fail feeder into their Basin; CLEAR empties a Basin (R285, R286, R287, R288, R289, R290, R291, R292, R293, R295, R296). -/
def Obligations.FailRecordsReachTheirBasin : Prop :=
(∀ (k vec : Nat) (samples : List (Nat × List Int)) (s : State), k < 16 →
    (∀ (b : Strobes) (g : ImageSet), (s.clu k).strobes.find? (fun b => b.vec == vec) = some b → s.cfg.active = some g →
      (∀ p ∈ b.pins, p.1 < 32) →
      let q := s.strobeResults k samples (b.pins.filter (fun p => b.open_.any (fun x => x.1 == p.1)))
      let rs := q.1
      let all := b.got ++ rs
      let due := fun (r : Result) => ((b.lastAt.find? (fun x => x.1 == r.pin)).map (s.evaluatedFine k)).getD 0
      let whole := fun (n : Nat) => b.pins.all (fun p => g.siteOfCh (32 * k + p.1) != some n ||
        (ofSite g k n all).any (fun r => r.pin == p.1))
      (rs = [] ∨ s.inOrder b k (rs.map Result.pin) = false → exec (.vectorResultComplete k vec samples) s = .next s) ∧
      (rs ≠ [] → s.inOrder b k (rs.map Result.pin) = true →
        ∃ t, exec (.vectorResultComplete k vec samples) s = .next t ∧ (t.clu k).strobes = addResults b rs (s.clu k).strobes ∧
          (∀ j, j < 32 → (t.reg (CMP_FAILCNT k j)).toNat =
            min ((s.reg (CMP_FAILCNT k j)).toNat + (rs.filter (fun r => r.pin == j && r.failed)).length) (2 ^ 32 - 1)) ∧
          (t.clu k).formed = (resultSites g k rs).foldl (fun l n =>
            if whole n && (ofSite g k n all).any (fun r => r.failed || r.sym == 7) && (g.basin n).isSome then
              (match s.op? b.asn with
                | some o => Rec32.insert { site := n, asn := b.asn, vec := vec, ix := 0, bits := basinRecord k n b (o.pay 0 2 == 0) (o.seq % 2 ^ 32) (ofSite g k n all) } l
                | none => l)
            else l) (s.clu k).formed ∧
          (∀ r ∈ rs, r.failed = true → ∀ o w, s.runOf b.asn = some (o, w) → ∃ p v, t.runOf b.asn = some (p, v) ∧ v.failed = true ∧
            (w.clearedAt ≤ due r → v.failLatch.isSome = true)) ∧
          (∀ x, (∀ n r, g.basin n = some r → x < r.base ∨ r.base + 56 ≤ x) → t.byte x = s.byte x) ∧
          (rs.any Result.failed = false → (∀ n, whole n = true → (ofSite g k n all).any (fun r => r.failed || r.sym == 7) = false) →
            t = { s with clus := t.clus, tb := t.tb, free := t.free }))) ∧
    ((s.clu k).strobes.find? (fun b => b.vec == vec) = none ∨ s.cfg.active = none →
      exec (.vectorResultComplete k vec samples) s = .next s)) ∧
  (∀ (k : Nat) (v : Rec32) (rest : List Rec32) (s : State), k < 16 → (s.clu k).formed = v :: rest → v.site < 256 →
    (s.recordWaits k v = true → exec (.feederEntry k) s = .next s) ∧
    (s.recordWaits k v = false → s.basinOf v.site = none → exec (.feederEntry k) s = .next (s.setClu k { s.clu k with formed := rest })) ∧
    (∀ r, s.recordWaits k v = false → s.basinOf v.site = some r →
      (feederDepth ≤ (s.clu k).feeder.length → ∃ t, exec (.feederEntry k) s = .next t ∧
        t.clu k = { s.clu k with formed := rest } ∧ t.bhead r 0x18 8 = (s.bhead r 0x18 8 + 1) % 2 ^ 64 ∧
        bit (t.bhead r 0x29 1) 2 = true ∧ t.bitAt (ACQ_EVENTS k) 5 = true ∧
        (t.reg (CMP_FEED_OVERFLOW k)).toNat = min ((s.reg (CMP_FEED_OVERFLOW k)).toNat + 1) (2 ^ 32 - 1) ∧ s.BytesKept t r.base 56) ∧
      ((s.clu k).feeder.length < feederDepth →
        let n := s.bhead r 8 8 + 1
        ∃ t, exec (.feederEntry k) s = .next t ∧
          t.clu k = { s.clu k with formed := rest, feeder := (s.clu k).feeder ++ [{ v with ix := n - 1 }] } ∧
          t.bhead r 8 8 = n % 2 ^ 64 ∧ (basinCap r < n → bit (t.bhead r 0x29 1) 1 = true) ∧
          (n = basinH r → bit (t.bhead r 0x29 1) 0 = true ∧ t.maskBit (XTB_BASIN_HWM 0) v.site = true ∧
            t.bitAt XTB_EVENTS 17 = true) ∧ s.BytesKept t r.base 56))) ∧
  (∀ (k : Nat) (v : Rec32) (rest : List Rec32) (s : State), k < 16 → (s.clu k).feeder = v :: rest →
    (s.basinOf v.site = none → exec (.basinRecordStore k) s = .next (s.setClu k { s.clu k with feeder := rest })) ∧
    (∀ r, s.basinOf v.site = some r →
      (basinCap r ≤ v.ix → ∃ t, exec (.basinRecordStore k) s = .next t ∧ t.clu k = { s.clu k with feeder := rest } ∧
        t.bhead r 0x18 8 = (s.bhead r 0x18 8 + 1) % 2 ^ 64 ∧ s.BytesKept t (r.base + 0x18) 8 ∧ t.regs = s.regs ∧ t.ops = s.ops) ∧
      (v.ix < basinCap r → ∃ t, exec (.basinRecordStore k) s = .next t ∧ t.clu k = { s.clu k with feeder := rest } ∧
        t.bytes (r.base + 4096 + 32 * v.ix) 32 = v.bytes ∧
        t.bhead r 0 8 = (s.setClu k { s.clu k with feeder := rest }).basinWr r % 2 ^ 64 ∧
        (∀ x, (x < r.base ∨ r.base + 8 ≤ x) → (x < r.base + 4096 + 32 * v.ix ∨ r.base + 4096 + 32 * v.ix + 32 ≤ x) →
          t.byte x = s.byte x)))) ∧
  (∀ (k : Nat) (s : State), (s.clu k).formed = [] → exec (.feederEntry k) s = .next s) ∧
  (∀ (k : Nat) (s : State), (s.clu k).feeder = [] → exec (.basinRecordStore k) s = .next s) ∧
  (∀ (site : Nat) (s : State), site < 256 →
    (s.basinOf site = none → ∃ t, exec (.basinClear site) s = .next t ∧ t.reg XTB_BASIN_RESULT = 1 ∧ s.OnlyRegs t [XTB_BASIN_RESULT]) ∧
    (∀ r, s.basinOf site = some r → s.mayClear site = false → ∃ t, exec (.basinClear site) s = .next t ∧
      t.reg XTB_BASIN_RESULT = 2 ∧ s.OnlyRegs t [XTB_BASIN_RESULT]) ∧
    (∀ r, s.basinOf site = some r → s.mayClear site = true → ∃ t, exec (.basinClear site) s = .next t ∧
      t.reg XTB_BASIN_RESULT = 0 ∧ t.bhead r 0 8 = 0 ∧ t.bhead r 8 8 = 0 ∧ t.bhead r 0x10 8 = 0 ∧ t.bhead r 0x18 8 = 0 ∧
      t.bhead r 0x29 1 = 0 ∧ t.bhead r 0x30 8 = s.now % 2 ^ 64 ∧ t.maskBit (XTB_BASIN_HWM 0) site = false ∧
      t.maskBit (XTB_BASIN_STOP 0) site = false ∧ s.BytesKept t r.base 56 ∧
      t = { s with regs := t.regs, store := t.store, poison := t.poison, basinGaps := s.basinGaps.filter (fun x => x.1 != r.owner) }))

/-- A ring takes samples and frames, ends and is read; an UPLOAD sends packets of whole items and completes (R300, R301, R302, R303, R305, R307, R308, R320, R322, R324, R325, R536). -/
def Obligations.RingsAndUploads : Prop :=
(∀ (k : Nat) (volts : List Int) (upsets : List (Nat × Nat)) (s : State), k < 16 →
    let z := s.upsetRing k upsets
    let r := z.ring k
    let run := fun (t : State) => exec (.acqSample k volts upsets) s = .next t
    (s.ringOp k = none → run z) ∧
    (∀ o, s.ringOp k = some o → (r.st = 3 ∨ o.aborting = true ∨ o.faulting = true ∨
      ∃ g, acqLimit o = some g ∧ g * 4096 ≤ acqInstant o r.k) → run z) ∧
    (∀ o, s.ringOp k = some o → o.aborting = false → o.faulting = false → r.st ≠ 3 → acqInstant o r.k / 4096 ≤ s.now →
      (∀ g, acqLimit o = some g → acqInstant o r.k < g * 4096) →
      let tag := r.k * o.pay 0x14 4
      let c := z.acqCodes k o volts
      let codes := c.1
      let q : Ring := { r with k := r.k + 1, lastStates := codes, matched := z.acqMatches k codes }
      let rec_ := acqRecord tag (if r.k = 0 then 1 else 4) r.seq codes
      let new := r.k = 0 ∨ (codes ≠ r.lastStates ∧ r.st ≠ 2)
      (2 ^ 40 ≤ tag → ∃ t, run t ∧ t.ring k = { r with st := 3 } ∧ t.bitAt (ACQ_STATUS k) 4 = true ∧
        t.bitAt (ACQ_STATUS k) 2 = false ∧ t = { s with regs := t.regs, clus := t.clus, ops := t.ops } ∧
        s.RegsKept t [ACQ_STATUS k]) ∧
      (tag < 2 ^ 40 → ¬ new → (q.matched = true → r.matched = true) → run (c.2.setRing k q)) ∧
      (tag < 2 ^ 40 → ¬ new → ∃ t, run t ∧ t.ring k = q ∧ t.store = s.store ∧ t.cfg = s.cfg ∧ t.ops = s.ops) ∧
      (tag < 2 ^ 40 → new → acqStream o = true → ∃ u : State, run (u.feedUploads 3 k (2 ^ 24)) ∧ u.store = s.store ∧ u.cfg = s.cfg ∧
        (r.recs.length < 16384 → u.ring k = { q with recs := r.recs ++ [rec_], seq := r.seq + 1 }) ∧
        (16384 ≤ r.recs.length → u.ring k = { (q.drop 1) with recs := r.recs.drop 1 ++ [rec_], seq := r.seq + 1 } ∧
          (r.pos < r.base ∨ (r.pos = r.base ∧ r.past = false) → u.bitAt (ACQ_EVENTS k) 2 = true ∧
            (u.reg (ACQ_LOST k)).toNat = min ((s.reg (ACQ_LOST k)).toNat + 1) (2 ^ 32 - 1)))) ∧
      (tag < 2 ^ 40 → new → acqStream o = false → r.st = 0 → r.frame < 64 → ∃ t, run t ∧
        t.ring k = { q with seq := r.seq + 1, recs := (r.recs ++ [rec_]).drop (r.recs.length + 1 - acqDepth o) } ∧
        t.store = s.store ∧ t.cfg = s.cfg) ∧
      (tag < 2 ^ 40 → new → acqStream o = false → r.st ≠ 0 → r.frame < 64 → ∃ t v, run t ∧
        v = { q with seq := r.seq + 1, recs := r.recs ++ [rec_], post := r.post + 1, postLeft := r.postLeft - 1 } ∧
        (r.postLeft ≤ 1 → t.ring k = { v with st := 2, rearmAt := acqInstant o r.k / 4096 + 64 } ∧
          t.bitAt (ACQ_STATUS k) 2 = true ∧ t.bitAt (ACQ_EVENTS k) 1 = true ∧ t.bitAt (ACQ_FR k r.frame) 31 = true) ∧
        (1 < r.postLeft → t.ring k = v) ∧ t.store = s.store ∧ t.cfg = s.cfg))) ∧
  (∀ (k : Nat) (s : State) (o : Op), k < 16 → s.ringOp k = some o → acqStream o = false → (s.ring k).frame < 63 →
    (s.ring k).rearmAt ≤ s.now →
    let r := s.ring k
    (r.st ≠ 2 → exec (.acqFrameRearm k) s = .next s) ∧
    (r.st = 2 → r.frame + 1 < 2 ^ o.pay 5 1 → ∃ t, exec (.acqFrameRearm k) s = .next t ∧
      t.ring k = { r with
        closed := r.closed ++ [r.recs], frame := r.frame + 1, st := 0, pre := 0, post := 0, postLeft := 0, seq := r.seq + 1,
        recs := [acqRecord ((r.rearmAt - o.startGcc) * 4096) 1 r.seq r.lastStates].drop (1 - acqDepth o) } ∧
      t.bitAt (ACQ_STATUS k) 2 = false ∧ t.fld (ACQ_STATUS k) 13 8 = r.frame + 1 ∧ t.store = s.store) ∧
    (r.st = 2 → 2 ^ o.pay 5 1 ≤ r.frame + 1 → ∃ t, exec (.acqFrameRearm k) s = .next t ∧ t.ring k = { r with st := 3 } ∧
      t.bitAt (ACQ_STATUS k) 2 = false ∧ t = { s with regs := t.regs, clus := t.clus } ∧ s.RegsKept t [ACQ_STATUS k])) ∧
  (∀ (a : Asn) (s : State) (o : Op) (d : Nat), s.running? a 0xA = some o →
    (∀ w, o.work = .acquire w → d = w.valid % 65536 + 65536 * min w.records (2 ^ 32 - 1) + (if w.clamped then 2 ^ 62 else 0) +
      (if w.tagEnd then 2 ^ 63 else 0)) → (∃ w, o.work = .acquire w) →
    let all := (acqRings o).all (fun k => (s.ring k).st == 3)
    let ends := fun (status : Nat) => ∃ (u t : State), exec (.acquireEnd a) s = .next t ∧
      (∀ k ∈ acqRings o, (u.ring k).asn ≠ some o.asn) ∧ u.store = s.store ∧ u.cfg = s.cfg ∧ u.EndFrame t ∧
      t.Ended o status 0 u.now (d % 2 ^ 64)
    (all = true → ends (o.endStatus 0)) ∧
    (all = false → o.aborting = true ∨ o.faulting = true → ends (o.endStatus 4)) ∧
    (all = false → o.aborting = false → o.faulting = false →
      (acqLimit o = none → exec (.acquireEnd a) s = .next s) ∧ (∀ g, acqLimit o = some g → g ≤ s.now → ends 0))) ∧
  (∀ (k : Nat) (upsets : List (Nat × Nat)) (s : State), k < 16 →
    let z := s.upsetRing k upsets
    let r := z.ring k
    let four := [Instr.acqNext k upsets, .acqMark k upsets, .acqRewind k upsets, .acqOldest k upsets]
    (s.islandMode k ≠ 0 → ∀ c ∈ four, ∃ t, exec c s = .next t ∧
      t.bitAt GLB_ACCESS_STATUS 0 = true ∧ t = { z with regs := t.regs, flagged := true } ∧ s.RegsKept t (accessRegs 0)) ∧
    (s.islandMode k = 0 → s.ringBusy k = true → ∀ c ∈ four,
      ∃ t, exec c s = .next t ∧ t.fld (ACQ_RD_STATUS k) 7 0 = 2 ∧ z.OnlyRegs t [ACQ_RD_STATUS k]) ∧
    (s.islandMode k = 0 → s.ringBusy k = false →
      let here := decide (r.pos < r.base + r.all.length)
      let upd := fun (c : Instr) (q : Ring) (result : Nat) (l : List Nat) => ∃ t, exec c s = .next t ∧ t.ring k = q ∧
        t.fld (ACQ_RD_STATUS k) 7 0 = result ∧ t = { s with regs := t.regs, clus := t.clus } ∧ s.RegsKept t (ACQ_RD_STATUS k :: l)
      (r.pos + 1 < r.base + r.all.length → upd (.acqNext k upsets) { r with pos := r.pos + 1, past := false } 0 []) ∧
      (r.base + r.all.length ≤ r.pos + 1 → upd (.acqNext k upsets) { r with past := here } 1 []) ∧
      upd (.acqMark k upsets) { r with mark := if here then some r.pos else none } 0 [] ∧
      upd (.acqOldest k upsets) { r with pos := r.base, past := false } 0 [] ∧
      (∀ m, r.mark = some m → upd (.acqRewind k upsets) { r with pos := m, past := false } 0 []) ∧
      (r.mark = none → upd (.acqRewind k upsets) { r with pos := r.base, past := false } 3 [ACQ_EVENTS k]))) ∧
  (∀ (a : Asn) (upsets : List (Nat × Nat)) (s : State),
    (s.uplOf a = none → exec (.uploadPacket a upsets) s = .next s ∧ exec (.uploadAck a) s = .next s) ∧
    (∀ (o : Op) (w₀ : UplWork), s.uplOf a = some (o, w₀) →
      let w : UplWork := { w₀ with fifo := upsets.foldl (fun l e => flipStaged l e.1 e.2) w₀.fifo }
      let q := s.setUpl a w
      let it := if o.pay 0 1 = 1 then w.fifo.take 64 else packetItems o w
      let enough := decide (o.pay 2 1 * 128 ≤ itemBytes w.fifo) || w.srcEnded
      let ends := fun (c : Instr) (v : UplWork) (status reason : Nat) => ∃ (u t : State) (clear : Bool), exec c s = .next t ∧
        u.EndFrame t ∧ t.Ended o status reason s.now (uplDetail v clear % 2 ^ 64) ∧ (clear = false → t.store = s.store) ∧
        (clear = true → bit (o.pay 1 1) 1 = true ∧ v.lost = 0)
      let go := o.aborting = false ∧ o.faulting = false
      (s.aon.resetting ≠ 0 → exec (.uploadPacket a upsets) s = .next q ∧ (w₀.flight = [] → exec (.uploadAck a) s = .next s)) ∧
      (s.aon.resetting = 0 → ¬ go →
        (w.flight = [] → ends (.uploadPacket a upsets) w (o.endStatus 4) 0 ∧ ends (.uploadAck a) w₀ (o.endStatus 4) 0) ∧
        (w.flight ≠ [] → uplDone o w = false → exec (.uploadPacket a upsets) s = .next q)) ∧
      (s.aon.resetting = 0 → go → s.reachable w.ep = false → ends (.uploadPacket a upsets) w 9 2) ∧
      (s.aon.resetting = 0 → go → s.reachable w.ep = true → enough = false → exec (.uploadPacket a upsets) s = .next q) ∧
      (s.aon.resetting = 0 → go → s.reachable w.ep = true → enough = true → it = [] →
        (uplDone o w = false → exec (.uploadPacket a upsets) s = .next q) ∧
        (uplDone o w = true → ends (.uploadPacket a upsets) w (if w.poison then 0xE else 0) 0)) ∧
      (s.aon.resetting = 0 → go → s.reachable w.ep = true → enough = true → it ≠ [] →
        let p := (s.setUpl a { w with fifo := w.fifo.drop it.length, flight := w.flight ++ [it] }).send w.ep 3 0x30 0 (a % 2 ^ 16) 0
          (o.pay 8 8 + w.delivered + (w.flight.map itemBytes).sum) (it.map UplItem.bytes).flatten
          (fun i => (it.flatMap (fun x => (List.range x.bytes.length).map (fun n => bit x.tags (n / 8)))).getD i false)
        exec (.uploadPacket a upsets) s = .next (if uplFollow o then p else p.fillUpload a o (uplCap o))) ∧
      (s.aon.resetting = 0 → go → w₀.flight = [] →
        (uplDone o w₀ = false → exec (.uploadAck a) s = .next s) ∧
        (uplDone o w₀ = true → ends (.uploadAck a) w₀ (if w₀.poison then 0xE else 0) 0)) ∧
      (∀ p rest, w₀.flight = p :: rest →
        let v : UplWork := { w₀ with flight := rest, delivered := w₀.delivered + itemBytes p, poison := w₀.poison || p.any (fun i => i.tags != 0) }
        let n := (s.setUpl a v).setProgress a v.delivered
        (go → uplFollow o = true ∨ w₀.limit ≤ w₀.next →
          (uplDone o v = false → exec (.uploadAck a) s = .next n) ∧
          (uplDone o v = true → ends (.uploadAck a) v (if v.poison then 0xE else 0) 0)) ∧
        (go → uplFollow o = false → w₀.next < w₀.limit → w₀.srcEnded = false →
          exec (.uploadAck a) s = .next (n.fillUpload a o (uplCap o))) ∧
        (¬ go → rest ≠ [] → uplDone o v = false → uplFollow o = true ∨ w₀.limit ≤ w₀.next → exec (.uploadAck a) s = .next n) ∧
        (¬ go → rest = [] → uplFollow o = true ∨ w₀.limit ≤ w₀.next → ends (.uploadAck a) v (o.endStatus 4) 0))))

/-- Synchronizing resets, output samples with their words and masks, and the end of a MEASURE (R330, R331, R332, R333, R334, R336, R340, R341, R342, R344, R345, R536). -/
def Obligations.MeasurementsAreTaken : Prop :=
(∀ (k : Nat) (s : State), k < 16 →
    (∀ g ∈ (s.clu k).syncAt, (∀ h ∈ (s.clu k).syncAt, g ≤ h) → g ≤ s.now → ∃ t, exec (.synchronizingReset k) s = .next t ∧
      t.reg64 (MEAS_SYNC_GCC_LO k) (MEAS_SYNC_GCC_HI k) = s.now % 2 ^ 64 ∧ t.bitAt (MEAS_EVENTS k) 0 = true ∧
      t.clu k = { s.clu k with syncAt := (s.clu k).syncAt.filter (fun h => decide (g < h)), sampleNo := [], clock := s.preset k } ∧ (∀ c ∈ maskChans k (2 ^ 32 - 1), (t.chan c).settleLeft = 0) ∧
      t = { s with regs := t.regs, clus := t.clus, chans := t.chans } ∧
      s.RegsKept t [MEAS_SYNC_GCC_LO k, MEAS_SYNC_GCC_HI k, MEAS_EVENTS k]) ∧
    ((s.clu k).syncAt = [] → exec (.synchronizingReset k) s = .next s) ∧
    (s.islandMode k ≠ 0 → ∃ t, exec (.measSync k) s = .next t ∧ t.bitAt GLB_ACCESS_STATUS 0 = true ∧
      t = { s with regs := t.regs, flagged := true } ∧ s.RegsKept t (accessRegs 0)) ∧
    (s.islandMode k = 0 → (s.measHolder k).isSome = true → ∃ t, exec (.measSync k) s = .next t ∧
      t.fld (MEAS_STATUS k) 7 4 = 1 ∧ s.OnlyRegs t [MEAS_STATUS k]) ∧
    (s.islandMode k = 0 → s.measHolder k = none → ∃ t, exec (.measSync k) s = .next t ∧ t.fld (MEAS_STATUS k) 7 4 = 0 ∧
      t.clu k = { s.clu k with syncAt := (s.clu k).syncAt ++ [s.now + 256] } ∧ t = { s with regs := t.regs, clus := t.clus } ∧
      s.RegsKept t [MEAS_STATUS k])) ∧
  (∀ (k ch : Nat) (value : Int) (outOfSpan : Bool) (s : State), k < 16 → ch / 32 = k → s.sampleAt ch (s.nextSample ch) ≤ s.now →
    let n := s.nextSample ch
    let sig := s.hasSignal ch
    let y : Sample := {
      n := n, ch := ch, instant := s.sampleAt ch n, qty := sig && s.measuresI ch, overs := sig && outOfSpan, noSig := !sig
      clamped := s.clamped ch, settling := decide (n < presetN (s.clu k).clock) || (s.chan ch).settleLeft != 0
      value := if sig then sat24 value else 0 }
    let outside := s.bitAt (MEAS_CFG k) 8 && s.bitAt (MEAS_MON_PINS k) (ch % 32) && !y.settling && !y.noSig &&
      (decide (y.value < s.maskLo ch) || decide (s.maskHi ch < y.value))
    (∃ t, exec (.measSampleOutput k ch value outOfSpan) s = .next t ∧ t.reg (MEAS_LAST k (ch % 32)) = BitVec.ofNat 32 y.word ∧
      t.nextSample ch = n + 1 ∧ (t.chan ch).settleLeft = (s.chan ch).settleLeft - 1 ∧
      (y.overs = true → t.bitAt (MEAS_EVENTS k) 2 = true) ∧ t.cfg = s.cfg ∧
      (s.measHolder k = none → t.store = s.store ∧ t.ops = s.ops ∧
        (outside = true → t.bitAt (MEAS_MASK_FAIL_PINS k) (ch % 32) = true ∧ t.bitAt (MEAS_EVENTS k) 1 = true) ∧
        (outside = false → t = { s with regs := t.regs, clus := t.clus, chans := t.chans } ∧
          s.RegsKept t [MEAS_LAST k (ch % 32), MEAS_EVENTS k]))) ∧
    (∀ o w x, s.measureOn k = some (o, w) → s.op? o.asn = some o → w.chans.find? (fun z => z.ch == ch) = some x →
      measFirst o ≤ n → n - measFirst o < measNeed o w → x.kept = n - measFirst o →
      let i := n - measFirst o
      let y' := if bit x.flags 7 then { y with noSig := true, value := 0, overs := false, qty := false } else y
      let bad := bit (o.pay 0x11 1) 2 && !y'.noSig && !y'.settling && (decide (y'.value < x.maskLo) || decide (x.maskHi < y'.value))
      let v : MeasWork := { w with chans := w.chans.map (fun z =>
        if z.ch = ch then x.take y' (s.liveFld (CH_PMU_CTRL ch) 6 4) bad else z) }
      let at_ := measBuf o + (w.chans.filter (fun z => z.ch < ch)).length * measKept o * 4 + 4 * i
      ∃ t p, exec (.measSampleOutput k ch value outOfSpan) s = .next t ∧ t.op? o.asn = some p ∧
        p.work = .measure (if bad = true ∧ bit (o.pay 0x11 1) 3 = true then v.violate n i ch else v) ∧
        (bad = true → t.bitAt (MEAS_MASK_FAIL_PINS k) (ch % 32) = true ∧ t.bitAt (MEAS_EVENTS k) 1 = true) ∧
        (bit (o.pay 0x11 1) 1 = true → t.bytes at_ 4 = leBytes 4 y'.word ∧ s.BytesKept t at_ 4) ∧
        (bit (o.pay 0x11 1) 1 = false → t.store = s.store)) ∧
    (∀ o w, s.measureOn k = some (o, w) → (w.chans.all (fun z => z.ch != ch) = true ∨ n < measFirst o ∨ measNeed o w ≤ n - measFirst o) →
      ∃ t, exec (.measSampleOutput k ch value outOfSpan) s = .next t ∧ t.store = s.store ∧ t.ops = s.ops)) ∧
  (∀ (a : Asn) (s : State) (o : Op) (w : MeasWork), s.running? a 3 = some o → o.work = .measure w →
    let need := measNeed o w
    (w.chans.any (fun x => x.kept < need) = true → exec (.measureEnd a) s = .next s) ∧
    (w.chans.any (fun x => x.kept < need) = false → measDue o w ≤ s.now → ∃ (u t : State), exec (.measureEnd a) s = .next t ∧
      u.EndFrame t ∧ u = { s with store := u.store, poison := u.poison } ∧
      (bit (o.pay 0x11 1) 1 = true ∨ need = 0 → u = s) ∧
      (bit (o.pay 0x11 1) 1 = false → need ≠ 0 →
        u.bytes (measBuf o) (w.chans.flatMap ChStat.record).length = w.chans.flatMap ChStat.record ∧
        s.BytesKept u (measBuf o) (w.chans.flatMap ChStat.record).length) ∧
      (∀ i c, w.violation = some (i, c) → t.Ended o 0xB 2 s.now ((c + 1024 * i) % 2 ^ 64)) ∧
      (w.violation = none → o.aborting = true ∨ o.faulting = true → t.Ended o (o.endStatus 4) 0 s.now (need % 2 ^ 64)) ∧
      (w.violation = none → o.aborting = false → o.faulting = false → t.Ended o 0 0 s.now
        ((measCount w (fun x => x.signal != 0) + 2 ^ 16 * measCount w (fun x => x.signal == 0) +
          2 ^ 32 * measCount w (fun x => bit x.flags 4) + 2 ^ 48 * measCount w (fun x => bit x.flags 1)) % 2 ^ 64)))) ∧
  (∀ (a : Asn) (s : State), s.running? a 3 = none → exec (.measureEnd a) s = .next s)

/-- Park codes, ranges, plays, coefficient banks and digitizer samples (R349, R350, R352, R358, R359, R360, R361, R362, R366, R368, R369, R536). -/
def Obligations.AnalogChannelsPlayAndDigitize : Prop :=
(∀ (ch i : Nat) (b : Bool) (v : Word) (s : State), ch < 16 → i < 2048 → s.islandMode 16 ≠ 0 →
    ∀ c ∈ [Instr.parkSave ch, .outRangeWrite ch v, .bankSwap ch v, .coefficientWrite ch b i v], ∃ t, exec c s = .next t ∧
      t.bitAt GLB_ACCESS_STATUS 0 = true ∧ t = { s with regs := t.regs, flagged := true } ∧ s.RegsKept t (accessRegs 0)) ∧
  (∀ (ch : Nat) (s : State), ch < 16 → s.islandMode 16 = 0 →
    (s.bitAt (AN_STATUS ch) 6 = true → ∃ t, exec (.parkSave ch) s = .next t ∧ t.fld (AN_STATUS ch) 15 12 = 1 ∧
      s.OnlyRegs t [AN_STATUS ch]) ∧
    (s.bitAt (AN_STATUS ch) 6 = false → ∃ t, exec (.parkSave ch) s = .next t ∧ t.fld (AN_STATUS ch) 15 12 = 0 ∧
      t.bitAt (AN_STATUS ch) 6 = true ∧ t.ana ch = { s.ana ch with saving := some (s.fld (AN_PARK_CODE ch) 15 0) } ∧
      t = { s with regs := t.regs, anas := t.anas } ∧ s.RegsKept t [AN_STATUS ch]) ∧
    (∀ v, s.anState ch ≠ 1 ∨ (s.awgOp ch).isSome = true ∨ v.field 1 0 = s.fld (AN_STATUS ch) 4 3 →
      ∃ t, exec (.outRangeWrite ch v) s = .next t ∧ t.fld (AN_OUT_CFG ch) 1 0 = v.field 1 0 ∧ s.OnlyRegs t [AN_OUT_CFG ch]) ∧
    (∀ v, s.anState ch = 1 → s.awgOp ch = none → v.field 1 0 ≠ s.fld (AN_STATUS ch) 4 3 →
      ∃ t, exec (.outRangeWrite ch v) s = .next t ∧ t.fld (AN_OUT_CFG ch) 1 0 = v.field 1 0 ∧ t.anState ch = 2 ∧
        t.fld (AN_STATUS ch) 4 3 = v.field 1 0 ∧ t.ana ch = { s.ana ch with muteUntil := some (s.now + 1600) } ∧
        t = { s with regs := t.regs, anas := t.anas } ∧ s.RegsKept t [AN_OUT_CFG ch, AN_STATUS ch]) ∧
    (∀ v : Word, v.field 31 28 ≠ 1 → ∃ t, exec (.bankSwap ch v) s = .next t ∧ t.fld (AN_RS_STATUS ch) 31 28 = 2 ∧
      s.OnlyRegs t [AN_RS_STATUS ch]) ∧
    (∀ v : Word, v.field 31 28 = 1 → within 256 65536 (v.field 16 0) = false → ∃ t, exec (.bankSwap ch v) s = .next t ∧
      t.bitAt GLB_ACCESS_STATUS 0 = true ∧ t = { s with regs := t.regs, flagged := true } ∧ s.RegsKept t (accessRegs 0)) ∧
    (∀ v : Word, v.field 31 28 = 1 → within 256 65536 (v.field 16 0) = true → ∃ t, exec (.bankSwap ch v) s = .next t ∧
      t.fld (AN_RS_STATUS ch) 31 28 = 0 ∧
      (t.ana ch).swaps = (s.ana ch).swaps ++ [(s.now + 256, v.getLsbD 24, v.field 16 0)] ∧
      t = { s with regs := t.regs, anas := t.anas } ∧ s.RegsKept t [AN_RS_STATUS ch]) ∧
    (∀ b i v, i < 2048 → (s.ana ch).fadeEnd.isSome = true ∨ s.bitAt (AN_RS_STATUS ch) 22 = b →
      ∃ t, exec (.coefficientWrite ch b i v) s = .next t ∧ t.bitAt (AN_EVENTS ch) 2 = true ∧
        (t.reg (AN_COEF_DROPS ch)).toNat = min ((s.reg (AN_COEF_DROPS ch)).toNat + 1) (2 ^ 32 - 1) ∧
        s.OnlyRegs t [AN_EVENTS ch, AN_COEF_DROPS ch]) ∧
    (∀ b i v, i < 2048 → (s.ana ch).fadeEnd = none → s.bitAt (AN_RS_STATUS ch) 22 ≠ b →
      ∃ t, exec (.coefficientWrite ch b i v) s = .next t ∧
        (t.reg (if b then AN_COEF_B ch i else AN_COEF_A ch i)).toNat = v.field 17 0 ∧
        s.OnlyRegs t [if b then AN_COEF_B ch i else AN_COEF_A ch i])) ∧
  (∀ (ch : Nat) (s : State), ch < 16 →
    ((s.ana ch).saving = none → exec (.parkSaveDone ch) s = .next s) ∧
    (∀ c, (s.ana ch).saving = some c → ∃ t, exec (.parkSaveDone ch) s = .next t ∧ (t.ana ch).saving = none ∧
      parkLoad (t.ana ch) = some c ∧ (t.ana ch).park.map (fun x => x.2) = [(c, true), (c, true)] ∧
      t.bitAt (AN_STATUS ch) 6 = false ∧ t.bitAt (AN_EVENTS ch) 4 = true ∧ t.lifetime 15 = min (s.lifetime 15 + 1) (2 ^ 64 - 1) ∧
      t = { s with regs := t.regs, anas := t.anas, aon := { s.aon with lt := t.aon.lt } } ∧
      s.RegsKept t [AN_STATUS ch, AN_EVENTS ch]) ∧
    ((s.ana ch).muteUntil = none → exec (.rangeMuteEnd ch) s = .next s) ∧
    (∀ g, (s.ana ch).muteUntil = some g → g ≤ s.now → ∃ t, exec (.rangeMuteEnd ch) s = .next t ∧
      t = { s with regs := t.regs, anas := t.anas } ∧ s.RegsKept t [AN_STATUS ch] ∧
      (s.anState ch ≠ 2 → t.ana ch = { s.ana ch with muteUntil := none } ∧ t.regs = s.regs) ∧
      (s.anState ch = 2 → s.isFaulted 3 ch = true → t.anState ch = 5 ∧ t.ana ch = s.ana ch) ∧
      (s.anState ch = 2 → s.isFaulted 3 ch = false → (s.awgOp ch).isSome = true ∨ s.fld (AN_OUT_CFG ch) 1 0 = s.fld (AN_STATUS ch) 4 3 →
        t.anState ch = 1 ∧ t.ana ch = { s.ana ch with muteUntil := none }) ∧
      (s.anState ch = 2 → s.isFaulted 3 ch = false → s.awgOp ch = none → s.fld (AN_OUT_CFG ch) 1 0 ≠ s.fld (AN_STATUS ch) 4 3 →
        t.anState ch = 2 ∧ t.fld (AN_STATUS ch) 4 3 = s.fld (AN_OUT_CFG ch) 1 0 ∧
        t.ana ch = { s.ana ch with muteUntil := some (s.now + 1600) }))) ∧
  (∀ (a : Asn) (s : State) (o : Op) (w : PlayWork), s.running? a 7 = some o → o.work = .play w → o.pay 0 1 < 16 →
    (w.begun = false → exec (.awgPlayEnd a) s = exec (.awgPlayEnd a) (s.awgReach o)) ∧
    (w.begun = false → s.now < w.s → s.counting = false → o.aborting = false → o.faulting = false →
      exec (.awgPlayEnd a) s = .next s) ∧
    (w.begun = true →
    let ch := o.pay 0 1
    let len := o.pay 4 4
    let ends := fun (status n : Nat) => ∃ t, exec (.awgPlayEnd a) s = .next t ∧
      t.Ended o status 0 s.now ((n % 2 ^ 48 + (if s.bitAt (AN_RS_STATUS ch) 22 then 2 ^ 63 else 0)) % 2 ^ 64) ∧
      t.reg64 (AN_SAMPLES_LO ch) (AN_SAMPLES_HI ch) = n % 2 ^ 48 ∧
      (s.anState ch = 3 ∨ s.anState ch = 4 → s.isFaulted 3 ch = false → t.anState ch = 1 ∨ t.anState ch = 2) ∧ t.store = s.store ∧ t.cfg = s.cfg
    (o.aborting = true ∨ o.faulting = true → ends (o.endStatus 4) (awgPlayed o w s.now)) ∧
    (o.aborting = false → o.faulting = false →
      (w.armed = true → exec (.awgPlayEnd a) s = .next s) ∧
      (w.armed = false →
        let bad := s.badSample o w (awgPlayed o w s.now)
        (bad = none → len = 0 → exec (.awgPlayEnd a) s = .next s) ∧
        (bad = none → len ≠ 0 → w.s + len ≤ s.now → ends 0 (len * 15)) ∧
        (∀ m, bad = some m → len = 0 ∨ m < len * 15 → w.s + ceilDiv m 15 ≤ s.now → ends 0xE m) ∧
        (∀ m, bad = some m → len ≠ 0 → len * 15 ≤ m → w.s + len ≤ s.now → ends 0 (len * 15)))))) ∧
  (∀ (ch : Nat) (s : State), ch < 16 →
    ((s.ana ch).swaps = [] → exec (.bankSwapTakeEffect ch) s = .next s) ∧
    (∀ due b f rest, (s.ana ch).swaps = (due, b, f) :: rest → due ≤ s.now → ∃ t, exec (.bankSwapTakeEffect ch) s = .next t ∧
      (t.ana ch).swaps = rest ∧ t = { s with regs := t.regs, anas := t.anas } ∧ s.RegsKept t [AN_RS_STATUS ch] ∧
      (s.awgOp ch = none → t.bitAt (AN_RS_STATUS ch) 22 = b ∧ (t.ana ch).fadeEnd = (s.ana ch).fadeEnd) ∧
      (∀ o, s.awgOp ch = some o →
        ((s.ana ch).fadeEnd.isSome = true → t.ana ch = { s.ana ch with swaps := rest, pend := some (b, f) } ∧
          t.bitAt (AN_RS_STATUS ch) 24 = true ∧ t.bitAt (AN_RS_STATUS ch) 25 = b ∧
          t.bitAt (AN_RS_STATUS ch) 22 = s.bitAt (AN_RS_STATUS ch) 22) ∧
        ((s.ana ch).fadeEnd = none → b = s.bitAt (AN_RS_STATUS ch) 22 → t.fld (AN_RS_STATUS ch) 31 28 = 1 ∧
          t.bitAt (AN_RS_STATUS ch) 22 = b ∧ (t.ana ch).fadeEnd = none) ∧
        ((s.ana ch).fadeEnd = none → b ≠ s.bitAt (AN_RS_STATUS ch) 22 → t.bitAt (AN_RS_STATUS ch) 22 = b ∧
          t.bitAt (AN_RS_STATUS ch) 23 = true ∧ t.fld (AN_RS_STATUS ch) 16 0 = f % 2 ^ 17 ∧
          (t.ana ch).fadeEnd = some ((t.ana ch).fadeStart + f)))) ∧
    ((s.ana ch).fadeEnd = none ∨ s.awgOp ch = none → exec (.fadeEnd ch) s = .next s) ∧
    (∀ e o w, (s.ana ch).fadeEnd = some e → s.awgOp ch = some o → awgWork o = some w →
      (w.begun = false ∨ w.armed = true → exec (.fadeEnd ch) s = .next s) ∧
      (w.begun = true → w.armed = false → w.s + 64 + ceilDiv e 15 ≤ s.now →
        ∃ t, exec (.fadeEnd ch) s = .next t ∧ t.bitAt (AN_EVENTS ch) 3 = true ∧ (t.ana ch).pend = none ∧
          t = { s with regs := t.regs, anas := t.anas } ∧ s.RegsKept t [AN_RS_STATUS ch, AN_EVENTS ch] ∧
          (∀ b f, (s.ana ch).pend = some (b, f) → b ≠ s.bitAt (AN_RS_STATUS ch) 22 → t.bitAt (AN_RS_STATUS ch) 22 = b ∧
            t.bitAt (AN_RS_STATUS ch) 23 = true ∧ t.bitAt (AN_RS_STATUS ch) 24 = false ∧
            t.fld (AN_RS_STATUS ch) 16 0 = f % 2 ^ 17 ∧ (t.ana ch).fadeStart = e ∧ (t.ana ch).fadeEnd = some (e + f)) ∧
          ((s.ana ch).pend = none ∨ (∃ f, (s.ana ch).pend = some (s.bitAt (AN_RS_STATUS ch) 22, f)) →
            t.fld (AN_RS_STATUS ch) 25 23 = 0 ∧ t.fld (AN_RS_STATUS ch) 16 0 = 0 ∧
            t.bitAt (AN_RS_STATUS ch) 22 = s.bitAt (AN_RS_STATUS ch) 22 ∧ (t.ana ch).fadeEnd = none)))) ∧
  (∀ (a : Asn) (s : State), (s.running? a 7 = none → exec (.awgPlayEnd a) s = .next s) ∧
    (s.running? a 8 = none → exec (.digitizeEnd a) s = .next s ∧ ∀ code drained, exec (.digitizerSample a code drained) s = .next s)) ∧
  (∀ (a : Asn) (s : State) (o : Op) (w₀ : DigWork), s.running? a 8 = some o → o.work = .digitize w₀ → o.pay 0 1 < 16 →
    let ch := o.pay 0 1
    let k := w₀.taken
    (∀ (code : Int) (drained : Nat), w₀.armed = true ∨ digOver o w₀ = true → exec (.digitizerSample a code drained) s = .next s) ∧
    (∀ (code : Int) (drained : Nat), w₀.armed = false → digOver o w₀ = false → w₀.s + 64 + 4 * k / 15 ≤ s.now →
      let out := w₀.buf.take drained
      let mask := w₀.mask.getD (s.digMask ch)
      let w : DigWork := { w₀ with mask := some mask, stored := w₀.stored + out.length, buf := w₀.buf.drop drained, settling := w₀.settling || out.any (fun v => bit v 3), overs := w₀.overs || out.any (fun v => bit v 2) }
      let settling := match (s.ana ch).digChanged with
        | some g => decide (15 * (w.s + 64) + 4 * k ≤ 15 * (g + 1600))
        | none => false
      let overs := decide (code < -2048) || decide (2047 < code)
      let c := max (-2048) (min 2047 code)
      let word := unsigned 12 c * 16 + (if settling then 8 else 0) + (if overs then 4 else 0)
      let bad := bit (o.pay 1 1) 2 && !settling && (decide (c < mask.1) || decide (mask.2 < c))
      ∃ t p, exec (.digitizerSample a code drained) s = .next t ∧ t.op? a = some p ∧ p.progress = w.stored ∧ t.cfg = s.cfg ∧
        t.bytes (o.pay 0x10 8 + 2 * w₀.stored) (2 * out.length) = out.flatMap (leBytes 2) ∧
        s.BytesKept t (o.pay 0x10 8 + 2 * w₀.stored) (2 * out.length) ∧
        (digBuffer ≤ w.buf.length → p.work = .digitize { w with behind := true } ∧ t.bitAt (AN_EVENTS ch) 5 = true ∧
          s.RegsKept t [AN_EVENTS ch]) ∧
        (w.buf.length < digBuffer → (t.reg (AN_DIG_LAST ch)).toNat = word ∧
          p.work = .digitize { w with taken := k + 1, buf := w.buf ++ [word], violation := if bad ∧ bit (o.pay 1 1) 3 then some k else none } ∧
          (overs = true → t.bitAt (AN_EVENTS ch) 6 = true) ∧ (bad = true → t.bitAt (AN_EVENTS ch) 1 = true))) ∧
    (digOver o w₀ = false → exec (.digitizeEnd a) s = .next s) ∧
    (digOver o w₀ = true →
      let out := w₀.buf
      let w : DigWork := { w₀ with stored := w₀.stored + out.length, buf := [], settling := w₀.settling || out.any (fun v => bit v 3), overs := w₀.overs || out.any (fun v => bit v 2) }
      let ends := fun (status reason detail : Nat) => ∃ u t : State, exec (.digitizeEnd a) s = .next t ∧
        u = { s with store := u.store, poison := u.poison, ops := u.ops } ∧
        u.bytes (o.pay 0x10 8 + 2 * w₀.stored) (2 * out.length) = out.flatMap (leBytes 2) ∧
        s.BytesKept u (o.pay 0x10 8 + 2 * w₀.stored) (2 * out.length) ∧ t.Ended o status reason s.now (detail % 2 ^ 64) ∧ u.EndFrame t
      (∀ v, w.violation = some v → ends 0xB 2 (v % 2 ^ 32)) ∧
      (w.violation = none → w.behind = true → ends 9 3 (digDetail w)) ∧
      (w.violation = none → w.behind = false → o.pay 4 4 ≤ w.taken → ends 0 0 (digDetail w)) ∧
      (w.violation = none → w.behind = false → w.taken < o.pay 4 4 → ends (o.endStatus 4) 0 (digDetail w))))

/-- A LANE_TEST turns its directions on, opens and closes its window, scans, reports and ends; a checker's events follow its states (R373, R376, R380, R381, R382, R383, R384, R385). -/
def Obligations.LaneTestsCountAndReport : Prop :=
(∀ (a : Asn) (s : State) (o : Op) (w : LaneWork), s.laneTest a = some (o, w) → ltGroup o < 8 →
    (∀ x ∈ w.lanes, x.lane / 16 = ltGroup o) → (w.lanes.map LaneStat.lane).Nodup →
    let g := ltGroup o
    let stop := o.aborting || o.faulting
    let n := w.lanes.length
    let pll := o.startGcc + w.tPll
    (∀ locked, w.step = 1 → stop = false → pll ≤ s.now →
      let on := w.lanes.map (fun x => { x with txOn := x.present && ltTx o && s.laneTx x.lane, rxOn := x.present && ltRx o && s.laneRx x.lane })
      ∃ t p, exec (.laneDirectionsOn a locked) s = .next t ∧ t.op? a = some p ∧ p.work = .lanes { w with step := 2, lanes := on } ∧
        (∀ x ∈ on, (t.reg (LN_STATUS g (x.lane % 16))).toNat = (if x.rxOn then 17 else 0) + (if x.txOn then 8 else 0)) ∧
        t.bitAt (LG_STATUS g) 1 = (locked || s.bitAt (LG_STATUS g) 1) ∧
        t = { s with regs := t.regs, ops := t.ops, relocks := if locked then s.relocks.filter (fun x => x.1 != g) else s.relocks } ∧
        s.RegsKept t (LG_STATUS g :: w.lanes.map (fun x => LN_STATUS g (x.lane % 16)))) ∧
    (w.step ≠ 1 → stop = false → pll ≤ s.now → exec (.laneDirectionsOn a false) s = .next s ∧
      ∃ t, exec (.laneDirectionsOn a true) s = .next t ∧ t.bitAt (LG_STATUS g) 1 = true ∧
        t = { s with regs := t.regs, relocks := s.relocks.filter (fun x => x.1 != g) } ∧ s.RegsKept t [LG_STATUS g]) ∧
    (∀ locked, stop = true → w.step ≠ 1 ∨ pll ≤ s.now → exec (.laneDirectionsOn a locked) s = .next s) ∧
    (w.step = 2 → stop = false → pll + 16000 ≤ s.now → ∃ t p, exec (.countingWindowOpen a) s = .next t ∧
      t.op? a = some p ∧ p.work = .lanes { w with step := 3, openGcc := pll + 16000, lanes := w.lanes.map (fun x => { x with everLocked := s.laneState x.lane == 2, lockLoss := 0, bits := 0, errors := 0 }) } ∧
      (∀ x ∈ w.lanes, t.reg64 (LN_BITS_LO g (x.lane % 16)) (LN_BITS_HI g (x.lane % 16)) = 0 ∧
        t.reg64 (LN_ERR_LO g (x.lane % 16)) (LN_ERR_HI g (x.lane % 16)) = 0 ∧ t.reg (LN_LOCK_LOSS g (x.lane % 16)) = 0) ∧
      t = { s with regs := t.regs, ops := t.ops }) ∧
    (w.step ≠ 2 ∨ stop = true → exec (.countingWindowOpen a) s = .next s) ∧
    (∀ bits, w.step = 3 → stop = false → w.openGcc + o.pay 0x10 4 ≤ s.now →
      ∃ (u t : State) (p : Op) (v : LaneWork), u = s.forEach bits (fun s x => s.receive (16 * g + x.1) x.2) ∧ u.laneTest a = some (p, v) ∧
        exec (.countingWindowClose a bits) s = .next t ∧
        t.op? a = some { p with progress := o.pay 0x10 4, work := .lanes { v with step := 4, lanes := v.lanes.map (fun x => { x with lockedAtClose := u.laneState x.lane == 2 }) } } ∧
        (ltEye o = true → t.bitAt (LG_STATUS g) 2 = true) ∧ t = { u with regs := t.regs, ops := t.ops } ∧ u.RegsKept t [LG_STATUS g]) ∧
    (∀ bits, w.step ≠ 3 ∨ stop = true → exec (.countingWindowClose a bits) s = .next s) ∧
    (∀ eye, w.step = 4 → ltEye o = true → w.points < eyePoints o.desc → stop = false →
      w.openGcc + o.pay 0x10 4 + eyeSteps o (w.points + 1) ≤ s.now →
      let found := ((eye.find? (fun p => decide ((p.1, p.2.1) = eyeOffset o w.points))).map (fun p => p.2.2)).getD []
      ∃ t p words, exec (.eyePoint a eye) s = .next t ∧ t.op? a = some p ∧
        p.work = .lanes { w with points := w.points + 1, eye := w.eye ++ [words] } ∧ words.length = n ∧
        (∀ r (h : r < n), words.getD r 0 =
          if w.lanes[r].lockedAtClose then min (min (found.getD r 0) (2 ^ o.pay 0x16 1)) (2 ^ 32 - 1) else 2 ^ 32 - 1) ∧
        t = { s with ops := t.ops }) ∧
    (∀ eye, w.step ≠ 4 ∨ ltEye o = false ∨ eyePoints o.desc ≤ w.points ∨ stop = true → exec (.eyePoint a eye) s = .next s) ∧
    (stop = false → w.step ≠ 4 ∨ (ltEye o = true ∧ w.points < eyePoints o.desc) → exec (.laneTestEnd a) s = .next s) ∧
    (stop = true ∨ (w.step = 4 ∧ (ltEye o = true → eyePoints o.desc ≤ w.points)) →
      let rs := w.lanes.map (s.laneResult o)
      let cnt := fun (l : List Nat) => (rs.filter (fun r => l.contains r)).length
      let out := w.lanes.flatMap (s.laneRecord o) ++ (if ltEye o then eyeMaps o w else [])
      ∃ (u t : State), exec (.laneTestEnd a) s = .next t ∧ u.EndFrame t ∧
        u.bytes (ltBuf o) out.length = out ∧ s.BytesKept u (ltBuf o) out.length ∧
        (∀ i, i < 16 → u.reg (LN_STATUS g i) = 0) ∧ u.bitAt (LG_STATUS g) 2 = false ∧
        u = { s with regs := u.regs, store := u.store, poison := u.poison } ∧
        (stop = true → t.Ended o (o.endStatus 4) 0 s.now (o.progress % 2 ^ 64)) ∧
        (stop = false → t.Ended o (if cnt [1, 2] = 0 then 0 else 1) 0 s.now
          ((cnt [0, 4] + 2 ^ 16 * cnt [1] + 2 ^ 32 * cnt [2] + 2 ^ 48 * cnt [3, 5]) % 2 ^ 64)))) ∧
  (∀ (l : Nat) (s : State), l < 128 →
    let g := l / 16
    let i := l % 16
    let r := LN_STATUS g i
    let frame := fun (t : State) => t.store = s.store ∧ t.cfg = s.cfg ∧ t.dpss = s.dpss
    (∀ bits, ∃ t, exec (.checkerLock l bits) s = .next t ∧
      exec (.laneErr l bits) (if s.laneState l = 1 then s.setBitAt r 2 true else s) = .next t) ∧
    (∀ bits, ∃ t, exec (.checkerLockLoss l false bits) s = .next t ∧ exec (.laneErr l bits) s = .next t) ∧
    (∀ b bits, ∃ u : State, exec (.laneErr l [b]) s = .next u ∧ exec (.laneErr l (b :: bits)) s = exec (.laneErr l bits) u) ∧
    (∀ bits, ∃ u t : State, exec (.laneErr l bits) s = .next u ∧ exec (.checkerLockLoss l true bits) s = .next t ∧
      (u.laneState l = 0 ∨ u.testOn g = none → t = u) ∧
      (u.laneState l = 1 ∨ u.laneState l = 2 → (u.testOn g).isSome = true → t.laneState l = 1 ∧ t.bitAt r 2 = false ∧
        (u.laneState l = 2 → t.bitAt (LG_EVENTS g) 1 = true ∧
          (t.reg (LN_LOCK_LOSS g i)).toNat = min ((u.reg (LN_LOCK_LOSS g i)).toNat + 1) (2 ^ 32 - 1)) ∧
        t = { u with regs := t.regs, ops := t.ops } ∧ u.RegsKept t [r, LN_LOCK_LOSS g i, LG_EVENTS g])) ∧
    (exec (.laneErr l []) s = .next s) ∧
    (∀ b, s.testOn g = none → exec (.laneErr l [b]) s = .next s) ∧
    (∀ b o w, s.testOn g = some (o, w) → (w.lanes.map LaneStat.lane).Nodup →
      (w.lanes.find? (fun x => x.lane == l) = none → exec (.laneErr l [b]) s = .next s) ∧
      (∀ x, w.lanes.find? (fun x => x.lane == l) = some x →
        let code := o.pay 3 1
        let b' := b != (w.latched.getD 2 0).getLsbD i
        let lane := fun (t : State) (y : LaneStat) => ∃ p v, t.testOn g = some (p, v) ∧ v.lanes.find? (fun z => z.lane == l) = some y
        (s.laneState l ≠ 2 → ¬ (s.laneState l = 1 ∧ s.bitAt r 2 = true) → exec (.laneErr l [b]) s = .next s) ∧
        (s.laneState l = 1 → s.bitAt r 2 = true →
          let hist := (b' :: x.hist).take 64
          let place := if code = 4 then userPlace w.latched hist else if prbsHolds code hist then some 0 else none
          ∃ t, exec (.laneErr l [b]) s = .next t ∧ frame t ∧ s.RegsKept t [r] ∧
            (hist.length < 64 ∨ place = none → t.laneState l = 1 ∧ lane t { x with hist := hist }) ∧
            (∀ p, hist.length = 64 → place = some p → t.laneState l = 2 ∧
              lane t { x with hist := hist, everLocked := true, pattern := hist.take 31, pos := p, span := [] })) ∧
        (s.laneState l = 2 →
          let want := if code = 4 then userBit w.latched x.pos else prbsNext code x.pattern
          let e := b' != want
          let span := (e :: x.span).take 256
          let lost := 32 ≤ span.countP id
          ∃ t, exec (.laneErr l [b]) s = .next t ∧ frame t ∧
            (w.step ≤ 3 → t.reg64 (LN_BITS_LO g i) (LN_BITS_HI g i) = (s.reg64 (LN_BITS_LO g i) (LN_BITS_HI g i) + 1) % 2 ^ 64 ∧
              t.reg64 (LN_ERR_LO g i) (LN_ERR_HI g i) = (s.reg64 (LN_ERR_LO g i) (LN_ERR_HI g i) + e.toNat) % 2 ^ 64) ∧
            (w.step = 4 → s.RegsKept t [r, LN_LOCK_LOSS g i, LG_EVENTS g]) ∧
            (e = true → x.firstErr = 0 → t.bitAt (LG_EVENTS g) 0 = true) ∧
            (lost → t.laneState l = 1 ∧ t.bitAt (LG_EVENTS g) 1 = true ∧
              (t.reg (LN_LOCK_LOSS g i)).toNat = min ((s.reg (LN_LOCK_LOSS g i)).toNat + 1) (2 ^ 32 - 1)) ∧
            (¬ lost → t.laneState l = 2 ∧ t.reg (LN_LOCK_LOSS g i) = s.reg (LN_LOCK_LOSS g i) ∧
              lane t { x with pattern := (want :: x.pattern).take 31, pos := x.pos + 1, span := span, bits := if w.step ≤ 3 then x.bits + 1 else x.bits, errors := if w.step ≤ 3 then x.errors + e.toNat else x.errors, firstErr := if e ∧ x.firstErr = 0 then s.now else x.firstErr })))))

/-- The steps of a DPS_SEQUENCE start, end, time out and fail; controllers move, trip and report; the governor's timers and monitors (R390, R393, R394, R395, R397, R398, R402, R403, R412, R416, R419, R422). -/
def Obligations.SuppliesSequenceTripAndAreMetered : Prop :=
(∀ (a : Asn) (n : Nat) (s : State) (o : Op) (w : DpsWork) (p : SiteProg) (x : DpsStep) (d : Nat), s.dpsRun a = some (o, w) →
    w.site n = some p → s.siteStep w p = some (x, d) →
    let key := dpsKey a n
    let all := fun (v : DpsWork) => v.sites.all (fun q => q.st == 4 || q.st == 5)
    let fails := fun (c : Instr) (reason : Nat) =>
      let v := { w.setSite { p with st := 5 } with firstFail := if w.firstFail = 0 then reason else w.firstFail }
      ∃ t, exec c s = .next t ∧ (all v = false → ∃ q, t.op? a = some q ∧ q.phase = .running ∧ q.work = .dps v) ∧
        (all v = true → t.Ended o 9 v.firstFail s.now (dpsDetail v % 2 ^ 64)) ∧
        (∀ e ∈ s.dpsOf n, s.dpsState e = 1 ∨ s.dpsState e = 2 → t.dpsState e = 3 ∨ t.dpsState e = 0) ∧
        t.store = s.store ∧ t.cfg = s.cfg
    let begins := fun (more : State → Prop) => ∃ t q r, exec (.dpsStepStart a n) s = .next t ∧ t.op? a = some q ∧
      q.work = .dps (w.setSite { p with st := 3, arrived := r }) ∧ (r = none ∨ r = some s.now) ∧ more t ∧
      t.store = s.store ∧ t.cfg = s.cfg
    ((p.st = 0 ∧ p.since ≤ s.now ∧ x.action ≠ 3) ∨ p.st = 1 → exec (.dpsStepStart a n) s = .next ((s.mntAsk 5 key).setWork a
      (.dps (w.setSite (if (s.mntAsk 5 key).mntRuns 5 key then { p with st := 2, since := s.now } else { p with st := 1 }))))) ∧
    ((p.st = 0 ∧ p.since ≤ s.now ∧ x.action = 3) → s.dpsState d = 1 ∨ s.dpsState d = 2 → begins (fun t =>
      (t.dpsState d = 3 ∨ t.dpsState d = 0) ∧ t.reg (DPS_SETPOINT d) = 0)) ∧
    (p.st = 2 → p.admitted = true → x.action = 1 → s.dpsState d = 0 → begins (fun t =>
      (t.dpsState d = 1 ∨ (t.dpsState d = 2 ∧ (t.ctl d).ref = 10 * x.setpoint)) ∧ (t.ctl d).target = 10 * x.setpoint ∧
      (t.ctl d).slope = x.slope ∧ (t.ctl d).rsense = s.fld (DPS_RSENSE d) 15 0 ∧ (t.ctl d).fsw = s.fld (DPS_CFG d) 12 0 ∧
      (t.reg (DPS_SETPOINT d)).toNat = x.setpoint % 2 ^ 32 ∧ (t.reg (DPS_ILIM d)).toNat = x.ilim % 2 ^ 32)) ∧
    (p.st = 2 → p.admitted = true → x.action = 2 → s.dpsState d = 1 ∨ s.dpsState d = 2 → begins (fun t =>
      t.dpsState d = (if (s.ctl d).ref = 10 * x.setpoint then 2 else 1) ∧ (t.ctl d).ref = (s.ctl d).ref ∧
      (t.ctl d).target = 10 * x.setpoint ∧ (t.ctl d).slope = x.slope ∧
      (t.reg (DPS_SETPOINT d)).toNat = x.setpoint % 2 ^ 32 ∧ (t.reg (DPS_ILIM d)).toNat = x.ilim % 2 ^ 32)) ∧
    ((p.st = 2 ∧ p.admitted = true) ∨ (p.st = 0 ∧ p.since ≤ s.now ∧ x.action = 3) → (x.action = 1 ∧ s.dpsState d ≠ 0) ∨ (x.action ≠ 1 ∧ s.dpsState d ≠ 1 ∧ s.dpsState d ≠ 2) →
      fails (.dpsStepStart a n) 2) ∧
    ((p.st = 2 ∧ p.admitted = false) ∨ 3 ≤ p.st → exec (.dpsStepStart a n) s = .next s) ∧
    (p.st ≠ 3 → exec (.dpsStepEnd a n) s = .next s) ∧
    (p.st = 3 → x.action ≠ 3 → s.dpsState d = 0 → fails (.dpsStepEnd a n) 2) ∧
    (p.st = 3 → (x.action = 3 ∧ s.dpsState d = 0) ∨ (x.action ≠ 3 ∧ p.arrived.isSome = true ∧ s.dpsState d = 2 ∧
        (x.flags ≠ 1 ∨ s.bitAt (DPS_STATUS d) 3 = true)) →
      let v := { w.setSite (s.nextStep w n (p.step + 1) s.now) with pairs := w.pairs + 1 }
      ∃ t, exec (.dpsStepEnd a n) s = .next t ∧
        (all v = false → ∃ q, t.op? a = some q ∧ q.phase = .running ∧ q.work = .dps v ∧ q.progress = v.pairs) ∧
        (all v = true → t.Ended o (if v.firstFail = 0 then 0 else 9) v.firstFail s.now (dpsDetail v % 2 ^ 64)) ∧ t.store = s.store) ∧
    (∀ g, p.arrived = some g → p.st = 3 → x.flags = 1 → s.bitAt (DPS_STATUS d) 3 = false →
      g + s.fld (DPS_PG d) 31 16 * usSteps ≤ s.now → fails (.pgoodTimeout a n) 3) ∧
    (p.st ≠ 3 ∨ x.flags ≠ 1 ∨ s.bitAt (DPS_STATUS d) 3 = true ∨ p.arrived = none → exec (.pgoodTimeout a n) s = .next s) ∧
    (p.st = 2 → p.admitted = false → p.since + (s.reg NRG_STEP_WAIT).toNat * usSteps ≤ s.now → fails (.stepEnergyTimeout a n) 6) ∧
    (p.st ≠ 2 ∨ p.admitted = true → exec (.stepEnergyTimeout a n) s = .next s)) ∧
  (∀ (d : Nat) (s : State), d < 64 →
    let u := s.ctl d
    let st := s.dpsState d
    let n := u.elapsed + 1
    let v := if u.fast then ceilDiv (u.start * (64 - n)) 64
      else if u.start ≤ u.target then min u.target (u.start + n * u.slope) else max u.target (u.start - n * u.slope)
    let moving := st = 1 ∨ st = 3
    (moving → u.since + n * usSteps ≤ s.now →
      (v ≠ u.target → ∃ t, exec (.referenceUpdate d) s = .next t ∧ t.ctl d = { u with elapsed := n, ref := v } ∧
        (t.reg (DPS_VREF d)).toNat = v / 10 % 2 ^ 32 ∧ t = { s with regs := t.regs, dpss := t.dpss } ∧ s.RegsKept t [DPS_VREF d]) ∧
      (v = u.target → ∃ t, exec (.referenceUpdate d) s = .next t ∧ t.dpsState d = (if st = 3 then 0 else 2) ∧
        (t.ctl d).ref = (if st = 3 then 0 else v) ∧ t.store = s.store ∧ t.cfg = s.cfg)) ∧
    (¬ moving → exec (.referenceUpdate d) s = .next s) ∧
    let on := st = 1 ∨ st = 2 ∨ st = 3
    (∀ (vsns : Nat) (wave : List Int), on →
      let p := periodCycles u.fsw
      let c := periodStart d p (max (u.cycle + 1) (ceilDiv (s.now * 5) 8 + Config.islandOffset))
      let e := (u.ref : Int) - vsns
      let x : Dps := { u with weir := false, limited := false, blank := u.blank - 1, cycle := c, onFor := 0, errors := u.errors + e, threshold := max 0 (Config.loopThreshold (u.loop / 256) (u.loop % 256) e (u.errors + e)) }
      ∃ t, exec (.switchingPeriod d vsns wave) s = .next t ∧ t.bitAt (DPS_STATUS d) 4 = u.limited ∧
        (x.blank ≠ 0 → t.ctl d = x ∧ (loopRises x p wave = true → t.bitAt (DPS_EVENTS d) 2 = true) ∧ ∀ n, t.pwmBall d n = false) ∧
        (∀ i, x.blank = 0 → loopCut x p wave = some i → t.ctl d = { x with weir := true, onFor := 10 * i } ∧
          ∀ n, t.pwmBall d n = decide (n < 10 * i)) ∧
        (x.blank = 0 → loopCut x p wave = none → t.ctl d = { x with onFor := 9 * p } ∧ ∀ n, t.pwmBall d n = decide (n < 9 * p)) ∧
        t = { s with regs := t.regs, dpss := t.dpss, tb := t.tb } ∧ s.RegsKept t [DPS_STATUS d, DPS_EVENTS d]) ∧
    (¬ on → (∀ vsns wave, exec (.switchingPeriod d vsns wave) s = .next s) ∧ (∀ n, s.pwmBall d n = false)) ∧
    (∀ (cycle : Nat) (uv : Int), ¬ on ∨ uv < 5 * (s.fld (DPS_ILIM d) 15 0 : Nat) ∨ (u.blank = 0 ∧ cycle < 30) →
      exec (.limitTrip d cycle uv) s = .next s) ∧
    (∀ (cycle : Nat) (uv : Int), on → 5 * (s.fld (DPS_ILIM d) 15 0 : Nat) ≤ uv → u.blank ≠ 0 →
      ∃ t, exec (.limitTrip d cycle uv) s = .next t ∧ t.bitAt (DPS_EVENTS d) 2 = true ∧ s.OnlyRegs t [DPS_EVENTS d]) ∧
    (∀ (cycle : Nat) (uv : Int), on → 5 * (s.fld (DPS_ILIM d) 15 0 : Nat) ≤ uv → u.blank = 0 → 30 ≤ cycle →
      let x : Dps := { u with weir := true, limited := true, onFor := min u.onFor (10 * cycle) }
      ∃ t, exec (.limitTrip d cycle uv) s = .next t ∧
      (t.reg (DPS_WEIR_TRIPS d)).toNat = min ((s.reg (DPS_WEIR_TRIPS d)).toNat + 1) (2 ^ 32 - 1) ∧ t.bitAt (DPS_EVENTS d) 0 = true ∧
      (s.bitAt (DPS_CFG d) 16 = true → t.dpsState d = 4 ∧ t.fld (DPS_STATUS d) 7 6 = 1 ∧ t.ctl d = { x with onFor := 0 }) ∧
      (s.bitAt (DPS_CFG d) 16 = false → t.dpsState d = st ∧ t.ctl d = x) ∧ t.store = s.store ∧ t.cfg = s.cfg) ∧
    (∀ isns vsns, vsns < 65536 →
      let i := imeas isns (s.rsenseNow d)
      let high := if st ≠ 0 ∧ st ≠ 5 ∧ s.fld (DPS_OV d) 15 0 < vsns then u.ovCount + 1 else 0
      ∃ t, exec (.dpsSample d isns vsns) s = .next t ∧ (t.reg (DPS_VMEAS d)).toNat = vsns ∧
        (t.reg (DPS_ISNS d)).toNat = unsigned 16 isns ∧ (t.reg (DPS_IMEAS d)).toNat = unsigned 24 i ∧
        t.reg64 (DPS_ENERGY_LO d) (DPS_ENERGY_HI d) = unsigned 64 ((u.energy + vsns * i).tdiv 10000) ∧
        (2 ≤ high → t.dpsState d = 4 ∧ t.fld (DPS_STATUS d) 7 6 = 2 ∧ t.bitAt (DPS_EVENTS d) 1 = true) ∧
        (high < 2 → t.dpsState d = st ∧
          t.bitAt (DPS_STATUS d) 3 = (st == 2 && decide (vsns ≤ s.fld (DPS_SETPOINT d) 15 0 + s.fld (DPS_PG d) 15 0) &&
            decide (s.fld (DPS_SETPOINT d) 15 0 ≤ vsns + s.fld (DPS_PG d) 15 0)) ∧
          t = { s with regs := t.regs, dpss := t.dpss })) ∧
    (s.islandMode 25 ≠ 0 → ∀ c ∈ [Instr.dpsDisable d, .clearTrip d], ∃ t, exec c s = .next t ∧ t.bitAt GLB_ACCESS_STATUS 0 = true ∧
      t = { s with regs := t.regs, flagged := true } ∧ s.RegsKept t (accessRegs 0)) ∧
    (s.islandMode 25 = 0 →
      (st = 4 → ∀ c ∈ [Instr.dpsDisable d, .clearTrip d], ∃ t, exec c s = .next t ∧ t.dpsState d = 0 ∧ (t.ctl d).ref = 0 ∧
        t.reg (DPS_SETPOINT d) = 0 ∧ t.fld (DPS_STATUS d) 7 6 = 0 ∧ t.ops = s.ops ∧ t.store = s.store) ∧
      (st = 1 ∨ st = 2 → ∃ t, exec (.dpsDisable d) s = .next t ∧ (t.dpsState d = 3 ∨ t.dpsState d = 0) ∧
        t.reg (DPS_SETPOINT d) = 0 ∧ t.ops = s.ops ∧ t.store = s.store) ∧
      (st = 0 ∨ st = 3 ∨ st = 5 → exec (.dpsDisable d) s = .next s) ∧
      (st ≠ 4 → ∃ t, exec (.clearTrip d) s = .next t ∧ t.bitAt GLB_ACCESS_STATUS 0 = true ∧
        t = { s with regs := t.regs, flagged := true } ∧ s.RegsKept t (accessRegs 0)))) ∧
  (∀ s : State,
    (s.nextExpiry = none → exec .chargeExpiry s = .next s) ∧
    (∀ g, s.nextExpiry = some g → s.counting = true →
      exec .chargeExpiry s = .next ({ s with tb := { s.tb with gcc := g } } : State).dropExpired.examine ∧
      (s.ops = [] → exec .chargeExpiry s = .next ({ s with tb := { s.tb with gcc := g } } : State).dropExpired))) ∧
  (∀ (a : Asn) (s : State) (o : Op) (g : Nat), s.op? a = some o → o.candSince = some g →
    (o.phase = .waiting → o.never = false → o.holding = false → g + (s.reg NRG_HOLD_AFTER).toNat * usSteps ≤ s.now →
      ∃ t, exec (.candidateHolding a) s = .next t ∧ t.op? a = some { o with holding := true } ∧ t.bitAt NRG_EVENTS 5 = true ∧
        t = { s with regs := t.regs, ops := t.ops } ∧ s.RegsKept t [NRG_EVENTS]) ∧
    (o.phase ≠ .waiting ∨ o.never = true ∨ o.holding = true → exec (.candidateHolding a) s = .next s)) ∧
  (∀ (rails : List Nat) (units : List (Nat × Nat)) (s : State), rails.length = 6 →
    (∀ g, s.cfg.active = some g → ∀ e ∈ g.sites, e.site < 256) →
    ∃ t, exec (.monitorSample rails units) s = .next t ∧ t.ops = s.ops ∧ t.store = s.store ∧ t.cfg = s.cfg ∧
      ∀ r, r < 6 →
        let old := Map.get monDefault s.gov.samples r
        let l := (old ++ [rails.getD r 0]).drop (old.length - 9)
        Map.get monDefault t.gov.samples r = l ∧ t.reg (NRG_R_MEAS_MW r) = BitVec.ofNat 32 (l.sum / l.length) ∧
        (∀ m, s.limits r = some m → t.gov.railOver.contains r = decide (m.peak * l.length < l.sum) ∧
          (s.gov.railOver.contains r = false → m.peak * l.length < l.sum → t.bitAt NRG_EVENTS 2 = true ∧
            (t.reg (NRG_R_OVER r)).toNat = min ((s.reg (NRG_R_OVER r)).toNat + 1) (2 ^ 32 - 1)) ∧
          (s.gov.railOver.contains r = true ∨ l.sum ≤ m.peak * l.length → t.reg (NRG_R_OVER r) = s.reg (NRG_R_OVER r))))

/-- Each micro-word has its effect, counts and moves PC, or faults; waits, traps and the end of a routine (R429, R431, R433, R434, R435, R438, R439, R443, R445, R447, R448, R450). -/
def Obligations.MicroWordsExecute : Prop :=
(∀ (m : Nat) (upsets : List (Nat × BitVec 128)) (s : State), m < 17 →
    exec (.microWord m upsets) s = exec (.microWord m []) (s.upsetStore m upsets)) ∧
  (∀ (m : Nat) (s : State) (a : Asn) (o : Op) (w : Nat), m < 17 → s.msqRuns m = true →
    (s.msq m).asn = some a → s.op? a = some o → (s.msq m).wait = none →
    fetchWord (s.storeAt m (s.msqPc m)) = .clean w →
    let c := Instr.microWord m []
    let pc := s.msqPc m
    let u := s.msq m
    let va := s.reg (MSQ_G m (mwRa w))
    let vb := s.reg (MSQ_G m (mwRb w))
    let imm : Word := BitVec.ofNat 32 (mwImm w)
    let cnt := s.reg (MSQ_CNT m (mwLc w))
    let goes := fun (next : Nat) (l : List Nat) (more : State → Prop) => ∃ v : State, exec c s = .next ((v.signal m w).takeTrap m) ∧
      v.msqPc m = next ∧ v.msqWords m = min (s.msqWords m + 1) (2 ^ 48 - 1) ∧ more v ∧
      v = { s with regs := v.regs, msqs := v.msqs, ops := v.ops } ∧
      s.RegsKept v (MSQ_PC m :: MSQ_WORDS_LO m :: MSQ_WORDS_HI m :: l)
    let faults := fun (code reason : Nat) => ∃ t, exec c s = .next t ∧ (t.reg (MSQ_FAULT m)).toNat = pc + 65536 * code ∧
      t.bitAt (MSQ_EVENTS m) 2 = true ∧ t.store = s.store ∧ t.cfg = s.cfg ∧
      (s.bitAt (MSQ_STATUS m) 5 = false → (t.msq m).deferred = [] ∧
        (u.entry.unwind = 0 → t.msqRuns m = false ∧ t.Ended o 9 reason s.now (pc + 65536 * code)) ∧
        (u.entry.unwind ≠ 0 → u.entry.unwind < 8192 → t.msqPc m = u.entry.unwind ∧ t.bitAt (MSQ_STATUS m) 5 = true ∧
          (t.msq m).unwindSince = some s.now ∧ (t.msq m).ending = some (9, reason, pc + 65536 * code)))
    let waits := fun (kind arg : Nat) => (pcOk (pc + 1) = true → ∃ t, exec c s = .next t ∧ (t.msq m) = { u with wait := some (kind, arg) } ∧
      t.bitAt (MSQ_STATUS m) 2 = true ∧ t = { s with regs := t.regs, msqs := t.msqs } ∧ s.RegsKept t [MSQ_STATUS m])
    let reads := fun (at_ : Nat) => (msqAddrOk m at_ = false → faults 3 3) ∧
      (msqAddrOk m at_ = true → pcOk (pc + 1) = true → ∃ v : State, exec c s = .next ((v.signal m w).takeTrap m) ∧
        v.reg (MSQ_G m (mwRd w)) = ((s.setPc m (pc + 1)).burstRead (msqPath m) (msqFull m at_) (msqFull m at_)).rdata)
    let writes := fun (at_ : Nat) (v : Word) => (msqAddrOk m at_ = false → faults 3 3) ∧
      (msqAddrOk m at_ = true →
        (s.msqDepth m = 0 → s.msqOwns m at_ = false → msqFull m at_ ≠ MSQ_TRAP_EN m → faults 7 4) ∧
        (s.msqDepth m ≠ 0 → s.msqOwns m at_ = true → 32 ≤ u.deferred.length → faults 5 3) ∧
        (pcOk (pc + 1) = true → s.msqDepth m ≠ 0 → s.msqOwns m at_ = true → u.deferred.length < 32 →
          goes (pc + 1) [MSQ_DEFER_LEVEL m] (fun t => (t.msq m).deferred = u.deferred ++ [(msqFull m at_, v)])) ∧
        (pcOk (pc + 1) = true → (s.msqDepth m = 0 ∧ (s.msqOwns m at_ = true ∨ msqFull m at_ = MSQ_TRAP_EN m)) ∨
            (s.msqDepth m ≠ 0 ∧ s.msqOwns m at_ = false) →
          exec c s = .next ((((((s.setPc m (pc + 1)).msqPut m (msqFull m at_) v)).countWord m).signal m w).takeTrap m)))
    (pcOk (pc + 1) = true →
      (mwOp w = 0 → goes (pc + 1) [] (fun _ => True)) ∧
      (mwOp w = 1 → goes (pc + 1) [MSQ_G m (mwRd w)] (fun v => v.reg (MSQ_G m (mwRd w)) = imm ∧ (v.msq m).flags = u.flags)) ∧
      (mwOp w = 2 ∨ mwOp w = 3 → let b := if mwOp w = 2 then vb else imm
        goes (pc + 1) [MSQ_G m (mwRd w)] (fun v => v.reg (MSQ_G m (mwRd w)) = va + b ∧
          bit (v.msq m).flags 0 = (va + b == 0) ∧ bit (v.msq m).flags 1 = (va + b).msb ∧
          bit (v.msq m).flags 2 = decide (2 ^ 32 ≤ va.toNat + b.toNat) ∧
          bit (v.msq m).flags 3 = decide (va.toInt + b.toInt ≠ (va + b).toInt))) ∧
      (mwOp w = 4 → goes (pc + 1) [MSQ_G m (mwRd w)] (fun v => v.reg (MSQ_G m (mwRd w)) = va - vb ∧
          bit (v.msq m).flags 0 = (va - vb == 0) ∧ bit (v.msq m).flags 1 = (va - vb).msb ∧
          bit (v.msq m).flags 2 = decide (vb.toNat ≤ va.toNat) ∧
          bit (v.msq m).flags 3 = decide (va.toInt - vb.toInt ≠ (va - vb).toInt))) ∧
      (5 ≤ mwOp w → mwOp w ≤ 9 →
        let r := if mwOp w = 5 then va &&& vb else if mwOp w = 6 then va ||| vb else if mwOp w = 7 then va ^^^ vb
          else if mwOp w = 8 then va <<< (mwImm w % 32) else va >>> (mwImm w % 32)
        goes (pc + 1) [MSQ_G m (mwRd w)] (fun v => v.reg (MSQ_G m (mwRd w)) = r ∧ bit (v.msq m).flags 0 = (r == 0) ∧
          bit (v.msq m).flags 1 = r.msb ∧ bit (v.msq m).flags 2 = bit u.flags 2 ∧ bit (v.msq m).flags 3 = bit u.flags 3)) ∧
      (mwOp w = 0x13 → cnt.toNat ≤ 1 → goes (pc + 1) [MSQ_CNT m (mwLc w)] (fun v => v.reg (MSQ_CNT m (mwLc w)) = 0)) ∧
      (mwOp w = 0x14 → goes (pc + 1) [MSQ_CNT m (mwLc w)] (fun v => v.reg (MSQ_CNT m (mwLc w)) = imm)) ∧
      (mwOp w = 0x18 → goes (pc + 1) [MSQ_EVFLAGS m] (fun v =>
        v.reg (MSQ_EVFLAGS m) = s.reg (MSQ_EVFLAGS m) &&& ~~~ BitVec.ofNat 32 (mwImm w % 65536))) ∧
      (mwOp w = 0x10 ∨ mwOp w = 0x11 → s.condHolds m w = some false → goes (pc + 1) [] (fun v => (v.msq m).stack = u.stack))) ∧
    (pcOk (mwTarget w) = true →
      (mwOp w = 0x10 → s.condHolds m w = some true → goes (mwTarget w) [] (fun v => (v.msq m).stack = u.stack)) ∧
      (mwOp w = 0x11 → s.condHolds m w = some true → u.stack.length < 8 →
        goes (mwTarget w) [MSQ_STATUS m] (fun v => (v.msq m).stack = (pc + 1) :: u.stack)) ∧
      (mwOp w = 0x13 → 1 < cnt.toNat → goes (mwTarget w) [MSQ_CNT m (mwLc w)] (fun v => v.reg (MSQ_CNT m (mwLc w)) = cnt - 1))) ∧
    (mwOp w = 0x11 → s.condHolds m w = some true → 8 ≤ u.stack.length → faults 1 3) ∧
    (mwOp w = 0x12 → u.stack = [] → faults 2 3) ∧
    (∀ r rest, mwOp w = 0x12 → u.stack = r :: rest → pcOk r = true → goes r [MSQ_STATUS m] (fun v => (v.msq m).stack = rest)) ∧
    (mwOp w = 0 → pcOk (pc + 1) = false → faults 6 3) ∧
    (mwOp w = 0x15 → waits 1 (s.now + mwImm w)) ∧ (mwOp w = 0x16 → waits 1 (vb.toNat * 2 ^ 32 + va.toNat)) ∧
    (mwOp w = 0x17 → waits 2 (mwImm w % 65536)) ∧
    (mwOp w = 0x19 → s.msqDepth m = 0 ∨ u.stack.length ≠ (s.reg (frameAddr m (s.msqDepth m) + 4)).field 7 4 → faults 4 3) ∧
    (mwOp w = 0x0A → reads (mwRoff w)) ∧ (mwOp w = 0x0B → reads ((mwRoff w + va.toNat) % 2 ^ 32)) ∧
    (mwOp w = 0x0C → writes (mwRoff w) vb) ∧ (mwOp w = 0x0D → writes ((mwRoff w + va.toNat) % 2 ^ 32) vb) ∧
    (mwOp w = 0x0E → writes (mwRoff w) imm) ∧
    (mwOp w = 0x1A → s.bitAt (MSQ_STATUS m) 5 = false → u.deferred = [] → mwSig w = false →
      let detail := vb.toNat * 2 ^ 32 + va.toNat
      (mwField w 1 0 = 0 → ∃ t, exec c s = .next t ∧ t.Ended o 0 0 s.now detail ∧ t.msqRuns m = false) ∧
      (mwField w 1 0 = 1 → ∃ t, exec c s = .next t ∧ t.Ended o 1 0 s.now detail ∧ t.msqRuns m = false) ∧
      (mwField w 1 0 = 2 → within 0x40 0x7F (mwField w 15 8) = true → ∃ t, exec c s = .next t ∧
        t.Ended o 9 (mwField w 15 8) s.now detail ∧ t.msqRuns m = false))) ∧
  (∀ (m : Nat) (s : State), m < 17 →
    let pc := s.msqPc m
    (s.msqRuns m = false ∨ (s.msq m).asn = none ∨ (s.msq m).wait.isSome = true → exec (.microWord m []) s = .next s) ∧
    (∀ a o, s.msqRuns m = true → (s.msq m).asn = some a → s.op? a = some o → (s.msq m).wait = none →
      fetchWord (s.storeAt m pc) = .bad → ∃ t, exec (.microWord m []) s = .next t ∧
        (t.reg (MSQ_ECC_UNCORR m)).toNat = min ((s.reg (MSQ_ECC_UNCORR m)).toNat + 1) (2 ^ 32 - 1) ∧
        t.bitAt (MSQ_EVENTS m) 2 = true ∧ t.Ended o 0xE 0 s.now pc ∧ t.msqRuns m = false ∧ (t.msq m).restoring = true ∧
        (t.msq m).deferred = [] ∧
        (customerBase ≤ pc → (t.msq m).store = ((s.msq m).image.map imageStore).getD [] ∧
          (t.msq m).flips = (s.msq m).flips.filter (fun e => decide (e.1 < customerBase))) ∧
        (pc < customerBase → (t.msq m).store = (s.msq m).store ∧
          (t.msq m).flips = (s.msq m).flips.filter (fun e => decide (customerBase ≤ e.1))) ∧ t.store = s.store) ∧
    (∀ w, s.msqRuns m = true → (s.msq m).asn.isSome = true → (s.msq m).wait = none → fetchWord (s.storeAt m pc) = .corrected w →
      exec (.microWord m []) s = .next ((s.countCorrected m pc w).runWord m w) ∧ (s.countCorrected m pc w).storeAt m pc = storedWord w)) ∧
  (∀ (m : Nat) (s : State), m < 17 →
    let ends := ∃ v : State, exec (.waitEnd m) s = .next ((v.signal m ((s.writtenAt m (s.msqPc m)).toNat % 2 ^ 120)).takeTrap m) ∧
      v.msqPc m = (s.msqPc m + 1) % 8192 ∧ (v.msq m).wait = none ∧ v.bitAt (MSQ_STATUS m) 2 = false ∧
      v.msqWords m = min (s.msqWords m + 1) (2 ^ 48 - 1) ∧ v = { s with regs := v.regs, msqs := v.msqs, ops := v.ops }
    ((s.msq m).wait = none → exec (.waitEnd m) s = .next s) ∧
    (∀ g, (s.msq m).wait = some (1, g) → g ≤ s.now → ends) ∧
    (∀ mask, (s.msq m).wait = some (2, mask) → (s.reg (MSQ_EVFLAGS m)).toNat &&& mask = 0 → exec (.waitEnd m) s = .next s) ∧
    (∀ mask, (s.msq m).wait = some (2, mask) → (s.reg (MSQ_EVFLAGS m)).toNat &&& mask ≠ 0 → ends)) ∧
  (∀ (m : Nat) (s : State), m < 17 →
    (m < 16 → s.islandMode m ≠ 0 → ∃ t, exec (.msqTrap m) s = .next t ∧ t.bitAt GLB_ACCESS_STATUS 0 = true ∧
      t = { s with regs := t.regs, flagged := true } ∧ s.RegsKept t (accessRegs 0)) ∧
    (m = 16 ∨ s.islandMode m = 0 →
      let can := !s.bitAt (MSQ_STATUS m) 5 && (s.msq m).entry.trap != 0 && decide (s.msqDepth m < 2)
      (s.msqRuns m = false → ∃ t, exec (.msqTrap m) s = .next t ∧ t.fld (MSQ_STATUS m) 31 28 = 1 ∧ s.OnlyRegs t [MSQ_STATUS m]) ∧
      (s.msqRuns m = true → can = false → ∃ t, exec (.msqTrap m) s = .next t ∧ t.fld (MSQ_STATUS m) 31 28 = 0 ∧
        t.msq m = { s.msq m with hostCause := true } ∧ t = { s with regs := t.regs, msqs := t.msqs } ∧
        s.RegsKept t [MSQ_STATUS m]) ∧
      (s.msqRuns m = true → can = true → (s.msq m).entry.trap < 8192 → ∃ t, exec (.msqTrap m) s = .next t ∧
        t.fld (MSQ_STATUS m) 31 28 = 0 ∧ t.msqDepth m = s.msqDepth m + 1 ∧ t.msqPc m = (s.msq m).entry.trap ∧
        t.bitAt (MSQ_EVENTS m) 0 = true ∧ (∀ i, i < 16 → t.reg (frameAddr m (s.msqDepth m + 1) + 4 * i) = s.frameWord m 16 i) ∧
        t.msq m = { s.msq m with wait := none, hostCause := false } ∧ t = { s with regs := t.regs, msqs := t.msqs })))

/-- Control-store images are loaded, restored and scrubbed; an unwind that takes too long ends (R61, R429, R430, R449, R455, R458, R459, R555). -/
def Obligations.ControlStoresAreLoadedAndRestored : Prop :=
(∀ s : State,
    (s.sec.load.isSome = true → ∃ t, exec .msqLoad s = .next t ∧ t.fld MSQ_LOAD_RESULT 7 0 = 9 ∧ s.OnlyRegs t [MSQ_LOAD_RESULT]) ∧
    (s.sec.load = none → s.fld MSQ_LOAD_TARGETS 16 0 = 0 → ∃ t, exec .msqLoad s = .next t ∧ t.bitAt GLB_ACCESS_STATUS 0 = true ∧
      t = { s with regs := t.regs, flagged := true } ∧ s.RegsKept t (accessRegs 0)) ∧
    (s.sec.load = none → s.fld MSQ_LOAD_TARGETS 16 0 ≠ 0 →
      let r := if s.keyBusy then (9, 0) else s.loadCheck s.csImg (s.fld MSQ_LOAD_TARGETS 16 0)
      (r.1 ≠ 0 → ∃ t, exec .msqLoad s = .next t ∧ t.reg MSQ_LOAD_RESULT = BitVec.ofNat 32 (r.1 + 65536 * r.2) ∧
        t.bitAt (MSQ_EVENTS 16) 5 = true ∧ s.OnlyRegs t [MSQ_LOAD_RESULT, MSQ_EVENTS 16]) ∧
      (r.1 = 0 → ∃ t, exec .msqLoad s = .next t ∧ t.reg MSQ_LOAD_RESULT = 256 ∧
        t.sec = { s.sec with load := some (s.fld MSQ_LOAD_TARGETS 16 0, csImageOf s.csImg) } ∧
        t = { s with regs := t.regs, sec := t.sec } ∧ s.RegsKept t [MSQ_LOAD_RESULT])) ∧
    (s.sec.load = none → exec .msqLoadDone s = .next s) ∧
    (∀ b im, s.sec.load = some (b, im) → ∃ t, exec .msqLoadDone s = .next t ∧ t.reg MSQ_LOAD_RESULT = 0 ∧
      (t.reg MSQ_LOAD_IMAGE_ID).toNat = im.imageId % 2 ^ 32 ∧ t.bitAt (MSQ_EVENTS 16) 5 = true ∧
      t.sec = { s.sec with load := none, csVersion := some im.version } ∧
      (∀ m, m < 17 → t.msq m = if bit b m then { s.msq m with image := some im, store := imageStore im, flips := (s.msq m).flips.filter (fun e => decide (e.1 < customerBase)) } else s.msq m) ∧
      t = { s with regs := t.regs, msqs := t.msqs, sec := t.sec } ∧
      s.RegsKept t [MSQ_LOAD_RESULT, MSQ_LOAD_IMAGE_ID, MSQ_EVENTS 16])) ∧
  (∀ (m : Nat) (s : State), m < 17 →
    (∀ upsets,
      let z := s.upsetStore m upsets
      let as := ((z.msq m).flips.map Prod.fst).eraseDups
      let fixed := as.filter (fun a => match fetchWord (z.storeAt m a) with
        | .corrected _ => true
        | _ => false)
      let bad := as.filter (fun a => fetchWord (z.storeAt m a) == .bad)
      let count := fun (t : State) (n : Nat) =>
        (t.reg (MSQ_ECC_CORR m)).toNat = min ((s.reg (MSQ_ECC_CORR m)).toNat + fixed.length) (2 ^ 32 - 1) ∧
        (fixed ≠ [] → t.bitAt (MSQ_EVENTS m) 1 = true) ∧
        (t.reg (MSQ_ECC_UNCORR m)).toNat = min ((s.reg (MSQ_ECC_UNCORR m)).toNat + n) (2 ^ 32 - 1) ∧
        (n ≠ 0 → t.bitAt (MSQ_EVENTS m) 2 = true)
      let sound := fun (t : State) => count t 0 ∧ (∀ a ∈ as, ∀ w, fetchWord (z.storeAt m a) = .corrected w → t.storeAt m a = storedWord w) ∧
        (∀ a, a ∉ fixed → t.storeAt m a = z.storeAt m a) ∧ t = { s with regs := t.regs, msqs := t.msqs } ∧
        s.RegsKept t [MSQ_ECC_CORR m, MSQ_EVENTS m]
      (bad = [] → ∃ t, exec (.controlStoreScrub m upsets) s = .next t ∧ sound t ∧ (t.msq m).restoring = (s.msq m).restoring) ∧
      (∀ a, bad.min? = some a → ∃ t, exec (.controlStoreScrub m upsets) s = .next t ∧ count t 1 ∧ (t.msq m).restoring = true ∧
        (a < customerBase → ∀ x, x < customerBase → t.storeAt m x = s.writtenAt m x) ∧
        (customerBase ≤ a → ∀ x, customerBase ≤ x → t.storeAt m x = Map.get csDefault (((s.msq m).image.map imageStore).getD []) x) ∧
        t = { s with regs := t.regs, msqs := t.msqs } ∧ s.RegsKept t [MSQ_ECC_CORR m, MSQ_ECC_UNCORR m, MSQ_EVENTS m]) ∧
      ((s.msq m).restoring = false → exec (.controlStoreRestoreDone m upsets) s = .next s) ∧
      ((s.msq m).restoring = true → bad = [] → ∃ t, exec (.controlStoreRestoreDone m upsets) s = .next t ∧ sound t ∧
        (t.msq m).restoring = false) ∧
      ((s.msq m).restoring = true → bad ≠ [] → m < 16 → ∃ t, exec (.controlStoreRestoreDone m upsets) s = .next t ∧ count t 1 ∧
        t.bitAt CFG_STATUS 3 = true ∧ (t.msq m).restoring = false ∧ t.isFaulted 6 m = true) ∧
      ((s.msq m).restoring = true → bad ≠ [] → m = 16 → s.isFaulted 7 16 = false →
        ∃ t, exec (.controlStoreRestoreDone m upsets) s = .next t ∧ count t 1 ∧
        t.bitAt (MSQ_STATUS 16) 7 = true ∧ (t.msq 16).restoring = false ∧ t.isFaulted 7 16 = true)) ∧
    ((s.msq m).unwindSince = none → exec (.unwindTimeout m) s = .next s) ∧
    (∀ g a o st r d, (s.msq m).unwindSince = some g → g + s.fld (MSQ_UNWIND_LIMIT m) 15 0 * 800 ≤ s.now →
      (s.msq m).ending = some (st, r, d) → (s.msq m).asn = some a → s.op? a = some o → ∃ t, exec (.unwindTimeout m) s = .next t ∧
        t.bitAt (MSQ_EVENTS m) 4 = true ∧ t.msqRuns m = false ∧ (t.msq m).asn = none ∧ t.store = s.store ∧
        t.Ended o st 5 s.now ((if st = 4 ∨ st = 6 then s.msqWords m else d) % 2 ^ 64)))

/-- A calibration passes its quiet checks and passes, agrees, is stored and applied, or is rejected; maintenance activities ask and end (R464, R465, R469, R470, R471, R472, R473, R474, R479, R480, R483, R484). -/
def Obligations.CalibrationsRunAndMaintenanceWaits : Prop :=
(∀ (u : Nat) (s : State), u < 18 →
    let x := s.cal u
    let ops_ := fun (t : State) (status reason detail : Nat) => ∀ a o, x.asn = some a → s.op? a = some o →
      t.Ended o status reason t.now (detail % 2 ^ 64)
    let rejects := fun (c : Instr) (status reason : Nat) (d : Nat → Prop) => ∃ t detail, exec c s = .next t ∧ d detail ∧
      (t.reg (MNT_U_REJECTS u)).toNat = min ((s.reg (MNT_U_REJECTS u)).toNat + 1) (2 ^ 32 - 1) ∧ t.bitAt MNT_EVENTS 2 = true ∧
      t.fld (MNT_U_STATUS u) 7 0 = status ∧ t.fld (MNT_U_STATUS u) 15 8 = reason ∧ t.bitAt (MNT_U_STATUS u) 17 = x.auto ∧
      (t.cal u).st = 0 ∧ (t.cal u).saved = [] ∧ (t.cal u).live = x.live ∧ (t.cal u).slots = x.slots ∧
      ops_ t status reason detail ∧ t.store = s.store ∧ t.cfg = s.cfg
    (∀ tNow : Int,
      let moved := decide (8 * s.fld (MNT_U_THRESH u) 7 0 <
        5 * (signed 16 (unsigned 16 tNow) - signed 16 (s.fld (MNT_U_TREF u) 15 0)).natAbs)
      let off := s.islandMode (if u = 17 then 25 else u) = 2
      (off → exec (.temperatureCheck u tNow) s = .next s) ∧
      (¬ off → moved = true → s.calDue u = false → ∃ t, exec (.temperatureCheck u tNow) s = .next t ∧ t.calDue u = true ∧
        t.bitAt MNT_EVENTS 1 = true ∧ (t.reg (MNT_U_TEMP u)).toNat = unsigned 16 tNow ∧
        s.Logged t 0x0504 u (unsigned 32 (signed 16 (unsigned 16 tNow))) ∧ t.store = s.store ∧ t.ops = s.ops) ∧
      (¬ off → moved = false ∨ s.calDue u = true → ∃ t, exec (.temperatureCheck u tNow) s = .next t ∧
        (t.reg (MNT_U_TEMP u)).toNat = unsigned 16 tNow ∧ s.OnlyRegs t [MNT_U_TEMP u])) ∧
    (let o := s.autoOp u
      let rs := (s.cfg.active.map (fun g => calRes g u)).getD []
      let prio := s.fld MNT_CAL_CFG 6 4
      let before := fun (w : Op) => w.phase == .waiting && (decide (prio < w.eff) || (w.eff == prio && decide (w.asn < x.dueAsn)))
      let ahead := s.ops.any (fun w => before w && ((s.resources w).any rs.contains || (w.holding &&
        (ledgersOf (s.opResvs w)).any (fun l => !s.fitsLedger (s.opResvs w) l && (ledgersOf (s.opResvs o)).contains l))))
      let may := s.bitAt MNT_CAL_CFG 0 && s.calDue u && x.st == 0 && x.asn.isNone && decide (x.retryAt ≤ s.now) && s.dispatching &&
        s.resFree (autoAsn u) rs && !ahead && (decide (16 ≤ u) || s.calStartCheck u == 0) &&
        (s.islandsOf o).all (fun i => s.islandMode i == 0 && !s.stale i) && !((s.unitsOf o).any s.cont.faulted.contains)
      let m := s.mntAsk 6 u
      let go := may = true ∧ m.mntRuns 6 u = true ∧ s.bitAt NRG_CTRL 0 = false ∧ m.fits (m.opResvs o) = true
      (may = false → exec (.autoCalStart u) s = .next s) ∧
      (may = true → ¬ go → exec (.autoCalStart u) s = .next m) ∧
      (go → m.calStartCheck u = 0 →
        ∃ t, exec (.autoCalStart u) s = .next t ∧ (t.cal u).st = 1 ∧ (t.cal u).auto = true ∧ (t.cal u).asn = none ∧
          (t.cal u).parts = allParts u ∧ (t.cal u).due = s.now + quietSteps ∧ t.gov.resvs = s.gov.resvs ++ m.opResvs o ∧
          t.mnt = m.mnt ∧ t.ops = s.ops ∧ t.store = s.store) ∧
      (go → m.calStartCheck u ≠ 0 →
        ∃ t, exec (.autoCalStart u) s = .next t ∧ (t.cal u).st = 0 ∧ t.fld (MNT_U_STATUS u) 7 0 = 9 ∧
          t.fld (MNT_U_STATUS u) 15 8 = m.calStartCheck u % 256 ∧ t.bitAt (MNT_U_STATUS u) 17 = true ∧ t.bitAt MNT_EVENTS 2 = true ∧
          (t.reg (MNT_U_REJECTS u)).toNat = min ((s.reg (MNT_U_REJECTS u)).toNat + 1) (2 ^ 32 - 1) ∧ t.mntRuns 6 u = false ∧
          (t.cal u).retryAt = s.now + s.fld MNT_CAL_CFG 31 16 * 800000 ∧ t.ops = s.ops ∧ t.store = s.store)) ∧
    (∀ samples tNow, x.st = 1 ∨ x.st = 4 →
      (∀ st, s.calStopped u = some st → rejects (.calQuietCheck u samples tNow) (st % 256) 0 (fun d => d = s.calMark u)) ∧
      (s.calStopped u = none → x.due ≤ s.now →
        (∀ c, s.noisyChannel u samples = some c → rejects (.calQuietCheck u samples tNow) 9 3
          (fun d => d = c % 1024 + (if x.st = 4 then 1024 else 0))) ∧
        (s.noisyChannel u samples = none → exec (.calQuietCheck u samples tNow) s = .next ((s.showTemp u tNow).setCal u
          (if x.st = 1 then { x with st := 2, t1 := tNow, due := s.now + passSteps u x.parts } else { x with st := 5 }))))) ∧
    (∀ samples tNow, x.st ≠ 1 → x.st ≠ 4 → exec (.calQuietCheck u samples tNow) s = .next s) ∧
    (∀ tNow values, x.st = 2 ∨ x.st = 3 →
      (∀ st, s.calStopped u = some st → rejects (.calPassEnd u tNow values) (st % 256) 0 (fun d => d = s.calMark u)) ∧
      (s.calStopped u = none → x.due ≤ s.now → exec (.calPassEnd u tNow values) s = .next
        (((s.showTemp u tNow).setCal u (if x.st = 2 then
            { x with st := 3, pass1 := values.filter (fun e => bit x.parts (valPart e.1)), due := s.now + passSteps u x.parts }
          else { x with st := 4, pass2 := values.filter (fun e => bit x.parts (valPart e.1)), t2 := tNow, due := s.now + quietSteps })
          ).calProgress u (x.st - 1)))) ∧
    (∀ tNow values, x.st ≠ 2 → x.st ≠ 3 → exec (.calPassEnd u tNow values) s = .next s) ∧
    (∀ tNow, (x.st ≠ 5 → exec (.calAgreementTest u tNow) s = .next s) ∧
      (∀ st, x.st = 5 → s.calStopped u = some st → rejects (.calAgreementTest u tNow) (st % 256) 0 (fun d => d = s.calMark u)) ∧
      (x.st = 5 → s.calStopped u = none →
        let far := decide (4 * s.fld (MNT_U_THRESH u) 7 0 < 5 * (tNow - x.t1).natAbs)
        (∀ e, s.disagreement u x = some e → rejects (.calAgreementTest u tNow) 0xC
          (if valKind e.1 = 0 then 0x13 else if 16 ≤ u then 0x14 else 0x10 + valPart e.1) (fun d => d % 256 = valCh e.1)) ∧
        (s.disagreement u x = none → far = true → rejects (.calAgreementTest u tNow) 9 4 (fun d => d = 0)) ∧
        (s.disagreement u x = none → far = false → ∃ t, exec (.calAgreementTest u tNow) s = .next t ∧ (t.cal u).st = 6 ∧
          (t.cal u).slot (s.freeSlot u) = {
            gen := x.nextGen, parts := x.parts, time := 0, values := [], commit := false
            tRef := if x.parts = allParts u then unsigned 16 x.t2 else s.fld (MNT_U_TREF u) 15 0 } ∧
          (t.cal u).slot (1 - s.freeSlot u) = x.slot (1 - s.freeSlot u) ∧ (t.cal u).live = x.live ∧
          t = { s with regs := t.regs, cals := t.cals } ∧ s.RegsKept t [MNT_U_TEMP u]))) ∧
    (x.st ≠ 6 → exec (.calSlotCommit u) s = .next s) ∧
    (x.st = 6 → ∃ t, exec (.calSlotCommit u) s = .next t ∧ (t.cal u).st = 7 ∧ (t.cal u).due = s.now + 800 ∧
      (t.cal u).slot (s.freeSlot u) = { x.slot (s.freeSlot u) with
        time := s.aon.rtcSec % 2 ^ 48, values := mergeValues (x.live.getD []) (newValues x), commit := true } ∧
      t.lifetime 15 = min (s.lifetime 15 + 1) (2 ^ 64 - 1) ∧
      t = { s with cals := t.cals, aon := { s.aon with lt := t.aon.lt } }) ∧
    (x.st ≠ 7 → exec (.calApplyTick u) s = .next s) ∧
    (x.st = 7 → x.due ≤ s.now → ∃ t, exec (.calApplyTick u) s = .next t ∧ (t.cal u).st = 8 ∧ (t.cal u).due = s.now + 8000 ∧
      (t.cal u).live = some (x.slot (s.freeSlot u)).values ∧ (t.cal u).saved = [] ∧ t.bitAt MNT_CAL_VALID u = true ∧
      t.reg (MNT_U_TREF u) = BitVec.ofNat 32 (x.slot (s.freeSlot u)).tRef ∧
      t.reg (MNT_U_GEN u) = BitVec.ofNat 32 (x.slot (s.freeSlot u)).gen ∧
      t.reg64 (MNT_U_TIME_LO u) (MNT_U_TIME_HI u) = (x.slot (s.freeSlot u)).time % 2 ^ 64 ∧
      t.fld (MNT_U_STATUS u) 16 16 = s.freeSlot u % 2 ∧ (x.parts = allParts u → t.calDue u = false) ∧
      (u < 16 → ∀ j ∈ unusable x, t.isFaulted 1 (32 * u + j) = true) ∧ t.store = s.store ∧ t.cfg = s.cfg) ∧
    (x.st ≠ 8 → exec (.calRunEnd u) s = .next s) ∧
    (x.st = 8 → x.due ≤ s.now →
      let st := (s.calStopped u).getD 0
      ∃ t, exec (.calRunEnd u) s = .next t ∧ (t.cal u).st = 0 ∧ (t.cal u).asn = none ∧ (t.cal u).live = x.live ∧
        t.fld (MNT_U_STATUS u) 7 0 = st % 256 ∧ t.fld (MNT_U_STATUS u) 15 8 = 0 ∧ ops_ t st 0 (s.calDetail u) ∧
        t.store = s.store ∧ t.cfg = s.cfg)) ∧
  (∀ (noWait : Bool) (s : State), ∀ e ∈ [(2, Instr.ctrain noWait), (3, Instr.scrub noWait)],
    let busy := s.mntRuns e.1 0 || s.mntWaits e.1 0
    (busy = true → ∃ t, exec e.2 s = .next t ∧ t.reg MNT_CMD_STATUS = 2 ∧ s.OnlyRegs t [MNT_CMD_STATUS]) ∧
    (busy = false → noWait = true → s.mntConflict e.1 0 = true → ∃ t, exec e.2 s = .next t ∧ t.reg MNT_CMD_STATUS = 1 ∧
      (t.reg MNT_CONFLICTS).toNat = min ((s.reg MNT_CONFLICTS).toNat + 1) (2 ^ 32 - 1) ∧ t.bitAt MNT_EVENTS 0 = true ∧
      s.OnlyRegs t [MNT_CMD_STATUS, MNT_CONFLICTS, MNT_EVENTS]) ∧
    (busy = false → noWait = false ∨ s.mntConflict e.1 0 = false → ∃ t, exec e.2 s = .next t ∧ t.reg MNT_CMD_STATUS = 0 ∧
      t = { s with regs := t.regs, mnt := t.mnt } ∧ s.RegsKept t [MNT_CMD_STATUS] ∧ t.mntRuns e.1 0 = !s.mntConflict e.1 0 ∧
      t.mntWaits e.1 0 = s.mntConflict e.1 0)) ∧
  (∀ s : State,
    (s.fld MNT_SCRUB_PERIOD 15 0 = 0 → exec .scrubTimer s = .next s) ∧
    (∀ e ∈ [(2, Instr.cisternRetraining), (3, Instr.scrubTimer)], e.1 = 2 ∨ s.fld MNT_SCRUB_PERIOD 15 0 ≠ 0 →
      ∃ t, exec e.2 s = .next t ∧ (t.mntRuns e.1 0 = true ∨ t.mntWaits e.1 0 = true) ∧ t = { s with mnt := t.mnt }) ∧
    (∀ kind ix, (kind = 2 ∨ kind = 3 ∨ kind = 4) → s.mntRuns kind ix = true → ∃ t, exec (.maintActivityEnd kind ix) s = .next t ∧
      t.mntRuns kind ix = false ∧ t = { s with mnt := t.mnt } ∧
      (∀ b ∈ s.mnt.running, b.kind ≠ kind ∨ b.ix ≠ ix → t.mntRuns b.kind b.ix = true)) ∧
    (∀ kind ix, (kind ≠ 2 ∧ kind ≠ 3 ∧ kind ≠ 4) ∨ s.mntRuns kind ix = false → exec (.maintActivityEnd kind ix) s = .next s))

/-- Slave transactions, master transfers and general-purpose pins (R313, R314, R538, R564, R567, R568, R569, R570, R571, R573, R574, R576). -/
def Obligations.ServicePortAndGeneralPurposePins : Prop :=
(∀ s : State,
    (s.svc.selLow = true → exec .selFall s = .next s) ∧
    (s.svc.selLow = false → ∃ t, exec .selFall s = .next t ∧ t.svc.selLow = true ∧ t = { s with svc := t.svc } ∧
      t.svc.slave = if s.bitAt SVC_STATUS 1 = false ∧ s.regServed = true then
        some { frames := 0, op := 0, addr := 0, count := 0, reading := false, reply := none, clears := false } else none) ∧
    (s.svc.selLow = false → exec .selRise s = .next s) ∧
    (s.svc.selLow = true → ∃ t, exec .selRise s = .next t ∧ t.svc = { s.svc with selLow := false, slave := none } ∧
      (s.bitAt SVC_STATUS 0 = false → t.bitAt SVC_STATUS 1 = s.bitAt SVC_CFG 0) ∧ t = { s with regs := t.regs, svc := t.svc } ∧
      s.RegsKept t [SVC_STATUS]) ∧
    (∀ a v cont late, s.svc.slave = none → ∀ c ∈ [Instr.svcStatus, .svcRead a, .svcWrite a, .svcBadOp, .svcWriteData v,
      .svcReadContinuation cont late], exec c s = .next s) ∧
    (∀ (x : SlvTx) (a : Nat) (v : Word), s.svc.slave = some x →
      let b : State := { (s.shiftReply x) with flagged := false }
      let y : SlvTx := { x with clears := false }
      let first := [Instr.svcStatus, .svcRead a, .svcWrite a, .svcBadOp]
      let later := [Instr.svcWriteData v, .svcReadContinuation true false, .svcReadContinuation false false]
      b.svc.sent = x.reply.getD s.slvStatus ∧ (x.clears = true → b.fld SVC_STATUS 20 16 = 0) ∧
      (x.frames ≠ 0 → ∀ c ∈ first, exec c s = .next s) ∧ (x.frames = 0 → ∀ c ∈ later, exec c s = .next s) ∧
      (s.inPf = true → ∀ c, (x.frames = 0 ∧ c ∈ first) ∨ (x.frames ≠ 0 ∧ c ∈ later) →
        exec c s = .next { s with svc := { s.svc with sent := s.slvStatus, slave := some { x with frames := x.frames + 1 } } }) ∧
      (s.inPf = false → x.frames = 0 →
        exec .svcStatus s = .next (b.nextFrame { x with op := 0, reply := none, clears := true }) ∧
        exec (.svcRead a) s = .next ((b.burstRead svcPath a (a + 4 * x.count)).nextFrame { y with
          op := 1, addr := a, count := x.count + 1, reading := true
          reply := some (b.burstRead svcPath a (a + 4 * x.count)).rdata }) ∧
        exec (.svcWrite a) s = .next (b.nextFrame { y with
          op := 2, addr := a, reply := some (BitVec.ofNat 32 (0x80000000 + a / 4 % 2 ^ 30)) }) ∧
        (∃ t, exec .svcBadOp s = .next t ∧ t.bitAt SVC_STATUS 20 = true ∧
          t.svc.slave = some { y with frames := 1, op := 3, reply := none })) ∧
      (s.inPf = false → x.frames ≠ 0 →
        (x.op = 2 → exec (.svcWriteData v) s = .next ((b.burstWrite svcPath x.addr (x.addr + 4 * x.count) v).nextFrame { y with
          count := x.count + 1, reply := some v })) ∧
        (x.op = 1 → x.reading = true → exec (.svcReadContinuation true false) s = .next
          ((b.burstRead svcPath x.addr (x.addr + 4 * x.count)).nextFrame { y with
            count := x.count + 1, reply := some (b.burstRead svcPath x.addr (x.addr + 4 * x.count)).rdata })) ∧
        (x.op = 1 → exec (.svcReadContinuation false false) s = .next (b.nextFrame { y with reading := false, reply := none })) ∧
        (x.op = 1 → x.reply.isSome = true → ∃ t, exec (.svcReadContinuation false true) s = .next t ∧ t.svc.sent = s.svc.sent ∧
          (x.clears = false → t.bitAt SVC_STATUS 19 = true) ∧ t.bitAt SVC_EVENTS 2 = true)))) ∧
  (∀ s : State,
    (s.bitAt SVC_STATUS 1 = false → ∃ t, exec .masterStart s = .next t ∧ t.fld SVC_STATUS 31 28 = 2 ∧ s.OnlyRegs t [SVC_STATUS]) ∧
    (s.bitAt SVC_STATUS 1 = true → s.bitAt SVC_STATUS 0 = true → ∃ t, exec .masterStart s = .next t ∧
      t.fld SVC_STATUS 31 28 = 1 ∧ s.OnlyRegs t [SVC_STATUS]) ∧
    (s.bitAt SVC_STATUS 1 = true → s.bitAt SVC_STATUS 0 = false → ∃ t, exec .masterStart s = .next t ∧
      t.fld SVC_STATUS 31 28 = 0 ∧ t.bitAt SVC_STATUS 0 = true ∧ t.svc = { s.svc with
        left := if s.bitAt SVC_CFG 2 then 1 else s.fld SVC_M_COUNT 15 0
        chain := s.bitAt SVC_CFG 2, lastFrame := none, paused := none } ∧
      t = { s with regs := t.regs, svc := t.svc } ∧ s.RegsKept t [SVC_STATUS]) ∧
    (∃ t, exec .masterStop s = .next t ∧ t.svc = { s.svc with left := if s.svc.paused = none then min s.svc.left 1 else 0 } ∧
      t.fld SVC_STATUS 31 28 = 0 ∧ t = { s with regs := t.regs, svc := t.svc } ∧ s.RegsKept t [SVC_STATUS]) ∧
    (∀ received,
      (s.bitAt SVC_STATUS 0 = false ∨ s.svc.left = 0 ∨ s.svc.paused.isSome = true → exec (.masterFrame received) s = .next s) ∧
      (s.bitAt SVC_STATUS 0 = true → s.svc.left ≠ 0 → s.svc.paused = none →
        (s.svc.chain = true → ∃ t, exec (.masterFrame received) s = .next t ∧
          t.chainBits = received % 2 ^ s.chainLen + s.chainBits / 2 ^ s.chainLen * 2 ^ s.chainLen ∧
          t.svc = { s.svc with left := s.svc.left - 1, lastFrame := some (s.chainBits % 2 ^ s.chainLen) } ∧
          t = { s with regs := t.regs, svc := t.svc } ∧ s.RegsKept t ((List.range 128).map SVC_CHAIN)) ∧
        (s.svc.chain = false →
          let n := s.fld SVC_CFG 13 8
          ∃ t, exec (.masterFrame received) s = .next t ∧ t.svc.left = s.svc.left - 1 ∧ t.svc.tx = s.svc.tx.drop 1 ∧
            (∀ f r, s.svc.tx = f :: r → t.svc.lastFrame = some (f % 2 ^ n) ∧ t.regs = s.regs) ∧
            (s.svc.tx = [] → t.svc.lastFrame = some (s.svc.lastFrame.getD 0) ∧ t.bitAt SVC_EVENTS 1 = true ∧
              (t.reg SVC_M_UNDERRUN).toNat = min ((s.reg SVC_M_UNDERRUN).toNat + 1) (2 ^ 32 - 1)) ∧
            (s.svc.rx.length < 16 → t.svc.rx = s.svc.rx ++ [received % 2 ^ n] ∧ t.svc.paused = none) ∧
            (16 ≤ s.svc.rx.length → t.svc.rx = s.svc.rx ∧ t.svc.paused = some (received % 2 ^ n)) ∧
            t = { s with regs := t.regs, svc := t.svc } ∧ s.RegsKept t [SVC_M_UNDERRUN, SVC_EVENTS]))) ∧
    (s.bitAt SVC_STATUS 0 = false ∨ s.svc.left ≠ 0 ∨ s.svc.paused.isSome = true → exec .masterTransferEnd s = .next s) ∧
    (s.bitAt SVC_STATUS 0 = true → s.svc.left = 0 → s.svc.paused = none → ∃ t, exec .masterTransferEnd s = .next t ∧
      t.bitAt SVC_STATUS 0 = false ∧ t.bitAt SVC_EVENTS 0 = true ∧
      (s.svc.selLow = false → t.bitAt SVC_STATUS 1 = s.bitAt SVC_CFG 0) ∧ s.OnlyRegs t [SVC_STATUS, SVC_EVENTS]) ∧
    (∀ path v, (s.svc.tx.length < 16 → exec (.svcTxWrite path v) s =
        .next { s with svc := { s.svc with tx := s.svc.tx ++ [v.toNat] } }) ∧
      (16 ≤ s.svc.tx.length → path ≤ 0x400 → ∃ t, exec (.svcTxWrite path v) s = .next t ∧ t.bitAt GLB_ACCESS_STATUS 0 = true ∧
        t = { s with regs := t.regs, flagged := true } ∧ s.RegsKept t (accessRegs path)) ∧
      (16 ≤ s.svc.tx.length → exec (.svcTxWrite path v) s = .next (s.rangeFlag path SVC_TX))) ∧
    (∀ path, (∀ f r, s.svc.rx = f :: r → ∃ t, exec (.svcRxRead path) s = .next t ∧ t.rdata = BitVec.ofNat 32 f ∧
        t.svc = { s.svc with rx := r ++ s.svc.paused.toList, paused := none } ∧ t = { s with rdata := t.rdata, flagged := false, svc := t.svc }) ∧
      (s.svc.rx = [] → ∃ t, exec (.svcRxRead path) s = .next t ∧ t.rdata = 0 ∧ t.svc = s.svc ∧ s.RegsKept t (accessRegs path) ∧
        (path ≤ 0x400 → t.bitAt GLB_ACCESS_STATUS 0 = true ∧ t.flagged = true)))) ∧
  (∀ (n : Nat) (s : State), n < 8 →
    (∀ v : Word, ∃ t, exec (.gpioOutWrite v) s = .next t ∧ t.reg SVC_GPIO_OUT = v &&& 0xFF ∧
      bit t.svc.driven n = (if s.gpioOut n then (if s.gpioPulsing n then bit s.svc.driven n else v.getLsbD n) else false) ∧
      t = { s with regs := t.regs, svc := t.svc } ∧ s.RegsKept t [SVC_GPIO_OUT]) ∧
    (s.trg.pulses.find? (fun x => x.1 == n) = none → exec (.gpioPulseStart n) s = .next s) ∧
    (∀ x, s.trg.pulses.find? (fun x => x.1 == n) = some x → x.2.1 ≤ s.now → ∃ t, exec (.gpioPulseStart n) s = .next t ∧
      t.trg.pulses = s.trg.pulses.erase x ∧ t = { s with trg := t.trg, svc := t.svc } ∧
      (s.gpioOut n = false ∨ s.irqPin = some n → t.svc = s.svc ∧ t.trg.pulseEnd = s.trg.pulseEnd) ∧
      (s.gpioOut n = true → s.irqPin ≠ some n → t.gpioPulsing n = true ∧
        t.trg.pulseEnd.find? (fun y => y.1 == n) = some (n, x.2.1 + x.2.2) ∧
        bit t.svc.driven n = (if s.gpioPulsing n then bit s.svc.driven n else !s.bitAt SVC_GPIO_OUT n))) ∧
    (s.trg.pulseEnd.find? (fun x => x.1 == n) = none → exec (.gpioPulseEnd n) s = .next s) ∧
    (∀ x, s.trg.pulseEnd.find? (fun x => x.1 == n) = some x → x.2 ≤ s.now → ∃ t, exec (.gpioPulseEnd n) s = .next t ∧
      t.gpioPulsing n = false ∧ bit t.svc.driven n = (s.gpioOut n && s.bitAt SVC_GPIO_OUT n) ∧
      t = { s with trg := t.trg, svc := t.svc }) ∧
    (∀ rising, s.bitAt SVC_GPIO_IN n = rising → exec (.gpioInputEdge n rising) s = .next s) ∧
    (∀ rising, s.bitAt SVC_GPIO_IN n ≠ rising → ∃ t, exec (.gpioInputEdge n rising) s = .next t ∧
      t.bitAt SVC_GPIO_IN n = rising ∧ t.store = s.store ∧ t.ops = s.ops ∧
      (s.gpioIn n = false → s.OnlyRegs t [SVC_GPIO_IN]) ∧
      (s.gpioIn n = true → s.bitAt AON_CFG 10 = true → s.fld AON_CFG 14 12 = n → s.deviceState = 2 →
        t.deviceState = 3 ∧ t.bitAt AON_EVENTS 0 = true)))

/-- A supply out of range faults what it feeds, and the test access port takes its instructions (R594, R605, R606). -/
def Obligations.SuppliesAndTestAccessPort : Prop :=
(∀ (n : Nat) (mv : Int) (s : State),
    (s.monitors = false ∨ n = 0 ∨ 6 < n → exec (.supplyOut n mv) s = .next s) ∧
    (s.monitors = true → 1 ≤ n → n ≤ 6 → ∃ t, exec (.supplyOut n mv) s = .next t ∧ (∀ u ∈ supplyUnits n, t.isFaulted u.1 u.2 = true) ∧
      (5 ≤ n → s.Logged t 0x0701 n (unsigned 32 mv) ∧ t = { s with regs := t.regs, evq := t.evq } ∧ s.RegsKept t [GLB_EVQ_LOST]))) ∧
  (∀ (cells : Nat) (s : State),
    (s.tapOn = false → ∀ c ∈ [Instr.testLogicReset, .extest cells, .samplePreload cells, .idcode, .clamp, .highz, .extestPulse,
      .extestTrain, .bypass], exec c s = .next s) ∧
    (s.tapOn = true →
      (∀ c ∈ [Instr.testLogicReset, .idcode], exec c s = .next { s with jtag := { s.jtag with ir := 2, captured := idcodeWord } }) ∧
      exec (.samplePreload cells) s =
        .next { s with jtag := { ir := 1, cells := cells, captured := Config.ballLevels s.free }, free := s.free + 1 } ∧
      (∀ e ∈ [(5, Instr.extestPulse), (6, Instr.extestTrain)],
        (s.tapActs = true → ∃ t, exec e.2 s = .next t ∧ t.tapDrives = true ∧
          t = { s with jtag := { s.jtag with ir := e.1, captured := Config.ballLevels s.free }, free := s.free + 1 }) ∧
        (s.tapActs = false → ∃ t, exec e.2 s = .next t ∧ t.tapDrives = false ∧
          t = { s with jtag := { s.jtag with ir := e.1, captured := 0 } })) ∧
      (s.tapActs = true → ∃ t, exec (.extest cells) s = .next t ∧ t.tapDrives = true ∧
        t = { s with jtag := { ir := 0, cells := cells, captured := Config.ballLevels s.free }, free := s.free + 1 }) ∧
      (s.tapActs = false → ∃ t, exec (.extest cells) s = .next t ∧ t.tapDrives = false ∧
        t = { s with jtag := { s.jtag with ir := 0, captured := 0 } }) ∧
      (∀ e ∈ [(3, Instr.clamp), (4, Instr.highz), (0xFF, Instr.bypass)], ∃ t, exec e.2 s = .next t ∧
        t = { s with jtag := { s.jtag with ir := e.1, captured := 0 } } ∧ t.tapDrives = (s.tapActs && e.1 == 3) ∧
        t.tapHighZ = (s.tapActs && e.1 == 4))))
end

