-- ==== Sys2Proof/Laws/Maps.lean ====
section
/-! SUPPORT. The laws of sparse maps: what a read gives after a write, and that every write keeps the canonical form. -/

namespace Sys2Proof.Machine

variable {β : Type}

/-- A removed key holds its default. -/
theorem Map.get_del_same (d : Nat → β) (m : Map β) (k : Nat) : Map.get d (m.del k) k = d k := by
  induction m with
  | nil => rfl
  | cons e r ih =>
    obtain ⟨a, v⟩ := e
    by_cases h : a = k <;> simp [Map.del, Map.get, h, ih]

/-- Removing a key leaves every other key alone. -/
theorem Map.get_del_ne (d : Nat → β) (m : Map β) {j k : Nat} (h : j ≠ k) : Map.get d (m.del k) j = Map.get d m j := by
  induction m with
  | nil => rfl
  | cons e r ih =>
    obtain ⟨a, v⟩ := e
    by_cases ha : a = k
    · subst ha
      simp [Map.del, Map.get, ih, Ne.symm h]
    · simp [Map.del, Map.get, ha, ih]

/-- A key that the map does not list. -/
theorem Map.not_mem_del (m : Map β) (k : Nat) : ∀ e ∈ m.del k, e.1 ≠ k := by
  induction m with
  | nil => simp [Map.del]
  | cons e r ih =>
    obtain ⟨a, v⟩ := e
    by_cases ha : a = k
    · simpa [Map.del, ha] using ih
    · intro e he
      simp only [Map.del, ha, if_false, List.mem_cons] at he
      rcases he with rfl | he
      · exact ha
      · exact ih e he

/-- An inserted key holds its value, where the map did not list it. -/
theorem Map.get_ins_same (d : Nat → β) (m : Map β) (k : Nat) (v : β) (h : ∀ e ∈ m, e.1 ≠ k) :
    Map.get d (m.ins k v) k = v := by
  induction m with
  | nil => simp [Map.ins, Map.get]
  | cons e r ih =>
    obtain ⟨a, w⟩ := e
    have ha : a ≠ k := h (a, w) (by simp)
    have hr : ∀ e ∈ r, e.1 ≠ k := fun e he => h e (by simp [he])
    by_cases hk : k < a <;> simp [Map.ins, Map.get, hk, ha, ih hr]

/-- An insertion leaves every other key alone. -/
theorem Map.get_ins_ne (d : Nat → β) (m : Map β) {j k : Nat} (v : β) (h : j ≠ k) :
    Map.get d (m.ins k v) j = Map.get d m j := by
  induction m with
  | nil => simp [Map.ins, Map.get, Ne.symm h]
  | cons e r ih =>
    obtain ⟨a, w⟩ := e
    by_cases hk : k < a
    · simp [Map.ins, Map.get, hk, Ne.symm h]
    · simp [Map.ins, Map.get, hk, ih]

/-- A read after a write. -/
theorem Map.get_set [DecidableEq β] (d : Nat → β) (m : Map β) (k : Nat) (v : β) (j : Nat) :
    Map.get d (Map.set d m k v) j = if j = k then v else Map.get d m j := by
  unfold Map.set
  by_cases hv : v = d k
  · by_cases hj : j = k
    · subst hj; simp [hv, Map.get_del_same]
    · simp [hv, hj, Map.get_del_ne d m hj]
  · by_cases hj : j = k
    · subst hj; simp [hv, Map.get_ins_same d _ _ v (Map.not_mem_del m j)]
    · simp [hv, hj, Map.get_ins_ne d _ v hj, Map.get_del_ne d m hj]

@[simp] theorem Map.get_set_same [DecidableEq β] (d : Nat → β) (m : Map β) (k : Nat) (v : β) :
    Map.get d (Map.set d m k v) k = v := by simp [Map.get_set]

theorem Map.get_set_ne [DecidableEq β] (d : Nat → β) (m : Map β) {j k : Nat} (v : β) (h : j ≠ k) :
    Map.get d (Map.set d m k v) j = Map.get d m j := by simp [Map.get_set, h]

/-! The canonical form. -/

/-- Strictly rising keys, as a relation of each pair of entries. -/
theorem Map.rising_iff (m : Map β) : Map.rising m = true ↔ m.Pairwise (fun x y => x.1 < y.1) := by
  induction m with
  | nil => simp [Map.rising]
  | cons e r ih =>
    cases r with
    | nil => simp [Map.rising]
    | cons f r =>
      obtain ⟨a, v⟩ := e
      obtain ⟨b, w⟩ := f
      simp only [Map.rising, Bool.and_eq_true, decide_eq_true_eq, ih, List.pairwise_cons, List.mem_cons, forall_eq_or_imp]
      constructor
      · rintro ⟨h, h1, h2⟩
        exact ⟨⟨h, fun x hx => lt_trans h (h1 x hx)⟩, h1, h2⟩
      · rintro ⟨⟨h, -⟩, h1, h2⟩
        exact ⟨h, h1, h2⟩

theorem Map.del_sublist (m : Map β) (k : Nat) : (m.del k).Sublist m := by
  induction m with
  | nil => exact List.Sublist.refl _
  | cons e r ih =>
    obtain ⟨a, v⟩ := e
    by_cases ha : a = k
    · simpa [Map.del, ha] using ih.cons (a, v)
    · simpa [Map.del, ha] using ih.cons_cons (a, v)

theorem Map.mem_ins (m : Map β) (k : Nat) (v : β) (e : Nat × β) : e ∈ m.ins k v ↔ e = (k, v) ∨ e ∈ m := by
  induction m with
  | nil => simp [Map.ins]
  | cons f r ih =>
    obtain ⟨a, w⟩ := f
    by_cases hk : k < a
    · simp [Map.ins, hk]
    · simp only [Map.ins, hk, if_false, List.mem_cons, ih]
      tauto

theorem Map.rising_ins (m : Map β) (k : Nat) (v : β) (h : m.Pairwise (fun x y => x.1 < y.1)) (hk : ∀ e ∈ m, e.1 ≠ k) :
    (m.ins k v).Pairwise (fun x y => x.1 < y.1) := by
  induction m with
  | nil => simp [Map.ins]
  | cons f r ih =>
    obtain ⟨a, w⟩ := f
    simp only [List.pairwise_cons] at h
    by_cases hlt : k < a
    · rw [Map.ins, if_pos hlt]
      refine List.Pairwise.cons (fun x hx => ?_) (List.Pairwise.cons h.1 h.2)
      rcases List.mem_cons.1 hx with rfl | hx
      · exact hlt
      · exact lt_trans hlt (h.1 x hx)
    · have hne : a ≠ k := hk (a, w) (by simp)
      simp only [Map.ins, hlt, if_false, List.pairwise_cons]
      refine ⟨fun x hx => ?_, ih h.2 (fun e he => hk e (by simp [he]))⟩
      rcases (Map.mem_ins r k v x).1 hx with rfl | hx
      · show a < k
        omega
      · exact h.1 x hx

/-- The canonical form in words of lists. -/
theorem Map.wf_iff [DecidableEq β] (d : Nat → β) (m : Map β) :
    Map.wf d m = true ↔ m.Pairwise (fun x y => x.1 < y.1) ∧ ∀ e ∈ m, e.2 ≠ d e.1 := by
  simp [Map.wf, Map.rising_iff]

/-- A write keeps the canonical form. -/
theorem Map.wf_set [DecidableEq β] (d : Nat → β) (m : Map β) (k : Nat) (v : β) (h : Map.wf d m = true) :
    Map.wf d (Map.set d m k v) = true := by
  rw [Map.wf_iff] at h ⊢
  have hp := h.1.sublist (Map.del_sublist m k)
  have hd : ∀ e ∈ m.del k, e.2 ≠ d e.1 := fun e he => h.2 e ((Map.del_sublist m k).subset he)
  unfold Map.set
  by_cases hv : v = d k
  · simpa [hv] using ⟨hp, fun a b hab => hd (a, b) hab⟩
  · simp only [hv, if_false]
    refine ⟨Map.rising_ins _ k v hp (Map.not_mem_del m k), fun e he => ?_⟩
    rcases (Map.mem_ins _ k v e).1 he with rfl | he
    · exact hv
    · exact hd e he

/-- Leaving entries out keeps the canonical form. -/
theorem Map.wf_filter [DecidableEq β] (d : Nat → β) (m : Map β) (p : Nat × β → Bool) (h : Map.wf d m = true) :
    Map.wf d (m.filter p) = true := by
  rw [Map.wf_iff] at h ⊢
  exact ⟨h.1.sublist List.filter_sublist, fun e he => h.2 e (List.mem_filter.1 he).1⟩

/-- The empty map is canonical. -/
@[simp] theorem Map.wf_nil [DecidableEq β] (d : Nat → β) : Map.wf d ([] : Map β) = true := rfl

/-- A listed key holds the value that it is listed with. -/
theorem Map.get_of_mem (d : Nat → β) (m : Map β) (h : m.Pairwise (fun x y => x.1 < y.1)) (e : Nat × β) (he : e ∈ m) :
    Map.get d m e.1 = e.2 := by
  induction m with
  | nil => cases he
  | cons f r ih =>
    obtain ⟨a, w⟩ := f
    simp only [List.pairwise_cons] at h
    rcases List.mem_cons.1 he with rfl | he
    · simp [Map.get]
    · have : a ≠ e.1 := (h.1 e he).ne
      simp [Map.get, this, ih h.2 he]

/-- An unlisted key holds its default. -/
theorem Map.get_of_not_mem (d : Nat → β) (m : Map β) (k : Nat) (h : ∀ e ∈ m, e.1 ≠ k) : Map.get d m k = d k := by
  induction m with
  | nil => rfl
  | cons f r ih =>
    obtain ⟨a, w⟩ := f
    have ha : a ≠ k := h (a, w) (by simp)
    simp [Map.get, ha, ih (fun e he => h e (by simp [he]))]

/-- Canonical maps that hold the same values are the same data. -/
theorem Map.ext_of_wf [DecidableEq β] (d : Nat → β) (m n : Map β) (hm : Map.wf d m = true) (hn : Map.wf d n = true)
    (h : ∀ k, Map.get d m k = Map.get d n k) : m = n := by
  rw [Map.wf_iff] at hm hn
  have sub : ∀ (p q : Map β), p.Pairwise (fun x y => x.1 < y.1) → (∀ e ∈ p, e.2 ≠ d e.1) →
      q.Pairwise (fun x y => x.1 < y.1) → (∀ k, Map.get d p k = Map.get d q k) → ∀ e ∈ p, e ∈ q := by
    intro p q hp hpd hq hpq e he
    have h1 := Map.get_of_mem d p hp e he
    by_contra hc
    by_cases hk : ∃ f ∈ q, f.1 = e.1
    · obtain ⟨f, hf, hfe⟩ := hk
      have h2 := Map.get_of_mem d q hq f hf
      rw [hfe, ← hpq, h1] at h2
      exact hc (by rwa [Prod.ext hfe h2.symm] at hf)
    · push Not at hk
      have h3 := Map.get_of_not_mem d q e.1 hk
      rw [← hpq, h1] at h3
      exact hpd e he h3
  have hs : m.Perm n := by
    have nd : ∀ (p : Map β), p.Pairwise (fun x y => x.1 < y.1) → p.Nodup := fun p hp =>
      hp.imp (fun {x y} hxy => by rintro rfl; exact lt_irrefl _ hxy)
    exact (List.perm_ext_iff_of_nodup (nd m hm.1) (nd n hn.1)).2
      (fun e => ⟨sub m n hm.1 hm.2 hn.1 h e, sub n m hn.1 hn.2 hm.1 (fun k => (h k).symm) e⟩)
  exact hs.eq_of_pairwise (fun a b _ _ hab hba => absurd hba (not_lt.2 hab.le)) hm.1 hn.1

end Sys2Proof.Machine
end

