-- ==== Sys2Proof/Laws/State.lean ====
section
/-! SUPPORT. What each named update of the state leaves alone: one lemma for every field and update, true by unfolding. -/

namespace Sys2Proof.Machine

variable (s : State)

@[simp] theorem State.setReg_live (a : Nat) (v : Word) : (s.setReg a v).live = s.live := rfl
@[simp] theorem State.setReg_store (a : Nat) (v : Word) : (s.setReg a v).store = s.store := rfl
@[simp] theorem State.setReg_poison (a : Nat) (v : Word) : (s.setReg a v).poison = s.poison := rfl
@[simp] theorem State.setReg_hold (a : Nat) (v : Word) : (s.setReg a v).hold = s.hold := rfl
@[simp] theorem State.setReg_rdata (a : Nat) (v : Word) : (s.setReg a v).rdata = s.rdata := rfl
@[simp] theorem State.setReg_flagged (a : Nat) (v : Word) : (s.setReg a v).flagged = s.flagged := rfl
@[simp] theorem State.setReg_tb (a : Nat) (v : Word) : (s.setReg a v).tb = s.tb := rfl
@[simp] theorem State.setReg_cfg (a : Nat) (v : Word) : (s.setReg a v).cfg = s.cfg := rfl
@[simp] theorem State.setReg_ops (a : Nat) (v : Word) : (s.setReg a v).ops = s.ops := rfl
@[simp] theorem State.setReg_kept (a : Nat) (v : Word) : (s.setReg a v).kept = s.kept := rfl
@[simp] theorem State.setReg_heldRecs (a : Nat) (v : Word) : (s.setReg a v).heldRecs = s.heldRecs := rfl
@[simp] theorem State.setReg_served (a : Nat) (v : Word) : (s.setReg a v).served = s.served := rfl
@[simp] theorem State.setReg_chans (a : Nat) (v : Word) : (s.setReg a v).chans = s.chans := rfl
@[simp] theorem State.setReg_clus (a : Nat) (v : Word) : (s.setReg a v).clus = s.clus := rfl
@[simp] theorem State.setReg_fnts (a : Nat) (v : Word) : (s.setReg a v).fnts = s.fnts := rfl
@[simp] theorem State.setReg_segs (a : Nat) (v : Word) : (s.setReg a v).segs = s.segs := rfl
@[simp] theorem State.setReg_trg (a : Nat) (v : Word) : (s.setReg a v).trg = s.trg := rfl
@[simp] theorem State.setReg_basinGaps (a : Nat) (v : Word) : (s.setReg a v).basinGaps = s.basinGaps := rfl
@[simp] theorem State.setReg_anas (a : Nat) (v : Word) : (s.setReg a v).anas = s.anas := rfl
@[simp] theorem State.setReg_relocks (a : Nat) (v : Word) : (s.setReg a v).relocks = s.relocks := rfl
@[simp] theorem State.setReg_dpss (a : Nat) (v : Word) : (s.setReg a v).dpss = s.dpss := rfl
@[simp] theorem State.setReg_gov (a : Nat) (v : Word) : (s.setReg a v).gov = s.gov := rfl
@[simp] theorem State.setReg_msqs (a : Nat) (v : Word) : (s.setReg a v).msqs = s.msqs := rfl
@[simp] theorem State.setReg_cals (a : Nat) (v : Word) : (s.setReg a v).cals = s.cals := rfl
@[simp] theorem State.setReg_mnt (a : Nat) (v : Word) : (s.setReg a v).mnt = s.mnt := rfl
@[simp] theorem State.setReg_ports (a : Nat) (v : Word) : (s.setReg a v).ports = s.ports := rfl
@[simp] theorem State.setReg_net (a : Nat) (v : Word) : (s.setReg a v).net = s.net := rfl
@[simp] theorem State.setReg_cont (a : Nat) (v : Word) : (s.setReg a v).cont = s.cont := rfl
@[simp] theorem State.setReg_aon (a : Nat) (v : Word) : (s.setReg a v).aon = s.aon := rfl
@[simp] theorem State.setReg_sec (a : Nat) (v : Word) : (s.setReg a v).sec = s.sec := rfl
@[simp] theorem State.setReg_svc (a : Nat) (v : Word) : (s.setReg a v).svc = s.svc := rfl
@[simp] theorem State.setReg_jtag (a : Nat) (v : Word) : (s.setReg a v).jtag = s.jtag := rfl
@[simp] theorem State.setReg_evq (a : Nat) (v : Word) : (s.setReg a v).evq = s.evq := rfl
@[simp] theorem State.setReg_free (a : Nat) (v : Word) : (s.setReg a v).free = s.free := rfl
@[simp] theorem State.setReg_pending (a : Nat) (v : Word) : (s.setReg a v).pending = s.pending := rfl

@[simp] theorem State.setFld_live (a hi lo v : Nat) : (s.setFld a hi lo v).live = s.live := rfl
@[simp] theorem State.setFld_store (a hi lo v : Nat) : (s.setFld a hi lo v).store = s.store := rfl
@[simp] theorem State.setFld_poison (a hi lo v : Nat) : (s.setFld a hi lo v).poison = s.poison := rfl
@[simp] theorem State.setFld_hold (a hi lo v : Nat) : (s.setFld a hi lo v).hold = s.hold := rfl
@[simp] theorem State.setFld_rdata (a hi lo v : Nat) : (s.setFld a hi lo v).rdata = s.rdata := rfl
@[simp] theorem State.setFld_flagged (a hi lo v : Nat) : (s.setFld a hi lo v).flagged = s.flagged := rfl
@[simp] theorem State.setFld_tb (a hi lo v : Nat) : (s.setFld a hi lo v).tb = s.tb := rfl
@[simp] theorem State.setFld_cfg (a hi lo v : Nat) : (s.setFld a hi lo v).cfg = s.cfg := rfl
@[simp] theorem State.setFld_ops (a hi lo v : Nat) : (s.setFld a hi lo v).ops = s.ops := rfl
@[simp] theorem State.setFld_kept (a hi lo v : Nat) : (s.setFld a hi lo v).kept = s.kept := rfl
@[simp] theorem State.setFld_heldRecs (a hi lo v : Nat) : (s.setFld a hi lo v).heldRecs = s.heldRecs := rfl
@[simp] theorem State.setFld_served (a hi lo v : Nat) : (s.setFld a hi lo v).served = s.served := rfl
@[simp] theorem State.setFld_chans (a hi lo v : Nat) : (s.setFld a hi lo v).chans = s.chans := rfl
@[simp] theorem State.setFld_clus (a hi lo v : Nat) : (s.setFld a hi lo v).clus = s.clus := rfl
@[simp] theorem State.setFld_fnts (a hi lo v : Nat) : (s.setFld a hi lo v).fnts = s.fnts := rfl
@[simp] theorem State.setFld_segs (a hi lo v : Nat) : (s.setFld a hi lo v).segs = s.segs := rfl
@[simp] theorem State.setFld_trg (a hi lo v : Nat) : (s.setFld a hi lo v).trg = s.trg := rfl
@[simp] theorem State.setFld_basinGaps (a hi lo v : Nat) : (s.setFld a hi lo v).basinGaps = s.basinGaps := rfl
@[simp] theorem State.setFld_anas (a hi lo v : Nat) : (s.setFld a hi lo v).anas = s.anas := rfl
@[simp] theorem State.setFld_relocks (a hi lo v : Nat) : (s.setFld a hi lo v).relocks = s.relocks := rfl
@[simp] theorem State.setFld_dpss (a hi lo v : Nat) : (s.setFld a hi lo v).dpss = s.dpss := rfl
@[simp] theorem State.setFld_gov (a hi lo v : Nat) : (s.setFld a hi lo v).gov = s.gov := rfl
@[simp] theorem State.setFld_msqs (a hi lo v : Nat) : (s.setFld a hi lo v).msqs = s.msqs := rfl
@[simp] theorem State.setFld_cals (a hi lo v : Nat) : (s.setFld a hi lo v).cals = s.cals := rfl
@[simp] theorem State.setFld_mnt (a hi lo v : Nat) : (s.setFld a hi lo v).mnt = s.mnt := rfl
@[simp] theorem State.setFld_ports (a hi lo v : Nat) : (s.setFld a hi lo v).ports = s.ports := rfl
@[simp] theorem State.setFld_net (a hi lo v : Nat) : (s.setFld a hi lo v).net = s.net := rfl
@[simp] theorem State.setFld_cont (a hi lo v : Nat) : (s.setFld a hi lo v).cont = s.cont := rfl
@[simp] theorem State.setFld_aon (a hi lo v : Nat) : (s.setFld a hi lo v).aon = s.aon := rfl
@[simp] theorem State.setFld_sec (a hi lo v : Nat) : (s.setFld a hi lo v).sec = s.sec := rfl
@[simp] theorem State.setFld_svc (a hi lo v : Nat) : (s.setFld a hi lo v).svc = s.svc := rfl
@[simp] theorem State.setFld_jtag (a hi lo v : Nat) : (s.setFld a hi lo v).jtag = s.jtag := rfl
@[simp] theorem State.setFld_evq (a hi lo v : Nat) : (s.setFld a hi lo v).evq = s.evq := rfl
@[simp] theorem State.setFld_free (a hi lo v : Nat) : (s.setFld a hi lo v).free = s.free := rfl
@[simp] theorem State.setFld_pending (a hi lo v : Nat) : (s.setFld a hi lo v).pending = s.pending := rfl

@[simp] theorem State.setBitAt_live (a i : Nat) (b : Bool) : (s.setBitAt a i b).live = s.live := rfl
@[simp] theorem State.setBitAt_store (a i : Nat) (b : Bool) : (s.setBitAt a i b).store = s.store := rfl
@[simp] theorem State.setBitAt_poison (a i : Nat) (b : Bool) : (s.setBitAt a i b).poison = s.poison := rfl
@[simp] theorem State.setBitAt_hold (a i : Nat) (b : Bool) : (s.setBitAt a i b).hold = s.hold := rfl
@[simp] theorem State.setBitAt_rdata (a i : Nat) (b : Bool) : (s.setBitAt a i b).rdata = s.rdata := rfl
@[simp] theorem State.setBitAt_flagged (a i : Nat) (b : Bool) : (s.setBitAt a i b).flagged = s.flagged := rfl
@[simp] theorem State.setBitAt_tb (a i : Nat) (b : Bool) : (s.setBitAt a i b).tb = s.tb := rfl
@[simp] theorem State.setBitAt_cfg (a i : Nat) (b : Bool) : (s.setBitAt a i b).cfg = s.cfg := rfl
@[simp] theorem State.setBitAt_ops (a i : Nat) (b : Bool) : (s.setBitAt a i b).ops = s.ops := rfl
@[simp] theorem State.setBitAt_kept (a i : Nat) (b : Bool) : (s.setBitAt a i b).kept = s.kept := rfl
@[simp] theorem State.setBitAt_heldRecs (a i : Nat) (b : Bool) : (s.setBitAt a i b).heldRecs = s.heldRecs := rfl
@[simp] theorem State.setBitAt_served (a i : Nat) (b : Bool) : (s.setBitAt a i b).served = s.served := rfl
@[simp] theorem State.setBitAt_chans (a i : Nat) (b : Bool) : (s.setBitAt a i b).chans = s.chans := rfl
@[simp] theorem State.setBitAt_clus (a i : Nat) (b : Bool) : (s.setBitAt a i b).clus = s.clus := rfl
@[simp] theorem State.setBitAt_fnts (a i : Nat) (b : Bool) : (s.setBitAt a i b).fnts = s.fnts := rfl
@[simp] theorem State.setBitAt_segs (a i : Nat) (b : Bool) : (s.setBitAt a i b).segs = s.segs := rfl
@[simp] theorem State.setBitAt_trg (a i : Nat) (b : Bool) : (s.setBitAt a i b).trg = s.trg := rfl
@[simp] theorem State.setBitAt_basinGaps (a i : Nat) (b : Bool) : (s.setBitAt a i b).basinGaps = s.basinGaps := rfl
@[simp] theorem State.setBitAt_anas (a i : Nat) (b : Bool) : (s.setBitAt a i b).anas = s.anas := rfl
@[simp] theorem State.setBitAt_relocks (a i : Nat) (b : Bool) : (s.setBitAt a i b).relocks = s.relocks := rfl
@[simp] theorem State.setBitAt_dpss (a i : Nat) (b : Bool) : (s.setBitAt a i b).dpss = s.dpss := rfl
@[simp] theorem State.setBitAt_gov (a i : Nat) (b : Bool) : (s.setBitAt a i b).gov = s.gov := rfl
@[simp] theorem State.setBitAt_msqs (a i : Nat) (b : Bool) : (s.setBitAt a i b).msqs = s.msqs := rfl
@[simp] theorem State.setBitAt_cals (a i : Nat) (b : Bool) : (s.setBitAt a i b).cals = s.cals := rfl
@[simp] theorem State.setBitAt_mnt (a i : Nat) (b : Bool) : (s.setBitAt a i b).mnt = s.mnt := rfl
@[simp] theorem State.setBitAt_ports (a i : Nat) (b : Bool) : (s.setBitAt a i b).ports = s.ports := rfl
@[simp] theorem State.setBitAt_net (a i : Nat) (b : Bool) : (s.setBitAt a i b).net = s.net := rfl
@[simp] theorem State.setBitAt_cont (a i : Nat) (b : Bool) : (s.setBitAt a i b).cont = s.cont := rfl
@[simp] theorem State.setBitAt_aon (a i : Nat) (b : Bool) : (s.setBitAt a i b).aon = s.aon := rfl
@[simp] theorem State.setBitAt_sec (a i : Nat) (b : Bool) : (s.setBitAt a i b).sec = s.sec := rfl
@[simp] theorem State.setBitAt_svc (a i : Nat) (b : Bool) : (s.setBitAt a i b).svc = s.svc := rfl
@[simp] theorem State.setBitAt_jtag (a i : Nat) (b : Bool) : (s.setBitAt a i b).jtag = s.jtag := rfl
@[simp] theorem State.setBitAt_evq (a i : Nat) (b : Bool) : (s.setBitAt a i b).evq = s.evq := rfl
@[simp] theorem State.setBitAt_free (a i : Nat) (b : Bool) : (s.setBitAt a i b).free = s.free := rfl
@[simp] theorem State.setBitAt_pending (a i : Nat) (b : Bool) : (s.setBitAt a i b).pending = s.pending := rfl

@[simp] theorem State.orReg_live (a m : Nat) : (s.orReg a m).live = s.live := rfl
@[simp] theorem State.orReg_store (a m : Nat) : (s.orReg a m).store = s.store := rfl
@[simp] theorem State.orReg_poison (a m : Nat) : (s.orReg a m).poison = s.poison := rfl
@[simp] theorem State.orReg_hold (a m : Nat) : (s.orReg a m).hold = s.hold := rfl
@[simp] theorem State.orReg_rdata (a m : Nat) : (s.orReg a m).rdata = s.rdata := rfl
@[simp] theorem State.orReg_flagged (a m : Nat) : (s.orReg a m).flagged = s.flagged := rfl
@[simp] theorem State.orReg_tb (a m : Nat) : (s.orReg a m).tb = s.tb := rfl
@[simp] theorem State.orReg_cfg (a m : Nat) : (s.orReg a m).cfg = s.cfg := rfl
@[simp] theorem State.orReg_ops (a m : Nat) : (s.orReg a m).ops = s.ops := rfl
@[simp] theorem State.orReg_kept (a m : Nat) : (s.orReg a m).kept = s.kept := rfl
@[simp] theorem State.orReg_heldRecs (a m : Nat) : (s.orReg a m).heldRecs = s.heldRecs := rfl
@[simp] theorem State.orReg_served (a m : Nat) : (s.orReg a m).served = s.served := rfl
@[simp] theorem State.orReg_chans (a m : Nat) : (s.orReg a m).chans = s.chans := rfl
@[simp] theorem State.orReg_clus (a m : Nat) : (s.orReg a m).clus = s.clus := rfl
@[simp] theorem State.orReg_fnts (a m : Nat) : (s.orReg a m).fnts = s.fnts := rfl
@[simp] theorem State.orReg_segs (a m : Nat) : (s.orReg a m).segs = s.segs := rfl
@[simp] theorem State.orReg_trg (a m : Nat) : (s.orReg a m).trg = s.trg := rfl
@[simp] theorem State.orReg_basinGaps (a m : Nat) : (s.orReg a m).basinGaps = s.basinGaps := rfl
@[simp] theorem State.orReg_anas (a m : Nat) : (s.orReg a m).anas = s.anas := rfl
@[simp] theorem State.orReg_relocks (a m : Nat) : (s.orReg a m).relocks = s.relocks := rfl
@[simp] theorem State.orReg_dpss (a m : Nat) : (s.orReg a m).dpss = s.dpss := rfl
@[simp] theorem State.orReg_gov (a m : Nat) : (s.orReg a m).gov = s.gov := rfl
@[simp] theorem State.orReg_msqs (a m : Nat) : (s.orReg a m).msqs = s.msqs := rfl
@[simp] theorem State.orReg_cals (a m : Nat) : (s.orReg a m).cals = s.cals := rfl
@[simp] theorem State.orReg_mnt (a m : Nat) : (s.orReg a m).mnt = s.mnt := rfl
@[simp] theorem State.orReg_ports (a m : Nat) : (s.orReg a m).ports = s.ports := rfl
@[simp] theorem State.orReg_net (a m : Nat) : (s.orReg a m).net = s.net := rfl
@[simp] theorem State.orReg_cont (a m : Nat) : (s.orReg a m).cont = s.cont := rfl
@[simp] theorem State.orReg_aon (a m : Nat) : (s.orReg a m).aon = s.aon := rfl
@[simp] theorem State.orReg_sec (a m : Nat) : (s.orReg a m).sec = s.sec := rfl
@[simp] theorem State.orReg_svc (a m : Nat) : (s.orReg a m).svc = s.svc := rfl
@[simp] theorem State.orReg_jtag (a m : Nat) : (s.orReg a m).jtag = s.jtag := rfl
@[simp] theorem State.orReg_evq (a m : Nat) : (s.orReg a m).evq = s.evq := rfl
@[simp] theorem State.orReg_free (a m : Nat) : (s.orReg a m).free = s.free := rfl
@[simp] theorem State.orReg_pending (a m : Nat) : (s.orReg a m).pending = s.pending := rfl

@[simp] theorem State.clrReg_live (a m : Nat) : (s.clrReg a m).live = s.live := rfl
@[simp] theorem State.clrReg_store (a m : Nat) : (s.clrReg a m).store = s.store := rfl
@[simp] theorem State.clrReg_poison (a m : Nat) : (s.clrReg a m).poison = s.poison := rfl
@[simp] theorem State.clrReg_hold (a m : Nat) : (s.clrReg a m).hold = s.hold := rfl
@[simp] theorem State.clrReg_rdata (a m : Nat) : (s.clrReg a m).rdata = s.rdata := rfl
@[simp] theorem State.clrReg_flagged (a m : Nat) : (s.clrReg a m).flagged = s.flagged := rfl
@[simp] theorem State.clrReg_tb (a m : Nat) : (s.clrReg a m).tb = s.tb := rfl
@[simp] theorem State.clrReg_cfg (a m : Nat) : (s.clrReg a m).cfg = s.cfg := rfl
@[simp] theorem State.clrReg_ops (a m : Nat) : (s.clrReg a m).ops = s.ops := rfl
@[simp] theorem State.clrReg_kept (a m : Nat) : (s.clrReg a m).kept = s.kept := rfl
@[simp] theorem State.clrReg_heldRecs (a m : Nat) : (s.clrReg a m).heldRecs = s.heldRecs := rfl
@[simp] theorem State.clrReg_served (a m : Nat) : (s.clrReg a m).served = s.served := rfl
@[simp] theorem State.clrReg_chans (a m : Nat) : (s.clrReg a m).chans = s.chans := rfl
@[simp] theorem State.clrReg_clus (a m : Nat) : (s.clrReg a m).clus = s.clus := rfl
@[simp] theorem State.clrReg_fnts (a m : Nat) : (s.clrReg a m).fnts = s.fnts := rfl
@[simp] theorem State.clrReg_segs (a m : Nat) : (s.clrReg a m).segs = s.segs := rfl
@[simp] theorem State.clrReg_trg (a m : Nat) : (s.clrReg a m).trg = s.trg := rfl
@[simp] theorem State.clrReg_basinGaps (a m : Nat) : (s.clrReg a m).basinGaps = s.basinGaps := rfl
@[simp] theorem State.clrReg_anas (a m : Nat) : (s.clrReg a m).anas = s.anas := rfl
@[simp] theorem State.clrReg_relocks (a m : Nat) : (s.clrReg a m).relocks = s.relocks := rfl
@[simp] theorem State.clrReg_dpss (a m : Nat) : (s.clrReg a m).dpss = s.dpss := rfl
@[simp] theorem State.clrReg_gov (a m : Nat) : (s.clrReg a m).gov = s.gov := rfl
@[simp] theorem State.clrReg_msqs (a m : Nat) : (s.clrReg a m).msqs = s.msqs := rfl
@[simp] theorem State.clrReg_cals (a m : Nat) : (s.clrReg a m).cals = s.cals := rfl
@[simp] theorem State.clrReg_mnt (a m : Nat) : (s.clrReg a m).mnt = s.mnt := rfl
@[simp] theorem State.clrReg_ports (a m : Nat) : (s.clrReg a m).ports = s.ports := rfl
@[simp] theorem State.clrReg_net (a m : Nat) : (s.clrReg a m).net = s.net := rfl
@[simp] theorem State.clrReg_cont (a m : Nat) : (s.clrReg a m).cont = s.cont := rfl
@[simp] theorem State.clrReg_aon (a m : Nat) : (s.clrReg a m).aon = s.aon := rfl
@[simp] theorem State.clrReg_sec (a m : Nat) : (s.clrReg a m).sec = s.sec := rfl
@[simp] theorem State.clrReg_svc (a m : Nat) : (s.clrReg a m).svc = s.svc := rfl
@[simp] theorem State.clrReg_jtag (a m : Nat) : (s.clrReg a m).jtag = s.jtag := rfl
@[simp] theorem State.clrReg_evq (a m : Nat) : (s.clrReg a m).evq = s.evq := rfl
@[simp] theorem State.clrReg_free (a m : Nat) : (s.clrReg a m).free = s.free := rfl
@[simp] theorem State.clrReg_pending (a m : Nat) : (s.clrReg a m).pending = s.pending := rfl

@[simp] theorem State.addSat_live (a n : Nat) : (s.addSat a n).live = s.live := rfl
@[simp] theorem State.addSat_store (a n : Nat) : (s.addSat a n).store = s.store := rfl
@[simp] theorem State.addSat_poison (a n : Nat) : (s.addSat a n).poison = s.poison := rfl
@[simp] theorem State.addSat_hold (a n : Nat) : (s.addSat a n).hold = s.hold := rfl
@[simp] theorem State.addSat_rdata (a n : Nat) : (s.addSat a n).rdata = s.rdata := rfl
@[simp] theorem State.addSat_flagged (a n : Nat) : (s.addSat a n).flagged = s.flagged := rfl
@[simp] theorem State.addSat_tb (a n : Nat) : (s.addSat a n).tb = s.tb := rfl
@[simp] theorem State.addSat_cfg (a n : Nat) : (s.addSat a n).cfg = s.cfg := rfl
@[simp] theorem State.addSat_ops (a n : Nat) : (s.addSat a n).ops = s.ops := rfl
@[simp] theorem State.addSat_kept (a n : Nat) : (s.addSat a n).kept = s.kept := rfl
@[simp] theorem State.addSat_heldRecs (a n : Nat) : (s.addSat a n).heldRecs = s.heldRecs := rfl
@[simp] theorem State.addSat_served (a n : Nat) : (s.addSat a n).served = s.served := rfl
@[simp] theorem State.addSat_chans (a n : Nat) : (s.addSat a n).chans = s.chans := rfl
@[simp] theorem State.addSat_clus (a n : Nat) : (s.addSat a n).clus = s.clus := rfl
@[simp] theorem State.addSat_fnts (a n : Nat) : (s.addSat a n).fnts = s.fnts := rfl
@[simp] theorem State.addSat_segs (a n : Nat) : (s.addSat a n).segs = s.segs := rfl
@[simp] theorem State.addSat_trg (a n : Nat) : (s.addSat a n).trg = s.trg := rfl
@[simp] theorem State.addSat_basinGaps (a n : Nat) : (s.addSat a n).basinGaps = s.basinGaps := rfl
@[simp] theorem State.addSat_anas (a n : Nat) : (s.addSat a n).anas = s.anas := rfl
@[simp] theorem State.addSat_relocks (a n : Nat) : (s.addSat a n).relocks = s.relocks := rfl
@[simp] theorem State.addSat_dpss (a n : Nat) : (s.addSat a n).dpss = s.dpss := rfl
@[simp] theorem State.addSat_gov (a n : Nat) : (s.addSat a n).gov = s.gov := rfl
@[simp] theorem State.addSat_msqs (a n : Nat) : (s.addSat a n).msqs = s.msqs := rfl
@[simp] theorem State.addSat_cals (a n : Nat) : (s.addSat a n).cals = s.cals := rfl
@[simp] theorem State.addSat_mnt (a n : Nat) : (s.addSat a n).mnt = s.mnt := rfl
@[simp] theorem State.addSat_ports (a n : Nat) : (s.addSat a n).ports = s.ports := rfl
@[simp] theorem State.addSat_net (a n : Nat) : (s.addSat a n).net = s.net := rfl
@[simp] theorem State.addSat_cont (a n : Nat) : (s.addSat a n).cont = s.cont := rfl
@[simp] theorem State.addSat_aon (a n : Nat) : (s.addSat a n).aon = s.aon := rfl
@[simp] theorem State.addSat_sec (a n : Nat) : (s.addSat a n).sec = s.sec := rfl
@[simp] theorem State.addSat_svc (a n : Nat) : (s.addSat a n).svc = s.svc := rfl
@[simp] theorem State.addSat_jtag (a n : Nat) : (s.addSat a n).jtag = s.jtag := rfl
@[simp] theorem State.addSat_evq (a n : Nat) : (s.addSat a n).evq = s.evq := rfl
@[simp] theorem State.addSat_free (a n : Nat) : (s.addSat a n).free = s.free := rfl
@[simp] theorem State.addSat_pending (a n : Nat) : (s.addSat a n).pending = s.pending := rfl

@[simp] theorem State.incSat_live (a : Nat) : (s.incSat a).live = s.live := rfl
@[simp] theorem State.incSat_store (a : Nat) : (s.incSat a).store = s.store := rfl
@[simp] theorem State.incSat_poison (a : Nat) : (s.incSat a).poison = s.poison := rfl
@[simp] theorem State.incSat_hold (a : Nat) : (s.incSat a).hold = s.hold := rfl
@[simp] theorem State.incSat_rdata (a : Nat) : (s.incSat a).rdata = s.rdata := rfl
@[simp] theorem State.incSat_flagged (a : Nat) : (s.incSat a).flagged = s.flagged := rfl
@[simp] theorem State.incSat_tb (a : Nat) : (s.incSat a).tb = s.tb := rfl
@[simp] theorem State.incSat_cfg (a : Nat) : (s.incSat a).cfg = s.cfg := rfl
@[simp] theorem State.incSat_ops (a : Nat) : (s.incSat a).ops = s.ops := rfl
@[simp] theorem State.incSat_kept (a : Nat) : (s.incSat a).kept = s.kept := rfl
@[simp] theorem State.incSat_heldRecs (a : Nat) : (s.incSat a).heldRecs = s.heldRecs := rfl
@[simp] theorem State.incSat_served (a : Nat) : (s.incSat a).served = s.served := rfl
@[simp] theorem State.incSat_chans (a : Nat) : (s.incSat a).chans = s.chans := rfl
@[simp] theorem State.incSat_clus (a : Nat) : (s.incSat a).clus = s.clus := rfl
@[simp] theorem State.incSat_fnts (a : Nat) : (s.incSat a).fnts = s.fnts := rfl
@[simp] theorem State.incSat_segs (a : Nat) : (s.incSat a).segs = s.segs := rfl
@[simp] theorem State.incSat_trg (a : Nat) : (s.incSat a).trg = s.trg := rfl
@[simp] theorem State.incSat_basinGaps (a : Nat) : (s.incSat a).basinGaps = s.basinGaps := rfl
@[simp] theorem State.incSat_anas (a : Nat) : (s.incSat a).anas = s.anas := rfl
@[simp] theorem State.incSat_relocks (a : Nat) : (s.incSat a).relocks = s.relocks := rfl
@[simp] theorem State.incSat_dpss (a : Nat) : (s.incSat a).dpss = s.dpss := rfl
@[simp] theorem State.incSat_gov (a : Nat) : (s.incSat a).gov = s.gov := rfl
@[simp] theorem State.incSat_msqs (a : Nat) : (s.incSat a).msqs = s.msqs := rfl
@[simp] theorem State.incSat_cals (a : Nat) : (s.incSat a).cals = s.cals := rfl
@[simp] theorem State.incSat_mnt (a : Nat) : (s.incSat a).mnt = s.mnt := rfl
@[simp] theorem State.incSat_ports (a : Nat) : (s.incSat a).ports = s.ports := rfl
@[simp] theorem State.incSat_net (a : Nat) : (s.incSat a).net = s.net := rfl
@[simp] theorem State.incSat_cont (a : Nat) : (s.incSat a).cont = s.cont := rfl
@[simp] theorem State.incSat_aon (a : Nat) : (s.incSat a).aon = s.aon := rfl
@[simp] theorem State.incSat_sec (a : Nat) : (s.incSat a).sec = s.sec := rfl
@[simp] theorem State.incSat_svc (a : Nat) : (s.incSat a).svc = s.svc := rfl
@[simp] theorem State.incSat_jtag (a : Nat) : (s.incSat a).jtag = s.jtag := rfl
@[simp] theorem State.incSat_evq (a : Nat) : (s.incSat a).evq = s.evq := rfl
@[simp] theorem State.incSat_free (a : Nat) : (s.incSat a).free = s.free := rfl
@[simp] theorem State.incSat_pending (a : Nat) : (s.incSat a).pending = s.pending := rfl

@[simp] theorem State.setReg64_live (lo hi v : Nat) : (s.setReg64 lo hi v).live = s.live := rfl
@[simp] theorem State.setReg64_store (lo hi v : Nat) : (s.setReg64 lo hi v).store = s.store := rfl
@[simp] theorem State.setReg64_poison (lo hi v : Nat) : (s.setReg64 lo hi v).poison = s.poison := rfl
@[simp] theorem State.setReg64_hold (lo hi v : Nat) : (s.setReg64 lo hi v).hold = s.hold := rfl
@[simp] theorem State.setReg64_rdata (lo hi v : Nat) : (s.setReg64 lo hi v).rdata = s.rdata := rfl
@[simp] theorem State.setReg64_flagged (lo hi v : Nat) : (s.setReg64 lo hi v).flagged = s.flagged := rfl
@[simp] theorem State.setReg64_tb (lo hi v : Nat) : (s.setReg64 lo hi v).tb = s.tb := rfl
@[simp] theorem State.setReg64_cfg (lo hi v : Nat) : (s.setReg64 lo hi v).cfg = s.cfg := rfl
@[simp] theorem State.setReg64_ops (lo hi v : Nat) : (s.setReg64 lo hi v).ops = s.ops := rfl
@[simp] theorem State.setReg64_kept (lo hi v : Nat) : (s.setReg64 lo hi v).kept = s.kept := rfl
@[simp] theorem State.setReg64_heldRecs (lo hi v : Nat) : (s.setReg64 lo hi v).heldRecs = s.heldRecs := rfl
@[simp] theorem State.setReg64_served (lo hi v : Nat) : (s.setReg64 lo hi v).served = s.served := rfl
@[simp] theorem State.setReg64_chans (lo hi v : Nat) : (s.setReg64 lo hi v).chans = s.chans := rfl
@[simp] theorem State.setReg64_clus (lo hi v : Nat) : (s.setReg64 lo hi v).clus = s.clus := rfl
@[simp] theorem State.setReg64_fnts (lo hi v : Nat) : (s.setReg64 lo hi v).fnts = s.fnts := rfl
@[simp] theorem State.setReg64_segs (lo hi v : Nat) : (s.setReg64 lo hi v).segs = s.segs := rfl
@[simp] theorem State.setReg64_trg (lo hi v : Nat) : (s.setReg64 lo hi v).trg = s.trg := rfl
@[simp] theorem State.setReg64_basinGaps (lo hi v : Nat) : (s.setReg64 lo hi v).basinGaps = s.basinGaps := rfl
@[simp] theorem State.setReg64_anas (lo hi v : Nat) : (s.setReg64 lo hi v).anas = s.anas := rfl
@[simp] theorem State.setReg64_relocks (lo hi v : Nat) : (s.setReg64 lo hi v).relocks = s.relocks := rfl
@[simp] theorem State.setReg64_dpss (lo hi v : Nat) : (s.setReg64 lo hi v).dpss = s.dpss := rfl
@[simp] theorem State.setReg64_gov (lo hi v : Nat) : (s.setReg64 lo hi v).gov = s.gov := rfl
@[simp] theorem State.setReg64_msqs (lo hi v : Nat) : (s.setReg64 lo hi v).msqs = s.msqs := rfl
@[simp] theorem State.setReg64_cals (lo hi v : Nat) : (s.setReg64 lo hi v).cals = s.cals := rfl
@[simp] theorem State.setReg64_mnt (lo hi v : Nat) : (s.setReg64 lo hi v).mnt = s.mnt := rfl
@[simp] theorem State.setReg64_ports (lo hi v : Nat) : (s.setReg64 lo hi v).ports = s.ports := rfl
@[simp] theorem State.setReg64_net (lo hi v : Nat) : (s.setReg64 lo hi v).net = s.net := rfl
@[simp] theorem State.setReg64_cont (lo hi v : Nat) : (s.setReg64 lo hi v).cont = s.cont := rfl
@[simp] theorem State.setReg64_aon (lo hi v : Nat) : (s.setReg64 lo hi v).aon = s.aon := rfl
@[simp] theorem State.setReg64_sec (lo hi v : Nat) : (s.setReg64 lo hi v).sec = s.sec := rfl
@[simp] theorem State.setReg64_svc (lo hi v : Nat) : (s.setReg64 lo hi v).svc = s.svc := rfl
@[simp] theorem State.setReg64_jtag (lo hi v : Nat) : (s.setReg64 lo hi v).jtag = s.jtag := rfl
@[simp] theorem State.setReg64_evq (lo hi v : Nat) : (s.setReg64 lo hi v).evq = s.evq := rfl
@[simp] theorem State.setReg64_free (lo hi v : Nat) : (s.setReg64 lo hi v).free = s.free := rfl
@[simp] theorem State.setReg64_pending (lo hi v : Nat) : (s.setReg64 lo hi v).pending = s.pending := rfl

@[simp] theorem State.event_live (a b : Nat) : (s.event a b).live = s.live := rfl
@[simp] theorem State.event_store (a b : Nat) : (s.event a b).store = s.store := rfl
@[simp] theorem State.event_poison (a b : Nat) : (s.event a b).poison = s.poison := rfl
@[simp] theorem State.event_hold (a b : Nat) : (s.event a b).hold = s.hold := rfl
@[simp] theorem State.event_rdata (a b : Nat) : (s.event a b).rdata = s.rdata := rfl
@[simp] theorem State.event_flagged (a b : Nat) : (s.event a b).flagged = s.flagged := rfl
@[simp] theorem State.event_tb (a b : Nat) : (s.event a b).tb = s.tb := rfl
@[simp] theorem State.event_cfg (a b : Nat) : (s.event a b).cfg = s.cfg := rfl
@[simp] theorem State.event_ops (a b : Nat) : (s.event a b).ops = s.ops := rfl
@[simp] theorem State.event_kept (a b : Nat) : (s.event a b).kept = s.kept := rfl
@[simp] theorem State.event_heldRecs (a b : Nat) : (s.event a b).heldRecs = s.heldRecs := rfl
@[simp] theorem State.event_served (a b : Nat) : (s.event a b).served = s.served := rfl
@[simp] theorem State.event_chans (a b : Nat) : (s.event a b).chans = s.chans := rfl
@[simp] theorem State.event_clus (a b : Nat) : (s.event a b).clus = s.clus := rfl
@[simp] theorem State.event_fnts (a b : Nat) : (s.event a b).fnts = s.fnts := rfl
@[simp] theorem State.event_segs (a b : Nat) : (s.event a b).segs = s.segs := rfl
@[simp] theorem State.event_trg (a b : Nat) : (s.event a b).trg = s.trg := rfl
@[simp] theorem State.event_basinGaps (a b : Nat) : (s.event a b).basinGaps = s.basinGaps := rfl
@[simp] theorem State.event_anas (a b : Nat) : (s.event a b).anas = s.anas := rfl
@[simp] theorem State.event_relocks (a b : Nat) : (s.event a b).relocks = s.relocks := rfl
@[simp] theorem State.event_dpss (a b : Nat) : (s.event a b).dpss = s.dpss := rfl
@[simp] theorem State.event_gov (a b : Nat) : (s.event a b).gov = s.gov := rfl
@[simp] theorem State.event_msqs (a b : Nat) : (s.event a b).msqs = s.msqs := rfl
@[simp] theorem State.event_cals (a b : Nat) : (s.event a b).cals = s.cals := rfl
@[simp] theorem State.event_mnt (a b : Nat) : (s.event a b).mnt = s.mnt := rfl
@[simp] theorem State.event_ports (a b : Nat) : (s.event a b).ports = s.ports := rfl
@[simp] theorem State.event_net (a b : Nat) : (s.event a b).net = s.net := rfl
@[simp] theorem State.event_cont (a b : Nat) : (s.event a b).cont = s.cont := rfl
@[simp] theorem State.event_aon (a b : Nat) : (s.event a b).aon = s.aon := rfl
@[simp] theorem State.event_sec (a b : Nat) : (s.event a b).sec = s.sec := rfl
@[simp] theorem State.event_svc (a b : Nat) : (s.event a b).svc = s.svc := rfl
@[simp] theorem State.event_jtag (a b : Nat) : (s.event a b).jtag = s.jtag := rfl
@[simp] theorem State.event_evq (a b : Nat) : (s.event a b).evq = s.evq := rfl
@[simp] theorem State.event_free (a b : Nat) : (s.event a b).free = s.free := rfl
@[simp] theorem State.event_pending (a b : Nat) : (s.event a b).pending = s.pending := rfl

@[simp] theorem State.setMaskBit_live (a n : Nat) (b : Bool) : (s.setMaskBit a n b).live = s.live := rfl
@[simp] theorem State.setMaskBit_store (a n : Nat) (b : Bool) : (s.setMaskBit a n b).store = s.store := rfl
@[simp] theorem State.setMaskBit_poison (a n : Nat) (b : Bool) : (s.setMaskBit a n b).poison = s.poison := rfl
@[simp] theorem State.setMaskBit_hold (a n : Nat) (b : Bool) : (s.setMaskBit a n b).hold = s.hold := rfl
@[simp] theorem State.setMaskBit_rdata (a n : Nat) (b : Bool) : (s.setMaskBit a n b).rdata = s.rdata := rfl
@[simp] theorem State.setMaskBit_flagged (a n : Nat) (b : Bool) : (s.setMaskBit a n b).flagged = s.flagged := rfl
@[simp] theorem State.setMaskBit_tb (a n : Nat) (b : Bool) : (s.setMaskBit a n b).tb = s.tb := rfl
@[simp] theorem State.setMaskBit_cfg (a n : Nat) (b : Bool) : (s.setMaskBit a n b).cfg = s.cfg := rfl
@[simp] theorem State.setMaskBit_ops (a n : Nat) (b : Bool) : (s.setMaskBit a n b).ops = s.ops := rfl
@[simp] theorem State.setMaskBit_kept (a n : Nat) (b : Bool) : (s.setMaskBit a n b).kept = s.kept := rfl
@[simp] theorem State.setMaskBit_heldRecs (a n : Nat) (b : Bool) : (s.setMaskBit a n b).heldRecs = s.heldRecs := rfl
@[simp] theorem State.setMaskBit_served (a n : Nat) (b : Bool) : (s.setMaskBit a n b).served = s.served := rfl
@[simp] theorem State.setMaskBit_chans (a n : Nat) (b : Bool) : (s.setMaskBit a n b).chans = s.chans := rfl
@[simp] theorem State.setMaskBit_clus (a n : Nat) (b : Bool) : (s.setMaskBit a n b).clus = s.clus := rfl
@[simp] theorem State.setMaskBit_fnts (a n : Nat) (b : Bool) : (s.setMaskBit a n b).fnts = s.fnts := rfl
@[simp] theorem State.setMaskBit_segs (a n : Nat) (b : Bool) : (s.setMaskBit a n b).segs = s.segs := rfl
@[simp] theorem State.setMaskBit_trg (a n : Nat) (b : Bool) : (s.setMaskBit a n b).trg = s.trg := rfl
@[simp] theorem State.setMaskBit_basinGaps (a n : Nat) (b : Bool) : (s.setMaskBit a n b).basinGaps = s.basinGaps := rfl
@[simp] theorem State.setMaskBit_anas (a n : Nat) (b : Bool) : (s.setMaskBit a n b).anas = s.anas := rfl
@[simp] theorem State.setMaskBit_relocks (a n : Nat) (b : Bool) : (s.setMaskBit a n b).relocks = s.relocks := rfl
@[simp] theorem State.setMaskBit_dpss (a n : Nat) (b : Bool) : (s.setMaskBit a n b).dpss = s.dpss := rfl
@[simp] theorem State.setMaskBit_gov (a n : Nat) (b : Bool) : (s.setMaskBit a n b).gov = s.gov := rfl
@[simp] theorem State.setMaskBit_msqs (a n : Nat) (b : Bool) : (s.setMaskBit a n b).msqs = s.msqs := rfl
@[simp] theorem State.setMaskBit_cals (a n : Nat) (b : Bool) : (s.setMaskBit a n b).cals = s.cals := rfl
@[simp] theorem State.setMaskBit_mnt (a n : Nat) (b : Bool) : (s.setMaskBit a n b).mnt = s.mnt := rfl
@[simp] theorem State.setMaskBit_ports (a n : Nat) (b : Bool) : (s.setMaskBit a n b).ports = s.ports := rfl
@[simp] theorem State.setMaskBit_net (a n : Nat) (b : Bool) : (s.setMaskBit a n b).net = s.net := rfl
@[simp] theorem State.setMaskBit_cont (a n : Nat) (b : Bool) : (s.setMaskBit a n b).cont = s.cont := rfl
@[simp] theorem State.setMaskBit_aon (a n : Nat) (b : Bool) : (s.setMaskBit a n b).aon = s.aon := rfl
@[simp] theorem State.setMaskBit_sec (a n : Nat) (b : Bool) : (s.setMaskBit a n b).sec = s.sec := rfl
@[simp] theorem State.setMaskBit_svc (a n : Nat) (b : Bool) : (s.setMaskBit a n b).svc = s.svc := rfl
@[simp] theorem State.setMaskBit_jtag (a n : Nat) (b : Bool) : (s.setMaskBit a n b).jtag = s.jtag := rfl
@[simp] theorem State.setMaskBit_evq (a n : Nat) (b : Bool) : (s.setMaskBit a n b).evq = s.evq := rfl
@[simp] theorem State.setMaskBit_free (a n : Nat) (b : Bool) : (s.setMaskBit a n b).free = s.free := rfl
@[simp] theorem State.setMaskBit_pending (a n : Nat) (b : Bool) : (s.setMaskBit a n b).pending = s.pending := rfl

@[simp] theorem State.setLive_regs (a : Nat) (v : Word) : (s.setLive a v).regs = s.regs := rfl
@[simp] theorem State.setLive_store (a : Nat) (v : Word) : (s.setLive a v).store = s.store := rfl
@[simp] theorem State.setLive_poison (a : Nat) (v : Word) : (s.setLive a v).poison = s.poison := rfl
@[simp] theorem State.setLive_hold (a : Nat) (v : Word) : (s.setLive a v).hold = s.hold := rfl
@[simp] theorem State.setLive_rdata (a : Nat) (v : Word) : (s.setLive a v).rdata = s.rdata := rfl
@[simp] theorem State.setLive_flagged (a : Nat) (v : Word) : (s.setLive a v).flagged = s.flagged := rfl
@[simp] theorem State.setLive_tb (a : Nat) (v : Word) : (s.setLive a v).tb = s.tb := rfl
@[simp] theorem State.setLive_cfg (a : Nat) (v : Word) : (s.setLive a v).cfg = s.cfg := rfl
@[simp] theorem State.setLive_ops (a : Nat) (v : Word) : (s.setLive a v).ops = s.ops := rfl
@[simp] theorem State.setLive_kept (a : Nat) (v : Word) : (s.setLive a v).kept = s.kept := rfl
@[simp] theorem State.setLive_heldRecs (a : Nat) (v : Word) : (s.setLive a v).heldRecs = s.heldRecs := rfl
@[simp] theorem State.setLive_served (a : Nat) (v : Word) : (s.setLive a v).served = s.served := rfl
@[simp] theorem State.setLive_chans (a : Nat) (v : Word) : (s.setLive a v).chans = s.chans := rfl
@[simp] theorem State.setLive_clus (a : Nat) (v : Word) : (s.setLive a v).clus = s.clus := rfl
@[simp] theorem State.setLive_fnts (a : Nat) (v : Word) : (s.setLive a v).fnts = s.fnts := rfl
@[simp] theorem State.setLive_segs (a : Nat) (v : Word) : (s.setLive a v).segs = s.segs := rfl
@[simp] theorem State.setLive_trg (a : Nat) (v : Word) : (s.setLive a v).trg = s.trg := rfl
@[simp] theorem State.setLive_basinGaps (a : Nat) (v : Word) : (s.setLive a v).basinGaps = s.basinGaps := rfl
@[simp] theorem State.setLive_anas (a : Nat) (v : Word) : (s.setLive a v).anas = s.anas := rfl
@[simp] theorem State.setLive_relocks (a : Nat) (v : Word) : (s.setLive a v).relocks = s.relocks := rfl
@[simp] theorem State.setLive_dpss (a : Nat) (v : Word) : (s.setLive a v).dpss = s.dpss := rfl
@[simp] theorem State.setLive_gov (a : Nat) (v : Word) : (s.setLive a v).gov = s.gov := rfl
@[simp] theorem State.setLive_msqs (a : Nat) (v : Word) : (s.setLive a v).msqs = s.msqs := rfl
@[simp] theorem State.setLive_cals (a : Nat) (v : Word) : (s.setLive a v).cals = s.cals := rfl
@[simp] theorem State.setLive_mnt (a : Nat) (v : Word) : (s.setLive a v).mnt = s.mnt := rfl
@[simp] theorem State.setLive_ports (a : Nat) (v : Word) : (s.setLive a v).ports = s.ports := rfl
@[simp] theorem State.setLive_net (a : Nat) (v : Word) : (s.setLive a v).net = s.net := rfl
@[simp] theorem State.setLive_cont (a : Nat) (v : Word) : (s.setLive a v).cont = s.cont := rfl
@[simp] theorem State.setLive_aon (a : Nat) (v : Word) : (s.setLive a v).aon = s.aon := rfl
@[simp] theorem State.setLive_sec (a : Nat) (v : Word) : (s.setLive a v).sec = s.sec := rfl
@[simp] theorem State.setLive_svc (a : Nat) (v : Word) : (s.setLive a v).svc = s.svc := rfl
@[simp] theorem State.setLive_jtag (a : Nat) (v : Word) : (s.setLive a v).jtag = s.jtag := rfl
@[simp] theorem State.setLive_evq (a : Nat) (v : Word) : (s.setLive a v).evq = s.evq := rfl
@[simp] theorem State.setLive_free (a : Nat) (v : Word) : (s.setLive a v).free = s.free := rfl
@[simp] theorem State.setLive_pending (a : Nat) (v : Word) : (s.setLive a v).pending = s.pending := rfl

@[simp] theorem State.setBoth_store (a : Nat) (v : Word) : (s.setBoth a v).store = s.store := rfl
@[simp] theorem State.setBoth_poison (a : Nat) (v : Word) : (s.setBoth a v).poison = s.poison := rfl
@[simp] theorem State.setBoth_hold (a : Nat) (v : Word) : (s.setBoth a v).hold = s.hold := rfl
@[simp] theorem State.setBoth_rdata (a : Nat) (v : Word) : (s.setBoth a v).rdata = s.rdata := rfl
@[simp] theorem State.setBoth_flagged (a : Nat) (v : Word) : (s.setBoth a v).flagged = s.flagged := rfl
@[simp] theorem State.setBoth_tb (a : Nat) (v : Word) : (s.setBoth a v).tb = s.tb := rfl
@[simp] theorem State.setBoth_cfg (a : Nat) (v : Word) : (s.setBoth a v).cfg = s.cfg := rfl
@[simp] theorem State.setBoth_ops (a : Nat) (v : Word) : (s.setBoth a v).ops = s.ops := rfl
@[simp] theorem State.setBoth_kept (a : Nat) (v : Word) : (s.setBoth a v).kept = s.kept := rfl
@[simp] theorem State.setBoth_heldRecs (a : Nat) (v : Word) : (s.setBoth a v).heldRecs = s.heldRecs := rfl
@[simp] theorem State.setBoth_served (a : Nat) (v : Word) : (s.setBoth a v).served = s.served := rfl
@[simp] theorem State.setBoth_chans (a : Nat) (v : Word) : (s.setBoth a v).chans = s.chans := rfl
@[simp] theorem State.setBoth_clus (a : Nat) (v : Word) : (s.setBoth a v).clus = s.clus := rfl
@[simp] theorem State.setBoth_fnts (a : Nat) (v : Word) : (s.setBoth a v).fnts = s.fnts := rfl
@[simp] theorem State.setBoth_segs (a : Nat) (v : Word) : (s.setBoth a v).segs = s.segs := rfl
@[simp] theorem State.setBoth_trg (a : Nat) (v : Word) : (s.setBoth a v).trg = s.trg := rfl
@[simp] theorem State.setBoth_basinGaps (a : Nat) (v : Word) : (s.setBoth a v).basinGaps = s.basinGaps := rfl
@[simp] theorem State.setBoth_anas (a : Nat) (v : Word) : (s.setBoth a v).anas = s.anas := rfl
@[simp] theorem State.setBoth_relocks (a : Nat) (v : Word) : (s.setBoth a v).relocks = s.relocks := rfl
@[simp] theorem State.setBoth_dpss (a : Nat) (v : Word) : (s.setBoth a v).dpss = s.dpss := rfl
@[simp] theorem State.setBoth_gov (a : Nat) (v : Word) : (s.setBoth a v).gov = s.gov := rfl
@[simp] theorem State.setBoth_msqs (a : Nat) (v : Word) : (s.setBoth a v).msqs = s.msqs := rfl
@[simp] theorem State.setBoth_cals (a : Nat) (v : Word) : (s.setBoth a v).cals = s.cals := rfl
@[simp] theorem State.setBoth_mnt (a : Nat) (v : Word) : (s.setBoth a v).mnt = s.mnt := rfl
@[simp] theorem State.setBoth_ports (a : Nat) (v : Word) : (s.setBoth a v).ports = s.ports := rfl
@[simp] theorem State.setBoth_net (a : Nat) (v : Word) : (s.setBoth a v).net = s.net := rfl
@[simp] theorem State.setBoth_cont (a : Nat) (v : Word) : (s.setBoth a v).cont = s.cont := rfl
@[simp] theorem State.setBoth_aon (a : Nat) (v : Word) : (s.setBoth a v).aon = s.aon := rfl
@[simp] theorem State.setBoth_sec (a : Nat) (v : Word) : (s.setBoth a v).sec = s.sec := rfl
@[simp] theorem State.setBoth_svc (a : Nat) (v : Word) : (s.setBoth a v).svc = s.svc := rfl
@[simp] theorem State.setBoth_jtag (a : Nat) (v : Word) : (s.setBoth a v).jtag = s.jtag := rfl
@[simp] theorem State.setBoth_evq (a : Nat) (v : Word) : (s.setBoth a v).evq = s.evq := rfl
@[simp] theorem State.setBoth_free (a : Nat) (v : Word) : (s.setBoth a v).free = s.free := rfl
@[simp] theorem State.setBoth_pending (a : Nat) (v : Word) : (s.setBoth a v).pending = s.pending := rfl

@[simp] theorem State.resetWords_store (a n : Nat) : (s.resetWords a n).store = s.store := rfl
@[simp] theorem State.resetWords_poison (a n : Nat) : (s.resetWords a n).poison = s.poison := rfl
@[simp] theorem State.resetWords_hold (a n : Nat) : (s.resetWords a n).hold = s.hold := rfl
@[simp] theorem State.resetWords_rdata (a n : Nat) : (s.resetWords a n).rdata = s.rdata := rfl
@[simp] theorem State.resetWords_flagged (a n : Nat) : (s.resetWords a n).flagged = s.flagged := rfl
@[simp] theorem State.resetWords_tb (a n : Nat) : (s.resetWords a n).tb = s.tb := rfl
@[simp] theorem State.resetWords_cfg (a n : Nat) : (s.resetWords a n).cfg = s.cfg := rfl
@[simp] theorem State.resetWords_ops (a n : Nat) : (s.resetWords a n).ops = s.ops := rfl
@[simp] theorem State.resetWords_kept (a n : Nat) : (s.resetWords a n).kept = s.kept := rfl
@[simp] theorem State.resetWords_heldRecs (a n : Nat) : (s.resetWords a n).heldRecs = s.heldRecs := rfl
@[simp] theorem State.resetWords_served (a n : Nat) : (s.resetWords a n).served = s.served := rfl
@[simp] theorem State.resetWords_chans (a n : Nat) : (s.resetWords a n).chans = s.chans := rfl
@[simp] theorem State.resetWords_clus (a n : Nat) : (s.resetWords a n).clus = s.clus := rfl
@[simp] theorem State.resetWords_fnts (a n : Nat) : (s.resetWords a n).fnts = s.fnts := rfl
@[simp] theorem State.resetWords_segs (a n : Nat) : (s.resetWords a n).segs = s.segs := rfl
@[simp] theorem State.resetWords_trg (a n : Nat) : (s.resetWords a n).trg = s.trg := rfl
@[simp] theorem State.resetWords_basinGaps (a n : Nat) : (s.resetWords a n).basinGaps = s.basinGaps := rfl
@[simp] theorem State.resetWords_anas (a n : Nat) : (s.resetWords a n).anas = s.anas := rfl
@[simp] theorem State.resetWords_relocks (a n : Nat) : (s.resetWords a n).relocks = s.relocks := rfl
@[simp] theorem State.resetWords_dpss (a n : Nat) : (s.resetWords a n).dpss = s.dpss := rfl
@[simp] theorem State.resetWords_gov (a n : Nat) : (s.resetWords a n).gov = s.gov := rfl
@[simp] theorem State.resetWords_msqs (a n : Nat) : (s.resetWords a n).msqs = s.msqs := rfl
@[simp] theorem State.resetWords_cals (a n : Nat) : (s.resetWords a n).cals = s.cals := rfl
@[simp] theorem State.resetWords_mnt (a n : Nat) : (s.resetWords a n).mnt = s.mnt := rfl
@[simp] theorem State.resetWords_ports (a n : Nat) : (s.resetWords a n).ports = s.ports := rfl
@[simp] theorem State.resetWords_net (a n : Nat) : (s.resetWords a n).net = s.net := rfl
@[simp] theorem State.resetWords_cont (a n : Nat) : (s.resetWords a n).cont = s.cont := rfl
@[simp] theorem State.resetWords_aon (a n : Nat) : (s.resetWords a n).aon = s.aon := rfl
@[simp] theorem State.resetWords_sec (a n : Nat) : (s.resetWords a n).sec = s.sec := rfl
@[simp] theorem State.resetWords_svc (a n : Nat) : (s.resetWords a n).svc = s.svc := rfl
@[simp] theorem State.resetWords_jtag (a n : Nat) : (s.resetWords a n).jtag = s.jtag := rfl
@[simp] theorem State.resetWords_evq (a n : Nat) : (s.resetWords a n).evq = s.evq := rfl
@[simp] theorem State.resetWords_free (a n : Nat) : (s.resetWords a n).free = s.free := rfl
@[simp] theorem State.resetWords_pending (a n : Nat) : (s.resetWords a n).pending = s.pending := rfl

@[simp] theorem State.setByte_regs (a : Nat) (v : Byte) : (s.setByte a v).regs = s.regs := rfl
@[simp] theorem State.setByte_live (a : Nat) (v : Byte) : (s.setByte a v).live = s.live := rfl
@[simp] theorem State.setByte_poison (a : Nat) (v : Byte) : (s.setByte a v).poison = s.poison := rfl
@[simp] theorem State.setByte_hold (a : Nat) (v : Byte) : (s.setByte a v).hold = s.hold := rfl
@[simp] theorem State.setByte_rdata (a : Nat) (v : Byte) : (s.setByte a v).rdata = s.rdata := rfl
@[simp] theorem State.setByte_flagged (a : Nat) (v : Byte) : (s.setByte a v).flagged = s.flagged := rfl
@[simp] theorem State.setByte_tb (a : Nat) (v : Byte) : (s.setByte a v).tb = s.tb := rfl
@[simp] theorem State.setByte_cfg (a : Nat) (v : Byte) : (s.setByte a v).cfg = s.cfg := rfl
@[simp] theorem State.setByte_ops (a : Nat) (v : Byte) : (s.setByte a v).ops = s.ops := rfl
@[simp] theorem State.setByte_kept (a : Nat) (v : Byte) : (s.setByte a v).kept = s.kept := rfl
@[simp] theorem State.setByte_heldRecs (a : Nat) (v : Byte) : (s.setByte a v).heldRecs = s.heldRecs := rfl
@[simp] theorem State.setByte_served (a : Nat) (v : Byte) : (s.setByte a v).served = s.served := rfl
@[simp] theorem State.setByte_chans (a : Nat) (v : Byte) : (s.setByte a v).chans = s.chans := rfl
@[simp] theorem State.setByte_clus (a : Nat) (v : Byte) : (s.setByte a v).clus = s.clus := rfl
@[simp] theorem State.setByte_fnts (a : Nat) (v : Byte) : (s.setByte a v).fnts = s.fnts := rfl
@[simp] theorem State.setByte_segs (a : Nat) (v : Byte) : (s.setByte a v).segs = s.segs := rfl
@[simp] theorem State.setByte_trg (a : Nat) (v : Byte) : (s.setByte a v).trg = s.trg := rfl
@[simp] theorem State.setByte_basinGaps (a : Nat) (v : Byte) : (s.setByte a v).basinGaps = s.basinGaps := rfl
@[simp] theorem State.setByte_anas (a : Nat) (v : Byte) : (s.setByte a v).anas = s.anas := rfl
@[simp] theorem State.setByte_relocks (a : Nat) (v : Byte) : (s.setByte a v).relocks = s.relocks := rfl
@[simp] theorem State.setByte_dpss (a : Nat) (v : Byte) : (s.setByte a v).dpss = s.dpss := rfl
@[simp] theorem State.setByte_gov (a : Nat) (v : Byte) : (s.setByte a v).gov = s.gov := rfl
@[simp] theorem State.setByte_msqs (a : Nat) (v : Byte) : (s.setByte a v).msqs = s.msqs := rfl
@[simp] theorem State.setByte_cals (a : Nat) (v : Byte) : (s.setByte a v).cals = s.cals := rfl
@[simp] theorem State.setByte_mnt (a : Nat) (v : Byte) : (s.setByte a v).mnt = s.mnt := rfl
@[simp] theorem State.setByte_ports (a : Nat) (v : Byte) : (s.setByte a v).ports = s.ports := rfl
@[simp] theorem State.setByte_net (a : Nat) (v : Byte) : (s.setByte a v).net = s.net := rfl
@[simp] theorem State.setByte_cont (a : Nat) (v : Byte) : (s.setByte a v).cont = s.cont := rfl
@[simp] theorem State.setByte_aon (a : Nat) (v : Byte) : (s.setByte a v).aon = s.aon := rfl
@[simp] theorem State.setByte_sec (a : Nat) (v : Byte) : (s.setByte a v).sec = s.sec := rfl
@[simp] theorem State.setByte_svc (a : Nat) (v : Byte) : (s.setByte a v).svc = s.svc := rfl
@[simp] theorem State.setByte_jtag (a : Nat) (v : Byte) : (s.setByte a v).jtag = s.jtag := rfl
@[simp] theorem State.setByte_evq (a : Nat) (v : Byte) : (s.setByte a v).evq = s.evq := rfl
@[simp] theorem State.setByte_free (a : Nat) (v : Byte) : (s.setByte a v).free = s.free := rfl
@[simp] theorem State.setByte_pending (a : Nat) (v : Byte) : (s.setByte a v).pending = s.pending := rfl

@[simp] theorem State.setChan_regs (c : Nat) (v : Chan) : (s.setChan c v).regs = s.regs := rfl
@[simp] theorem State.setChan_live (c : Nat) (v : Chan) : (s.setChan c v).live = s.live := rfl
@[simp] theorem State.setChan_store (c : Nat) (v : Chan) : (s.setChan c v).store = s.store := rfl
@[simp] theorem State.setChan_poison (c : Nat) (v : Chan) : (s.setChan c v).poison = s.poison := rfl
@[simp] theorem State.setChan_hold (c : Nat) (v : Chan) : (s.setChan c v).hold = s.hold := rfl
@[simp] theorem State.setChan_rdata (c : Nat) (v : Chan) : (s.setChan c v).rdata = s.rdata := rfl
@[simp] theorem State.setChan_flagged (c : Nat) (v : Chan) : (s.setChan c v).flagged = s.flagged := rfl
@[simp] theorem State.setChan_tb (c : Nat) (v : Chan) : (s.setChan c v).tb = s.tb := rfl
@[simp] theorem State.setChan_cfg (c : Nat) (v : Chan) : (s.setChan c v).cfg = s.cfg := rfl
@[simp] theorem State.setChan_ops (c : Nat) (v : Chan) : (s.setChan c v).ops = s.ops := rfl
@[simp] theorem State.setChan_kept (c : Nat) (v : Chan) : (s.setChan c v).kept = s.kept := rfl
@[simp] theorem State.setChan_heldRecs (c : Nat) (v : Chan) : (s.setChan c v).heldRecs = s.heldRecs := rfl
@[simp] theorem State.setChan_served (c : Nat) (v : Chan) : (s.setChan c v).served = s.served := rfl
@[simp] theorem State.setChan_clus (c : Nat) (v : Chan) : (s.setChan c v).clus = s.clus := rfl
@[simp] theorem State.setChan_fnts (c : Nat) (v : Chan) : (s.setChan c v).fnts = s.fnts := rfl
@[simp] theorem State.setChan_segs (c : Nat) (v : Chan) : (s.setChan c v).segs = s.segs := rfl
@[simp] theorem State.setChan_trg (c : Nat) (v : Chan) : (s.setChan c v).trg = s.trg := rfl
@[simp] theorem State.setChan_basinGaps (c : Nat) (v : Chan) : (s.setChan c v).basinGaps = s.basinGaps := rfl
@[simp] theorem State.setChan_anas (c : Nat) (v : Chan) : (s.setChan c v).anas = s.anas := rfl
@[simp] theorem State.setChan_relocks (c : Nat) (v : Chan) : (s.setChan c v).relocks = s.relocks := rfl
@[simp] theorem State.setChan_dpss (c : Nat) (v : Chan) : (s.setChan c v).dpss = s.dpss := rfl
@[simp] theorem State.setChan_gov (c : Nat) (v : Chan) : (s.setChan c v).gov = s.gov := rfl
@[simp] theorem State.setChan_msqs (c : Nat) (v : Chan) : (s.setChan c v).msqs = s.msqs := rfl
@[simp] theorem State.setChan_cals (c : Nat) (v : Chan) : (s.setChan c v).cals = s.cals := rfl
@[simp] theorem State.setChan_mnt (c : Nat) (v : Chan) : (s.setChan c v).mnt = s.mnt := rfl
@[simp] theorem State.setChan_ports (c : Nat) (v : Chan) : (s.setChan c v).ports = s.ports := rfl
@[simp] theorem State.setChan_net (c : Nat) (v : Chan) : (s.setChan c v).net = s.net := rfl
@[simp] theorem State.setChan_cont (c : Nat) (v : Chan) : (s.setChan c v).cont = s.cont := rfl
@[simp] theorem State.setChan_aon (c : Nat) (v : Chan) : (s.setChan c v).aon = s.aon := rfl
@[simp] theorem State.setChan_sec (c : Nat) (v : Chan) : (s.setChan c v).sec = s.sec := rfl
@[simp] theorem State.setChan_svc (c : Nat) (v : Chan) : (s.setChan c v).svc = s.svc := rfl
@[simp] theorem State.setChan_jtag (c : Nat) (v : Chan) : (s.setChan c v).jtag = s.jtag := rfl
@[simp] theorem State.setChan_evq (c : Nat) (v : Chan) : (s.setChan c v).evq = s.evq := rfl
@[simp] theorem State.setChan_free (c : Nat) (v : Chan) : (s.setChan c v).free = s.free := rfl
@[simp] theorem State.setChan_pending (c : Nat) (v : Chan) : (s.setChan c v).pending = s.pending := rfl

@[simp] theorem State.setClu_regs (k : Nat) (v : Clu) : (s.setClu k v).regs = s.regs := rfl
@[simp] theorem State.setClu_live (k : Nat) (v : Clu) : (s.setClu k v).live = s.live := rfl
@[simp] theorem State.setClu_store (k : Nat) (v : Clu) : (s.setClu k v).store = s.store := rfl
@[simp] theorem State.setClu_poison (k : Nat) (v : Clu) : (s.setClu k v).poison = s.poison := rfl
@[simp] theorem State.setClu_hold (k : Nat) (v : Clu) : (s.setClu k v).hold = s.hold := rfl
@[simp] theorem State.setClu_rdata (k : Nat) (v : Clu) : (s.setClu k v).rdata = s.rdata := rfl
@[simp] theorem State.setClu_flagged (k : Nat) (v : Clu) : (s.setClu k v).flagged = s.flagged := rfl
@[simp] theorem State.setClu_tb (k : Nat) (v : Clu) : (s.setClu k v).tb = s.tb := rfl
@[simp] theorem State.setClu_cfg (k : Nat) (v : Clu) : (s.setClu k v).cfg = s.cfg := rfl
@[simp] theorem State.setClu_ops (k : Nat) (v : Clu) : (s.setClu k v).ops = s.ops := rfl
@[simp] theorem State.setClu_kept (k : Nat) (v : Clu) : (s.setClu k v).kept = s.kept := rfl
@[simp] theorem State.setClu_heldRecs (k : Nat) (v : Clu) : (s.setClu k v).heldRecs = s.heldRecs := rfl
@[simp] theorem State.setClu_served (k : Nat) (v : Clu) : (s.setClu k v).served = s.served := rfl
@[simp] theorem State.setClu_chans (k : Nat) (v : Clu) : (s.setClu k v).chans = s.chans := rfl
@[simp] theorem State.setClu_fnts (k : Nat) (v : Clu) : (s.setClu k v).fnts = s.fnts := rfl
@[simp] theorem State.setClu_segs (k : Nat) (v : Clu) : (s.setClu k v).segs = s.segs := rfl
@[simp] theorem State.setClu_trg (k : Nat) (v : Clu) : (s.setClu k v).trg = s.trg := rfl
@[simp] theorem State.setClu_basinGaps (k : Nat) (v : Clu) : (s.setClu k v).basinGaps = s.basinGaps := rfl
@[simp] theorem State.setClu_anas (k : Nat) (v : Clu) : (s.setClu k v).anas = s.anas := rfl
@[simp] theorem State.setClu_relocks (k : Nat) (v : Clu) : (s.setClu k v).relocks = s.relocks := rfl
@[simp] theorem State.setClu_dpss (k : Nat) (v : Clu) : (s.setClu k v).dpss = s.dpss := rfl
@[simp] theorem State.setClu_gov (k : Nat) (v : Clu) : (s.setClu k v).gov = s.gov := rfl
@[simp] theorem State.setClu_msqs (k : Nat) (v : Clu) : (s.setClu k v).msqs = s.msqs := rfl
@[simp] theorem State.setClu_cals (k : Nat) (v : Clu) : (s.setClu k v).cals = s.cals := rfl
@[simp] theorem State.setClu_mnt (k : Nat) (v : Clu) : (s.setClu k v).mnt = s.mnt := rfl
@[simp] theorem State.setClu_ports (k : Nat) (v : Clu) : (s.setClu k v).ports = s.ports := rfl
@[simp] theorem State.setClu_net (k : Nat) (v : Clu) : (s.setClu k v).net = s.net := rfl
@[simp] theorem State.setClu_cont (k : Nat) (v : Clu) : (s.setClu k v).cont = s.cont := rfl
@[simp] theorem State.setClu_aon (k : Nat) (v : Clu) : (s.setClu k v).aon = s.aon := rfl
@[simp] theorem State.setClu_sec (k : Nat) (v : Clu) : (s.setClu k v).sec = s.sec := rfl
@[simp] theorem State.setClu_svc (k : Nat) (v : Clu) : (s.setClu k v).svc = s.svc := rfl
@[simp] theorem State.setClu_jtag (k : Nat) (v : Clu) : (s.setClu k v).jtag = s.jtag := rfl
@[simp] theorem State.setClu_evq (k : Nat) (v : Clu) : (s.setClu k v).evq = s.evq := rfl
@[simp] theorem State.setClu_free (k : Nat) (v : Clu) : (s.setClu k v).free = s.free := rfl
@[simp] theorem State.setClu_pending (k : Nat) (v : Clu) : (s.setClu k v).pending = s.pending := rfl

@[simp] theorem State.setFnt_regs (f : Nat) (v : Fnt) : (s.setFnt f v).regs = s.regs := rfl
@[simp] theorem State.setFnt_live (f : Nat) (v : Fnt) : (s.setFnt f v).live = s.live := rfl
@[simp] theorem State.setFnt_store (f : Nat) (v : Fnt) : (s.setFnt f v).store = s.store := rfl
@[simp] theorem State.setFnt_poison (f : Nat) (v : Fnt) : (s.setFnt f v).poison = s.poison := rfl
@[simp] theorem State.setFnt_hold (f : Nat) (v : Fnt) : (s.setFnt f v).hold = s.hold := rfl
@[simp] theorem State.setFnt_rdata (f : Nat) (v : Fnt) : (s.setFnt f v).rdata = s.rdata := rfl
@[simp] theorem State.setFnt_flagged (f : Nat) (v : Fnt) : (s.setFnt f v).flagged = s.flagged := rfl
@[simp] theorem State.setFnt_tb (f : Nat) (v : Fnt) : (s.setFnt f v).tb = s.tb := rfl
@[simp] theorem State.setFnt_cfg (f : Nat) (v : Fnt) : (s.setFnt f v).cfg = s.cfg := rfl
@[simp] theorem State.setFnt_ops (f : Nat) (v : Fnt) : (s.setFnt f v).ops = s.ops := rfl
@[simp] theorem State.setFnt_kept (f : Nat) (v : Fnt) : (s.setFnt f v).kept = s.kept := rfl
@[simp] theorem State.setFnt_heldRecs (f : Nat) (v : Fnt) : (s.setFnt f v).heldRecs = s.heldRecs := rfl
@[simp] theorem State.setFnt_served (f : Nat) (v : Fnt) : (s.setFnt f v).served = s.served := rfl
@[simp] theorem State.setFnt_chans (f : Nat) (v : Fnt) : (s.setFnt f v).chans = s.chans := rfl
@[simp] theorem State.setFnt_clus (f : Nat) (v : Fnt) : (s.setFnt f v).clus = s.clus := rfl
@[simp] theorem State.setFnt_segs (f : Nat) (v : Fnt) : (s.setFnt f v).segs = s.segs := rfl
@[simp] theorem State.setFnt_trg (f : Nat) (v : Fnt) : (s.setFnt f v).trg = s.trg := rfl
@[simp] theorem State.setFnt_basinGaps (f : Nat) (v : Fnt) : (s.setFnt f v).basinGaps = s.basinGaps := rfl
@[simp] theorem State.setFnt_anas (f : Nat) (v : Fnt) : (s.setFnt f v).anas = s.anas := rfl
@[simp] theorem State.setFnt_relocks (f : Nat) (v : Fnt) : (s.setFnt f v).relocks = s.relocks := rfl
@[simp] theorem State.setFnt_dpss (f : Nat) (v : Fnt) : (s.setFnt f v).dpss = s.dpss := rfl
@[simp] theorem State.setFnt_gov (f : Nat) (v : Fnt) : (s.setFnt f v).gov = s.gov := rfl
@[simp] theorem State.setFnt_msqs (f : Nat) (v : Fnt) : (s.setFnt f v).msqs = s.msqs := rfl
@[simp] theorem State.setFnt_cals (f : Nat) (v : Fnt) : (s.setFnt f v).cals = s.cals := rfl
@[simp] theorem State.setFnt_mnt (f : Nat) (v : Fnt) : (s.setFnt f v).mnt = s.mnt := rfl
@[simp] theorem State.setFnt_ports (f : Nat) (v : Fnt) : (s.setFnt f v).ports = s.ports := rfl
@[simp] theorem State.setFnt_net (f : Nat) (v : Fnt) : (s.setFnt f v).net = s.net := rfl
@[simp] theorem State.setFnt_cont (f : Nat) (v : Fnt) : (s.setFnt f v).cont = s.cont := rfl
@[simp] theorem State.setFnt_aon (f : Nat) (v : Fnt) : (s.setFnt f v).aon = s.aon := rfl
@[simp] theorem State.setFnt_sec (f : Nat) (v : Fnt) : (s.setFnt f v).sec = s.sec := rfl
@[simp] theorem State.setFnt_svc (f : Nat) (v : Fnt) : (s.setFnt f v).svc = s.svc := rfl
@[simp] theorem State.setFnt_jtag (f : Nat) (v : Fnt) : (s.setFnt f v).jtag = s.jtag := rfl
@[simp] theorem State.setFnt_evq (f : Nat) (v : Fnt) : (s.setFnt f v).evq = s.evq := rfl
@[simp] theorem State.setFnt_free (f : Nat) (v : Fnt) : (s.setFnt f v).free = s.free := rfl
@[simp] theorem State.setFnt_pending (f : Nat) (v : Fnt) : (s.setFnt f v).pending = s.pending := rfl

@[simp] theorem State.setSeg_regs (n : Nat) (v : Seg) : (s.setSeg n v).regs = s.regs := rfl
@[simp] theorem State.setSeg_live (n : Nat) (v : Seg) : (s.setSeg n v).live = s.live := rfl
@[simp] theorem State.setSeg_store (n : Nat) (v : Seg) : (s.setSeg n v).store = s.store := rfl
@[simp] theorem State.setSeg_poison (n : Nat) (v : Seg) : (s.setSeg n v).poison = s.poison := rfl
@[simp] theorem State.setSeg_hold (n : Nat) (v : Seg) : (s.setSeg n v).hold = s.hold := rfl
@[simp] theorem State.setSeg_rdata (n : Nat) (v : Seg) : (s.setSeg n v).rdata = s.rdata := rfl
@[simp] theorem State.setSeg_flagged (n : Nat) (v : Seg) : (s.setSeg n v).flagged = s.flagged := rfl
@[simp] theorem State.setSeg_tb (n : Nat) (v : Seg) : (s.setSeg n v).tb = s.tb := rfl
@[simp] theorem State.setSeg_cfg (n : Nat) (v : Seg) : (s.setSeg n v).cfg = s.cfg := rfl
@[simp] theorem State.setSeg_ops (n : Nat) (v : Seg) : (s.setSeg n v).ops = s.ops := rfl
@[simp] theorem State.setSeg_kept (n : Nat) (v : Seg) : (s.setSeg n v).kept = s.kept := rfl
@[simp] theorem State.setSeg_heldRecs (n : Nat) (v : Seg) : (s.setSeg n v).heldRecs = s.heldRecs := rfl
@[simp] theorem State.setSeg_served (n : Nat) (v : Seg) : (s.setSeg n v).served = s.served := rfl
@[simp] theorem State.setSeg_chans (n : Nat) (v : Seg) : (s.setSeg n v).chans = s.chans := rfl
@[simp] theorem State.setSeg_clus (n : Nat) (v : Seg) : (s.setSeg n v).clus = s.clus := rfl
@[simp] theorem State.setSeg_fnts (n : Nat) (v : Seg) : (s.setSeg n v).fnts = s.fnts := rfl
@[simp] theorem State.setSeg_trg (n : Nat) (v : Seg) : (s.setSeg n v).trg = s.trg := rfl
@[simp] theorem State.setSeg_basinGaps (n : Nat) (v : Seg) : (s.setSeg n v).basinGaps = s.basinGaps := rfl
@[simp] theorem State.setSeg_anas (n : Nat) (v : Seg) : (s.setSeg n v).anas = s.anas := rfl
@[simp] theorem State.setSeg_relocks (n : Nat) (v : Seg) : (s.setSeg n v).relocks = s.relocks := rfl
@[simp] theorem State.setSeg_dpss (n : Nat) (v : Seg) : (s.setSeg n v).dpss = s.dpss := rfl
@[simp] theorem State.setSeg_gov (n : Nat) (v : Seg) : (s.setSeg n v).gov = s.gov := rfl
@[simp] theorem State.setSeg_msqs (n : Nat) (v : Seg) : (s.setSeg n v).msqs = s.msqs := rfl
@[simp] theorem State.setSeg_cals (n : Nat) (v : Seg) : (s.setSeg n v).cals = s.cals := rfl
@[simp] theorem State.setSeg_mnt (n : Nat) (v : Seg) : (s.setSeg n v).mnt = s.mnt := rfl
@[simp] theorem State.setSeg_ports (n : Nat) (v : Seg) : (s.setSeg n v).ports = s.ports := rfl
@[simp] theorem State.setSeg_net (n : Nat) (v : Seg) : (s.setSeg n v).net = s.net := rfl
@[simp] theorem State.setSeg_cont (n : Nat) (v : Seg) : (s.setSeg n v).cont = s.cont := rfl
@[simp] theorem State.setSeg_aon (n : Nat) (v : Seg) : (s.setSeg n v).aon = s.aon := rfl
@[simp] theorem State.setSeg_sec (n : Nat) (v : Seg) : (s.setSeg n v).sec = s.sec := rfl
@[simp] theorem State.setSeg_svc (n : Nat) (v : Seg) : (s.setSeg n v).svc = s.svc := rfl
@[simp] theorem State.setSeg_jtag (n : Nat) (v : Seg) : (s.setSeg n v).jtag = s.jtag := rfl
@[simp] theorem State.setSeg_evq (n : Nat) (v : Seg) : (s.setSeg n v).evq = s.evq := rfl
@[simp] theorem State.setSeg_free (n : Nat) (v : Seg) : (s.setSeg n v).free = s.free := rfl
@[simp] theorem State.setSeg_pending (n : Nat) (v : Seg) : (s.setSeg n v).pending = s.pending := rfl

@[simp] theorem State.setAna_regs (n : Nat) (v : Ana) : (s.setAna n v).regs = s.regs := rfl
@[simp] theorem State.setAna_live (n : Nat) (v : Ana) : (s.setAna n v).live = s.live := rfl
@[simp] theorem State.setAna_store (n : Nat) (v : Ana) : (s.setAna n v).store = s.store := rfl
@[simp] theorem State.setAna_poison (n : Nat) (v : Ana) : (s.setAna n v).poison = s.poison := rfl
@[simp] theorem State.setAna_hold (n : Nat) (v : Ana) : (s.setAna n v).hold = s.hold := rfl
@[simp] theorem State.setAna_rdata (n : Nat) (v : Ana) : (s.setAna n v).rdata = s.rdata := rfl
@[simp] theorem State.setAna_flagged (n : Nat) (v : Ana) : (s.setAna n v).flagged = s.flagged := rfl
@[simp] theorem State.setAna_tb (n : Nat) (v : Ana) : (s.setAna n v).tb = s.tb := rfl
@[simp] theorem State.setAna_cfg (n : Nat) (v : Ana) : (s.setAna n v).cfg = s.cfg := rfl
@[simp] theorem State.setAna_ops (n : Nat) (v : Ana) : (s.setAna n v).ops = s.ops := rfl
@[simp] theorem State.setAna_kept (n : Nat) (v : Ana) : (s.setAna n v).kept = s.kept := rfl
@[simp] theorem State.setAna_heldRecs (n : Nat) (v : Ana) : (s.setAna n v).heldRecs = s.heldRecs := rfl
@[simp] theorem State.setAna_served (n : Nat) (v : Ana) : (s.setAna n v).served = s.served := rfl
@[simp] theorem State.setAna_chans (n : Nat) (v : Ana) : (s.setAna n v).chans = s.chans := rfl
@[simp] theorem State.setAna_clus (n : Nat) (v : Ana) : (s.setAna n v).clus = s.clus := rfl
@[simp] theorem State.setAna_fnts (n : Nat) (v : Ana) : (s.setAna n v).fnts = s.fnts := rfl
@[simp] theorem State.setAna_segs (n : Nat) (v : Ana) : (s.setAna n v).segs = s.segs := rfl
@[simp] theorem State.setAna_trg (n : Nat) (v : Ana) : (s.setAna n v).trg = s.trg := rfl
@[simp] theorem State.setAna_basinGaps (n : Nat) (v : Ana) : (s.setAna n v).basinGaps = s.basinGaps := rfl
@[simp] theorem State.setAna_relocks (n : Nat) (v : Ana) : (s.setAna n v).relocks = s.relocks := rfl
@[simp] theorem State.setAna_dpss (n : Nat) (v : Ana) : (s.setAna n v).dpss = s.dpss := rfl
@[simp] theorem State.setAna_gov (n : Nat) (v : Ana) : (s.setAna n v).gov = s.gov := rfl
@[simp] theorem State.setAna_msqs (n : Nat) (v : Ana) : (s.setAna n v).msqs = s.msqs := rfl
@[simp] theorem State.setAna_cals (n : Nat) (v : Ana) : (s.setAna n v).cals = s.cals := rfl
@[simp] theorem State.setAna_mnt (n : Nat) (v : Ana) : (s.setAna n v).mnt = s.mnt := rfl
@[simp] theorem State.setAna_ports (n : Nat) (v : Ana) : (s.setAna n v).ports = s.ports := rfl
@[simp] theorem State.setAna_net (n : Nat) (v : Ana) : (s.setAna n v).net = s.net := rfl
@[simp] theorem State.setAna_cont (n : Nat) (v : Ana) : (s.setAna n v).cont = s.cont := rfl
@[simp] theorem State.setAna_aon (n : Nat) (v : Ana) : (s.setAna n v).aon = s.aon := rfl
@[simp] theorem State.setAna_sec (n : Nat) (v : Ana) : (s.setAna n v).sec = s.sec := rfl
@[simp] theorem State.setAna_svc (n : Nat) (v : Ana) : (s.setAna n v).svc = s.svc := rfl
@[simp] theorem State.setAna_jtag (n : Nat) (v : Ana) : (s.setAna n v).jtag = s.jtag := rfl
@[simp] theorem State.setAna_evq (n : Nat) (v : Ana) : (s.setAna n v).evq = s.evq := rfl
@[simp] theorem State.setAna_free (n : Nat) (v : Ana) : (s.setAna n v).free = s.free := rfl
@[simp] theorem State.setAna_pending (n : Nat) (v : Ana) : (s.setAna n v).pending = s.pending := rfl

@[simp] theorem State.setCtl_regs (d : Nat) (v : Dps) : (s.setCtl d v).regs = s.regs := rfl
@[simp] theorem State.setCtl_live (d : Nat) (v : Dps) : (s.setCtl d v).live = s.live := rfl
@[simp] theorem State.setCtl_store (d : Nat) (v : Dps) : (s.setCtl d v).store = s.store := rfl
@[simp] theorem State.setCtl_poison (d : Nat) (v : Dps) : (s.setCtl d v).poison = s.poison := rfl
@[simp] theorem State.setCtl_hold (d : Nat) (v : Dps) : (s.setCtl d v).hold = s.hold := rfl
@[simp] theorem State.setCtl_rdata (d : Nat) (v : Dps) : (s.setCtl d v).rdata = s.rdata := rfl
@[simp] theorem State.setCtl_flagged (d : Nat) (v : Dps) : (s.setCtl d v).flagged = s.flagged := rfl
@[simp] theorem State.setCtl_tb (d : Nat) (v : Dps) : (s.setCtl d v).tb = s.tb := rfl
@[simp] theorem State.setCtl_cfg (d : Nat) (v : Dps) : (s.setCtl d v).cfg = s.cfg := rfl
@[simp] theorem State.setCtl_ops (d : Nat) (v : Dps) : (s.setCtl d v).ops = s.ops := rfl
@[simp] theorem State.setCtl_kept (d : Nat) (v : Dps) : (s.setCtl d v).kept = s.kept := rfl
@[simp] theorem State.setCtl_heldRecs (d : Nat) (v : Dps) : (s.setCtl d v).heldRecs = s.heldRecs := rfl
@[simp] theorem State.setCtl_served (d : Nat) (v : Dps) : (s.setCtl d v).served = s.served := rfl
@[simp] theorem State.setCtl_chans (d : Nat) (v : Dps) : (s.setCtl d v).chans = s.chans := rfl
@[simp] theorem State.setCtl_clus (d : Nat) (v : Dps) : (s.setCtl d v).clus = s.clus := rfl
@[simp] theorem State.setCtl_fnts (d : Nat) (v : Dps) : (s.setCtl d v).fnts = s.fnts := rfl
@[simp] theorem State.setCtl_segs (d : Nat) (v : Dps) : (s.setCtl d v).segs = s.segs := rfl
@[simp] theorem State.setCtl_trg (d : Nat) (v : Dps) : (s.setCtl d v).trg = s.trg := rfl
@[simp] theorem State.setCtl_basinGaps (d : Nat) (v : Dps) : (s.setCtl d v).basinGaps = s.basinGaps := rfl
@[simp] theorem State.setCtl_anas (d : Nat) (v : Dps) : (s.setCtl d v).anas = s.anas := rfl
@[simp] theorem State.setCtl_relocks (d : Nat) (v : Dps) : (s.setCtl d v).relocks = s.relocks := rfl
@[simp] theorem State.setCtl_gov (d : Nat) (v : Dps) : (s.setCtl d v).gov = s.gov := rfl
@[simp] theorem State.setCtl_msqs (d : Nat) (v : Dps) : (s.setCtl d v).msqs = s.msqs := rfl
@[simp] theorem State.setCtl_cals (d : Nat) (v : Dps) : (s.setCtl d v).cals = s.cals := rfl
@[simp] theorem State.setCtl_mnt (d : Nat) (v : Dps) : (s.setCtl d v).mnt = s.mnt := rfl
@[simp] theorem State.setCtl_ports (d : Nat) (v : Dps) : (s.setCtl d v).ports = s.ports := rfl
@[simp] theorem State.setCtl_net (d : Nat) (v : Dps) : (s.setCtl d v).net = s.net := rfl
@[simp] theorem State.setCtl_cont (d : Nat) (v : Dps) : (s.setCtl d v).cont = s.cont := rfl
@[simp] theorem State.setCtl_aon (d : Nat) (v : Dps) : (s.setCtl d v).aon = s.aon := rfl
@[simp] theorem State.setCtl_sec (d : Nat) (v : Dps) : (s.setCtl d v).sec = s.sec := rfl
@[simp] theorem State.setCtl_svc (d : Nat) (v : Dps) : (s.setCtl d v).svc = s.svc := rfl
@[simp] theorem State.setCtl_jtag (d : Nat) (v : Dps) : (s.setCtl d v).jtag = s.jtag := rfl
@[simp] theorem State.setCtl_evq (d : Nat) (v : Dps) : (s.setCtl d v).evq = s.evq := rfl
@[simp] theorem State.setCtl_free (d : Nat) (v : Dps) : (s.setCtl d v).free = s.free := rfl
@[simp] theorem State.setCtl_pending (d : Nat) (v : Dps) : (s.setCtl d v).pending = s.pending := rfl

@[simp] theorem State.setMsq_regs (m : Nat) (v : Msq) : (s.setMsq m v).regs = s.regs := rfl
@[simp] theorem State.setMsq_live (m : Nat) (v : Msq) : (s.setMsq m v).live = s.live := rfl
@[simp] theorem State.setMsq_store (m : Nat) (v : Msq) : (s.setMsq m v).store = s.store := rfl
@[simp] theorem State.setMsq_poison (m : Nat) (v : Msq) : (s.setMsq m v).poison = s.poison := rfl
@[simp] theorem State.setMsq_hold (m : Nat) (v : Msq) : (s.setMsq m v).hold = s.hold := rfl
@[simp] theorem State.setMsq_rdata (m : Nat) (v : Msq) : (s.setMsq m v).rdata = s.rdata := rfl
@[simp] theorem State.setMsq_flagged (m : Nat) (v : Msq) : (s.setMsq m v).flagged = s.flagged := rfl
@[simp] theorem State.setMsq_tb (m : Nat) (v : Msq) : (s.setMsq m v).tb = s.tb := rfl
@[simp] theorem State.setMsq_cfg (m : Nat) (v : Msq) : (s.setMsq m v).cfg = s.cfg := rfl
@[simp] theorem State.setMsq_ops (m : Nat) (v : Msq) : (s.setMsq m v).ops = s.ops := rfl
@[simp] theorem State.setMsq_kept (m : Nat) (v : Msq) : (s.setMsq m v).kept = s.kept := rfl
@[simp] theorem State.setMsq_heldRecs (m : Nat) (v : Msq) : (s.setMsq m v).heldRecs = s.heldRecs := rfl
@[simp] theorem State.setMsq_served (m : Nat) (v : Msq) : (s.setMsq m v).served = s.served := rfl
@[simp] theorem State.setMsq_chans (m : Nat) (v : Msq) : (s.setMsq m v).chans = s.chans := rfl
@[simp] theorem State.setMsq_clus (m : Nat) (v : Msq) : (s.setMsq m v).clus = s.clus := rfl
@[simp] theorem State.setMsq_fnts (m : Nat) (v : Msq) : (s.setMsq m v).fnts = s.fnts := rfl
@[simp] theorem State.setMsq_segs (m : Nat) (v : Msq) : (s.setMsq m v).segs = s.segs := rfl
@[simp] theorem State.setMsq_trg (m : Nat) (v : Msq) : (s.setMsq m v).trg = s.trg := rfl
@[simp] theorem State.setMsq_basinGaps (m : Nat) (v : Msq) : (s.setMsq m v).basinGaps = s.basinGaps := rfl
@[simp] theorem State.setMsq_anas (m : Nat) (v : Msq) : (s.setMsq m v).anas = s.anas := rfl
@[simp] theorem State.setMsq_relocks (m : Nat) (v : Msq) : (s.setMsq m v).relocks = s.relocks := rfl
@[simp] theorem State.setMsq_dpss (m : Nat) (v : Msq) : (s.setMsq m v).dpss = s.dpss := rfl
@[simp] theorem State.setMsq_gov (m : Nat) (v : Msq) : (s.setMsq m v).gov = s.gov := rfl
@[simp] theorem State.setMsq_cals (m : Nat) (v : Msq) : (s.setMsq m v).cals = s.cals := rfl
@[simp] theorem State.setMsq_mnt (m : Nat) (v : Msq) : (s.setMsq m v).mnt = s.mnt := rfl
@[simp] theorem State.setMsq_ports (m : Nat) (v : Msq) : (s.setMsq m v).ports = s.ports := rfl
@[simp] theorem State.setMsq_net (m : Nat) (v : Msq) : (s.setMsq m v).net = s.net := rfl
@[simp] theorem State.setMsq_cont (m : Nat) (v : Msq) : (s.setMsq m v).cont = s.cont := rfl
@[simp] theorem State.setMsq_aon (m : Nat) (v : Msq) : (s.setMsq m v).aon = s.aon := rfl
@[simp] theorem State.setMsq_sec (m : Nat) (v : Msq) : (s.setMsq m v).sec = s.sec := rfl
@[simp] theorem State.setMsq_svc (m : Nat) (v : Msq) : (s.setMsq m v).svc = s.svc := rfl
@[simp] theorem State.setMsq_jtag (m : Nat) (v : Msq) : (s.setMsq m v).jtag = s.jtag := rfl
@[simp] theorem State.setMsq_evq (m : Nat) (v : Msq) : (s.setMsq m v).evq = s.evq := rfl
@[simp] theorem State.setMsq_free (m : Nat) (v : Msq) : (s.setMsq m v).free = s.free := rfl
@[simp] theorem State.setMsq_pending (m : Nat) (v : Msq) : (s.setMsq m v).pending = s.pending := rfl

@[simp] theorem State.setCal_regs (u : Nat) (v : Cal) : (s.setCal u v).regs = s.regs := rfl
@[simp] theorem State.setCal_live (u : Nat) (v : Cal) : (s.setCal u v).live = s.live := rfl
@[simp] theorem State.setCal_store (u : Nat) (v : Cal) : (s.setCal u v).store = s.store := rfl
@[simp] theorem State.setCal_poison (u : Nat) (v : Cal) : (s.setCal u v).poison = s.poison := rfl
@[simp] theorem State.setCal_hold (u : Nat) (v : Cal) : (s.setCal u v).hold = s.hold := rfl
@[simp] theorem State.setCal_rdata (u : Nat) (v : Cal) : (s.setCal u v).rdata = s.rdata := rfl
@[simp] theorem State.setCal_flagged (u : Nat) (v : Cal) : (s.setCal u v).flagged = s.flagged := rfl
@[simp] theorem State.setCal_tb (u : Nat) (v : Cal) : (s.setCal u v).tb = s.tb := rfl
@[simp] theorem State.setCal_cfg (u : Nat) (v : Cal) : (s.setCal u v).cfg = s.cfg := rfl
@[simp] theorem State.setCal_ops (u : Nat) (v : Cal) : (s.setCal u v).ops = s.ops := rfl
@[simp] theorem State.setCal_kept (u : Nat) (v : Cal) : (s.setCal u v).kept = s.kept := rfl
@[simp] theorem State.setCal_heldRecs (u : Nat) (v : Cal) : (s.setCal u v).heldRecs = s.heldRecs := rfl
@[simp] theorem State.setCal_served (u : Nat) (v : Cal) : (s.setCal u v).served = s.served := rfl
@[simp] theorem State.setCal_chans (u : Nat) (v : Cal) : (s.setCal u v).chans = s.chans := rfl
@[simp] theorem State.setCal_clus (u : Nat) (v : Cal) : (s.setCal u v).clus = s.clus := rfl
@[simp] theorem State.setCal_fnts (u : Nat) (v : Cal) : (s.setCal u v).fnts = s.fnts := rfl
@[simp] theorem State.setCal_segs (u : Nat) (v : Cal) : (s.setCal u v).segs = s.segs := rfl
@[simp] theorem State.setCal_trg (u : Nat) (v : Cal) : (s.setCal u v).trg = s.trg := rfl
@[simp] theorem State.setCal_basinGaps (u : Nat) (v : Cal) : (s.setCal u v).basinGaps = s.basinGaps := rfl
@[simp] theorem State.setCal_anas (u : Nat) (v : Cal) : (s.setCal u v).anas = s.anas := rfl
@[simp] theorem State.setCal_relocks (u : Nat) (v : Cal) : (s.setCal u v).relocks = s.relocks := rfl
@[simp] theorem State.setCal_dpss (u : Nat) (v : Cal) : (s.setCal u v).dpss = s.dpss := rfl
@[simp] theorem State.setCal_gov (u : Nat) (v : Cal) : (s.setCal u v).gov = s.gov := rfl
@[simp] theorem State.setCal_msqs (u : Nat) (v : Cal) : (s.setCal u v).msqs = s.msqs := rfl
@[simp] theorem State.setCal_mnt (u : Nat) (v : Cal) : (s.setCal u v).mnt = s.mnt := rfl
@[simp] theorem State.setCal_ports (u : Nat) (v : Cal) : (s.setCal u v).ports = s.ports := rfl
@[simp] theorem State.setCal_net (u : Nat) (v : Cal) : (s.setCal u v).net = s.net := rfl
@[simp] theorem State.setCal_cont (u : Nat) (v : Cal) : (s.setCal u v).cont = s.cont := rfl
@[simp] theorem State.setCal_aon (u : Nat) (v : Cal) : (s.setCal u v).aon = s.aon := rfl
@[simp] theorem State.setCal_sec (u : Nat) (v : Cal) : (s.setCal u v).sec = s.sec := rfl
@[simp] theorem State.setCal_svc (u : Nat) (v : Cal) : (s.setCal u v).svc = s.svc := rfl
@[simp] theorem State.setCal_jtag (u : Nat) (v : Cal) : (s.setCal u v).jtag = s.jtag := rfl
@[simp] theorem State.setCal_evq (u : Nat) (v : Cal) : (s.setCal u v).evq = s.evq := rfl
@[simp] theorem State.setCal_free (u : Nat) (v : Cal) : (s.setCal u v).free = s.free := rfl
@[simp] theorem State.setCal_pending (u : Nat) (v : Cal) : (s.setCal u v).pending = s.pending := rfl

@[simp] theorem State.setPort_regs (p : Nat) (v : Port) : (s.setPort p v).regs = s.regs := rfl
@[simp] theorem State.setPort_live (p : Nat) (v : Port) : (s.setPort p v).live = s.live := rfl
@[simp] theorem State.setPort_store (p : Nat) (v : Port) : (s.setPort p v).store = s.store := rfl
@[simp] theorem State.setPort_poison (p : Nat) (v : Port) : (s.setPort p v).poison = s.poison := rfl
@[simp] theorem State.setPort_hold (p : Nat) (v : Port) : (s.setPort p v).hold = s.hold := rfl
@[simp] theorem State.setPort_rdata (p : Nat) (v : Port) : (s.setPort p v).rdata = s.rdata := rfl
@[simp] theorem State.setPort_flagged (p : Nat) (v : Port) : (s.setPort p v).flagged = s.flagged := rfl
@[simp] theorem State.setPort_tb (p : Nat) (v : Port) : (s.setPort p v).tb = s.tb := rfl
@[simp] theorem State.setPort_cfg (p : Nat) (v : Port) : (s.setPort p v).cfg = s.cfg := rfl
@[simp] theorem State.setPort_ops (p : Nat) (v : Port) : (s.setPort p v).ops = s.ops := rfl
@[simp] theorem State.setPort_kept (p : Nat) (v : Port) : (s.setPort p v).kept = s.kept := rfl
@[simp] theorem State.setPort_heldRecs (p : Nat) (v : Port) : (s.setPort p v).heldRecs = s.heldRecs := rfl
@[simp] theorem State.setPort_served (p : Nat) (v : Port) : (s.setPort p v).served = s.served := rfl
@[simp] theorem State.setPort_chans (p : Nat) (v : Port) : (s.setPort p v).chans = s.chans := rfl
@[simp] theorem State.setPort_clus (p : Nat) (v : Port) : (s.setPort p v).clus = s.clus := rfl
@[simp] theorem State.setPort_fnts (p : Nat) (v : Port) : (s.setPort p v).fnts = s.fnts := rfl
@[simp] theorem State.setPort_segs (p : Nat) (v : Port) : (s.setPort p v).segs = s.segs := rfl
@[simp] theorem State.setPort_trg (p : Nat) (v : Port) : (s.setPort p v).trg = s.trg := rfl
@[simp] theorem State.setPort_basinGaps (p : Nat) (v : Port) : (s.setPort p v).basinGaps = s.basinGaps := rfl
@[simp] theorem State.setPort_anas (p : Nat) (v : Port) : (s.setPort p v).anas = s.anas := rfl
@[simp] theorem State.setPort_relocks (p : Nat) (v : Port) : (s.setPort p v).relocks = s.relocks := rfl
@[simp] theorem State.setPort_dpss (p : Nat) (v : Port) : (s.setPort p v).dpss = s.dpss := rfl
@[simp] theorem State.setPort_gov (p : Nat) (v : Port) : (s.setPort p v).gov = s.gov := rfl
@[simp] theorem State.setPort_msqs (p : Nat) (v : Port) : (s.setPort p v).msqs = s.msqs := rfl
@[simp] theorem State.setPort_cals (p : Nat) (v : Port) : (s.setPort p v).cals = s.cals := rfl
@[simp] theorem State.setPort_mnt (p : Nat) (v : Port) : (s.setPort p v).mnt = s.mnt := rfl
@[simp] theorem State.setPort_net (p : Nat) (v : Port) : (s.setPort p v).net = s.net := rfl
@[simp] theorem State.setPort_cont (p : Nat) (v : Port) : (s.setPort p v).cont = s.cont := rfl
@[simp] theorem State.setPort_aon (p : Nat) (v : Port) : (s.setPort p v).aon = s.aon := rfl
@[simp] theorem State.setPort_sec (p : Nat) (v : Port) : (s.setPort p v).sec = s.sec := rfl
@[simp] theorem State.setPort_svc (p : Nat) (v : Port) : (s.setPort p v).svc = s.svc := rfl
@[simp] theorem State.setPort_jtag (p : Nat) (v : Port) : (s.setPort p v).jtag = s.jtag := rfl
@[simp] theorem State.setPort_evq (p : Nat) (v : Port) : (s.setPort p v).evq = s.evq := rfl
@[simp] theorem State.setPort_free (p : Nat) (v : Port) : (s.setPort p v).free = s.free := rfl
@[simp] theorem State.setPort_pending (p : Nat) (v : Port) : (s.setPort p v).pending = s.pending := rfl

@[simp] theorem State.setOp_regs (o : Op) : (s.setOp o).regs = s.regs := rfl
@[simp] theorem State.setOp_live (o : Op) : (s.setOp o).live = s.live := rfl
@[simp] theorem State.setOp_store (o : Op) : (s.setOp o).store = s.store := rfl
@[simp] theorem State.setOp_poison (o : Op) : (s.setOp o).poison = s.poison := rfl
@[simp] theorem State.setOp_hold (o : Op) : (s.setOp o).hold = s.hold := rfl
@[simp] theorem State.setOp_rdata (o : Op) : (s.setOp o).rdata = s.rdata := rfl
@[simp] theorem State.setOp_flagged (o : Op) : (s.setOp o).flagged = s.flagged := rfl
@[simp] theorem State.setOp_tb (o : Op) : (s.setOp o).tb = s.tb := rfl
@[simp] theorem State.setOp_cfg (o : Op) : (s.setOp o).cfg = s.cfg := rfl
@[simp] theorem State.setOp_kept (o : Op) : (s.setOp o).kept = s.kept := rfl
@[simp] theorem State.setOp_heldRecs (o : Op) : (s.setOp o).heldRecs = s.heldRecs := rfl
@[simp] theorem State.setOp_served (o : Op) : (s.setOp o).served = s.served := rfl
@[simp] theorem State.setOp_chans (o : Op) : (s.setOp o).chans = s.chans := rfl
@[simp] theorem State.setOp_clus (o : Op) : (s.setOp o).clus = s.clus := rfl
@[simp] theorem State.setOp_fnts (o : Op) : (s.setOp o).fnts = s.fnts := rfl
@[simp] theorem State.setOp_segs (o : Op) : (s.setOp o).segs = s.segs := rfl
@[simp] theorem State.setOp_trg (o : Op) : (s.setOp o).trg = s.trg := rfl
@[simp] theorem State.setOp_basinGaps (o : Op) : (s.setOp o).basinGaps = s.basinGaps := rfl
@[simp] theorem State.setOp_anas (o : Op) : (s.setOp o).anas = s.anas := rfl
@[simp] theorem State.setOp_relocks (o : Op) : (s.setOp o).relocks = s.relocks := rfl
@[simp] theorem State.setOp_dpss (o : Op) : (s.setOp o).dpss = s.dpss := rfl
@[simp] theorem State.setOp_gov (o : Op) : (s.setOp o).gov = s.gov := rfl
@[simp] theorem State.setOp_msqs (o : Op) : (s.setOp o).msqs = s.msqs := rfl
@[simp] theorem State.setOp_cals (o : Op) : (s.setOp o).cals = s.cals := rfl
@[simp] theorem State.setOp_mnt (o : Op) : (s.setOp o).mnt = s.mnt := rfl
@[simp] theorem State.setOp_ports (o : Op) : (s.setOp o).ports = s.ports := rfl
@[simp] theorem State.setOp_net (o : Op) : (s.setOp o).net = s.net := rfl
@[simp] theorem State.setOp_cont (o : Op) : (s.setOp o).cont = s.cont := rfl
@[simp] theorem State.setOp_aon (o : Op) : (s.setOp o).aon = s.aon := rfl
@[simp] theorem State.setOp_sec (o : Op) : (s.setOp o).sec = s.sec := rfl
@[simp] theorem State.setOp_svc (o : Op) : (s.setOp o).svc = s.svc := rfl
@[simp] theorem State.setOp_jtag (o : Op) : (s.setOp o).jtag = s.jtag := rfl
@[simp] theorem State.setOp_evq (o : Op) : (s.setOp o).evq = s.evq := rfl
@[simp] theorem State.setOp_free (o : Op) : (s.setOp o).free = s.free := rfl
@[simp] theorem State.setOp_pending (o : Op) : (s.setOp o).pending = s.pending := rfl

@[simp] theorem State.modOp_regs (x : Asn) (f : Op → Op) : (s.modOp x f).regs = s.regs := rfl
@[simp] theorem State.modOp_live (x : Asn) (f : Op → Op) : (s.modOp x f).live = s.live := rfl
@[simp] theorem State.modOp_store (x : Asn) (f : Op → Op) : (s.modOp x f).store = s.store := rfl
@[simp] theorem State.modOp_poison (x : Asn) (f : Op → Op) : (s.modOp x f).poison = s.poison := rfl
@[simp] theorem State.modOp_hold (x : Asn) (f : Op → Op) : (s.modOp x f).hold = s.hold := rfl
@[simp] theorem State.modOp_rdata (x : Asn) (f : Op → Op) : (s.modOp x f).rdata = s.rdata := rfl
@[simp] theorem State.modOp_flagged (x : Asn) (f : Op → Op) : (s.modOp x f).flagged = s.flagged := rfl
@[simp] theorem State.modOp_tb (x : Asn) (f : Op → Op) : (s.modOp x f).tb = s.tb := rfl
@[simp] theorem State.modOp_cfg (x : Asn) (f : Op → Op) : (s.modOp x f).cfg = s.cfg := rfl
@[simp] theorem State.modOp_kept (x : Asn) (f : Op → Op) : (s.modOp x f).kept = s.kept := rfl
@[simp] theorem State.modOp_heldRecs (x : Asn) (f : Op → Op) : (s.modOp x f).heldRecs = s.heldRecs := rfl
@[simp] theorem State.modOp_served (x : Asn) (f : Op → Op) : (s.modOp x f).served = s.served := rfl
@[simp] theorem State.modOp_chans (x : Asn) (f : Op → Op) : (s.modOp x f).chans = s.chans := rfl
@[simp] theorem State.modOp_clus (x : Asn) (f : Op → Op) : (s.modOp x f).clus = s.clus := rfl
@[simp] theorem State.modOp_fnts (x : Asn) (f : Op → Op) : (s.modOp x f).fnts = s.fnts := rfl
@[simp] theorem State.modOp_segs (x : Asn) (f : Op → Op) : (s.modOp x f).segs = s.segs := rfl
@[simp] theorem State.modOp_trg (x : Asn) (f : Op → Op) : (s.modOp x f).trg = s.trg := rfl
@[simp] theorem State.modOp_basinGaps (x : Asn) (f : Op → Op) : (s.modOp x f).basinGaps = s.basinGaps := rfl
@[simp] theorem State.modOp_anas (x : Asn) (f : Op → Op) : (s.modOp x f).anas = s.anas := rfl
@[simp] theorem State.modOp_relocks (x : Asn) (f : Op → Op) : (s.modOp x f).relocks = s.relocks := rfl
@[simp] theorem State.modOp_dpss (x : Asn) (f : Op → Op) : (s.modOp x f).dpss = s.dpss := rfl
@[simp] theorem State.modOp_gov (x : Asn) (f : Op → Op) : (s.modOp x f).gov = s.gov := rfl
@[simp] theorem State.modOp_msqs (x : Asn) (f : Op → Op) : (s.modOp x f).msqs = s.msqs := rfl
@[simp] theorem State.modOp_cals (x : Asn) (f : Op → Op) : (s.modOp x f).cals = s.cals := rfl
@[simp] theorem State.modOp_mnt (x : Asn) (f : Op → Op) : (s.modOp x f).mnt = s.mnt := rfl
@[simp] theorem State.modOp_ports (x : Asn) (f : Op → Op) : (s.modOp x f).ports = s.ports := rfl
@[simp] theorem State.modOp_net (x : Asn) (f : Op → Op) : (s.modOp x f).net = s.net := rfl
@[simp] theorem State.modOp_cont (x : Asn) (f : Op → Op) : (s.modOp x f).cont = s.cont := rfl
@[simp] theorem State.modOp_aon (x : Asn) (f : Op → Op) : (s.modOp x f).aon = s.aon := rfl
@[simp] theorem State.modOp_sec (x : Asn) (f : Op → Op) : (s.modOp x f).sec = s.sec := rfl
@[simp] theorem State.modOp_svc (x : Asn) (f : Op → Op) : (s.modOp x f).svc = s.svc := rfl
@[simp] theorem State.modOp_jtag (x : Asn) (f : Op → Op) : (s.modOp x f).jtag = s.jtag := rfl
@[simp] theorem State.modOp_evq (x : Asn) (f : Op → Op) : (s.modOp x f).evq = s.evq := rfl
@[simp] theorem State.modOp_free (x : Asn) (f : Op → Op) : (s.modOp x f).free = s.free := rfl
@[simp] theorem State.modOp_pending (x : Asn) (f : Op → Op) : (s.modOp x f).pending = s.pending := rfl

@[simp] theorem State.ltAdd_regs (i n : Nat) : (s.ltAdd i n).regs = s.regs := rfl
@[simp] theorem State.ltAdd_live (i n : Nat) : (s.ltAdd i n).live = s.live := rfl
@[simp] theorem State.ltAdd_store (i n : Nat) : (s.ltAdd i n).store = s.store := rfl
@[simp] theorem State.ltAdd_poison (i n : Nat) : (s.ltAdd i n).poison = s.poison := rfl
@[simp] theorem State.ltAdd_hold (i n : Nat) : (s.ltAdd i n).hold = s.hold := rfl
@[simp] theorem State.ltAdd_rdata (i n : Nat) : (s.ltAdd i n).rdata = s.rdata := rfl
@[simp] theorem State.ltAdd_flagged (i n : Nat) : (s.ltAdd i n).flagged = s.flagged := rfl
@[simp] theorem State.ltAdd_tb (i n : Nat) : (s.ltAdd i n).tb = s.tb := rfl
@[simp] theorem State.ltAdd_cfg (i n : Nat) : (s.ltAdd i n).cfg = s.cfg := rfl
@[simp] theorem State.ltAdd_ops (i n : Nat) : (s.ltAdd i n).ops = s.ops := rfl
@[simp] theorem State.ltAdd_kept (i n : Nat) : (s.ltAdd i n).kept = s.kept := rfl
@[simp] theorem State.ltAdd_heldRecs (i n : Nat) : (s.ltAdd i n).heldRecs = s.heldRecs := rfl
@[simp] theorem State.ltAdd_served (i n : Nat) : (s.ltAdd i n).served = s.served := rfl
@[simp] theorem State.ltAdd_chans (i n : Nat) : (s.ltAdd i n).chans = s.chans := rfl
@[simp] theorem State.ltAdd_clus (i n : Nat) : (s.ltAdd i n).clus = s.clus := rfl
@[simp] theorem State.ltAdd_fnts (i n : Nat) : (s.ltAdd i n).fnts = s.fnts := rfl
@[simp] theorem State.ltAdd_segs (i n : Nat) : (s.ltAdd i n).segs = s.segs := rfl
@[simp] theorem State.ltAdd_trg (i n : Nat) : (s.ltAdd i n).trg = s.trg := rfl
@[simp] theorem State.ltAdd_basinGaps (i n : Nat) : (s.ltAdd i n).basinGaps = s.basinGaps := rfl
@[simp] theorem State.ltAdd_anas (i n : Nat) : (s.ltAdd i n).anas = s.anas := rfl
@[simp] theorem State.ltAdd_relocks (i n : Nat) : (s.ltAdd i n).relocks = s.relocks := rfl
@[simp] theorem State.ltAdd_dpss (i n : Nat) : (s.ltAdd i n).dpss = s.dpss := rfl
@[simp] theorem State.ltAdd_gov (i n : Nat) : (s.ltAdd i n).gov = s.gov := rfl
@[simp] theorem State.ltAdd_msqs (i n : Nat) : (s.ltAdd i n).msqs = s.msqs := rfl
@[simp] theorem State.ltAdd_cals (i n : Nat) : (s.ltAdd i n).cals = s.cals := rfl
@[simp] theorem State.ltAdd_mnt (i n : Nat) : (s.ltAdd i n).mnt = s.mnt := rfl
@[simp] theorem State.ltAdd_ports (i n : Nat) : (s.ltAdd i n).ports = s.ports := rfl
@[simp] theorem State.ltAdd_net (i n : Nat) : (s.ltAdd i n).net = s.net := rfl
@[simp] theorem State.ltAdd_cont (i n : Nat) : (s.ltAdd i n).cont = s.cont := rfl
@[simp] theorem State.ltAdd_sec (i n : Nat) : (s.ltAdd i n).sec = s.sec := rfl
@[simp] theorem State.ltAdd_svc (i n : Nat) : (s.ltAdd i n).svc = s.svc := rfl
@[simp] theorem State.ltAdd_jtag (i n : Nat) : (s.ltAdd i n).jtag = s.jtag := rfl
@[simp] theorem State.ltAdd_evq (i n : Nat) : (s.ltAdd i n).evq = s.evq := rfl
@[simp] theorem State.ltAdd_free (i n : Nat) : (s.ltAdd i n).free = s.free := rfl
@[simp] theorem State.ltAdd_pending (i n : Nat) : (s.ltAdd i n).pending = s.pending := rfl

@[simp] theorem State.mramWrite_regs : (s.mramWrite).regs = s.regs := rfl
@[simp] theorem State.mramWrite_live : (s.mramWrite).live = s.live := rfl
@[simp] theorem State.mramWrite_store : (s.mramWrite).store = s.store := rfl
@[simp] theorem State.mramWrite_poison : (s.mramWrite).poison = s.poison := rfl
@[simp] theorem State.mramWrite_hold : (s.mramWrite).hold = s.hold := rfl
@[simp] theorem State.mramWrite_rdata : (s.mramWrite).rdata = s.rdata := rfl
@[simp] theorem State.mramWrite_flagged : (s.mramWrite).flagged = s.flagged := rfl
@[simp] theorem State.mramWrite_tb : (s.mramWrite).tb = s.tb := rfl
@[simp] theorem State.mramWrite_cfg : (s.mramWrite).cfg = s.cfg := rfl
@[simp] theorem State.mramWrite_ops : (s.mramWrite).ops = s.ops := rfl
@[simp] theorem State.mramWrite_kept : (s.mramWrite).kept = s.kept := rfl
@[simp] theorem State.mramWrite_heldRecs : (s.mramWrite).heldRecs = s.heldRecs := rfl
@[simp] theorem State.mramWrite_served : (s.mramWrite).served = s.served := rfl
@[simp] theorem State.mramWrite_chans : (s.mramWrite).chans = s.chans := rfl
@[simp] theorem State.mramWrite_clus : (s.mramWrite).clus = s.clus := rfl
@[simp] theorem State.mramWrite_fnts : (s.mramWrite).fnts = s.fnts := rfl
@[simp] theorem State.mramWrite_segs : (s.mramWrite).segs = s.segs := rfl
@[simp] theorem State.mramWrite_trg : (s.mramWrite).trg = s.trg := rfl
@[simp] theorem State.mramWrite_basinGaps : (s.mramWrite).basinGaps = s.basinGaps := rfl
@[simp] theorem State.mramWrite_anas : (s.mramWrite).anas = s.anas := rfl
@[simp] theorem State.mramWrite_relocks : (s.mramWrite).relocks = s.relocks := rfl
@[simp] theorem State.mramWrite_dpss : (s.mramWrite).dpss = s.dpss := rfl
@[simp] theorem State.mramWrite_gov : (s.mramWrite).gov = s.gov := rfl
@[simp] theorem State.mramWrite_msqs : (s.mramWrite).msqs = s.msqs := rfl
@[simp] theorem State.mramWrite_cals : (s.mramWrite).cals = s.cals := rfl
@[simp] theorem State.mramWrite_mnt : (s.mramWrite).mnt = s.mnt := rfl
@[simp] theorem State.mramWrite_ports : (s.mramWrite).ports = s.ports := rfl
@[simp] theorem State.mramWrite_net : (s.mramWrite).net = s.net := rfl
@[simp] theorem State.mramWrite_cont : (s.mramWrite).cont = s.cont := rfl
@[simp] theorem State.mramWrite_sec : (s.mramWrite).sec = s.sec := rfl
@[simp] theorem State.mramWrite_svc : (s.mramWrite).svc = s.svc := rfl
@[simp] theorem State.mramWrite_jtag : (s.mramWrite).jtag = s.jtag := rfl
@[simp] theorem State.mramWrite_evq : (s.mramWrite).evq = s.evq := rfl
@[simp] theorem State.mramWrite_free : (s.mramWrite).free = s.free := rfl
@[simp] theorem State.mramWrite_pending : (s.mramWrite).pending = s.pending := rfl

@[simp] theorem State.withPending_regs (l : List Instr) : (s.withPending l).regs = s.regs := rfl
@[simp] theorem State.withPending_live (l : List Instr) : (s.withPending l).live = s.live := rfl
@[simp] theorem State.withPending_store (l : List Instr) : (s.withPending l).store = s.store := rfl
@[simp] theorem State.withPending_poison (l : List Instr) : (s.withPending l).poison = s.poison := rfl
@[simp] theorem State.withPending_hold (l : List Instr) : (s.withPending l).hold = s.hold := rfl
@[simp] theorem State.withPending_rdata (l : List Instr) : (s.withPending l).rdata = s.rdata := rfl
@[simp] theorem State.withPending_flagged (l : List Instr) : (s.withPending l).flagged = s.flagged := rfl
@[simp] theorem State.withPending_tb (l : List Instr) : (s.withPending l).tb = s.tb := rfl
@[simp] theorem State.withPending_cfg (l : List Instr) : (s.withPending l).cfg = s.cfg := rfl
@[simp] theorem State.withPending_ops (l : List Instr) : (s.withPending l).ops = s.ops := rfl
@[simp] theorem State.withPending_kept (l : List Instr) : (s.withPending l).kept = s.kept := rfl
@[simp] theorem State.withPending_heldRecs (l : List Instr) : (s.withPending l).heldRecs = s.heldRecs := rfl
@[simp] theorem State.withPending_served (l : List Instr) : (s.withPending l).served = s.served := rfl
@[simp] theorem State.withPending_chans (l : List Instr) : (s.withPending l).chans = s.chans := rfl
@[simp] theorem State.withPending_clus (l : List Instr) : (s.withPending l).clus = s.clus := rfl
@[simp] theorem State.withPending_fnts (l : List Instr) : (s.withPending l).fnts = s.fnts := rfl
@[simp] theorem State.withPending_segs (l : List Instr) : (s.withPending l).segs = s.segs := rfl
@[simp] theorem State.withPending_trg (l : List Instr) : (s.withPending l).trg = s.trg := rfl
@[simp] theorem State.withPending_basinGaps (l : List Instr) : (s.withPending l).basinGaps = s.basinGaps := rfl
@[simp] theorem State.withPending_anas (l : List Instr) : (s.withPending l).anas = s.anas := rfl
@[simp] theorem State.withPending_relocks (l : List Instr) : (s.withPending l).relocks = s.relocks := rfl
@[simp] theorem State.withPending_dpss (l : List Instr) : (s.withPending l).dpss = s.dpss := rfl
@[simp] theorem State.withPending_gov (l : List Instr) : (s.withPending l).gov = s.gov := rfl
@[simp] theorem State.withPending_msqs (l : List Instr) : (s.withPending l).msqs = s.msqs := rfl
@[simp] theorem State.withPending_cals (l : List Instr) : (s.withPending l).cals = s.cals := rfl
@[simp] theorem State.withPending_mnt (l : List Instr) : (s.withPending l).mnt = s.mnt := rfl
@[simp] theorem State.withPending_ports (l : List Instr) : (s.withPending l).ports = s.ports := rfl
@[simp] theorem State.withPending_net (l : List Instr) : (s.withPending l).net = s.net := rfl
@[simp] theorem State.withPending_cont (l : List Instr) : (s.withPending l).cont = s.cont := rfl
@[simp] theorem State.withPending_aon (l : List Instr) : (s.withPending l).aon = s.aon := rfl
@[simp] theorem State.withPending_sec (l : List Instr) : (s.withPending l).sec = s.sec := rfl
@[simp] theorem State.withPending_svc (l : List Instr) : (s.withPending l).svc = s.svc := rfl
@[simp] theorem State.withPending_jtag (l : List Instr) : (s.withPending l).jtag = s.jtag := rfl
@[simp] theorem State.withPending_evq (l : List Instr) : (s.withPending l).evq = s.evq := rfl
@[simp] theorem State.withPending_free (l : List Instr) : (s.withPending l).free = s.free := rfl

end Sys2Proof.Machine
end

