-- ==== Sys2Proof/Laws/Reads.lean ====
section
/-! SUPPORT. Reads through the named updates: a read of one part is not touched by an update of another. -/

namespace Sys2Proof.Machine

variable (s : State)

@[simp] theorem State.reg_setLive (x : Nat) (a : Nat) (v : Word) : (s.setLive a v).reg x = s.reg x := rfl
@[simp] theorem State.reg_setByte (x : Nat) (a : Nat) (v : Byte) : (s.setByte a v).reg x = s.reg x := rfl
@[simp] theorem State.reg_setChan (x : Nat) (c : Nat) (v : Chan) : (s.setChan c v).reg x = s.reg x := rfl
@[simp] theorem State.reg_setClu (x : Nat) (k : Nat) (v : Clu) : (s.setClu k v).reg x = s.reg x := rfl
@[simp] theorem State.reg_setFnt (x : Nat) (f : Nat) (v : Fnt) : (s.setFnt f v).reg x = s.reg x := rfl
@[simp] theorem State.reg_setSeg (x : Nat) (n : Nat) (v : Seg) : (s.setSeg n v).reg x = s.reg x := rfl
@[simp] theorem State.reg_setAna (x : Nat) (n : Nat) (v : Ana) : (s.setAna n v).reg x = s.reg x := rfl
@[simp] theorem State.reg_setCtl (x : Nat) (d : Nat) (v : Dps) : (s.setCtl d v).reg x = s.reg x := rfl
@[simp] theorem State.reg_setMsq (x : Nat) (m : Nat) (v : Msq) : (s.setMsq m v).reg x = s.reg x := rfl
@[simp] theorem State.reg_setCal (x : Nat) (u : Nat) (v : Cal) : (s.setCal u v).reg x = s.reg x := rfl
@[simp] theorem State.reg_setPort (x : Nat) (p : Nat) (v : Port) : (s.setPort p v).reg x = s.reg x := rfl
@[simp] theorem State.reg_setOp (x : Nat) (o : Op) : (s.setOp o).reg x = s.reg x := rfl
@[simp] theorem State.reg_modOp (x : Nat) (y : Asn) (f : Op → Op) : (s.modOp y f).reg x = s.reg x := rfl
@[simp] theorem State.reg_ltAdd (x : Nat) (i n : Nat) : (s.ltAdd i n).reg x = s.reg x := rfl
@[simp] theorem State.reg_mramWrite (x : Nat) : (s.mramWrite).reg x = s.reg x := rfl
@[simp] theorem State.reg_withPending (x : Nat) (l : List Instr) : (s.withPending l).reg x = s.reg x := rfl

@[simp] theorem State.fld_setLive (x xh xl : Nat) (a : Nat) (v : Word) : (s.setLive a v).fld x xh xl = s.fld x xh xl := rfl
@[simp] theorem State.fld_setByte (x xh xl : Nat) (a : Nat) (v : Byte) : (s.setByte a v).fld x xh xl = s.fld x xh xl := rfl
@[simp] theorem State.fld_setChan (x xh xl : Nat) (c : Nat) (v : Chan) : (s.setChan c v).fld x xh xl = s.fld x xh xl := rfl
@[simp] theorem State.fld_setClu (x xh xl : Nat) (k : Nat) (v : Clu) : (s.setClu k v).fld x xh xl = s.fld x xh xl := rfl
@[simp] theorem State.fld_setFnt (x xh xl : Nat) (f : Nat) (v : Fnt) : (s.setFnt f v).fld x xh xl = s.fld x xh xl := rfl
@[simp] theorem State.fld_setSeg (x xh xl : Nat) (n : Nat) (v : Seg) : (s.setSeg n v).fld x xh xl = s.fld x xh xl := rfl
@[simp] theorem State.fld_setAna (x xh xl : Nat) (n : Nat) (v : Ana) : (s.setAna n v).fld x xh xl = s.fld x xh xl := rfl
@[simp] theorem State.fld_setCtl (x xh xl : Nat) (d : Nat) (v : Dps) : (s.setCtl d v).fld x xh xl = s.fld x xh xl := rfl
@[simp] theorem State.fld_setMsq (x xh xl : Nat) (m : Nat) (v : Msq) : (s.setMsq m v).fld x xh xl = s.fld x xh xl := rfl
@[simp] theorem State.fld_setCal (x xh xl : Nat) (u : Nat) (v : Cal) : (s.setCal u v).fld x xh xl = s.fld x xh xl := rfl
@[simp] theorem State.fld_setPort (x xh xl : Nat) (p : Nat) (v : Port) : (s.setPort p v).fld x xh xl = s.fld x xh xl := rfl
@[simp] theorem State.fld_setOp (x xh xl : Nat) (o : Op) : (s.setOp o).fld x xh xl = s.fld x xh xl := rfl
@[simp] theorem State.fld_modOp (x xh xl : Nat) (y : Asn) (f : Op → Op) : (s.modOp y f).fld x xh xl = s.fld x xh xl := rfl
@[simp] theorem State.fld_ltAdd (x xh xl : Nat) (i n : Nat) : (s.ltAdd i n).fld x xh xl = s.fld x xh xl := rfl
@[simp] theorem State.fld_mramWrite (x xh xl : Nat) : (s.mramWrite).fld x xh xl = s.fld x xh xl := rfl
@[simp] theorem State.fld_withPending (x xh xl : Nat) (l : List Instr) : (s.withPending l).fld x xh xl = s.fld x xh xl := rfl

@[simp] theorem State.bitAt_setLive (x xj : Nat) (a : Nat) (v : Word) : (s.setLive a v).bitAt x xj = s.bitAt x xj := rfl
@[simp] theorem State.bitAt_setByte (x xj : Nat) (a : Nat) (v : Byte) : (s.setByte a v).bitAt x xj = s.bitAt x xj := rfl
@[simp] theorem State.bitAt_setChan (x xj : Nat) (c : Nat) (v : Chan) : (s.setChan c v).bitAt x xj = s.bitAt x xj := rfl
@[simp] theorem State.bitAt_setClu (x xj : Nat) (k : Nat) (v : Clu) : (s.setClu k v).bitAt x xj = s.bitAt x xj := rfl
@[simp] theorem State.bitAt_setFnt (x xj : Nat) (f : Nat) (v : Fnt) : (s.setFnt f v).bitAt x xj = s.bitAt x xj := rfl
@[simp] theorem State.bitAt_setSeg (x xj : Nat) (n : Nat) (v : Seg) : (s.setSeg n v).bitAt x xj = s.bitAt x xj := rfl
@[simp] theorem State.bitAt_setAna (x xj : Nat) (n : Nat) (v : Ana) : (s.setAna n v).bitAt x xj = s.bitAt x xj := rfl
@[simp] theorem State.bitAt_setCtl (x xj : Nat) (d : Nat) (v : Dps) : (s.setCtl d v).bitAt x xj = s.bitAt x xj := rfl
@[simp] theorem State.bitAt_setMsq (x xj : Nat) (m : Nat) (v : Msq) : (s.setMsq m v).bitAt x xj = s.bitAt x xj := rfl
@[simp] theorem State.bitAt_setCal (x xj : Nat) (u : Nat) (v : Cal) : (s.setCal u v).bitAt x xj = s.bitAt x xj := rfl
@[simp] theorem State.bitAt_setPort (x xj : Nat) (p : Nat) (v : Port) : (s.setPort p v).bitAt x xj = s.bitAt x xj := rfl
@[simp] theorem State.bitAt_setOp (x xj : Nat) (o : Op) : (s.setOp o).bitAt x xj = s.bitAt x xj := rfl
@[simp] theorem State.bitAt_modOp (x xj : Nat) (y : Asn) (f : Op → Op) : (s.modOp y f).bitAt x xj = s.bitAt x xj := rfl
@[simp] theorem State.bitAt_ltAdd (x xj : Nat) (i n : Nat) : (s.ltAdd i n).bitAt x xj = s.bitAt x xj := rfl
@[simp] theorem State.bitAt_mramWrite (x xj : Nat) : (s.mramWrite).bitAt x xj = s.bitAt x xj := rfl
@[simp] theorem State.bitAt_withPending (x xj : Nat) (l : List Instr) : (s.withPending l).bitAt x xj = s.bitAt x xj := rfl

@[simp] theorem State.reg64_setLive (xl xh : Nat) (a : Nat) (v : Word) : (s.setLive a v).reg64 xl xh = s.reg64 xl xh := rfl
@[simp] theorem State.reg64_setByte (xl xh : Nat) (a : Nat) (v : Byte) : (s.setByte a v).reg64 xl xh = s.reg64 xl xh := rfl
@[simp] theorem State.reg64_setChan (xl xh : Nat) (c : Nat) (v : Chan) : (s.setChan c v).reg64 xl xh = s.reg64 xl xh := rfl
@[simp] theorem State.reg64_setClu (xl xh : Nat) (k : Nat) (v : Clu) : (s.setClu k v).reg64 xl xh = s.reg64 xl xh := rfl
@[simp] theorem State.reg64_setFnt (xl xh : Nat) (f : Nat) (v : Fnt) : (s.setFnt f v).reg64 xl xh = s.reg64 xl xh := rfl
@[simp] theorem State.reg64_setSeg (xl xh : Nat) (n : Nat) (v : Seg) : (s.setSeg n v).reg64 xl xh = s.reg64 xl xh := rfl
@[simp] theorem State.reg64_setAna (xl xh : Nat) (n : Nat) (v : Ana) : (s.setAna n v).reg64 xl xh = s.reg64 xl xh := rfl
@[simp] theorem State.reg64_setCtl (xl xh : Nat) (d : Nat) (v : Dps) : (s.setCtl d v).reg64 xl xh = s.reg64 xl xh := rfl
@[simp] theorem State.reg64_setMsq (xl xh : Nat) (m : Nat) (v : Msq) : (s.setMsq m v).reg64 xl xh = s.reg64 xl xh := rfl
@[simp] theorem State.reg64_setCal (xl xh : Nat) (u : Nat) (v : Cal) : (s.setCal u v).reg64 xl xh = s.reg64 xl xh := rfl
@[simp] theorem State.reg64_setPort (xl xh : Nat) (p : Nat) (v : Port) : (s.setPort p v).reg64 xl xh = s.reg64 xl xh := rfl
@[simp] theorem State.reg64_setOp (xl xh : Nat) (o : Op) : (s.setOp o).reg64 xl xh = s.reg64 xl xh := rfl
@[simp] theorem State.reg64_modOp (xl xh : Nat) (y : Asn) (f : Op → Op) : (s.modOp y f).reg64 xl xh = s.reg64 xl xh := rfl
@[simp] theorem State.reg64_ltAdd (xl xh : Nat) (i n : Nat) : (s.ltAdd i n).reg64 xl xh = s.reg64 xl xh := rfl
@[simp] theorem State.reg64_mramWrite (xl xh : Nat) : (s.mramWrite).reg64 xl xh = s.reg64 xl xh := rfl
@[simp] theorem State.reg64_withPending (xl xh : Nat) (l : List Instr) : (s.withPending l).reg64 xl xh = s.reg64 xl xh := rfl

@[simp] theorem State.deviceState_setLive (a : Nat) (v : Word) : (s.setLive a v).deviceState = s.deviceState := rfl
@[simp] theorem State.deviceState_setByte (a : Nat) (v : Byte) : (s.setByte a v).deviceState = s.deviceState := rfl
@[simp] theorem State.deviceState_setChan (c : Nat) (v : Chan) : (s.setChan c v).deviceState = s.deviceState := rfl
@[simp] theorem State.deviceState_setClu (k : Nat) (v : Clu) : (s.setClu k v).deviceState = s.deviceState := rfl
@[simp] theorem State.deviceState_setFnt (f : Nat) (v : Fnt) : (s.setFnt f v).deviceState = s.deviceState := rfl
@[simp] theorem State.deviceState_setSeg (n : Nat) (v : Seg) : (s.setSeg n v).deviceState = s.deviceState := rfl
@[simp] theorem State.deviceState_setAna (n : Nat) (v : Ana) : (s.setAna n v).deviceState = s.deviceState := rfl
@[simp] theorem State.deviceState_setCtl (d : Nat) (v : Dps) : (s.setCtl d v).deviceState = s.deviceState := rfl
@[simp] theorem State.deviceState_setMsq (m : Nat) (v : Msq) : (s.setMsq m v).deviceState = s.deviceState := rfl
@[simp] theorem State.deviceState_setCal (u : Nat) (v : Cal) : (s.setCal u v).deviceState = s.deviceState := rfl
@[simp] theorem State.deviceState_setPort (p : Nat) (v : Port) : (s.setPort p v).deviceState = s.deviceState := rfl
@[simp] theorem State.deviceState_setOp (o : Op) : (s.setOp o).deviceState = s.deviceState := rfl
@[simp] theorem State.deviceState_modOp (y : Asn) (f : Op → Op) : (s.modOp y f).deviceState = s.deviceState := rfl
@[simp] theorem State.deviceState_ltAdd (i n : Nat) : (s.ltAdd i n).deviceState = s.deviceState := rfl
@[simp] theorem State.deviceState_mramWrite : (s.mramWrite).deviceState = s.deviceState := rfl
@[simp] theorem State.deviceState_withPending (l : List Instr) : (s.withPending l).deviceState = s.deviceState := rfl

@[simp] theorem State.counting_setLive (a : Nat) (v : Word) : (s.setLive a v).counting = s.counting := rfl
@[simp] theorem State.counting_setByte (a : Nat) (v : Byte) : (s.setByte a v).counting = s.counting := rfl
@[simp] theorem State.counting_setChan (c : Nat) (v : Chan) : (s.setChan c v).counting = s.counting := rfl
@[simp] theorem State.counting_setClu (k : Nat) (v : Clu) : (s.setClu k v).counting = s.counting := rfl
@[simp] theorem State.counting_setFnt (f : Nat) (v : Fnt) : (s.setFnt f v).counting = s.counting := rfl
@[simp] theorem State.counting_setSeg (n : Nat) (v : Seg) : (s.setSeg n v).counting = s.counting := rfl
@[simp] theorem State.counting_setAna (n : Nat) (v : Ana) : (s.setAna n v).counting = s.counting := rfl
@[simp] theorem State.counting_setCtl (d : Nat) (v : Dps) : (s.setCtl d v).counting = s.counting := rfl
@[simp] theorem State.counting_setMsq (m : Nat) (v : Msq) : (s.setMsq m v).counting = s.counting := rfl
@[simp] theorem State.counting_setCal (u : Nat) (v : Cal) : (s.setCal u v).counting = s.counting := rfl
@[simp] theorem State.counting_setPort (p : Nat) (v : Port) : (s.setPort p v).counting = s.counting := rfl
@[simp] theorem State.counting_setOp (o : Op) : (s.setOp o).counting = s.counting := rfl
@[simp] theorem State.counting_modOp (y : Asn) (f : Op → Op) : (s.modOp y f).counting = s.counting := rfl
@[simp] theorem State.counting_ltAdd (i n : Nat) : (s.ltAdd i n).counting = s.counting := rfl
@[simp] theorem State.counting_mramWrite : (s.mramWrite).counting = s.counting := rfl
@[simp] theorem State.counting_withPending (l : List Instr) : (s.withPending l).counting = s.counting := rfl

@[simp] theorem State.now_setReg (a : Nat) (v : Word) : (s.setReg a v).now = s.now := rfl
@[simp] theorem State.now_setFld (a hi lo v : Nat) : (s.setFld a hi lo v).now = s.now := rfl
@[simp] theorem State.now_setBitAt (a i : Nat) (b : Bool) : (s.setBitAt a i b).now = s.now := rfl
@[simp] theorem State.now_orReg (a m : Nat) : (s.orReg a m).now = s.now := rfl
@[simp] theorem State.now_clrReg (a m : Nat) : (s.clrReg a m).now = s.now := rfl
@[simp] theorem State.now_addSat (a n : Nat) : (s.addSat a n).now = s.now := rfl
@[simp] theorem State.now_incSat (a : Nat) : (s.incSat a).now = s.now := rfl
@[simp] theorem State.now_setReg64 (lo hi v : Nat) : (s.setReg64 lo hi v).now = s.now := rfl
@[simp] theorem State.now_event (a b : Nat) : (s.event a b).now = s.now := rfl
@[simp] theorem State.now_setMaskBit (a n : Nat) (b : Bool) : (s.setMaskBit a n b).now = s.now := rfl
@[simp] theorem State.now_setLive (a : Nat) (v : Word) : (s.setLive a v).now = s.now := rfl
@[simp] theorem State.now_setBoth (a : Nat) (v : Word) : (s.setBoth a v).now = s.now := rfl
@[simp] theorem State.now_resetWords (a n : Nat) : (s.resetWords a n).now = s.now := rfl
@[simp] theorem State.now_setByte (a : Nat) (v : Byte) : (s.setByte a v).now = s.now := rfl
@[simp] theorem State.now_setChan (c : Nat) (v : Chan) : (s.setChan c v).now = s.now := rfl
@[simp] theorem State.now_setClu (k : Nat) (v : Clu) : (s.setClu k v).now = s.now := rfl
@[simp] theorem State.now_setFnt (f : Nat) (v : Fnt) : (s.setFnt f v).now = s.now := rfl
@[simp] theorem State.now_setSeg (n : Nat) (v : Seg) : (s.setSeg n v).now = s.now := rfl
@[simp] theorem State.now_setAna (n : Nat) (v : Ana) : (s.setAna n v).now = s.now := rfl
@[simp] theorem State.now_setCtl (d : Nat) (v : Dps) : (s.setCtl d v).now = s.now := rfl
@[simp] theorem State.now_setMsq (m : Nat) (v : Msq) : (s.setMsq m v).now = s.now := rfl
@[simp] theorem State.now_setCal (u : Nat) (v : Cal) : (s.setCal u v).now = s.now := rfl
@[simp] theorem State.now_setPort (p : Nat) (v : Port) : (s.setPort p v).now = s.now := rfl
@[simp] theorem State.now_setOp (o : Op) : (s.setOp o).now = s.now := rfl
@[simp] theorem State.now_modOp (y : Asn) (f : Op → Op) : (s.modOp y f).now = s.now := rfl
@[simp] theorem State.now_ltAdd (i n : Nat) : (s.ltAdd i n).now = s.now := rfl
@[simp] theorem State.now_mramWrite : (s.mramWrite).now = s.now := rfl
@[simp] theorem State.now_withPending (l : List Instr) : (s.withPending l).now = s.now := rfl

@[simp] theorem State.liveReg_setReg (x : Nat) (a : Nat) (v : Word) : (s.setReg a v).liveReg x = s.liveReg x := rfl
@[simp] theorem State.liveReg_setFld (x : Nat) (a hi lo v : Nat) : (s.setFld a hi lo v).liveReg x = s.liveReg x := rfl
@[simp] theorem State.liveReg_setBitAt (x : Nat) (a i : Nat) (b : Bool) : (s.setBitAt a i b).liveReg x = s.liveReg x := rfl
@[simp] theorem State.liveReg_orReg (x : Nat) (a m : Nat) : (s.orReg a m).liveReg x = s.liveReg x := rfl
@[simp] theorem State.liveReg_clrReg (x : Nat) (a m : Nat) : (s.clrReg a m).liveReg x = s.liveReg x := rfl
@[simp] theorem State.liveReg_addSat (x : Nat) (a n : Nat) : (s.addSat a n).liveReg x = s.liveReg x := rfl
@[simp] theorem State.liveReg_incSat (x : Nat) (a : Nat) : (s.incSat a).liveReg x = s.liveReg x := rfl
@[simp] theorem State.liveReg_setReg64 (x : Nat) (lo hi v : Nat) : (s.setReg64 lo hi v).liveReg x = s.liveReg x := rfl
@[simp] theorem State.liveReg_event (x : Nat) (a b : Nat) : (s.event a b).liveReg x = s.liveReg x := rfl
@[simp] theorem State.liveReg_setMaskBit (x : Nat) (a n : Nat) (b : Bool) : (s.setMaskBit a n b).liveReg x = s.liveReg x := rfl
@[simp] theorem State.liveReg_setByte (x : Nat) (a : Nat) (v : Byte) : (s.setByte a v).liveReg x = s.liveReg x := rfl
@[simp] theorem State.liveReg_setChan (x : Nat) (c : Nat) (v : Chan) : (s.setChan c v).liveReg x = s.liveReg x := rfl
@[simp] theorem State.liveReg_setClu (x : Nat) (k : Nat) (v : Clu) : (s.setClu k v).liveReg x = s.liveReg x := rfl
@[simp] theorem State.liveReg_setFnt (x : Nat) (f : Nat) (v : Fnt) : (s.setFnt f v).liveReg x = s.liveReg x := rfl
@[simp] theorem State.liveReg_setSeg (x : Nat) (n : Nat) (v : Seg) : (s.setSeg n v).liveReg x = s.liveReg x := rfl
@[simp] theorem State.liveReg_setAna (x : Nat) (n : Nat) (v : Ana) : (s.setAna n v).liveReg x = s.liveReg x := rfl
@[simp] theorem State.liveReg_setCtl (x : Nat) (d : Nat) (v : Dps) : (s.setCtl d v).liveReg x = s.liveReg x := rfl
@[simp] theorem State.liveReg_setMsq (x : Nat) (m : Nat) (v : Msq) : (s.setMsq m v).liveReg x = s.liveReg x := rfl
@[simp] theorem State.liveReg_setCal (x : Nat) (u : Nat) (v : Cal) : (s.setCal u v).liveReg x = s.liveReg x := rfl
@[simp] theorem State.liveReg_setPort (x : Nat) (p : Nat) (v : Port) : (s.setPort p v).liveReg x = s.liveReg x := rfl
@[simp] theorem State.liveReg_setOp (x : Nat) (o : Op) : (s.setOp o).liveReg x = s.liveReg x := rfl
@[simp] theorem State.liveReg_modOp (x : Nat) (y : Asn) (f : Op → Op) : (s.modOp y f).liveReg x = s.liveReg x := rfl
@[simp] theorem State.liveReg_ltAdd (x : Nat) (i n : Nat) : (s.ltAdd i n).liveReg x = s.liveReg x := rfl
@[simp] theorem State.liveReg_mramWrite (x : Nat) : (s.mramWrite).liveReg x = s.liveReg x := rfl
@[simp] theorem State.liveReg_withPending (x : Nat) (l : List Instr) : (s.withPending l).liveReg x = s.liveReg x := rfl

@[simp] theorem State.liveFld_setReg (x xh xl : Nat) (a : Nat) (v : Word) : (s.setReg a v).liveFld x xh xl = s.liveFld x xh xl := rfl
@[simp] theorem State.liveFld_setFld (x xh xl : Nat) (a hi lo v : Nat) : (s.setFld a hi lo v).liveFld x xh xl = s.liveFld x xh xl := rfl
@[simp] theorem State.liveFld_setBitAt (x xh xl : Nat) (a i : Nat) (b : Bool) : (s.setBitAt a i b).liveFld x xh xl = s.liveFld x xh xl := rfl
@[simp] theorem State.liveFld_orReg (x xh xl : Nat) (a m : Nat) : (s.orReg a m).liveFld x xh xl = s.liveFld x xh xl := rfl
@[simp] theorem State.liveFld_clrReg (x xh xl : Nat) (a m : Nat) : (s.clrReg a m).liveFld x xh xl = s.liveFld x xh xl := rfl
@[simp] theorem State.liveFld_addSat (x xh xl : Nat) (a n : Nat) : (s.addSat a n).liveFld x xh xl = s.liveFld x xh xl := rfl
@[simp] theorem State.liveFld_incSat (x xh xl : Nat) (a : Nat) : (s.incSat a).liveFld x xh xl = s.liveFld x xh xl := rfl
@[simp] theorem State.liveFld_setReg64 (x xh xl : Nat) (lo hi v : Nat) : (s.setReg64 lo hi v).liveFld x xh xl = s.liveFld x xh xl := rfl
@[simp] theorem State.liveFld_event (x xh xl : Nat) (a b : Nat) : (s.event a b).liveFld x xh xl = s.liveFld x xh xl := rfl
@[simp] theorem State.liveFld_setMaskBit (x xh xl : Nat) (a n : Nat) (b : Bool) : (s.setMaskBit a n b).liveFld x xh xl = s.liveFld x xh xl := rfl
@[simp] theorem State.liveFld_setByte (x xh xl : Nat) (a : Nat) (v : Byte) : (s.setByte a v).liveFld x xh xl = s.liveFld x xh xl := rfl
@[simp] theorem State.liveFld_setChan (x xh xl : Nat) (c : Nat) (v : Chan) : (s.setChan c v).liveFld x xh xl = s.liveFld x xh xl := rfl
@[simp] theorem State.liveFld_setClu (x xh xl : Nat) (k : Nat) (v : Clu) : (s.setClu k v).liveFld x xh xl = s.liveFld x xh xl := rfl
@[simp] theorem State.liveFld_setFnt (x xh xl : Nat) (f : Nat) (v : Fnt) : (s.setFnt f v).liveFld x xh xl = s.liveFld x xh xl := rfl
@[simp] theorem State.liveFld_setSeg (x xh xl : Nat) (n : Nat) (v : Seg) : (s.setSeg n v).liveFld x xh xl = s.liveFld x xh xl := rfl
@[simp] theorem State.liveFld_setAna (x xh xl : Nat) (n : Nat) (v : Ana) : (s.setAna n v).liveFld x xh xl = s.liveFld x xh xl := rfl
@[simp] theorem State.liveFld_setCtl (x xh xl : Nat) (d : Nat) (v : Dps) : (s.setCtl d v).liveFld x xh xl = s.liveFld x xh xl := rfl
@[simp] theorem State.liveFld_setMsq (x xh xl : Nat) (m : Nat) (v : Msq) : (s.setMsq m v).liveFld x xh xl = s.liveFld x xh xl := rfl
@[simp] theorem State.liveFld_setCal (x xh xl : Nat) (u : Nat) (v : Cal) : (s.setCal u v).liveFld x xh xl = s.liveFld x xh xl := rfl
@[simp] theorem State.liveFld_setPort (x xh xl : Nat) (p : Nat) (v : Port) : (s.setPort p v).liveFld x xh xl = s.liveFld x xh xl := rfl
@[simp] theorem State.liveFld_setOp (x xh xl : Nat) (o : Op) : (s.setOp o).liveFld x xh xl = s.liveFld x xh xl := rfl
@[simp] theorem State.liveFld_modOp (x xh xl : Nat) (y : Asn) (f : Op → Op) : (s.modOp y f).liveFld x xh xl = s.liveFld x xh xl := rfl
@[simp] theorem State.liveFld_ltAdd (x xh xl : Nat) (i n : Nat) : (s.ltAdd i n).liveFld x xh xl = s.liveFld x xh xl := rfl
@[simp] theorem State.liveFld_mramWrite (x xh xl : Nat) : (s.mramWrite).liveFld x xh xl = s.liveFld x xh xl := rfl
@[simp] theorem State.liveFld_withPending (x xh xl : Nat) (l : List Instr) : (s.withPending l).liveFld x xh xl = s.liveFld x xh xl := rfl

@[simp] theorem State.byte_setReg (x : Nat) (a : Nat) (v : Word) : (s.setReg a v).byte x = s.byte x := rfl
@[simp] theorem State.byte_setFld (x : Nat) (a hi lo v : Nat) : (s.setFld a hi lo v).byte x = s.byte x := rfl
@[simp] theorem State.byte_setBitAt (x : Nat) (a i : Nat) (b : Bool) : (s.setBitAt a i b).byte x = s.byte x := rfl
@[simp] theorem State.byte_orReg (x : Nat) (a m : Nat) : (s.orReg a m).byte x = s.byte x := rfl
@[simp] theorem State.byte_clrReg (x : Nat) (a m : Nat) : (s.clrReg a m).byte x = s.byte x := rfl
@[simp] theorem State.byte_addSat (x : Nat) (a n : Nat) : (s.addSat a n).byte x = s.byte x := rfl
@[simp] theorem State.byte_incSat (x : Nat) (a : Nat) : (s.incSat a).byte x = s.byte x := rfl
@[simp] theorem State.byte_setReg64 (x : Nat) (lo hi v : Nat) : (s.setReg64 lo hi v).byte x = s.byte x := rfl
@[simp] theorem State.byte_event (x : Nat) (a b : Nat) : (s.event a b).byte x = s.byte x := rfl
@[simp] theorem State.byte_setMaskBit (x : Nat) (a n : Nat) (b : Bool) : (s.setMaskBit a n b).byte x = s.byte x := rfl
@[simp] theorem State.byte_setLive (x : Nat) (a : Nat) (v : Word) : (s.setLive a v).byte x = s.byte x := rfl
@[simp] theorem State.byte_setBoth (x : Nat) (a : Nat) (v : Word) : (s.setBoth a v).byte x = s.byte x := rfl
@[simp] theorem State.byte_resetWords (x : Nat) (a n : Nat) : (s.resetWords a n).byte x = s.byte x := rfl
@[simp] theorem State.byte_setChan (x : Nat) (c : Nat) (v : Chan) : (s.setChan c v).byte x = s.byte x := rfl
@[simp] theorem State.byte_setClu (x : Nat) (k : Nat) (v : Clu) : (s.setClu k v).byte x = s.byte x := rfl
@[simp] theorem State.byte_setFnt (x : Nat) (f : Nat) (v : Fnt) : (s.setFnt f v).byte x = s.byte x := rfl
@[simp] theorem State.byte_setSeg (x : Nat) (n : Nat) (v : Seg) : (s.setSeg n v).byte x = s.byte x := rfl
@[simp] theorem State.byte_setAna (x : Nat) (n : Nat) (v : Ana) : (s.setAna n v).byte x = s.byte x := rfl
@[simp] theorem State.byte_setCtl (x : Nat) (d : Nat) (v : Dps) : (s.setCtl d v).byte x = s.byte x := rfl
@[simp] theorem State.byte_setMsq (x : Nat) (m : Nat) (v : Msq) : (s.setMsq m v).byte x = s.byte x := rfl
@[simp] theorem State.byte_setCal (x : Nat) (u : Nat) (v : Cal) : (s.setCal u v).byte x = s.byte x := rfl
@[simp] theorem State.byte_setPort (x : Nat) (p : Nat) (v : Port) : (s.setPort p v).byte x = s.byte x := rfl
@[simp] theorem State.byte_setOp (x : Nat) (o : Op) : (s.setOp o).byte x = s.byte x := rfl
@[simp] theorem State.byte_modOp (x : Nat) (y : Asn) (f : Op → Op) : (s.modOp y f).byte x = s.byte x := rfl
@[simp] theorem State.byte_ltAdd (x : Nat) (i n : Nat) : (s.ltAdd i n).byte x = s.byte x := rfl
@[simp] theorem State.byte_mramWrite (x : Nat) : (s.mramWrite).byte x = s.byte x := rfl
@[simp] theorem State.byte_withPending (x : Nat) (l : List Instr) : (s.withPending l).byte x = s.byte x := rfl

@[simp] theorem State.bytes_setReg (x xn : Nat) (a : Nat) (v : Word) : (s.setReg a v).bytes x xn = s.bytes x xn := rfl
@[simp] theorem State.bytes_setFld (x xn : Nat) (a hi lo v : Nat) : (s.setFld a hi lo v).bytes x xn = s.bytes x xn := rfl
@[simp] theorem State.bytes_setBitAt (x xn : Nat) (a i : Nat) (b : Bool) : (s.setBitAt a i b).bytes x xn = s.bytes x xn := rfl
@[simp] theorem State.bytes_orReg (x xn : Nat) (a m : Nat) : (s.orReg a m).bytes x xn = s.bytes x xn := rfl
@[simp] theorem State.bytes_clrReg (x xn : Nat) (a m : Nat) : (s.clrReg a m).bytes x xn = s.bytes x xn := rfl
@[simp] theorem State.bytes_addSat (x xn : Nat) (a n : Nat) : (s.addSat a n).bytes x xn = s.bytes x xn := rfl
@[simp] theorem State.bytes_incSat (x xn : Nat) (a : Nat) : (s.incSat a).bytes x xn = s.bytes x xn := rfl
@[simp] theorem State.bytes_setReg64 (x xn : Nat) (lo hi v : Nat) : (s.setReg64 lo hi v).bytes x xn = s.bytes x xn := rfl
@[simp] theorem State.bytes_event (x xn : Nat) (a b : Nat) : (s.event a b).bytes x xn = s.bytes x xn := rfl
@[simp] theorem State.bytes_setMaskBit (x xn : Nat) (a n : Nat) (b : Bool) : (s.setMaskBit a n b).bytes x xn = s.bytes x xn := rfl
@[simp] theorem State.bytes_setLive (x xn : Nat) (a : Nat) (v : Word) : (s.setLive a v).bytes x xn = s.bytes x xn := rfl
@[simp] theorem State.bytes_setBoth (x xn : Nat) (a : Nat) (v : Word) : (s.setBoth a v).bytes x xn = s.bytes x xn := rfl
@[simp] theorem State.bytes_resetWords (x xn : Nat) (a n : Nat) : (s.resetWords a n).bytes x xn = s.bytes x xn := rfl
@[simp] theorem State.bytes_setChan (x xn : Nat) (c : Nat) (v : Chan) : (s.setChan c v).bytes x xn = s.bytes x xn := rfl
@[simp] theorem State.bytes_setClu (x xn : Nat) (k : Nat) (v : Clu) : (s.setClu k v).bytes x xn = s.bytes x xn := rfl
@[simp] theorem State.bytes_setFnt (x xn : Nat) (f : Nat) (v : Fnt) : (s.setFnt f v).bytes x xn = s.bytes x xn := rfl
@[simp] theorem State.bytes_setSeg (x xn : Nat) (n : Nat) (v : Seg) : (s.setSeg n v).bytes x xn = s.bytes x xn := rfl
@[simp] theorem State.bytes_setAna (x xn : Nat) (n : Nat) (v : Ana) : (s.setAna n v).bytes x xn = s.bytes x xn := rfl
@[simp] theorem State.bytes_setCtl (x xn : Nat) (d : Nat) (v : Dps) : (s.setCtl d v).bytes x xn = s.bytes x xn := rfl
@[simp] theorem State.bytes_setMsq (x xn : Nat) (m : Nat) (v : Msq) : (s.setMsq m v).bytes x xn = s.bytes x xn := rfl
@[simp] theorem State.bytes_setCal (x xn : Nat) (u : Nat) (v : Cal) : (s.setCal u v).bytes x xn = s.bytes x xn := rfl
@[simp] theorem State.bytes_setPort (x xn : Nat) (p : Nat) (v : Port) : (s.setPort p v).bytes x xn = s.bytes x xn := rfl
@[simp] theorem State.bytes_setOp (x xn : Nat) (o : Op) : (s.setOp o).bytes x xn = s.bytes x xn := rfl
@[simp] theorem State.bytes_modOp (x xn : Nat) (y : Asn) (f : Op → Op) : (s.modOp y f).bytes x xn = s.bytes x xn := rfl
@[simp] theorem State.bytes_ltAdd (x xn : Nat) (i n : Nat) : (s.ltAdd i n).bytes x xn = s.bytes x xn := rfl
@[simp] theorem State.bytes_mramWrite (x xn : Nat) : (s.mramWrite).bytes x xn = s.bytes x xn := rfl
@[simp] theorem State.bytes_withPending (x xn : Nat) (l : List Instr) : (s.withPending l).bytes x xn = s.bytes x xn := rfl

@[simp] theorem State.chan_setReg (x : Nat) (a : Nat) (v : Word) : (s.setReg a v).chan x = s.chan x := rfl
@[simp] theorem State.chan_setFld (x : Nat) (a hi lo v : Nat) : (s.setFld a hi lo v).chan x = s.chan x := rfl
@[simp] theorem State.chan_setBitAt (x : Nat) (a i : Nat) (b : Bool) : (s.setBitAt a i b).chan x = s.chan x := rfl
@[simp] theorem State.chan_orReg (x : Nat) (a m : Nat) : (s.orReg a m).chan x = s.chan x := rfl
@[simp] theorem State.chan_clrReg (x : Nat) (a m : Nat) : (s.clrReg a m).chan x = s.chan x := rfl
@[simp] theorem State.chan_addSat (x : Nat) (a n : Nat) : (s.addSat a n).chan x = s.chan x := rfl
@[simp] theorem State.chan_incSat (x : Nat) (a : Nat) : (s.incSat a).chan x = s.chan x := rfl
@[simp] theorem State.chan_setReg64 (x : Nat) (lo hi v : Nat) : (s.setReg64 lo hi v).chan x = s.chan x := rfl
@[simp] theorem State.chan_event (x : Nat) (a b : Nat) : (s.event a b).chan x = s.chan x := rfl
@[simp] theorem State.chan_setMaskBit (x : Nat) (a n : Nat) (b : Bool) : (s.setMaskBit a n b).chan x = s.chan x := rfl
@[simp] theorem State.chan_setLive (x : Nat) (a : Nat) (v : Word) : (s.setLive a v).chan x = s.chan x := rfl
@[simp] theorem State.chan_setBoth (x : Nat) (a : Nat) (v : Word) : (s.setBoth a v).chan x = s.chan x := rfl
@[simp] theorem State.chan_resetWords (x : Nat) (a n : Nat) : (s.resetWords a n).chan x = s.chan x := rfl
@[simp] theorem State.chan_setByte (x : Nat) (a : Nat) (v : Byte) : (s.setByte a v).chan x = s.chan x := rfl
@[simp] theorem State.chan_setClu (x : Nat) (k : Nat) (v : Clu) : (s.setClu k v).chan x = s.chan x := rfl
@[simp] theorem State.chan_setFnt (x : Nat) (f : Nat) (v : Fnt) : (s.setFnt f v).chan x = s.chan x := rfl
@[simp] theorem State.chan_setSeg (x : Nat) (n : Nat) (v : Seg) : (s.setSeg n v).chan x = s.chan x := rfl
@[simp] theorem State.chan_setAna (x : Nat) (n : Nat) (v : Ana) : (s.setAna n v).chan x = s.chan x := rfl
@[simp] theorem State.chan_setCtl (x : Nat) (d : Nat) (v : Dps) : (s.setCtl d v).chan x = s.chan x := rfl
@[simp] theorem State.chan_setMsq (x : Nat) (m : Nat) (v : Msq) : (s.setMsq m v).chan x = s.chan x := rfl
@[simp] theorem State.chan_setCal (x : Nat) (u : Nat) (v : Cal) : (s.setCal u v).chan x = s.chan x := rfl
@[simp] theorem State.chan_setPort (x : Nat) (p : Nat) (v : Port) : (s.setPort p v).chan x = s.chan x := rfl
@[simp] theorem State.chan_setOp (x : Nat) (o : Op) : (s.setOp o).chan x = s.chan x := rfl
@[simp] theorem State.chan_modOp (x : Nat) (y : Asn) (f : Op → Op) : (s.modOp y f).chan x = s.chan x := rfl
@[simp] theorem State.chan_ltAdd (x : Nat) (i n : Nat) : (s.ltAdd i n).chan x = s.chan x := rfl
@[simp] theorem State.chan_mramWrite (x : Nat) : (s.mramWrite).chan x = s.chan x := rfl
@[simp] theorem State.chan_withPending (x : Nat) (l : List Instr) : (s.withPending l).chan x = s.chan x := rfl

@[simp] theorem State.clu_setReg (x : Nat) (a : Nat) (v : Word) : (s.setReg a v).clu x = s.clu x := rfl
@[simp] theorem State.clu_setFld (x : Nat) (a hi lo v : Nat) : (s.setFld a hi lo v).clu x = s.clu x := rfl
@[simp] theorem State.clu_setBitAt (x : Nat) (a i : Nat) (b : Bool) : (s.setBitAt a i b).clu x = s.clu x := rfl
@[simp] theorem State.clu_orReg (x : Nat) (a m : Nat) : (s.orReg a m).clu x = s.clu x := rfl
@[simp] theorem State.clu_clrReg (x : Nat) (a m : Nat) : (s.clrReg a m).clu x = s.clu x := rfl
@[simp] theorem State.clu_addSat (x : Nat) (a n : Nat) : (s.addSat a n).clu x = s.clu x := rfl
@[simp] theorem State.clu_incSat (x : Nat) (a : Nat) : (s.incSat a).clu x = s.clu x := rfl
@[simp] theorem State.clu_setReg64 (x : Nat) (lo hi v : Nat) : (s.setReg64 lo hi v).clu x = s.clu x := rfl
@[simp] theorem State.clu_event (x : Nat) (a b : Nat) : (s.event a b).clu x = s.clu x := rfl
@[simp] theorem State.clu_setMaskBit (x : Nat) (a n : Nat) (b : Bool) : (s.setMaskBit a n b).clu x = s.clu x := rfl
@[simp] theorem State.clu_setLive (x : Nat) (a : Nat) (v : Word) : (s.setLive a v).clu x = s.clu x := rfl
@[simp] theorem State.clu_setBoth (x : Nat) (a : Nat) (v : Word) : (s.setBoth a v).clu x = s.clu x := rfl
@[simp] theorem State.clu_resetWords (x : Nat) (a n : Nat) : (s.resetWords a n).clu x = s.clu x := rfl
@[simp] theorem State.clu_setByte (x : Nat) (a : Nat) (v : Byte) : (s.setByte a v).clu x = s.clu x := rfl
@[simp] theorem State.clu_setChan (x : Nat) (c : Nat) (v : Chan) : (s.setChan c v).clu x = s.clu x := rfl
@[simp] theorem State.clu_setFnt (x : Nat) (f : Nat) (v : Fnt) : (s.setFnt f v).clu x = s.clu x := rfl
@[simp] theorem State.clu_setSeg (x : Nat) (n : Nat) (v : Seg) : (s.setSeg n v).clu x = s.clu x := rfl
@[simp] theorem State.clu_setAna (x : Nat) (n : Nat) (v : Ana) : (s.setAna n v).clu x = s.clu x := rfl
@[simp] theorem State.clu_setCtl (x : Nat) (d : Nat) (v : Dps) : (s.setCtl d v).clu x = s.clu x := rfl
@[simp] theorem State.clu_setMsq (x : Nat) (m : Nat) (v : Msq) : (s.setMsq m v).clu x = s.clu x := rfl
@[simp] theorem State.clu_setCal (x : Nat) (u : Nat) (v : Cal) : (s.setCal u v).clu x = s.clu x := rfl
@[simp] theorem State.clu_setPort (x : Nat) (p : Nat) (v : Port) : (s.setPort p v).clu x = s.clu x := rfl
@[simp] theorem State.clu_setOp (x : Nat) (o : Op) : (s.setOp o).clu x = s.clu x := rfl
@[simp] theorem State.clu_modOp (x : Nat) (y : Asn) (f : Op → Op) : (s.modOp y f).clu x = s.clu x := rfl
@[simp] theorem State.clu_ltAdd (x : Nat) (i n : Nat) : (s.ltAdd i n).clu x = s.clu x := rfl
@[simp] theorem State.clu_mramWrite (x : Nat) : (s.mramWrite).clu x = s.clu x := rfl
@[simp] theorem State.clu_withPending (x : Nat) (l : List Instr) : (s.withPending l).clu x = s.clu x := rfl

@[simp] theorem State.fnt_setReg (x : Nat) (a : Nat) (v : Word) : (s.setReg a v).fnt x = s.fnt x := rfl
@[simp] theorem State.fnt_setFld (x : Nat) (a hi lo v : Nat) : (s.setFld a hi lo v).fnt x = s.fnt x := rfl
@[simp] theorem State.fnt_setBitAt (x : Nat) (a i : Nat) (b : Bool) : (s.setBitAt a i b).fnt x = s.fnt x := rfl
@[simp] theorem State.fnt_orReg (x : Nat) (a m : Nat) : (s.orReg a m).fnt x = s.fnt x := rfl
@[simp] theorem State.fnt_clrReg (x : Nat) (a m : Nat) : (s.clrReg a m).fnt x = s.fnt x := rfl
@[simp] theorem State.fnt_addSat (x : Nat) (a n : Nat) : (s.addSat a n).fnt x = s.fnt x := rfl
@[simp] theorem State.fnt_incSat (x : Nat) (a : Nat) : (s.incSat a).fnt x = s.fnt x := rfl
@[simp] theorem State.fnt_setReg64 (x : Nat) (lo hi v : Nat) : (s.setReg64 lo hi v).fnt x = s.fnt x := rfl
@[simp] theorem State.fnt_event (x : Nat) (a b : Nat) : (s.event a b).fnt x = s.fnt x := rfl
@[simp] theorem State.fnt_setMaskBit (x : Nat) (a n : Nat) (b : Bool) : (s.setMaskBit a n b).fnt x = s.fnt x := rfl
@[simp] theorem State.fnt_setLive (x : Nat) (a : Nat) (v : Word) : (s.setLive a v).fnt x = s.fnt x := rfl
@[simp] theorem State.fnt_setBoth (x : Nat) (a : Nat) (v : Word) : (s.setBoth a v).fnt x = s.fnt x := rfl
@[simp] theorem State.fnt_resetWords (x : Nat) (a n : Nat) : (s.resetWords a n).fnt x = s.fnt x := rfl
@[simp] theorem State.fnt_setByte (x : Nat) (a : Nat) (v : Byte) : (s.setByte a v).fnt x = s.fnt x := rfl
@[simp] theorem State.fnt_setChan (x : Nat) (c : Nat) (v : Chan) : (s.setChan c v).fnt x = s.fnt x := rfl
@[simp] theorem State.fnt_setClu (x : Nat) (k : Nat) (v : Clu) : (s.setClu k v).fnt x = s.fnt x := rfl
@[simp] theorem State.fnt_setSeg (x : Nat) (n : Nat) (v : Seg) : (s.setSeg n v).fnt x = s.fnt x := rfl
@[simp] theorem State.fnt_setAna (x : Nat) (n : Nat) (v : Ana) : (s.setAna n v).fnt x = s.fnt x := rfl
@[simp] theorem State.fnt_setCtl (x : Nat) (d : Nat) (v : Dps) : (s.setCtl d v).fnt x = s.fnt x := rfl
@[simp] theorem State.fnt_setMsq (x : Nat) (m : Nat) (v : Msq) : (s.setMsq m v).fnt x = s.fnt x := rfl
@[simp] theorem State.fnt_setCal (x : Nat) (u : Nat) (v : Cal) : (s.setCal u v).fnt x = s.fnt x := rfl
@[simp] theorem State.fnt_setPort (x : Nat) (p : Nat) (v : Port) : (s.setPort p v).fnt x = s.fnt x := rfl
@[simp] theorem State.fnt_setOp (x : Nat) (o : Op) : (s.setOp o).fnt x = s.fnt x := rfl
@[simp] theorem State.fnt_modOp (x : Nat) (y : Asn) (f : Op → Op) : (s.modOp y f).fnt x = s.fnt x := rfl
@[simp] theorem State.fnt_ltAdd (x : Nat) (i n : Nat) : (s.ltAdd i n).fnt x = s.fnt x := rfl
@[simp] theorem State.fnt_mramWrite (x : Nat) : (s.mramWrite).fnt x = s.fnt x := rfl
@[simp] theorem State.fnt_withPending (x : Nat) (l : List Instr) : (s.withPending l).fnt x = s.fnt x := rfl

@[simp] theorem State.seg_setReg (x : Nat) (a : Nat) (v : Word) : (s.setReg a v).seg x = s.seg x := rfl
@[simp] theorem State.seg_setFld (x : Nat) (a hi lo v : Nat) : (s.setFld a hi lo v).seg x = s.seg x := rfl
@[simp] theorem State.seg_setBitAt (x : Nat) (a i : Nat) (b : Bool) : (s.setBitAt a i b).seg x = s.seg x := rfl
@[simp] theorem State.seg_orReg (x : Nat) (a m : Nat) : (s.orReg a m).seg x = s.seg x := rfl
@[simp] theorem State.seg_clrReg (x : Nat) (a m : Nat) : (s.clrReg a m).seg x = s.seg x := rfl
@[simp] theorem State.seg_addSat (x : Nat) (a n : Nat) : (s.addSat a n).seg x = s.seg x := rfl
@[simp] theorem State.seg_incSat (x : Nat) (a : Nat) : (s.incSat a).seg x = s.seg x := rfl
@[simp] theorem State.seg_setReg64 (x : Nat) (lo hi v : Nat) : (s.setReg64 lo hi v).seg x = s.seg x := rfl
@[simp] theorem State.seg_event (x : Nat) (a b : Nat) : (s.event a b).seg x = s.seg x := rfl
@[simp] theorem State.seg_setMaskBit (x : Nat) (a n : Nat) (b : Bool) : (s.setMaskBit a n b).seg x = s.seg x := rfl
@[simp] theorem State.seg_setLive (x : Nat) (a : Nat) (v : Word) : (s.setLive a v).seg x = s.seg x := rfl
@[simp] theorem State.seg_setBoth (x : Nat) (a : Nat) (v : Word) : (s.setBoth a v).seg x = s.seg x := rfl
@[simp] theorem State.seg_resetWords (x : Nat) (a n : Nat) : (s.resetWords a n).seg x = s.seg x := rfl
@[simp] theorem State.seg_setByte (x : Nat) (a : Nat) (v : Byte) : (s.setByte a v).seg x = s.seg x := rfl
@[simp] theorem State.seg_setChan (x : Nat) (c : Nat) (v : Chan) : (s.setChan c v).seg x = s.seg x := rfl
@[simp] theorem State.seg_setClu (x : Nat) (k : Nat) (v : Clu) : (s.setClu k v).seg x = s.seg x := rfl
@[simp] theorem State.seg_setFnt (x : Nat) (f : Nat) (v : Fnt) : (s.setFnt f v).seg x = s.seg x := rfl
@[simp] theorem State.seg_setAna (x : Nat) (n : Nat) (v : Ana) : (s.setAna n v).seg x = s.seg x := rfl
@[simp] theorem State.seg_setCtl (x : Nat) (d : Nat) (v : Dps) : (s.setCtl d v).seg x = s.seg x := rfl
@[simp] theorem State.seg_setMsq (x : Nat) (m : Nat) (v : Msq) : (s.setMsq m v).seg x = s.seg x := rfl
@[simp] theorem State.seg_setCal (x : Nat) (u : Nat) (v : Cal) : (s.setCal u v).seg x = s.seg x := rfl
@[simp] theorem State.seg_setPort (x : Nat) (p : Nat) (v : Port) : (s.setPort p v).seg x = s.seg x := rfl
@[simp] theorem State.seg_setOp (x : Nat) (o : Op) : (s.setOp o).seg x = s.seg x := rfl
@[simp] theorem State.seg_modOp (x : Nat) (y : Asn) (f : Op → Op) : (s.modOp y f).seg x = s.seg x := rfl
@[simp] theorem State.seg_ltAdd (x : Nat) (i n : Nat) : (s.ltAdd i n).seg x = s.seg x := rfl
@[simp] theorem State.seg_mramWrite (x : Nat) : (s.mramWrite).seg x = s.seg x := rfl
@[simp] theorem State.seg_withPending (x : Nat) (l : List Instr) : (s.withPending l).seg x = s.seg x := rfl

@[simp] theorem State.ana_setReg (x : Nat) (a : Nat) (v : Word) : (s.setReg a v).ana x = s.ana x := rfl
@[simp] theorem State.ana_setFld (x : Nat) (a hi lo v : Nat) : (s.setFld a hi lo v).ana x = s.ana x := rfl
@[simp] theorem State.ana_setBitAt (x : Nat) (a i : Nat) (b : Bool) : (s.setBitAt a i b).ana x = s.ana x := rfl
@[simp] theorem State.ana_orReg (x : Nat) (a m : Nat) : (s.orReg a m).ana x = s.ana x := rfl
@[simp] theorem State.ana_clrReg (x : Nat) (a m : Nat) : (s.clrReg a m).ana x = s.ana x := rfl
@[simp] theorem State.ana_addSat (x : Nat) (a n : Nat) : (s.addSat a n).ana x = s.ana x := rfl
@[simp] theorem State.ana_incSat (x : Nat) (a : Nat) : (s.incSat a).ana x = s.ana x := rfl
@[simp] theorem State.ana_setReg64 (x : Nat) (lo hi v : Nat) : (s.setReg64 lo hi v).ana x = s.ana x := rfl
@[simp] theorem State.ana_event (x : Nat) (a b : Nat) : (s.event a b).ana x = s.ana x := rfl
@[simp] theorem State.ana_setMaskBit (x : Nat) (a n : Nat) (b : Bool) : (s.setMaskBit a n b).ana x = s.ana x := rfl
@[simp] theorem State.ana_setLive (x : Nat) (a : Nat) (v : Word) : (s.setLive a v).ana x = s.ana x := rfl
@[simp] theorem State.ana_setBoth (x : Nat) (a : Nat) (v : Word) : (s.setBoth a v).ana x = s.ana x := rfl
@[simp] theorem State.ana_resetWords (x : Nat) (a n : Nat) : (s.resetWords a n).ana x = s.ana x := rfl
@[simp] theorem State.ana_setByte (x : Nat) (a : Nat) (v : Byte) : (s.setByte a v).ana x = s.ana x := rfl
@[simp] theorem State.ana_setChan (x : Nat) (c : Nat) (v : Chan) : (s.setChan c v).ana x = s.ana x := rfl
@[simp] theorem State.ana_setClu (x : Nat) (k : Nat) (v : Clu) : (s.setClu k v).ana x = s.ana x := rfl
@[simp] theorem State.ana_setFnt (x : Nat) (f : Nat) (v : Fnt) : (s.setFnt f v).ana x = s.ana x := rfl
@[simp] theorem State.ana_setSeg (x : Nat) (n : Nat) (v : Seg) : (s.setSeg n v).ana x = s.ana x := rfl
@[simp] theorem State.ana_setCtl (x : Nat) (d : Nat) (v : Dps) : (s.setCtl d v).ana x = s.ana x := rfl
@[simp] theorem State.ana_setMsq (x : Nat) (m : Nat) (v : Msq) : (s.setMsq m v).ana x = s.ana x := rfl
@[simp] theorem State.ana_setCal (x : Nat) (u : Nat) (v : Cal) : (s.setCal u v).ana x = s.ana x := rfl
@[simp] theorem State.ana_setPort (x : Nat) (p : Nat) (v : Port) : (s.setPort p v).ana x = s.ana x := rfl
@[simp] theorem State.ana_setOp (x : Nat) (o : Op) : (s.setOp o).ana x = s.ana x := rfl
@[simp] theorem State.ana_modOp (x : Nat) (y : Asn) (f : Op → Op) : (s.modOp y f).ana x = s.ana x := rfl
@[simp] theorem State.ana_ltAdd (x : Nat) (i n : Nat) : (s.ltAdd i n).ana x = s.ana x := rfl
@[simp] theorem State.ana_mramWrite (x : Nat) : (s.mramWrite).ana x = s.ana x := rfl
@[simp] theorem State.ana_withPending (x : Nat) (l : List Instr) : (s.withPending l).ana x = s.ana x := rfl

@[simp] theorem State.ctl_setReg (x : Nat) (a : Nat) (v : Word) : (s.setReg a v).ctl x = s.ctl x := rfl
@[simp] theorem State.ctl_setFld (x : Nat) (a hi lo v : Nat) : (s.setFld a hi lo v).ctl x = s.ctl x := rfl
@[simp] theorem State.ctl_setBitAt (x : Nat) (a i : Nat) (b : Bool) : (s.setBitAt a i b).ctl x = s.ctl x := rfl
@[simp] theorem State.ctl_orReg (x : Nat) (a m : Nat) : (s.orReg a m).ctl x = s.ctl x := rfl
@[simp] theorem State.ctl_clrReg (x : Nat) (a m : Nat) : (s.clrReg a m).ctl x = s.ctl x := rfl
@[simp] theorem State.ctl_addSat (x : Nat) (a n : Nat) : (s.addSat a n).ctl x = s.ctl x := rfl
@[simp] theorem State.ctl_incSat (x : Nat) (a : Nat) : (s.incSat a).ctl x = s.ctl x := rfl
@[simp] theorem State.ctl_setReg64 (x : Nat) (lo hi v : Nat) : (s.setReg64 lo hi v).ctl x = s.ctl x := rfl
@[simp] theorem State.ctl_event (x : Nat) (a b : Nat) : (s.event a b).ctl x = s.ctl x := rfl
@[simp] theorem State.ctl_setMaskBit (x : Nat) (a n : Nat) (b : Bool) : (s.setMaskBit a n b).ctl x = s.ctl x := rfl
@[simp] theorem State.ctl_setLive (x : Nat) (a : Nat) (v : Word) : (s.setLive a v).ctl x = s.ctl x := rfl
@[simp] theorem State.ctl_setBoth (x : Nat) (a : Nat) (v : Word) : (s.setBoth a v).ctl x = s.ctl x := rfl
@[simp] theorem State.ctl_resetWords (x : Nat) (a n : Nat) : (s.resetWords a n).ctl x = s.ctl x := rfl
@[simp] theorem State.ctl_setByte (x : Nat) (a : Nat) (v : Byte) : (s.setByte a v).ctl x = s.ctl x := rfl
@[simp] theorem State.ctl_setChan (x : Nat) (c : Nat) (v : Chan) : (s.setChan c v).ctl x = s.ctl x := rfl
@[simp] theorem State.ctl_setClu (x : Nat) (k : Nat) (v : Clu) : (s.setClu k v).ctl x = s.ctl x := rfl
@[simp] theorem State.ctl_setFnt (x : Nat) (f : Nat) (v : Fnt) : (s.setFnt f v).ctl x = s.ctl x := rfl
@[simp] theorem State.ctl_setSeg (x : Nat) (n : Nat) (v : Seg) : (s.setSeg n v).ctl x = s.ctl x := rfl
@[simp] theorem State.ctl_setAna (x : Nat) (n : Nat) (v : Ana) : (s.setAna n v).ctl x = s.ctl x := rfl
@[simp] theorem State.ctl_setMsq (x : Nat) (m : Nat) (v : Msq) : (s.setMsq m v).ctl x = s.ctl x := rfl
@[simp] theorem State.ctl_setCal (x : Nat) (u : Nat) (v : Cal) : (s.setCal u v).ctl x = s.ctl x := rfl
@[simp] theorem State.ctl_setPort (x : Nat) (p : Nat) (v : Port) : (s.setPort p v).ctl x = s.ctl x := rfl
@[simp] theorem State.ctl_setOp (x : Nat) (o : Op) : (s.setOp o).ctl x = s.ctl x := rfl
@[simp] theorem State.ctl_modOp (x : Nat) (y : Asn) (f : Op → Op) : (s.modOp y f).ctl x = s.ctl x := rfl
@[simp] theorem State.ctl_ltAdd (x : Nat) (i n : Nat) : (s.ltAdd i n).ctl x = s.ctl x := rfl
@[simp] theorem State.ctl_mramWrite (x : Nat) : (s.mramWrite).ctl x = s.ctl x := rfl
@[simp] theorem State.ctl_withPending (x : Nat) (l : List Instr) : (s.withPending l).ctl x = s.ctl x := rfl

@[simp] theorem State.msq_setReg (x : Nat) (a : Nat) (v : Word) : (s.setReg a v).msq x = s.msq x := rfl
@[simp] theorem State.msq_setFld (x : Nat) (a hi lo v : Nat) : (s.setFld a hi lo v).msq x = s.msq x := rfl
@[simp] theorem State.msq_setBitAt (x : Nat) (a i : Nat) (b : Bool) : (s.setBitAt a i b).msq x = s.msq x := rfl
@[simp] theorem State.msq_orReg (x : Nat) (a m : Nat) : (s.orReg a m).msq x = s.msq x := rfl
@[simp] theorem State.msq_clrReg (x : Nat) (a m : Nat) : (s.clrReg a m).msq x = s.msq x := rfl
@[simp] theorem State.msq_addSat (x : Nat) (a n : Nat) : (s.addSat a n).msq x = s.msq x := rfl
@[simp] theorem State.msq_incSat (x : Nat) (a : Nat) : (s.incSat a).msq x = s.msq x := rfl
@[simp] theorem State.msq_setReg64 (x : Nat) (lo hi v : Nat) : (s.setReg64 lo hi v).msq x = s.msq x := rfl
@[simp] theorem State.msq_event (x : Nat) (a b : Nat) : (s.event a b).msq x = s.msq x := rfl
@[simp] theorem State.msq_setMaskBit (x : Nat) (a n : Nat) (b : Bool) : (s.setMaskBit a n b).msq x = s.msq x := rfl
@[simp] theorem State.msq_setLive (x : Nat) (a : Nat) (v : Word) : (s.setLive a v).msq x = s.msq x := rfl
@[simp] theorem State.msq_setBoth (x : Nat) (a : Nat) (v : Word) : (s.setBoth a v).msq x = s.msq x := rfl
@[simp] theorem State.msq_resetWords (x : Nat) (a n : Nat) : (s.resetWords a n).msq x = s.msq x := rfl
@[simp] theorem State.msq_setByte (x : Nat) (a : Nat) (v : Byte) : (s.setByte a v).msq x = s.msq x := rfl
@[simp] theorem State.msq_setChan (x : Nat) (c : Nat) (v : Chan) : (s.setChan c v).msq x = s.msq x := rfl
@[simp] theorem State.msq_setClu (x : Nat) (k : Nat) (v : Clu) : (s.setClu k v).msq x = s.msq x := rfl
@[simp] theorem State.msq_setFnt (x : Nat) (f : Nat) (v : Fnt) : (s.setFnt f v).msq x = s.msq x := rfl
@[simp] theorem State.msq_setSeg (x : Nat) (n : Nat) (v : Seg) : (s.setSeg n v).msq x = s.msq x := rfl
@[simp] theorem State.msq_setAna (x : Nat) (n : Nat) (v : Ana) : (s.setAna n v).msq x = s.msq x := rfl
@[simp] theorem State.msq_setCtl (x : Nat) (d : Nat) (v : Dps) : (s.setCtl d v).msq x = s.msq x := rfl
@[simp] theorem State.msq_setCal (x : Nat) (u : Nat) (v : Cal) : (s.setCal u v).msq x = s.msq x := rfl
@[simp] theorem State.msq_setPort (x : Nat) (p : Nat) (v : Port) : (s.setPort p v).msq x = s.msq x := rfl
@[simp] theorem State.msq_setOp (x : Nat) (o : Op) : (s.setOp o).msq x = s.msq x := rfl
@[simp] theorem State.msq_modOp (x : Nat) (y : Asn) (f : Op → Op) : (s.modOp y f).msq x = s.msq x := rfl
@[simp] theorem State.msq_ltAdd (x : Nat) (i n : Nat) : (s.ltAdd i n).msq x = s.msq x := rfl
@[simp] theorem State.msq_mramWrite (x : Nat) : (s.mramWrite).msq x = s.msq x := rfl
@[simp] theorem State.msq_withPending (x : Nat) (l : List Instr) : (s.withPending l).msq x = s.msq x := rfl

@[simp] theorem State.cal_setReg (x : Nat) (a : Nat) (v : Word) : (s.setReg a v).cal x = s.cal x := rfl
@[simp] theorem State.cal_setFld (x : Nat) (a hi lo v : Nat) : (s.setFld a hi lo v).cal x = s.cal x := rfl
@[simp] theorem State.cal_setBitAt (x : Nat) (a i : Nat) (b : Bool) : (s.setBitAt a i b).cal x = s.cal x := rfl
@[simp] theorem State.cal_orReg (x : Nat) (a m : Nat) : (s.orReg a m).cal x = s.cal x := rfl
@[simp] theorem State.cal_clrReg (x : Nat) (a m : Nat) : (s.clrReg a m).cal x = s.cal x := rfl
@[simp] theorem State.cal_addSat (x : Nat) (a n : Nat) : (s.addSat a n).cal x = s.cal x := rfl
@[simp] theorem State.cal_incSat (x : Nat) (a : Nat) : (s.incSat a).cal x = s.cal x := rfl
@[simp] theorem State.cal_setReg64 (x : Nat) (lo hi v : Nat) : (s.setReg64 lo hi v).cal x = s.cal x := rfl
@[simp] theorem State.cal_event (x : Nat) (a b : Nat) : (s.event a b).cal x = s.cal x := rfl
@[simp] theorem State.cal_setMaskBit (x : Nat) (a n : Nat) (b : Bool) : (s.setMaskBit a n b).cal x = s.cal x := rfl
@[simp] theorem State.cal_setLive (x : Nat) (a : Nat) (v : Word) : (s.setLive a v).cal x = s.cal x := rfl
@[simp] theorem State.cal_setBoth (x : Nat) (a : Nat) (v : Word) : (s.setBoth a v).cal x = s.cal x := rfl
@[simp] theorem State.cal_resetWords (x : Nat) (a n : Nat) : (s.resetWords a n).cal x = s.cal x := rfl
@[simp] theorem State.cal_setByte (x : Nat) (a : Nat) (v : Byte) : (s.setByte a v).cal x = s.cal x := rfl
@[simp] theorem State.cal_setChan (x : Nat) (c : Nat) (v : Chan) : (s.setChan c v).cal x = s.cal x := rfl
@[simp] theorem State.cal_setClu (x : Nat) (k : Nat) (v : Clu) : (s.setClu k v).cal x = s.cal x := rfl
@[simp] theorem State.cal_setFnt (x : Nat) (f : Nat) (v : Fnt) : (s.setFnt f v).cal x = s.cal x := rfl
@[simp] theorem State.cal_setSeg (x : Nat) (n : Nat) (v : Seg) : (s.setSeg n v).cal x = s.cal x := rfl
@[simp] theorem State.cal_setAna (x : Nat) (n : Nat) (v : Ana) : (s.setAna n v).cal x = s.cal x := rfl
@[simp] theorem State.cal_setCtl (x : Nat) (d : Nat) (v : Dps) : (s.setCtl d v).cal x = s.cal x := rfl
@[simp] theorem State.cal_setMsq (x : Nat) (m : Nat) (v : Msq) : (s.setMsq m v).cal x = s.cal x := rfl
@[simp] theorem State.cal_setPort (x : Nat) (p : Nat) (v : Port) : (s.setPort p v).cal x = s.cal x := rfl
@[simp] theorem State.cal_setOp (x : Nat) (o : Op) : (s.setOp o).cal x = s.cal x := rfl
@[simp] theorem State.cal_modOp (x : Nat) (y : Asn) (f : Op → Op) : (s.modOp y f).cal x = s.cal x := rfl
@[simp] theorem State.cal_ltAdd (x : Nat) (i n : Nat) : (s.ltAdd i n).cal x = s.cal x := rfl
@[simp] theorem State.cal_mramWrite (x : Nat) : (s.mramWrite).cal x = s.cal x := rfl
@[simp] theorem State.cal_withPending (x : Nat) (l : List Instr) : (s.withPending l).cal x = s.cal x := rfl

@[simp] theorem State.port_setReg (x : Nat) (a : Nat) (v : Word) : (s.setReg a v).port x = s.port x := rfl
@[simp] theorem State.port_setFld (x : Nat) (a hi lo v : Nat) : (s.setFld a hi lo v).port x = s.port x := rfl
@[simp] theorem State.port_setBitAt (x : Nat) (a i : Nat) (b : Bool) : (s.setBitAt a i b).port x = s.port x := rfl
@[simp] theorem State.port_orReg (x : Nat) (a m : Nat) : (s.orReg a m).port x = s.port x := rfl
@[simp] theorem State.port_clrReg (x : Nat) (a m : Nat) : (s.clrReg a m).port x = s.port x := rfl
@[simp] theorem State.port_addSat (x : Nat) (a n : Nat) : (s.addSat a n).port x = s.port x := rfl
@[simp] theorem State.port_incSat (x : Nat) (a : Nat) : (s.incSat a).port x = s.port x := rfl
@[simp] theorem State.port_setReg64 (x : Nat) (lo hi v : Nat) : (s.setReg64 lo hi v).port x = s.port x := rfl
@[simp] theorem State.port_event (x : Nat) (a b : Nat) : (s.event a b).port x = s.port x := rfl
@[simp] theorem State.port_setMaskBit (x : Nat) (a n : Nat) (b : Bool) : (s.setMaskBit a n b).port x = s.port x := rfl
@[simp] theorem State.port_setLive (x : Nat) (a : Nat) (v : Word) : (s.setLive a v).port x = s.port x := rfl
@[simp] theorem State.port_setBoth (x : Nat) (a : Nat) (v : Word) : (s.setBoth a v).port x = s.port x := rfl
@[simp] theorem State.port_resetWords (x : Nat) (a n : Nat) : (s.resetWords a n).port x = s.port x := rfl
@[simp] theorem State.port_setByte (x : Nat) (a : Nat) (v : Byte) : (s.setByte a v).port x = s.port x := rfl
@[simp] theorem State.port_setChan (x : Nat) (c : Nat) (v : Chan) : (s.setChan c v).port x = s.port x := rfl
@[simp] theorem State.port_setClu (x : Nat) (k : Nat) (v : Clu) : (s.setClu k v).port x = s.port x := rfl
@[simp] theorem State.port_setFnt (x : Nat) (f : Nat) (v : Fnt) : (s.setFnt f v).port x = s.port x := rfl
@[simp] theorem State.port_setSeg (x : Nat) (n : Nat) (v : Seg) : (s.setSeg n v).port x = s.port x := rfl
@[simp] theorem State.port_setAna (x : Nat) (n : Nat) (v : Ana) : (s.setAna n v).port x = s.port x := rfl
@[simp] theorem State.port_setCtl (x : Nat) (d : Nat) (v : Dps) : (s.setCtl d v).port x = s.port x := rfl
@[simp] theorem State.port_setMsq (x : Nat) (m : Nat) (v : Msq) : (s.setMsq m v).port x = s.port x := rfl
@[simp] theorem State.port_setCal (x : Nat) (u : Nat) (v : Cal) : (s.setCal u v).port x = s.port x := rfl
@[simp] theorem State.port_setOp (x : Nat) (o : Op) : (s.setOp o).port x = s.port x := rfl
@[simp] theorem State.port_modOp (x : Nat) (y : Asn) (f : Op → Op) : (s.modOp y f).port x = s.port x := rfl
@[simp] theorem State.port_ltAdd (x : Nat) (i n : Nat) : (s.ltAdd i n).port x = s.port x := rfl
@[simp] theorem State.port_mramWrite (x : Nat) : (s.mramWrite).port x = s.port x := rfl
@[simp] theorem State.port_withPending (x : Nat) (l : List Instr) : (s.withPending l).port x = s.port x := rfl

@[simp] theorem State.opq_setReg (x : Asn) (a : Nat) (v : Word) : (s.setReg a v).op? x = s.op? x := rfl
@[simp] theorem State.opq_setFld (x : Asn) (a hi lo v : Nat) : (s.setFld a hi lo v).op? x = s.op? x := rfl
@[simp] theorem State.opq_setBitAt (x : Asn) (a i : Nat) (b : Bool) : (s.setBitAt a i b).op? x = s.op? x := rfl
@[simp] theorem State.opq_orReg (x : Asn) (a m : Nat) : (s.orReg a m).op? x = s.op? x := rfl
@[simp] theorem State.opq_clrReg (x : Asn) (a m : Nat) : (s.clrReg a m).op? x = s.op? x := rfl
@[simp] theorem State.opq_addSat (x : Asn) (a n : Nat) : (s.addSat a n).op? x = s.op? x := rfl
@[simp] theorem State.opq_incSat (x : Asn) (a : Nat) : (s.incSat a).op? x = s.op? x := rfl
@[simp] theorem State.opq_setReg64 (x : Asn) (lo hi v : Nat) : (s.setReg64 lo hi v).op? x = s.op? x := rfl
@[simp] theorem State.opq_event (x : Asn) (a b : Nat) : (s.event a b).op? x = s.op? x := rfl
@[simp] theorem State.opq_setMaskBit (x : Asn) (a n : Nat) (b : Bool) : (s.setMaskBit a n b).op? x = s.op? x := rfl
@[simp] theorem State.opq_setLive (x : Asn) (a : Nat) (v : Word) : (s.setLive a v).op? x = s.op? x := rfl
@[simp] theorem State.opq_setBoth (x : Asn) (a : Nat) (v : Word) : (s.setBoth a v).op? x = s.op? x := rfl
@[simp] theorem State.opq_resetWords (x : Asn) (a n : Nat) : (s.resetWords a n).op? x = s.op? x := rfl
@[simp] theorem State.opq_setByte (x : Asn) (a : Nat) (v : Byte) : (s.setByte a v).op? x = s.op? x := rfl
@[simp] theorem State.opq_setChan (x : Asn) (c : Nat) (v : Chan) : (s.setChan c v).op? x = s.op? x := rfl
@[simp] theorem State.opq_setClu (x : Asn) (k : Nat) (v : Clu) : (s.setClu k v).op? x = s.op? x := rfl
@[simp] theorem State.opq_setFnt (x : Asn) (f : Nat) (v : Fnt) : (s.setFnt f v).op? x = s.op? x := rfl
@[simp] theorem State.opq_setSeg (x : Asn) (n : Nat) (v : Seg) : (s.setSeg n v).op? x = s.op? x := rfl
@[simp] theorem State.opq_setAna (x : Asn) (n : Nat) (v : Ana) : (s.setAna n v).op? x = s.op? x := rfl
@[simp] theorem State.opq_setCtl (x : Asn) (d : Nat) (v : Dps) : (s.setCtl d v).op? x = s.op? x := rfl
@[simp] theorem State.opq_setMsq (x : Asn) (m : Nat) (v : Msq) : (s.setMsq m v).op? x = s.op? x := rfl
@[simp] theorem State.opq_setCal (x : Asn) (u : Nat) (v : Cal) : (s.setCal u v).op? x = s.op? x := rfl
@[simp] theorem State.opq_setPort (x : Asn) (p : Nat) (v : Port) : (s.setPort p v).op? x = s.op? x := rfl
@[simp] theorem State.opq_ltAdd (x : Asn) (i n : Nat) : (s.ltAdd i n).op? x = s.op? x := rfl
@[simp] theorem State.opq_mramWrite (x : Asn) : (s.mramWrite).op? x = s.op? x := rfl
@[simp] theorem State.opq_withPending (x : Asn) (l : List Instr) : (s.withPending l).op? x = s.op? x := rfl

@[simp] theorem State.lifetime_setReg (x : Nat) (a : Nat) (v : Word) : (s.setReg a v).lifetime x = s.lifetime x := rfl
@[simp] theorem State.lifetime_setFld (x : Nat) (a hi lo v : Nat) : (s.setFld a hi lo v).lifetime x = s.lifetime x := rfl
@[simp] theorem State.lifetime_setBitAt (x : Nat) (a i : Nat) (b : Bool) : (s.setBitAt a i b).lifetime x = s.lifetime x := rfl
@[simp] theorem State.lifetime_orReg (x : Nat) (a m : Nat) : (s.orReg a m).lifetime x = s.lifetime x := rfl
@[simp] theorem State.lifetime_clrReg (x : Nat) (a m : Nat) : (s.clrReg a m).lifetime x = s.lifetime x := rfl
@[simp] theorem State.lifetime_addSat (x : Nat) (a n : Nat) : (s.addSat a n).lifetime x = s.lifetime x := rfl
@[simp] theorem State.lifetime_incSat (x : Nat) (a : Nat) : (s.incSat a).lifetime x = s.lifetime x := rfl
@[simp] theorem State.lifetime_setReg64 (x : Nat) (lo hi v : Nat) : (s.setReg64 lo hi v).lifetime x = s.lifetime x := rfl
@[simp] theorem State.lifetime_event (x : Nat) (a b : Nat) : (s.event a b).lifetime x = s.lifetime x := rfl
@[simp] theorem State.lifetime_setMaskBit (x : Nat) (a n : Nat) (b : Bool) : (s.setMaskBit a n b).lifetime x = s.lifetime x := rfl
@[simp] theorem State.lifetime_setLive (x : Nat) (a : Nat) (v : Word) : (s.setLive a v).lifetime x = s.lifetime x := rfl
@[simp] theorem State.lifetime_setBoth (x : Nat) (a : Nat) (v : Word) : (s.setBoth a v).lifetime x = s.lifetime x := rfl
@[simp] theorem State.lifetime_resetWords (x : Nat) (a n : Nat) : (s.resetWords a n).lifetime x = s.lifetime x := rfl
@[simp] theorem State.lifetime_setByte (x : Nat) (a : Nat) (v : Byte) : (s.setByte a v).lifetime x = s.lifetime x := rfl
@[simp] theorem State.lifetime_setChan (x : Nat) (c : Nat) (v : Chan) : (s.setChan c v).lifetime x = s.lifetime x := rfl
@[simp] theorem State.lifetime_setClu (x : Nat) (k : Nat) (v : Clu) : (s.setClu k v).lifetime x = s.lifetime x := rfl
@[simp] theorem State.lifetime_setFnt (x : Nat) (f : Nat) (v : Fnt) : (s.setFnt f v).lifetime x = s.lifetime x := rfl
@[simp] theorem State.lifetime_setSeg (x : Nat) (n : Nat) (v : Seg) : (s.setSeg n v).lifetime x = s.lifetime x := rfl
@[simp] theorem State.lifetime_setAna (x : Nat) (n : Nat) (v : Ana) : (s.setAna n v).lifetime x = s.lifetime x := rfl
@[simp] theorem State.lifetime_setCtl (x : Nat) (d : Nat) (v : Dps) : (s.setCtl d v).lifetime x = s.lifetime x := rfl
@[simp] theorem State.lifetime_setMsq (x : Nat) (m : Nat) (v : Msq) : (s.setMsq m v).lifetime x = s.lifetime x := rfl
@[simp] theorem State.lifetime_setCal (x : Nat) (u : Nat) (v : Cal) : (s.setCal u v).lifetime x = s.lifetime x := rfl
@[simp] theorem State.lifetime_setPort (x : Nat) (p : Nat) (v : Port) : (s.setPort p v).lifetime x = s.lifetime x := rfl
@[simp] theorem State.lifetime_setOp (x : Nat) (o : Op) : (s.setOp o).lifetime x = s.lifetime x := rfl
@[simp] theorem State.lifetime_modOp (x : Nat) (y : Asn) (f : Op → Op) : (s.modOp y f).lifetime x = s.lifetime x := rfl
@[simp] theorem State.lifetime_withPending (x : Nat) (l : List Instr) : (s.withPending l).lifetime x = s.lifetime x := rfl

end Sys2Proof.Machine
end

