-- ==== Sys2Proof/Laws/Words.lean ====
section
/-! SUPPORT. The laws of fields of words: what a field and a bit of a word hold after a field has taken a value. -/

namespace Sys2Proof

/-- A number cut at two places. -/
theorem nat_cut (w lo n : Nat) : w = w / 2 ^ (lo + n) * 2 ^ (lo + n) + (w / 2 ^ lo % 2 ^ n) * 2 ^ lo + w % 2 ^ lo := by
  conv_lhs => rw [← Nat.div_add_mod w (2 ^ lo), ← Nat.div_add_mod (w / 2 ^ lo) (2 ^ n), Nat.div_div_eq_div_mul, ← pow_add]
  rw [pow_add]; ring

/-- Bits of a number put together from three parts. -/
theorem testBit_parts (a b c lo n i : Nat) (hb : b < 2 ^ n) (hc : c < 2 ^ lo) :
    (a * 2 ^ (lo + n) + b * 2 ^ lo + c).testBit i =
      if i < lo then c.testBit i else if i < lo + n then b.testBit (i - lo) else a.testBit (i - (lo + n)) := by
  have e : a * 2 ^ (lo + n) + b * 2 ^ lo + c = 2 ^ lo * (2 ^ n * a + b) + c := by rw [pow_add]; ring
  rw [e, Nat.testBit_two_pow_mul_add _ hc]
  by_cases h1 : i < lo
  · simp [h1]
  · simp only [h1, if_false]
    rw [Nat.testBit_two_pow_mul_add _ hb]
    by_cases h2 : i < lo + n
    · have : i - lo < n := by omega
      simp [h2, this]
    · have : ¬ i - lo < n := by omega
      simp [h2, this, Nat.sub_sub]

/-- The number that a word holds once a field has taken a value. -/
theorem Word.toNat_withField (w : Word) (hi lo v : Nat) (h : lo ≤ hi) (hh : hi < 32) :
    (w.withField hi lo v).toNat =
      w.toNat / 2 ^ (hi + 1) * 2 ^ (hi + 1) + v % 2 ^ (hi + 1 - lo) * 2 ^ lo + w.toNat % 2 ^ lo := by
  obtain ⟨n, hn⟩ : ∃ n, hi + 1 = lo + n := ⟨hi + 1 - lo, by omega⟩
  have cut := nat_cut w.toNat lo n
  have hv : v % 2 ^ n < 2 ^ n := Nat.mod_lt _ (by positivity)
  have hl : w.toNat % 2 ^ lo < 2 ^ lo := Nat.mod_lt _ (by positivity)
  simp only [Word.withField, Word.field, BitVec.toNat_ofNat, hn, Nat.add_sub_cancel_left]
  have e : w.toNat - w.toNat / 2 ^ lo % 2 ^ n * 2 ^ lo + v % 2 ^ n * 2 ^ lo =
      w.toNat / 2 ^ (lo + n) * 2 ^ (lo + n) + v % 2 ^ n * 2 ^ lo + w.toNat % 2 ^ lo := by omega
  rw [e, Nat.mod_eq_of_lt]
  refine Nat.lt_pow_two_of_testBit _ (fun i hi' => ?_)
  rw [testBit_parts _ _ _ _ _ _ hv hl]
  have h1 : ¬ i < lo := by omega
  have h2 : ¬ i < lo + n := by omega
  simp only [h1, h2, if_false, Nat.testBit_div_two_pow]
  exact Nat.testBit_lt_two_pow (lt_of_lt_of_le w.isLt (Nat.pow_le_pow_right (by norm_num) (by omega)))

/-- A bit of a word after a field has taken a value. -/
theorem Word.getLsbD_withField (w : Word) (hi lo v i : Nat) (h : lo ≤ hi) (hh : hi < 32) :
    (w.withField hi lo v).getLsbD i = if lo ≤ i ∧ i ≤ hi then v.testBit (i - lo) else w.getLsbD i := by
  obtain ⟨n, hn⟩ : ∃ n, hi + 1 = lo + n := ⟨hi + 1 - lo, by omega⟩
  have hv : v % 2 ^ n < 2 ^ n := Nat.mod_lt _ (by positivity)
  have hl : w.toNat % 2 ^ lo < 2 ^ lo := Nat.mod_lt _ (by positivity)
  simp only [BitVec.getLsbD, Word.toNat_withField w hi lo v h hh, hn, Nat.add_sub_cancel_left]
  rw [testBit_parts _ _ _ _ _ _ hv hl]
  by_cases h1 : i < lo
  · have : ¬ (lo ≤ i ∧ i ≤ hi) := by omega
    simp [h1, this, Nat.testBit_mod_two_pow]
  · by_cases h2 : i < lo + n
    · have h3 : lo ≤ i ∧ i ≤ hi := by omega
      have h4 : i - lo < n := by omega
      simp [h1, h2, h3, Nat.testBit_mod_two_pow, h4]
    · have h3 : ¬ (lo ≤ i ∧ i ≤ hi) := by omega
      have h4 : i - (lo + n) + (lo + n) = i := by omega
      simp only [h1, h2, h3, if_false, Nat.testBit_div_two_pow, h4]

/-- A bit of a field. -/
theorem Word.testBit_field (w : Word) (hi lo i : Nat) :
    (w.field hi lo).testBit i = (decide (i < hi + 1 - lo) && w.getLsbD (lo + i)) := by
  simp [Word.field, BitVec.getLsbD, Nat.testBit_mod_two_pow, Nat.testBit_div_two_pow, Nat.add_comm]

/-- A field has the value that it took. -/
theorem Word.field_withField_same (w : Word) (hi lo v : Nat) (h : lo ≤ hi) (hh : hi < 32) :
    (w.withField hi lo v).field hi lo = v % 2 ^ (hi + 1 - lo) := by
  refine Nat.eq_of_testBit_eq (fun i => ?_)
  rw [Word.testBit_field, Word.getLsbD_withField w hi lo v _ h hh, Nat.testBit_mod_two_pow]
  by_cases hi' : i < hi + 1 - lo
  · have h1 : lo ≤ lo + i ∧ lo + i ≤ hi := by omega
    rw [if_pos h1, Nat.add_sub_cancel_left]
  · simp [hi']

/-- A field keeps its value when one beside it takes a value. -/
theorem Word.field_withField_ne (w : Word) (hi lo v hi' lo' : Nat) (h : lo ≤ hi) (hh : hi < 32) (hd : hi' < lo ∨ hi < lo') :
    (w.withField hi lo v).field hi' lo' = w.field hi' lo' := by
  refine Nat.eq_of_testBit_eq (fun i => ?_)
  rw [Word.testBit_field, Word.testBit_field]
  by_cases hi1 : i < hi' + 1 - lo'
  · have h1 : ¬ (lo ≤ lo' + i ∧ lo' + i ≤ hi) := by omega
    rw [Word.getLsbD_withField w hi lo v _ h hh, if_neg h1]
  · simp [hi1]

/-- A field lies below the power of its width. -/
theorem Word.field_lt (w : Word) (hi lo : Nat) : w.field hi lo < 2 ^ (hi + 1 - lo) := Nat.mod_lt _ (by positivity)

end Sys2Proof
end

