-- ==== Sys2Proof/Laws/Ops.lean ====
section
/-! SUPPORT. What each named operation of Machine/Ops.lean can do, said once: reads after writes, time, the store, units, the
event queue, lifetime counters and changes made for each member of a list. -/

namespace Sys2Proof.Machine

variable (s : State)

/-! Registers. -/

/-- A register after any register took a value. -/
theorem State.reg_setReg (a b : Nat) (v : Word) : (s.setReg a v).reg b = if b = a then v else s.reg b :=
  Map.get_set regDefault s.regs a v b
@[simp] theorem State.reg_setReg_same (a : Nat) (v : Word) : (s.setReg a v).reg a = v := by simp [State.reg_setReg]
theorem State.reg_setReg_ne {a b : Nat} (v : Word) (h : b ≠ a) : (s.setReg a v).reg b = s.reg b := by
  simp [State.reg_setReg, h]

theorem State.reg_setFld (a hi lo v b : Nat) :
    (s.setFld a hi lo v).reg b = if b = a then (s.reg a).withField hi lo v else s.reg b := State.reg_setReg s a b _
@[simp] theorem State.reg_setFld_same (a hi lo v : Nat) : (s.setFld a hi lo v).reg a = (s.reg a).withField hi lo v := by
  simp [State.reg_setFld]
theorem State.reg_setFld_ne {a b : Nat} (hi lo v : Nat) (h : b ≠ a) : (s.setFld a hi lo v).reg b = s.reg b := by
  simp [State.reg_setFld, h]
/-- A field has the value that it took. -/
theorem State.fld_setFld_same (a hi lo v : Nat) (h : lo ≤ hi) (hh : hi < 32) :
    (s.setFld a hi lo v).fld a hi lo = v % 2 ^ (hi + 1 - lo) := by
  simp [State.fld, Word.field_withField_same _ _ _ _ h hh]
/-- A field of another register, or beside the one that took a value, stays. -/
theorem State.fld_setFld_ne (a hi lo v b hi' lo' : Nat) (h : lo ≤ hi) (hh : hi < 32) (hd : b ≠ a ∨ hi' < lo ∨ hi < lo') :
    (s.setFld a hi lo v).fld b hi' lo' = s.fld b hi' lo' := by
  unfold State.fld
  by_cases hb : b = a
  · subst hb
    rw [State.reg_setFld_same, Word.field_withField_ne _ _ _ _ _ _ h hh (hd.resolve_left (by simp))]
  · rw [State.reg_setFld_ne s hi lo v hb]
/-- A bit after a field took a value. -/
theorem State.bitAt_setFld (a hi lo v b i : Nat) (h : lo ≤ hi) (hh : hi < 32) :
    (s.setFld a hi lo v).bitAt b i = if b = a ∧ lo ≤ i ∧ i ≤ hi then v.testBit (i - lo) else s.bitAt b i := by
  unfold State.bitAt
  by_cases hb : b = a
  · subst hb
    rw [State.reg_setFld_same, Word.getLsbD_withField _ _ _ _ _ h hh]
    simp
  · simp [State.reg_setFld_ne s hi lo v hb, hb]

theorem State.reg_setBitAt (a i : Nat) (c : Bool) (b : Nat) :
    (s.setBitAt a i c).reg b = if b = a then (s.reg a).withField i i (if c then 1 else 0) else s.reg b :=
  State.reg_setFld s a i i _ b
theorem State.reg_setBitAt_ne {a b : Nat} (i : Nat) (c : Bool) (h : b ≠ a) : (s.setBitAt a i c).reg b = s.reg b := by
  simp [State.reg_setBitAt, h]
/-- A bit after a bit took a value. -/
theorem State.bitAt_setBitAt (a i : Nat) (c : Bool) (b j : Nat) (hi : i < 32) :
    (s.setBitAt a i c).bitAt b j = if b = a ∧ j = i then c else s.bitAt b j := by
  unfold State.setBitAt
  rw [State.bitAt_setFld s a i i _ b j (le_refl i) hi]
  by_cases h : b = a ∧ j = i
  · obtain ⟨rfl, rfl⟩ := h
    cases c <;> simp
  · have h' : ¬ (b = a ∧ i ≤ j ∧ j ≤ i) := by
      rintro ⟨h1, h2, h3⟩
      exact h ⟨h1, by omega⟩
    simp only [h, h', if_false]
/-- An event bit is set, and no other bit of any register changes. -/
theorem State.bitAt_event (a i b j : Nat) (hi : i < 32) :
    (s.event a i).bitAt b j = (decide (b = a ∧ j = i) || s.bitAt b j) := by
  rw [State.event, State.bitAt_setBitAt s a i true b j hi]
  by_cases h : b = a ∧ j = i <;> simp [h]
theorem State.reg_event_ne {a b : Nat} (i : Nat) (h : b ≠ a) : (s.event a i).reg b = s.reg b :=
  State.reg_setBitAt_ne s i true h
/-- A field that leaves a bit out stays when the bit takes a value. -/
theorem State.fld_setBitAt (a i : Nat) (c : Bool) (b hi lo : Nat) (h : i < 32) (hd : b ≠ a ∨ hi < i ∨ i < lo) :
    (s.setBitAt a i c).fld b hi lo = s.fld b hi lo := State.fld_setFld_ne s a i i _ b hi lo (le_refl i) h hd

theorem State.reg_orReg (a m b : Nat) : (s.orReg a m).reg b = if b = a then s.reg a ||| BitVec.ofNat 32 m else s.reg b :=
  State.reg_setReg s a b _
theorem State.reg_clrReg (a m b : Nat) : (s.clrReg a m).reg b = if b = a then s.reg a &&& ~~~ BitVec.ofNat 32 m else s.reg b :=
  State.reg_setReg s a b _
theorem State.reg_addSat (a n b : Nat) :
    (s.addSat a n).reg b = if b = a then BitVec.ofNat 32 (min ((s.reg a).toNat + n) (2 ^ 32 - 1)) else s.reg b :=
  State.reg_setReg s a b _
theorem State.reg_incSat (a b : Nat) :
    (s.incSat a).reg b = if b = a then BitVec.ofNat 32 (min ((s.reg a).toNat + 1) (2 ^ 32 - 1)) else s.reg b :=
  State.reg_setReg s a b _
/-- A count that a command raises by one, as a number. -/
theorem State.toNat_reg_incSat (a : Nat) : ((s.incSat a).reg a).toNat = min ((s.reg a).toNat + 1) (2 ^ 32 - 1) := by
  rw [State.reg_incSat, if_pos rfl, BitVec.toNat_ofNat]
  exact Nat.mod_eq_of_lt (by omega)
/-- The LO and HI registers of a pair after the pair took a value. -/
theorem State.reg_setReg64 (lo hi v b : Nat) :
    (s.setReg64 lo hi v).reg b =
      if b = hi then BitVec.ofNat 32 (v / 2 ^ 32) else if b = lo then BitVec.ofNat 32 v else s.reg b := by
  unfold State.setReg64
  rw [State.reg_setReg, State.reg_setReg]
/-- A pair holds the value that it took. -/
theorem State.reg64_setReg64 (lo hi v : Nat) (h : lo ≠ hi) : (s.setReg64 lo hi v).reg64 lo hi = v % 2 ^ 64 := by
  unfold State.reg64
  rw [State.reg_setReg64, State.reg_setReg64]
  simp only [h, if_false, if_true, BitVec.toNat_ofNat]
  omega

theorem State.liveReg_setLive (a b : Nat) (v : Word) : (s.setLive a v).liveReg b = if b = a then v else s.liveReg b :=
  Map.get_set regDefault s.live a v b

/-! Time. -/

@[simp] theorem State.now_tb (t : State) (g : Nat) : ({ t with tb := { t.tb with gcc := g } } : State).now = g := rfl
/-- The machine moves to an instant that lies ahead while the GCC counts, and only the GCC changes. -/
theorem State.advanceTo_eq (g : Nat) : ∃ n, s.advanceTo g = { s with tb := { s.tb with gcc := n } } ∧ s.now ≤ n ∧
    (s.counting = true → n = max s.now g) ∧ (s.counting = false → n = s.now) := by
  unfold State.advanceTo
  by_cases h : s.counting ∧ s.tb.gcc < g
  · refine ⟨g, by simp [h], le_of_lt h.2, fun _ => ?_, fun hc => ?_⟩
    · exact (max_eq_right (le_of_lt h.2)).symm
    · simp [h.1] at hc
  · refine ⟨s.tb.gcc, by simp [h], le_refl _, fun hc => ?_, fun _ => rfl⟩
    have : ¬ s.tb.gcc < g := fun hg => h ⟨hc, hg⟩
    exact (max_eq_left (not_lt.1 this)).symm
/-- An instant that has passed changes nothing. -/
theorem State.advanceTo_past {g : Nat} (h : g ≤ s.now) : s.advanceTo g = s := by
  have : ¬ s.tb.gcc < g := not_lt.2 h
  simp [State.advanceTo, this]
/-- While the GCC counts, an instant ahead becomes the present. -/
theorem State.now_advanceTo {g : Nat} (h : s.counting = true) : (s.advanceTo g).now = max s.now g := by
  obtain ⟨n, e, -, h1, -⟩ := s.advanceTo_eq g
  rw [e]
  exact h1 h
@[simp] theorem State.advanceTo_regs (g : Nat) : (s.advanceTo g).regs = s.regs := by unfold State.advanceTo; split <;> rfl
@[simp] theorem State.advanceTo_live (g : Nat) : (s.advanceTo g).live = s.live := by unfold State.advanceTo; split <;> rfl
@[simp] theorem State.advanceTo_store (g : Nat) : (s.advanceTo g).store = s.store := by unfold State.advanceTo; split <;> rfl
@[simp] theorem State.advanceTo_ops (g : Nat) : (s.advanceTo g).ops = s.ops := by unfold State.advanceTo; split <;> rfl
@[simp] theorem State.advanceTo_cfg (g : Nat) : (s.advanceTo g).cfg = s.cfg := by unfold State.advanceTo; split <;> rfl
@[simp] theorem State.advanceTo_pending (g : Nat) : (s.advanceTo g).pending = s.pending := by
  unfold State.advanceTo; split <;> rfl
@[simp] theorem State.reg_advanceTo (g a : Nat) : (s.advanceTo g).reg a = s.reg a := by simp [State.reg]

/-! The store. -/

theorem State.byte_setByte (a b : Nat) (v : Byte) : (s.setByte a v).byte b = if b = a then v else s.byte b :=
  Map.get_set byteDefault s.store a v b
/-- A byte outside the bytes written stays. -/
theorem State.byte_writeFrom_out (bs : List Byte) : ∀ (s : State) (a b : Nat), (b < a ∨ a + bs.length ≤ b) →
    (s.writeFrom a bs).byte b = s.byte b := by
  induction bs with
  | nil => intros; rfl
  | cons v l ih =>
    intro s a b h
    simp only [List.length_cons] at h
    rw [State.writeFrom, ih _ _ _ (by omega), State.byte_setByte, if_neg (by omega)]
/-- A byte written holds its value. -/
theorem State.byte_writeFrom_in (bs : List Byte) : ∀ (s : State) (a i : Nat) (h : i < bs.length),
    (s.writeFrom a bs).byte (a + i) = bs[i] := by
  induction bs with
  | nil => intro s a i h; exact absurd h (Nat.not_lt_zero i)
  | cons v l ih =>
    intro s a i h
    cases i with
    | zero =>
      rw [State.writeFrom, Nat.add_zero, State.byte_writeFrom_out l _ _ _ (by omega), State.byte_setByte]
      simp
    | succ i =>
      have hl : i < l.length := by simpa using h
      have := ih (s.setByte a v) (a + 1) i hl
      rw [State.writeFrom, show a + (i + 1) = a + 1 + i by omega, this]
      rfl
/-- Only the store changes when bytes are put. -/
theorem State.writeFrom_eq (bs : List Byte) : ∀ (s : State) (a : Nat), s.writeFrom a bs = { s with store := (s.writeFrom a bs).store } := by
  induction bs with
  | nil => intros; rfl
  | cons v l ih =>
    intro s a
    rw [State.writeFrom, ih (s.setByte a v) (a + 1)]
    rfl
/-- Only the store and its poison tags change when bytes are written. -/
theorem State.writeBytes_eq (a : Nat) (bs : List Byte) :
    s.writeBytes a bs = { s with store := (s.writeBytes a bs).store, poison := (s.writeBytes a bs).poison } := by
  unfold State.writeBytes
  rw [State.writeFrom_eq]
theorem State.byte_writeBytes_out (a b : Nat) (bs : List Byte) (h : b < a ∨ a + bs.length ≤ b) :
    (s.writeBytes a bs).byte b = s.byte b := State.byte_writeFrom_out bs s a b h
theorem State.byte_writeBytes_in (a i : Nat) (bs : List Byte) (h : i < bs.length) :
    (s.writeBytes a bs).byte (a + i) = bs[i] := State.byte_writeFrom_in bs s a i h
/-- Writing bytes keeps the canonical form of the store. -/
theorem State.wf_writeFrom (bs : List Byte) : ∀ (s : State) (a : Nat), Map.wf byteDefault s.store = true →
    Map.wf byteDefault (s.writeFrom a bs).store = true := by
  induction bs with
  | nil => intro s a h; exact h
  | cons v l ih =>
    intro s a h
    exact ih (s.setByte a v) (a + 1) (Map.wf_set _ _ _ _ h)
theorem State.wf_writeBytes (a : Nat) (bs : List Byte) (h : Map.wf byteDefault s.store = true) :
    Map.wf byteDefault (s.writeBytes a bs).store = true := State.wf_writeFrom bs s a h
/-- The store keeps its canonical form when one byte takes a value. -/
theorem State.wf_setByte (a : Nat) (v : Byte) (h : Map.wf byteDefault s.store = true) :
    Map.wf byteDefault (s.setByte a v).store = true := Map.wf_set _ _ _ _ h

/-! Units. -/

theorem State.chan_setChan (c x : Nat) (v : Chan) : (s.setChan c v).chan x = if x = c then v else s.chan x :=
  Map.get_set chanDefault s.chans c v x
theorem State.clu_setClu (k x : Nat) (v : Clu) : (s.setClu k v).clu x = if x = k then v else s.clu x :=
  Map.get_set cluDefault s.clus k v x
theorem State.fnt_setFnt (k x : Nat) (v : Fnt) : (s.setFnt k v).fnt x = if x = k then v else s.fnt x :=
  Map.get_set fntDefault s.fnts k v x
theorem State.seg_setSeg (k x : Nat) (v : Seg) : (s.setSeg k v).seg x = if x = k then v else s.seg x :=
  Map.get_set segDefault s.segs k v x
theorem State.ana_setAna (k x : Nat) (v : Ana) : (s.setAna k v).ana x = if x = k then v else s.ana x :=
  Map.get_set anaDefault s.anas k v x
theorem State.ctl_setCtl (k x : Nat) (v : Dps) : (s.setCtl k v).ctl x = if x = k then v else s.ctl x :=
  Map.get_set dpsDefault s.dpss k v x
theorem State.msq_setMsq (k x : Nat) (v : Msq) : (s.setMsq k v).msq x = if x = k then v else s.msq x :=
  Map.get_set msqDefault s.msqs k v x
theorem State.cal_setCal (k x : Nat) (v : Cal) : (s.setCal k v).cal x = if x = k then v else s.cal x :=
  Map.get_set calDefault s.cals k v x
theorem State.port_setPort (k x : Nat) (v : Port) : (s.setPort k v).port x = if x = k then v else s.port x :=
  Map.get_set portDefault s.ports k v x
/-- A lifetime counter after any of them rose. -/
theorem State.lifetime_ltAdd (i n j : Nat) :
    (s.ltAdd i n).lifetime j = if j = i then min (s.lifetime i + n) (2 ^ 64 - 1) else s.lifetime j :=
  Map.get_set natDefault s.aon.lt i _ j

/-! Changes for each member of a list. -/

@[simp] theorem State.forEach_nil {α : Type} (f : State → α → State) : s.forEach [] f = s := rfl
@[simp] theorem State.forEach_cons {α : Type} (x : α) (l : List α) (f : State → α → State) :
    s.forEach (x :: l) f = (f s x).forEach l f := rfl
theorem State.forEach_append {α : Type} (l m : List α) (f : State → α → State) :
    s.forEach (l ++ m) f = (s.forEach l f).forEach m f := List.foldl_append
/-- What each change keeps, all of them together keep. -/
theorem State.forEach_keeps {α : Type} (P : State → Prop) (l : List α) (f : State → α → State)
    (h : ∀ t, ∀ x ∈ l, P t → P (f t x)) : ∀ s, P s → P (s.forEach l f) := by
  induction l with
  | nil => intro s hs; exact hs
  | cons x l ih =>
    intro s hs
    exact ih (fun t y hy ht => h t y (by simp [hy]) ht) (f s x) (h s x (by simp) hs)
/-- A part that no change touches stays. -/
theorem State.forEach_same {α β : Type} (g : State → β) (l : List α) (f : State → α → State)
    (h : ∀ t, ∀ x ∈ l, g (f t x) = g t) : ∀ s, g (s.forEach l f) = g s := by
  induction l with
  | nil => intro s; rfl
  | cons x l ih =>
    intro s
    rw [State.forEach_cons, ih (fun t y hy => h t y (by simp [hy])) (f s x), h s x (by simp)]

/-! The event queue. -/

/-- An event record is the newest of the event queue, which never holds more than 1,024. -/
theorem State.logEvent_recs (code unit data : Nat) : (s.logEvent code unit data).evq.recs =
    (if s.evq.recs.length < 1024 then s.evq.recs else s.evq.recs.drop 1) ++ [withParity (eventRecord s.now code unit data)] := by
  unfold State.logEvent
  by_cases hc : 0x0301 ≤ code ∧ code ≤ 0x030B <;> by_cases hl : s.evq.recs.length < 1024 <;> simp [hc, hl]
/-- The event queue stays within its size. -/
theorem State.logEvent_length (code unit data : Nat) (h : s.evq.recs.length ≤ 1024) :
    (s.logEvent code unit data).evq.recs.length ≤ 1024 := by
  rw [State.logEvent_recs]
  by_cases hl : s.evq.recs.length < 1024
  · rw [if_pos hl]; simp; omega
  · rw [if_neg hl]; simp; omega

/-! Operations in flight. -/

/-- The first operation of a sequence number, after that one was replaced. -/
theorem Op.find_map (o p : Op) : ∀ l : List Op, l.find? (fun q => q.asn == o.asn) = some p →
    (l.map fun q => if q.asn == o.asn then o else q).find? (fun q => q.asn == o.asn) = some o := by
  intro l
  induction l with
  | nil => intro h; simp at h
  | cons q l ih =>
    intro h
    by_cases hq : (q.asn == o.asn) = true
    · rw [List.map_cons, if_pos hq, List.find?_cons]; simp
    · have hq' : (q.asn == o.asn) = false := by simpa using hq
      rw [List.find?_cons, hq'] at h
      rw [List.map_cons, if_neg hq, List.find?_cons, hq']
      exact ih h
theorem State.op?_setOp_same (o p : Op) (h : s.op? o.asn = some p) : (s.setOp o).op? o.asn = some o :=
  Op.find_map o p s.ops h

end Sys2Proof.Machine
end

