-- ==== Sys2Proof/Laws/Frames.lean ====
section
/-! SUPPORT. How the frames of the statements compose: what differs in registers of a list only, step by step. -/

namespace Sys2Proof.Machine

theorem State.RegsKept.refl (s : State) (l : List Nat) : s.RegsKept s l := fun _ _ => rfl
theorem State.RegsKept.trans {s t u : State} {l : List Nat} (h : s.RegsKept t l) (h' : t.RegsKept u l) : s.RegsKept u l :=
  fun a ha => (h' a ha).trans (h a ha)
theorem State.RegsKept.mono {s t : State} {l m : List Nat} (h : s.RegsKept t l) (hm : ∀ a ∈ l, a ∈ m) : s.RegsKept t m :=
  fun a ha => h a (fun hl => ha (hm a hl))

theorem State.OnlyRegs.refl (s : State) (l : List Nat) : s.OnlyRegs s l := ⟨rfl, State.RegsKept.refl s l⟩
theorem State.OnlyRegs.trans {s t u : State} {l : List Nat} (h : s.OnlyRegs t l) (h' : t.OnlyRegs u l) : s.OnlyRegs u l := by
  refine ⟨?_, h.2.trans h'.2⟩
  obtain ⟨e, -⟩ := h
  obtain ⟨e', -⟩ := h'
  rw [e']
  rw [e]
theorem State.OnlyRegs.mono {s t : State} {l m : List Nat} (h : s.OnlyRegs t l) (hm : ∀ a ∈ l, a ∈ m) : s.OnlyRegs t m :=
  ⟨h.1, h.2.mono hm⟩

/-- One register of the list takes a value. -/
theorem State.onlyRegs_setReg (s : State) (a : Nat) (v : Word) (l : List Nat) (h : a ∈ l) : s.OnlyRegs (s.setReg a v) l :=
  ⟨rfl, fun _ hb => State.reg_setReg_ne s v (fun e => hb (e ▸ h))⟩
theorem State.onlyRegs_setFld (s : State) (a hi lo v : Nat) (l : List Nat) (h : a ∈ l) : s.OnlyRegs (s.setFld a hi lo v) l :=
  State.onlyRegs_setReg s a _ l h
theorem State.onlyRegs_setBitAt (s : State) (a i : Nat) (b : Bool) (l : List Nat) (h : a ∈ l) : s.OnlyRegs (s.setBitAt a i b) l :=
  State.onlyRegs_setFld s a i i _ l h
theorem State.onlyRegs_event (s : State) (a i : Nat) (l : List Nat) (h : a ∈ l) : s.OnlyRegs (s.event a i) l :=
  State.onlyRegs_setBitAt s a i true l h
theorem State.onlyRegs_orReg (s : State) (a m : Nat) (l : List Nat) (h : a ∈ l) : s.OnlyRegs (s.orReg a m) l :=
  State.onlyRegs_setReg s a _ l h
theorem State.onlyRegs_clrReg (s : State) (a m : Nat) (l : List Nat) (h : a ∈ l) : s.OnlyRegs (s.clrReg a m) l :=
  State.onlyRegs_setReg s a _ l h
theorem State.onlyRegs_addSat (s : State) (a n : Nat) (l : List Nat) (h : a ∈ l) : s.OnlyRegs (s.addSat a n) l :=
  State.onlyRegs_setReg s a _ l h
theorem State.onlyRegs_incSat (s : State) (a : Nat) (l : List Nat) (h : a ∈ l) : s.OnlyRegs (s.incSat a) l :=
  State.onlyRegs_addSat s a 1 l h
theorem State.onlyRegs_setReg64 (s : State) (lo hi v : Nat) (l : List Nat) (h : lo ∈ l) (h' : hi ∈ l) :
    s.OnlyRegs (s.setReg64 lo hi v) l :=
  (State.onlyRegs_setReg s lo _ l h).trans (State.onlyRegs_setReg _ hi _ l h')
/-- Changes to registers of the list, for each member of another list. -/
theorem State.onlyRegs_forEach {α : Type} (xs : List α) (f : State → α → State) (l : List Nat)
    (h : ∀ t : State, ∀ x ∈ xs, t.OnlyRegs (f t x) l) (s : State) : s.OnlyRegs (s.forEach xs f) l :=
  State.forEach_keeps (fun t => s.OnlyRegs t l) xs f (fun t x hx ht => ht.trans (h t x hx)) s (State.OnlyRegs.refl s l)
/-- A change whatever a condition says. -/
theorem State.onlyRegs_ite {s t u : State} {l : List Nat} {c : Prop} [Decidable c] (h : s.OnlyRegs t l) (h' : s.OnlyRegs u l) :
    s.OnlyRegs (if c then t else u) l := by split <;> assumption

end Sys2Proof.Machine
end

