-- ==== Sys2Proof/Laws/Ends.lean ====
section
/-! SUPPORT. What the end of an operation can do, said once: the operation stands as ended with its outcome, and nothing changes
but what `State.EndFrame` names. -/

namespace Sys2Proof.Machine

theorem State.EndFrame.refl (s : State) : s.EndFrame s := ⟨rfl, fun _ _ => rfl⟩
theorem State.EndFrame.trans {s t u : State} (h : s.EndFrame t) (h' : t.EndFrame u) : s.EndFrame u := by
  refine ⟨?_, fun a ha => (h'.2 a ha).trans (h.2 a ha)⟩
  obtain ⟨e, -⟩ := h
  obtain ⟨e', -⟩ := h'
  rw [e']
  rw [e]
/-- Registers of `endReg` may change. -/
theorem State.endFrame_setReg (s : State) (a : Nat) (v : Word) (h : endReg a = true) : s.EndFrame (s.setReg a v) :=
  ⟨rfl, fun b hb => State.reg_setReg_ne s v (fun e => by rw [e, h] at hb; exact absurd hb (by decide))⟩
theorem State.endFrame_setFld (s : State) (a hi lo v : Nat) (h : endReg a = true) : s.EndFrame (s.setFld a hi lo v) :=
  State.endFrame_setReg s a _ h
theorem State.endFrame_setBitAt (s : State) (a i : Nat) (b : Bool) (h : endReg a = true) : s.EndFrame (s.setBitAt a i b) :=
  State.endFrame_setFld s a i i _ h
theorem State.endFrame_event (s : State) (a i : Nat) (h : endReg a = true) : s.EndFrame (s.event a i) :=
  State.endFrame_setBitAt s a i true h
theorem State.endFrame_setReg64 (s : State) (lo hi v : Nat) (h : endReg lo = true) (h' : endReg hi = true) :
    s.EndFrame (s.setReg64 lo hi v) := (State.endFrame_setReg s lo _ h).trans (State.endFrame_setReg _ hi _ h')
theorem State.endFrame_setLive (s : State) (a : Nat) (v : Word) : s.EndFrame (s.setLive a v) := ⟨rfl, fun _ _ => rfl⟩
theorem State.endFrame_setClu (s : State) (k : Nat) (v : Clu) : s.EndFrame (s.setClu k v) := ⟨rfl, fun _ _ => rfl⟩
theorem State.endFrame_setChan (s : State) (c : Nat) (v : Chan) : s.EndFrame (s.setChan c v) := ⟨rfl, fun _ _ => rfl⟩
theorem State.endFrame_ltAdd (s : State) (i n : Nat) : s.EndFrame (s.ltAdd i n) := ⟨rfl, fun _ _ => rfl⟩
theorem State.endFrame_setOp (s : State) (o : Op) : s.EndFrame (s.setOp o) := ⟨rfl, fun _ _ => rfl⟩
theorem State.endFrame_modOp (s : State) (a : Asn) (f : Op → Op) : s.EndFrame (s.modOp a f) := ⟨rfl, fun _ _ => rfl⟩
theorem State.endFrame_setAna (s : State) (n : Nat) (v : Ana) : s.EndFrame (s.setAna n v) := ⟨rfl, fun _ _ => rfl⟩
theorem State.endFrame_mntEnd (s : State) (k i : Nat) : s.EndFrame (s.mntEnd k i) := ⟨rfl, fun _ _ => rfl⟩
theorem State.endFrame_release (s : State) (k i : Nat) : s.EndFrame (s.release k i) := ⟨rfl, fun _ _ => rfl⟩
theorem State.endFrame_releaseReads (s : State) (a : Nat) : s.EndFrame (s.releaseReads a) := ⟨rfl, fun _ _ => rfl⟩
theorem State.endFrame_producerEnds (s : State) (o : Op) : s.EndFrame (s.producerEnds o) := by
  unfold State.producerEnds
  split
  · exact State.EndFrame.refl s
  · exact ⟨rfl, fun _ _ => rfl⟩
theorem State.endFrame_forEach {α : Type} (l : List α) (f : State → α → State) (h : ∀ t : State, ∀ x ∈ l, t.EndFrame (f t x))
    (s : State) : s.EndFrame (s.forEach l f) :=
  State.forEach_keeps (fun t => s.EndFrame t) l f (fun t x hx ht => ht.trans (h t x hx)) s (State.EndFrame.refl s)
theorem State.endFrame_ite {s t u : State} {c : Prop} [Decidable c] (h : s.EndFrame t) (h' : s.EndFrame u) :
    s.EndFrame (if c then t else u) := by split <;> assumption

/-! Commits that take effect when a cluster is free. -/

/-- What commits may change: the clusters, their channels with the live copies, lifetime counters, registers of `endReg`. -/
def State.CommitFrame (s t : State) : Prop := s.EndFrame t ∧ t.ops = s.ops ∧ t.gov = s.gov ∧ t.mnt = s.mnt
theorem State.CommitFrame.refl (s : State) : s.CommitFrame s := ⟨State.EndFrame.refl s, rfl, rfl, rfl⟩
theorem State.CommitFrame.trans {s t u : State} (h : s.CommitFrame t) (h' : t.CommitFrame u) : s.CommitFrame u :=
  ⟨h.1.trans h'.1, h'.2.1.trans h.2.1, h'.2.2.1.trans h.2.2.1, h'.2.2.2.trans h.2.2.2⟩
theorem State.commitFrame_setReg (s : State) (a : Nat) (v : Word) (h : endReg a = true) :
    s.CommitFrame (s.setReg a v) := ⟨State.endFrame_setReg s a v h, rfl, rfl, rfl⟩
theorem State.commitFrame_setBitAt (s : State) (a i : Nat) (b : Bool) (h : endReg a = true) :
    s.CommitFrame (s.setBitAt a i b) := ⟨State.endFrame_setBitAt s a i b h, rfl, rfl, rfl⟩
theorem State.commitFrame_event (s : State) (a i : Nat) (h : endReg a = true) :
    s.CommitFrame (s.event a i) := ⟨State.endFrame_event s a i h, rfl, rfl, rfl⟩
theorem State.commitFrame_setReg64 (s : State) (lo hi v : Nat) (h : endReg lo = true) (h' : endReg hi = true) :
    s.CommitFrame (s.setReg64 lo hi v) := ⟨State.endFrame_setReg64 s lo hi v h h', rfl, rfl, rfl⟩
theorem State.commitFrame_setLive (s : State) (a : Nat) (v : Word) :
    s.CommitFrame (s.setLive a v) := ⟨State.endFrame_setLive s a v, rfl, rfl, rfl⟩
theorem State.commitFrame_setClu (s : State) (k : Nat) (v : Clu) :
    s.CommitFrame (s.setClu k v) := ⟨State.endFrame_setClu s k v, rfl, rfl, rfl⟩
theorem State.commitFrame_setChan (s : State) (c : Nat) (v : Chan) :
    s.CommitFrame (s.setChan c v) := ⟨State.endFrame_setChan s c v, rfl, rfl, rfl⟩
theorem State.commitFrame_ltAdd (s : State) (i n : Nat) :
    s.CommitFrame (s.ltAdd i n) := ⟨State.endFrame_ltAdd s i n, rfl, rfl, rfl⟩
theorem State.commitFrame_forEach {α : Type} (l : List α) (f : State → α → State)
    (h : ∀ t : State, ∀ x ∈ l, t.CommitFrame (f t x)) (s : State) : s.CommitFrame (s.forEach l f) :=
  State.forEach_keeps (fun t => s.CommitFrame t) l f (fun t x hx ht => ht.trans (h t x hx)) s (State.CommitFrame.refl s)
theorem State.commitFrame_ite {s t u : State} {c : Prop} [Decidable c] (h : s.CommitFrame t) (h' : s.CommitFrame u) :
    s.CommitFrame (if c then t else u) := by split <;> assumption

theorem endReg_cluster {k o : Nat} (h : k < 16) (ho : o < 0x100000) : endReg (0x200000 + k * 0x100000 + o) = true := by
  unfold endReg
  have : (0x200000 ≤ 0x200000 + k * 0x100000 + o ∧ 0x200000 + k * 0x100000 + o < 0x1200000) := by omega
  simp [this]


theorem endReg_chan {c o : Nat} (h : c < 512) (ho : o < 0x400) : endReg (chBase c + o) = true := by
  unfold endReg
  have : (0x200000 ≤ chBase c + o ∧ chBase c + o < 0x1200000) := by
    unfold chBase clBase
    omega
  simp [this]
theorem endReg_cl {k o : Nat} (h : k < 16) (ho : o < 0x100000) : endReg (clBase k + o) = true := by
  unfold endReg
  have : (0x200000 ≤ clBase k + o ∧ clBase k + o < 0x1200000) := by
    unfold clBase
    omega
  simp [this]

theorem endReg_of {a : Nat} (h : 0x200000 ≤ a) (h' : a < 0x1200000) : endReg a = true := by
  unfold endReg
  simp [h, h']

theorem State.commitFrame_tsLive (s : State) (k t : Nat) : s.CommitFrame (s.tsLive k t) :=
  State.commitFrame_forEach _ _ (fun _ _ _ => State.commitFrame_setLive _ _ _) s
theorem State.commitFrame_switchMode (s : State) (c old : Nat) (drv load : Bool) : s.CommitFrame (s.switchMode c old drv load) :=
  ⟨⟨rfl, fun _ _ => rfl⟩, rfl, rfl, rfl⟩
theorem State.commitFrame_settleTe (s : State) {k : Nat} (h : k < 16) : s.CommitFrame (s.settleTe k) := by
  unfold State.settleTe
  dsimp only
  split
  · exact State.CommitFrame.refl s
  · split
    · exact (State.commitFrame_setClu s k _).trans (State.commitFrame_setReg _ _ _ (endReg_cl h (by omega)))
    · exact ((State.commitFrame_setClu s k _).trans
        (State.commitFrame_forEach _ _ (fun t x _ => State.commitFrame_tsLive t k x) _)).trans
        (State.commitFrame_setReg _ _ _ (endReg_cl h (by omega)))
theorem State.commitFrame_goLive (s : State) {c : Nat} (w : Nat → Word) (h : c < 512) : s.CommitFrame (s.goLive c w) := by
  have hr : endReg (CH_PMU_STATUS c) = true := endReg_chan h (by omega)
  unfold State.goLive
  extract_lets mode0 drv load clamp0 force0 ctl0 s1 leave ch1 s2 mode1 s3 s4 ch2 s5 s6 ch old
  have h1 : s.CommitFrame s1 := State.commitFrame_forEach _ _ (fun t x _ => State.commitFrame_setLive t _ _) s
  have h2 : s.CommitFrame s2 := h1.trans (State.commitFrame_setChan s1 c _)
  have h3 : s.CommitFrame s3 := h2.trans (State.commitFrame_ite (State.CommitFrame.refl s2)
    (State.commitFrame_switchMode s2 c _ _ _))
  have h4 : s.CommitFrame s4 := h3.trans (State.commitFrame_ite (State.commitFrame_ltAdd s3 _ _) (State.CommitFrame.refl s3))
  have h5 : s.CommitFrame s5 := h4.trans (State.commitFrame_ite (State.CommitFrame.refl s4) (State.commitFrame_setChan s4 c _))
  have h6 : s.CommitFrame s6 := h5.trans (State.commitFrame_ite (State.CommitFrame.refl s5) (State.commitFrame_setBitAt s5 _ _ _ hr))
  exact h6.trans (State.commitFrame_ite (State.commitFrame_setChan s6 c _) (State.commitFrame_ite
    ((State.commitFrame_setChan s6 c _).trans (State.commitFrame_setBitAt _ _ _ _ hr)) (State.CommitFrame.refl s6)))
theorem maskChans_lt {k m c : Nat} (h : k < 16) (hc : c ∈ maskChans k m) : c < 512 := by
  unfold maskChans bitsOf at hc
  simp only [List.mem_map, List.mem_filter, List.mem_range] at hc
  obtain ⟨j, ⟨hj, -⟩, rfl⟩ := hc
  omega
theorem State.commitFrame_settleLv (s : State) {k : Nat} (h : k < 16) : s.CommitFrame (s.settleLv k) := by
  unfold State.settleLv
  dsimp only
  split
  · exact State.CommitFrame.refl s
  · split
    · exact (State.commitFrame_setClu s k _).trans (State.commitFrame_setReg _ _ _ (endReg_cl h (by omega)))
    · exact ((State.commitFrame_setClu s k _).trans
        (State.commitFrame_forEach _ _ (fun t x hx => State.commitFrame_goLive t _ (maskChans_lt h hx)) _)).trans
        (State.commitFrame_setReg _ _ _ (endReg_cl h (by omega)))
theorem State.commitFrame_settleCommits (s : State) {k : Nat} (h : k < 16) : s.CommitFrame (s.settleCommits k) := by
  unfold State.settleCommits
  split
  · exact State.CommitFrame.refl s
  · exact (State.commitFrame_settleTe s h).trans (State.commitFrame_settleLv _ h)
theorem State.commitFrame_syncReset (s : State) {k : Nat} (h : k < 16) : s.CommitFrame (s.syncReset k) := by
  unfold State.syncReset
  extract_lets u s1 s2
  have h1 : s.CommitFrame s1 := State.commitFrame_setClu s k _
  have hl : endReg (MEAS_SYNC_GCC_LO k) = true := endReg_of (by simp only [MEAS_SYNC_GCC_LO, clBase]; omega)
    (by simp only [MEAS_SYNC_GCC_LO, clBase]; omega)
  have hh : endReg (MEAS_SYNC_GCC_HI k) = true := endReg_of (by simp only [MEAS_SYNC_GCC_HI, clBase]; omega)
    (by simp only [MEAS_SYNC_GCC_HI, clBase]; omega)
  have he : endReg (MEAS_EVENTS k) = true := endReg_of (by simp only [MEAS_EVENTS, clBase]; omega)
    (by simp only [MEAS_EVENTS, clBase]; omega)
  have h2 : s.CommitFrame s2 :=
    (h1.trans (State.commitFrame_setReg64 s1 _ _ _ hl hh)).trans (State.commitFrame_event _ _ _ he)
  refine h2.trans ?_
  apply State.commitFrame_forEach
  intro t x _
  dsimp only
  split
  · exact State.CommitFrame.refl t
  · exact State.commitFrame_setChan t x _

/-! What becomes of an analog channel whose play ends. -/

/-- Registers of an analog channel. -/
theorem endReg_an {n o : Nat} (h : n < 16) (ho : o < 0x10000) : endReg (0x03000000 + n * 0x10000 + o) = true := by
  unfold endReg
  have : (0x3000000 ≤ 0x3000000 + n * 0x10000 + o ∧ 0x3000000 + n * 0x10000 + o < 0x3100000) := by omega
  simp [this]
/-- What the source half of an analog channel may change: its registers and its own record. -/
def State.AnaFrame (s t : State) : Prop := s.EndFrame t ∧ t.ops = s.ops
theorem State.AnaFrame.refl (s : State) : s.AnaFrame s := ⟨State.EndFrame.refl s, rfl⟩
theorem State.AnaFrame.trans {s t u : State} (h : s.AnaFrame t) (h' : t.AnaFrame u) : s.AnaFrame u :=
  ⟨h.1.trans h'.1, h'.2.trans h.2⟩
theorem State.anaFrame_setFld (s : State) (a hi lo v : Nat) (h : endReg a = true) : s.AnaFrame (s.setFld a hi lo v) :=
  ⟨State.endFrame_setFld s a hi lo v h, rfl⟩
theorem State.anaFrame_setBitAt (s : State) (a i : Nat) (b : Bool) (h : endReg a = true) : s.AnaFrame (s.setBitAt a i b) :=
  ⟨State.endFrame_setBitAt s a i b h, rfl⟩
theorem State.anaFrame_setAna (s : State) (n : Nat) (v : Ana) : s.AnaFrame (s.setAna n v) := ⟨State.endFrame_setAna s n v, rfl⟩
theorem State.anaFrame_ite {s t u : State} {c : Prop} [Decidable c] (h : s.AnaFrame t) (h' : s.AnaFrame u) :
    s.AnaFrame (if c then t else u) := by split <;> assumption
theorem State.anaFrame_takeRange (s : State) {n : Nat} (h : n < 16) : s.AnaFrame (s.takeRange n) := by
  have hs : endReg (AN_STATUS n) = true := endReg_an h (by omega)
  unfold State.takeRange
  exact State.anaFrame_ite (State.AnaFrame.refl s) (((State.anaFrame_setFld s _ _ _ _ hs).trans
    (State.anaFrame_setFld _ _ _ _ _ hs)).trans (State.anaFrame_setAna _ _ _))
theorem State.anaFrame_parkAn (s : State) {n : Nat} (h : n < 16) : s.AnaFrame (s.parkAn n) := by
  have hs : endReg (AN_STATUS n) = true := endReg_an h (by omega)
  unfold State.parkAn
  refine State.anaFrame_ite (State.anaFrame_setFld s _ _ _ _ hs) ?_
  extract_lets u s1
  have h1 : s.AnaFrame s1 := (State.anaFrame_setFld s (AN_STATUS n) 10 8 1 hs).trans (State.anaFrame_setAna _ n _)
  exact State.anaFrame_ite h1 (h1.trans (State.anaFrame_takeRange _ h))
theorem State.anaFrame_fadeOver (s : State) {n : Nat} (playing : Bool) (h : n < 16) : s.AnaFrame (s.fadeOver n playing) := by
  have hr : endReg (AN_RS_STATUS n) = true := endReg_an h (by omega)
  have he : endReg (AN_EVENTS n) = true := endReg_an h (by omega)
  unfold State.fadeOver
  extract_lets u s1 bank
  have h1 : s.AnaFrame s1 := ((State.anaFrame_setFld s _ _ _ _ hr).trans (State.anaFrame_setFld _ _ _ _ _ hr)).trans
    (State.anaFrame_setBitAt _ _ _ _ he)
  split
  · refine State.anaFrame_ite (h1.trans (State.anaFrame_setAna _ _ _)) (State.anaFrame_ite ?_ ?_)
    · exact (((h1.trans (State.anaFrame_setAna _ _ _)).trans (State.anaFrame_setBitAt _ _ _ _ hr)).trans
        (State.anaFrame_setBitAt _ _ _ _ hr)).trans (State.anaFrame_setFld _ _ _ _ _ hr)
    · exact (h1.trans (State.anaFrame_setAna _ _ _)).trans (State.anaFrame_setBitAt _ _ _ _ hr)
  · exact h1.trans (State.anaFrame_setAna _ _ _)
/-- The end of a play changes its own analog channel only. -/
theorem State.anaFrame_awgFree (s : State) {n : Nat} (h : n < 16) : s.AnaFrame (s.awgFree n) := by
  unfold State.awgFree
  extract_lets s1
  have h1 : s.AnaFrame s1 := State.anaFrame_ite (State.anaFrame_fadeOver s false h) (State.AnaFrame.refl s)
  split
  · exact h1.trans (State.anaFrame_parkAn s1 h)
  · exact h1.trans (State.anaFrame_parkAn s1 h)
  · exact h1.trans (State.anaFrame_takeRange s1 h)
  · exact h1

/-- A resource set names clusters 0 to 15 only. -/
theorem State.cluster_of_resources (s : State) (o : Op) (k : Nat) (h : Res.cluster k ∈ s.resources o) : k < 16 := by
  have hcl : ∀ cs : List Nat, k ∈ clustersOf cs → k < 16 := by
    intro cs hk
    unfold clustersOf at hk
    simp only [List.mem_filter, List.mem_range] at hk
    exact hk.1
  have hb : ∀ m : Nat, k ∈ bitsOf m 16 → k < 16 := by
    intro m hk
    unfold bitsOf at hk
    simp only [List.mem_filter, List.mem_range] at hk
    exact hk.1
  unfold State.resources at h
  cases hg : s.cfg.active with
  | none => simp [hg] at h
  | some g =>
    rw [hg] at h
    dsimp only at h
    split at h
    case h_1 =>
      simp only [List.mem_append, List.mem_map, Res.cluster.injEq, exists_eq_right, reduceCtorEq, and_false, exists_false,
        or_false] at h
      unfold Op.fed at h
      simp only [List.mem_filter, List.mem_range] at h
      exact h.1
    case h_9 =>
      split at h
      · simp only [List.mem_cons, List.mem_map, Res.cluster.injEq, reduceCtorEq, and_false, exists_false, or_false] at h
        omega
      · simp at h
    case h_10 =>
      unfold calRes at h
      split at h
      · simp only [List.mem_cons, List.mem_map, Res.cluster.injEq, reduceCtorEq, and_false, exists_false, or_false] at h
        omega
      · split at h <;> simp at h
    case h_12 =>
      exact hb _ (by simpa using h)
    all_goals first
      | exact hcl _ (by simpa using h)
      | simp at h

/-- The end of an operation changes nothing but what `State.EndFrame` names. -/
theorem State.endFrame_endOpAt (s : State) (a status reason gcc detail : Nat) : s.EndFrame (s.endOpAt a status reason gcc detail) := by
  unfold State.endOpAt
  split
  · exact State.EndFrame.refl s
  · rename_i o _
    split
    · exact State.EndFrame.refl s
    · have hd : endReg NRG_DENIED = true := by decide
      have he : endReg NRG_EVENTS = true := by decide
      extract_lets s1 s2 s3 other
      have h1 : s.EndFrame s1 := State.endFrame_setOp s _
      have h2 : s.EndFrame s2 := by
        have h1' := (h1.trans (State.endFrame_producerEnds s1 o)).trans
          ((State.endFrame_release (s1.producerEnds o) 0 a).trans (State.endFrame_releaseReads _ a))
        refine h1'.trans ?_
        apply State.endFrame_forEach
        intro t r hr
        split
        · rename_i k
          have hk : k < 16 := State.cluster_of_resources _ o k hr
          refine State.EndFrame.trans ?_ (State.commitFrame_settleCommits _ hk).1
          split
          · exact (State.commitFrame_syncReset t hk).1
          · exact State.EndFrame.refl t
        · split
          · rename_i hc
            exact (State.anaFrame_awgFree t hc.2.2).1
          · exact State.EndFrame.refl t
        · exact State.EndFrame.refl t
      have h3 : s.EndFrame s3 := by
        refine h2.trans (State.endFrame_ite ?_ (State.EndFrame.refl s2))
        exact (State.endFrame_setReg s2 NRG_DENIED _ hd).trans (State.endFrame_event _ _ _ he)
      split
      · exact h3.trans (State.endFrame_mntEnd s3 _ _)
      · split
        · exact h3.trans (State.endFrame_mntEnd s3 _ _)
        · exact h3
/-- What the change of a member of a list leaves alone in a search that looks at the sequence number only. -/
theorem Op.find_map_keep (f : Op → Op) (a : Asn) (hf : ∀ p, (f p).asn = p.asn) : ∀ l : List Op,
    (l.map f).find? (fun q => q.asn == a) = (l.find? (fun q => q.asn == a)).map f := by
  intro l
  induction l with
  | nil => rfl
  | cons q l ih =>
    rw [List.map_cons, List.find?_cons, List.find?_cons, hf]
    cases (q.asn == a) with
    | true => rfl
    | false => exact ih
/-- The end of a producer changes nothing of an operation but its work. -/
theorem State.producerEnds_ops (s : State) (o : Op) : ∃ f : Op → Op, (s.producerEnds o).ops = s.ops.map f ∧
    ∀ p, ∃ w, f p = { p with work := w } := by
  unfold State.producerEnds
  split
  · exact ⟨id, (List.map_id _).symm, fun p => ⟨p.work, rfl⟩⟩
  · refine ⟨_, rfl, fun p => ?_⟩
    repeat' split
    all_goals exact ⟨_, rfl⟩
/-- The end of an operation in flight: it stands with its outcome. -/
theorem State.ended_endOpAt (s : State) (a status reason gcc detail : Nat) (o : Op) (h : s.op? a = some o)
    (hp : o.phase ≠ .ended) : (s.endOpAt a status reason gcc detail).Ended o status reason gcc (detail % 2 ^ 64) := by
  have ha : o.asn = a := by
    have := List.find?_some h
    simpa using this
  unfold State.endOpAt
  split
  · rename_i e
    exact absurd (e.symm.trans h) (by simp)
  rename_i o' e
  obtain rfl : o' = o := Option.some.inj (e.symm.trans h)
  split
  · rename_i hph
    exact absurd hph hp
  extract_lets s1 s2 s3 other
  have h1 : s1.op? o'.asn = some _ := State.op?_setOp_same s { o' with
    phase := .ended, endNo := s.nextEnd, status := status, reason := reason, gcc := gcc, detail := detail % 2 ^ 64, lastGcc := s.now,
    candSince := none, holding := false, admitted := false, aborting := false, faulting := false } o' (ha ▸ h)
  have h2 : s2.ops = (s1.producerEnds o').ops := by
    have h0 : (((s1.producerEnds o').release 0 a).releaseReads a).ops = (s1.producerEnds o').ops := rfl
    rw [← h0]
    apply State.forEach_same State.ops
    intro t r hr
    split
    · rename_i k
      have hk : k < 16 := State.cluster_of_resources _ o' k hr
      rw [(State.commitFrame_settleCommits _ hk).2.1]
      split
      · exact (State.commitFrame_syncReset t hk).2.1
      · rfl
    · split
      · rename_i hc
        exact (State.anaFrame_awgFree t hc.2.2).2
      · rfl
    · rfl
  have h3 : s3.ops = s2.ops := by
    show (if status = 0xA then _ else _ : State).ops = _
    split <;> rfl
  have hops : ∀ t : State, t.ops = s2.ops → t.Ended o' status reason gcc (detail % 2 ^ 64) := by
    intro t ht
    obtain ⟨f, hf, hw⟩ := State.producerEnds_ops s1 o'
    have hasn : ∀ p, (f p).asn = p.asn := by
      intro p
      obtain ⟨w, e⟩ := hw p
      rw [e]
    have hm : t.op? o'.asn = (s1.op? o'.asn).map f := by
      unfold State.op?
      rw [ht, h2, hf]
      exact Op.find_map_keep f o'.asn hasn s1.ops
    rw [h1] at hm
    refine ⟨_, hm, ?_⟩
    obtain ⟨w, e⟩ := hw _
    rw [e]
    exact ⟨⟨rfl, rfl, rfl, rfl, rfl, rfl, rfl, rfl, rfl⟩, rfl⟩
  split
  · exact hops _ h3
  · split
    · exact hops _ h3
    · exact hops _ h3
/-- The end of an operation now. -/
theorem State.endFrame_endOp (s : State) (a status reason detail : Nat) : s.EndFrame (s.endOp a status reason detail) :=
  State.endFrame_endOpAt s a status reason s.now detail

end Sys2Proof.Machine
end

