-- ==== Sys2Proof/WellFormed.lean ====
section
/-! DEFINITION. Which commands are well formed: every unit that a command names exists in the part (R2, R3, R578), and every
value it carries from outside has the width that the spec gives it. -/

namespace Sys2Proof

/-- Number of link ports, and the port number of a message of the chip's own (R513). -/
def portCount : Nat := 16

/-- A path of a register access (R578, R586): a link endpoint, the service port or a micro-sequencer. -/
def Path.wf (p : Path) : Bool := decide (p < 0x412)

/-- A message whose header fields have their widths (R504). -/
def Msg.wf (m : Msg) : Bool :=
  (decide (m.src < 1024) || m.src == 0xFFFF) && (decide (m.dest < 1024) || m.dest == 0xFFFE || m.dest == 0xFFFF) &&
  decide (m.vc < 5) && decide (m.op < 256) && decide (m.status < 256) &&
  decide (m.tag < 2 ^ 16) && decide (m.mseq < 2 ^ 16) && decide (m.arg < 2 ^ 32) && decide (m.addr < 2 ^ 64) &&
  decide (m.body.length ≤ 4096) && decide (m.port ≤ portCount) && decide (m.relay.getD 0 < 1024)

/-- Acceptance sequence numbers are 64-bit counts from 1 (R80). -/
def Asn.wf (a : Asn) : Bool := decide (0 < a) && decide (a < 2 ^ 64)

/-- The well-formedness of a command. -/
def Instr.wf : Instr → Bool
  | .registerWrite p a _ | .rcRegisterRead p a | .loRegisterRead p a => p.wf && decide (a < 2 ^ 32) && decide (a % 4 = 0)
  | .staleReload i | .staleReloadEnd i _ _ | .islandWakeDone i _ => decide (i < 26)
  | .doorbell p q _ | .cqHeadWrite p q _ => p.wf && decide (q < 4096)
  | .submit m | .regRd m | .regWr m | .storeWr m | .storeRd m | .trig m | .timeQuery m => m.wf
  | .descriptorAcceptance q | .resume q | .skip q | .flush q | .pause q | .abortAll q | .abortSeq q
  | .abortedPowerDelivery q => decide (q < 4096)
  | .startCheckPoint a | .dispatchStart a | .deadline a | .completionRecordWrite a | .barrierComplete a
  | .tsetLoadWriteTick a | .forceSetWriteTick a | .forceSetSettled a | .levelsSetWriteTick a | .levelsSetDone a
  | .contactCheckRestore a | .segmentLoadTake a | .segmentLoadCrcDone a | .needInstant a | .decisionPoint a
  | .segmentBoundary a | .patternRunStop a | .feederDrainEnd a | .acquireEnd a | .uploadAck a
  | .measureEnd a | .awgPlayEnd a | .digitizeEnd a | .laneDirectionsOn a _ | .countingWindowOpen a | .laneTestEnd a
  | .candidateHolding a => a.wf
  | .contactCheckMeasure a l => a.wf && l.all (fun x => decide (x.1 < 512) && x.2.length == 8)
  | .digitizerSample a code _ => a.wf && decide (-32768 ≤ code) && decide (code < 32768)
  | .countingWindowClose a l => a.wf && l.all (fun x => decide (x.1 < 16))
  | .eyePoint a l => a.wf && l.all (fun p => decide (p.2.2.length ≤ 16))
  | .dpsStepStart a n | .dpsStepEnd a n | .pgoodTimeout a n | .stepEnergyTimeout a n => a.wf && decide (n < 256)
  | .pcFault pc corrected rebuilt _ => decide (pc < 32) && decide (corrected < 2 ^ 32) && decide (rebuilt < 2 ^ 32)
  | .mramBankFault b n => decide (b < 16) && decide (n < 2 ^ 32)
  | .mramRecopyDone b => decide (b < 16)
  | .islandCtlMismatch k c => decide (k < 16) && decide (c < 3)
  | .unitFault cls ix => decide (1 ≤ cls) && decide (cls ≤ 8) && decide (ix < 512)
  | .warmCmd k | .coldCmd k => decide (k < 2 ^ 16)
  | .gccBroadcastCheck m => decide (m < 2 ^ 26)
  | .teCommit k _ | .lvCommit k _ | .vectorPlay k | .feederEntry k | .basinRecordStore k | .acqFrameRearm k
  | .synchronizingReset k | .measSync k => decide (k < 16)
  | .acqNext k l | .acqMark k l | .acqRewind k l | .acqOldest k l => decide (k < 16) && l.all (fun e => decide (e.2 < 130))
  | .acqSample k v l => decide (k < 16) && v.length == 32 && l.all (fun e => decide (e.2 < 130))
  | .uploadPacket a l => a.wf && l.all (fun e => decide (e.2 < 8))
  | .vectorResultComplete k _ l => decide (k < 16) && l.all (fun x => decide (x.1 < 512))
  | .measSampleOutput k c _ _ => decide (k < 16) && decide (c / 32 = k)
  | .modeChangeComplete c | .pmuClampEngage c _ | .pmuSettlingEnd c | .driverCurrentLimit c | .clampHit c =>
    decide (c < 512)
  | .segtrigPulseEnd q | .hostRequest q _ | .hostRequestClear q _ => decide (q < 16)
  | .fountainInstruction f l => decide (f < 32) && l.all (fun e => decide (e.1 < 1024))
  | .refreshInterval f => decide (f < 32)
  | .basinClear n => decide (n < 256)
  | .triggerLineFire l | .lineRearm l => decide (l < 16)
  | .gpioPulseStart p | .gpioPulseEnd p | .gpioInputEdge p _ => decide (p < 8)
  | .parkSave c | .parkSaveDone c | .outRangeWrite c _ | .rangeMuteEnd c | .bankSwap c _ | .bankSwapTakeEffect c
  | .fadeEnd c => decide (c < 16)
  | .coefficientWrite c _ i _ => decide (c < 16) && decide (i < 2048)
  | .checkerLock l _ | .checkerLockLoss l _ _ | .laneErr l _ => decide (l < 128)
  | .lanePllTimeout g => decide (g < 8)
  | .switchingPeriod d _ _ | .limitTrip d _ _ | .dpsSample d _ _ | .referenceUpdate d | .dpsDisable d | .clearTrip d
  | .dpsSelfCheckFail d => decide (d < 64)
  | .monitorSample r l => decide (r.length = 6) && l.all (fun x => decide (x.1 < 56))
  | .microWord m _ | .waitEnd m | .msqTrap m | .unwindTimeout m | .controlStoreRestoreDone m _
  | .controlStoreScrub m _ => decide (m < 17)
  | .temperatureCheck u _ | .autoCalStart u | .calQuietCheck u _ _ | .calPassEnd u _ _ | .calAgreementTest u _
  | .calSlotCommit u | .calApplyTick u | .calRunEnd u => decide (u < 18)
  | .maintActivityEnd kind ix => decide (kind < 8) && decide (ix < 512)
  | .portEnable p | .portDisable p | .signalDetect p | .trainDone p | .trainTimeout p | .identTimeout p
  | .identComplete p | .signalLost p | .portFailure p _ | .retrain p | .aplMeasure p | .resync p
  | .dataFlit p _ | .ident p _ | .tsReq p _ _ _ | .tsResp p _ _ | .advert p _ | .identTimer p | .creditTimer p
  | .timestampTimer p | .flitTransmit p => decide (p < portCount)
  | .codewordReceive p n l => decide (p < portCount) && decide (n ≤ 544) && decide (l.length ≤ 5)
  | .nak p e => decide (p < portCount) && decide (e < 2 ^ 16)
  | .credit p l => decide (p < portCount) && decide (l.length = 5) && l.all (fun v => decide (v < 2 ^ 16))
  | .routeLapse e p => decide (e < 1024) && decide (p < portCount)
  | .flowHoldTimeout src vc => decide (src < 1024) && decide (vc < 5)
  | .dupClear e => decide (e < 1024)
  | .aplChipNumWrite p _ | .svcTxWrite p _ | .svcRxRead p => p.wf
  | .svcRead a | .svcWrite a => decide (a < 2 ^ 32) && decide (a % 4 = 0)
  | .masterFrame v => decide (v < 2 ^ 4096)
  | .supplyOut n mv => decide (1 ≤ n) && decide (n ≤ 6) && decide (-2 ^ 31 ≤ mv) && decide (mv < 2 ^ 31)
  | .warmResetEnd l d c => l.all (fun x => decide (x.1 < 26)) && decide (d < 4) && decide (c < 2 ^ 32)
  | .glbEvqNext l => l.all (fun e => decide (e.2 < 130))
  | .verify | .verificationComplete | .activate | .discard | .abortVerify
  | .configSwapDrainPoint | .configSwapLate | .swapTick | .depUnmeetable | .wkePauseWrite _ | .deMismatch
  | .deSelfCheckDone .. | .powerFailStart .. | .pfSequenceEnd | .discardOldest | .hubFaultReset | .resetNLow
  | .warmResetStart | .trefLost | .trefValid | .arm | .disarm | .loadEdge _ | .xtbFire _ | .xtbArm _ | .xtbDisarm _
  | .admissionExamine | .chargeExpiry | .msqLoad | .msqLoadDone | .ctrain _ | .scrub _ | .scrubTimer | .advertTimer
  | .aplRtSelWrite _ | .vaonRise | .powerUpSequence _ | .cisternTrained | .vaonFall | .vddCoreFall
  | .islandModeRequest _ | .deviceSleep | .wake | .wakingDone | .rtcSet | .rtcSecond | .xtalFail | .lifetimeMirror
  | .keyCmd | .keyTableWritten | .attest | .attestDone | .raiseCfgFloor | .raiseCsFloor | .floorWritten | .selFall
  | .svcStatus | .svcReadContinuation .. | .svcWriteData _ | .svcBadOp | .selRise | .masterStart | .masterStop
  | .masterTransferEnd | .gpioOutWrite _ | .testLogicReset | .extest _ | .samplePreload _ | .idcode | .clamp | .highz
  | .extestPulse | .extestTrain | .bypass | .cisternRetraining | .xtalReturn | .srefDerivedSecond => true

end Sys2Proof
end

