-- ==== Sys2Proof/Tests/Slice0.lean ====
section
/-! SUPPORT. The model's own tests: well-formedness refuses an ill-formed term for each of its checks, single commands on small
states, and for every statement with hypotheses a state and operands that meet them. Expected values come from the spec's
words. -/

namespace Sys2Proof.Tests

open Sys2Proof Sys2Proof.Machine

/-- The state that a command answers. -/
def after (c : Instr) (s : State) : State := s.took (exec c s)

/-! Well-formedness. Each list names a term that fails the check of its arm by one; the second, its neighbours that pass. -/

/-- A request message with the given source, tag and body length. -/
def headMsg (src tag n : Nat) : Msg :=
  { (default : Msg) with src := src, dest := 0, vc := 1, op := 0x10, tag := tag, port := 16, body := List.replicate n 0 }

theorem test_wf_refuses_registers : [Instr.registerWrite 0x412 0 0, .rcRegisterRead 0 (2 ^ 32), .loRegisterRead 0 2,
    .doorbell 0x412 0 0, .doorbell 0 4096 0, .cqHeadWrite 0 4096 0, .aplChipNumWrite 0x412 0, .svcTxWrite 0x412 0,
    .svcRxRead 0x412, .svcRead 3, .svcWrite (2 ^ 32)].all (fun c => !c.wf) = true := by decide +kernel
theorem test_wf_takes_registers : [Instr.registerWrite 0x411 0 0, .rcRegisterRead 0 (2 ^ 32 - 4), .loRegisterRead 0 4,
    .doorbell 0x411 4095 0, .cqHeadWrite 0 4095 0, .aplChipNumWrite 0 0, .svcTxWrite 0x400 0, .svcRxRead 0x400, .svcRead 4,
    .svcWrite (2 ^ 32 - 4)].all Instr.wf = true := by decide +kernel
theorem test_wf_refuses_messages : [Instr.submit (headMsg 1024 0 0), .regRd { headMsg 0 0 0 with dest := 1024 },
    .regWr { headMsg 0 0 0 with vc := 5 }, .storeWr { headMsg 0 0 0 with op := 256 }, .storeRd { headMsg 0 0 0 with status := 256 },
    .trig (headMsg 0 65536 0), .timeQuery { headMsg 0 0 0 with mseq := 65536 }, .submit { headMsg 0 0 0 with arg := 2 ^ 32 },
    .submit { headMsg 0 0 0 with addr := 2 ^ 64 }, .storeWr (headMsg 0 0 4097), .submit { headMsg 0 0 0 with port := 17 },
    .submit { headMsg 0 0 0 with relay := some 1024 }].all (fun c => !c.wf) = true := by decide +kernel
theorem test_wf_takes_messages : [Instr.submit (headMsg 1023 65535 4096), .trig { headMsg 0xFFFF 0 0 with dest := 0xFFFF },
    .timeQuery { headMsg 0 0 0 with dest := 0xFFFE, relay := some 1023 }].all Instr.wf = true := by decide +kernel
theorem test_wf_refuses_operations : [Instr.descriptorAcceptance 4096, .startCheckPoint 0, .dispatchStart (2 ^ 64),
    .contactCheckMeasure 1 [(512, List.replicate 8 0)], .contactCheckMeasure 1 [(511, [0])], .digitizerSample 1 32768 0,
    .countingWindowClose 1 [(16, [])], .eyePoint 1 [(0, 0, List.replicate 17 0)], .dpsStepStart 1 256, .basinClear 256, .digitizeEnd 0,
    .uploadPacket 0 [], .uploadPacket 1 [(0, 8)]].all (fun c => !c.wf) = true := by decide +kernel
theorem test_wf_takes_operations : [Instr.descriptorAcceptance 4095, .startCheckPoint 1, .dispatchStart (2 ^ 64 - 1),
    .contactCheckMeasure 1 [(511, List.replicate 8 0)], .digitizerSample 1 (-32768) 0, .countingWindowClose 1 [(15, [])],
    .eyePoint 1 [(0, 0, List.replicate 16 0)], .dpsStepStart 1 255, .basinClear 255, .uploadPacket 1 [(0, 7)]].all Instr.wf = true := by
  decide +kernel
theorem test_wf_refuses_units : [Instr.staleReload 26, .pcFault 32 0 0 false, .pcFault 0 (2 ^ 32) 0 false, .mramBankFault 16 0,
    .mramRecopyDone 16, .islandCtlMismatch 0 3, .islandCtlMismatch 16 0, .unitFault 0 0, .unitFault 9 0, .unitFault 1 512, .coldCmd 65536,
    .gccBroadcastCheck (2 ^ 26), .teCommit 16 0, .acqSample 0 [] [], .acqSample 0 (List.replicate 32 0) [(0, 130)], .acqNext 0 [(0, 130)],
    .vectorResultComplete 0 0 [(512, [])], .measSampleOutput 0 32 0 false, .modeChangeComplete 512, .hostRequest 16 0,
    .fountainInstruction 32 [], .fountainInstruction 0 [(1024, 1)], .triggerLineFire 16, .gpioPulseStart 8, .parkSave 16,
    .coefficientWrite 0 false 2048 0, .checkerLock 128 [], .lanePllTimeout 8, .limitTrip 64 0 0, .monitorSample [] [],
    .monitorSample [0, 0, 0, 0, 0, 0] [(56, 0)], .microWord 17 [], .temperatureCheck 18 0, .maintActivityEnd 8 0, .portEnable 16,
    .codewordReceive 0 545 [], .codewordReceive 0 0 (List.replicate 6 0), .nak 0 65536, .credit 0 [], .routeLapse 1024 0,
    .flowHoldTimeout 0 5, .dupClear 1024, .masterFrame (2 ^ 4096), .supplyOut 0 0, .supplyOut 7 0, .warmResetEnd [(26, 0, 0)] 0 0,
    .warmResetEnd [] 4 0, .glbEvqNext [(0, 130)]].all (fun c => !c.wf) = true := by decide +kernel
theorem test_wf_takes_units : [Instr.staleReload 25, .pcFault 31 0 0 true, .mramBankFault 15 0, .islandCtlMismatch 15 2, .unitFault 1 0,
    .unitFault 8 511, .gccBroadcastCheck 0x3FFFFFF, .teCommit 15 0, .vectorResultComplete 0 7 [(511, [3])],
    .acqSample 0 (List.replicate 32 0) [(0, 129)], .measSampleOutput 1 32 0 false, .modeChangeComplete 511, .fountainInstruction 31 [(1023, 1)],
    .gpioPulseStart 7, .coefficientWrite 15 true 2047 0, .checkerLock 127 [true], .limitTrip 63 0 (-1),
    .monitorSample [0, 0, 0, 0, 0, 0] [(55, 0)], .microWord 16 [], .temperatureCheck 17 0, .codewordReceive 15 544 [],
    .credit 0 [0, 0, 0, 0, 65535], .dupClear 1023, .masterFrame 0, .supplyOut 6 0, .glbEvqNext [(0, 129)]].all Instr.wf = true := by
  decide +kernel

/-! Single commands on small states. -/

/-- R583: the read of a LO register holds the HI half for that path until the path reads it. -/
theorem test_snapshot : let s : State := { State.reset with tb := { State.reset.tb with gcc := 0x500000007 } }
    (after (.loRegisterRead 3 GLB_GCC_LO) s).rdata = 7 ∧
    (after (.loRegisterRead 3 GLB_GCC_HI) (after (.loRegisterRead 3 GLB_GCC_LO) s)).rdata = 5 := by decide +kernel
/-- R585: an illegal value of an RW field leaves it and sets RANGE with the address and the path. -/
theorem test_range : let t := after (.registerWrite 9 GLB_EVQ_CFG 0) State.reset
    t.reg GLB_EVQ_CFG = State.reset.reg GLB_EVQ_CFG ∧ t.bitAt GLB_ACCESS_STATUS 0 = true ∧
    t.reg GLB_ACCESS_ADDR = word GLB_EVQ_CFG ∧ t.reg GLB_ACCESS_SRC = 9 := by decide +kernel
/-- R586: the first flag holds its address; a second one adds its bit only. -/
theorem test_first_flag : let t := after (.registerWrite 8 0x6000000 0) (after (.registerWrite 9 GLB_EVQ_CFG 0) State.reset)
    t.bitAt GLB_ACCESS_STATUS 2 = true ∧ t.reg GLB_ACCESS_SRC = 9 := by decide +kernel
/-- R590: NEXT on an empty queue shows EMPTY. -/
theorem test_evq_empty : (after (.glbEvqNext []) State.reset).fld GLB_EVQ_STATUS 31 24 = 1 := by decide +kernel
/-- R144, R155: the reference comes back with the GCC where it was, and the timebase is FREE. -/
theorem test_tref : (after .trefValid State.reset).tbState = 1 ∧ (after .trefValid State.reset).now = 0 := by decide +kernel
/-- R576: an output drives its SVC_GPIO_OUT bit, an input drives nothing. -/
theorem test_gpio_out : let s := State.reset.setReg SVC_GPIO_DIR 0xF0
    (after (.gpioOutWrite 0xFFFFFF3C) s).svc.driven = 0x30 ∧ (after (.gpioOutWrite 0xFFFFFF3C) s).reg SVC_GPIO_OUT = 0x3C := by
  decide +kernel

/-- FIPS 180-4, the digest of "abc". -/
theorem test_sha256 : sha256 [0x61, 0x62, 0x63] = [0xBA, 0x78, 0x16, 0xBF, 0x8F, 0x01, 0xCF, 0xEA, 0x41, 0x41, 0x40, 0xDE, 0x5D, 0xAE,
    0x22, 0x23, 0xB0, 0x03, 0x61, 0xA3, 0x96, 0x17, 0x7A, 0x9C, 0xB4, 0x10, 0xFF, 0x61, 0xF2, 0x00, 0x15, 0xAD] := by decide +kernel

theorem witness_step : ({ State.reset with pending := [.glbEvqNext [], .arm] } : State).pending = .glbEvqNext [] :: [.arm] := by decide +kernel
theorem witness_tick : State.reset.pending = [] ∧ State.reset.counting = false ∧
    (State.reset.setFld GLB_TB_STATUS 1 0 1).pending = [] ∧ (State.reset.setFld GLB_TB_STATUS 1 0 1).counting = true := by decide +kernel

theorem witness_invariant :
    let s : State := { State.reset with pending := [.xtbArm 1] }
    s.canonical = true ∧ s.evq.recs.length ≤ 1024 ∧ s.took (step s) ≠ s := by decide +kernel

theorem witness_write :
    (∃ r, regAt GLB_IRQ_MASK = some r ∧ ∀ f ∈ r.flds, within f.min f.max ((0x7FFFF : Word).field f.hi f.lo) = true) ∧
    commandReg GLB_IRQ_MASK = false ∧ strictHigh SVC_CHAIN_LEN = true ∧ commandReg SVC_CHAIN_LEN = false ∧ closedAt State.reset GLB_IRQ_MASK = false ∧
    State.reset.reaches 3 GLB_IRQ_MASK = true := ⟨⟨_, rfl, by decide +kernel⟩, by decide +kernel, by decide +kernel, by decide +kernel, by decide +kernel, by decide +kernel⟩
/-- The same for a W1C register, a locked RWL register written with its held value, and the last register of a cluster. -/
theorem witness_write_codes :
    let s : State := { State.reset with cfg := { State.reset.cfg with locked := true } }
    (∃ r, regAt (XTB_EVENTS) = some r ∧ (∀ f ∈ r.flds, f.acc = .w1c)) ∧ commandReg XTB_EVENTS = false ∧
    (∃ r, regAt GLB_IRQ_CFG = some r ∧ (∃ f ∈ r.flds, f.acc = .rwl) ∧
      ∀ f ∈ r.flds, f.acc = .rwl → (0x100 : Word).field f.hi f.lo = s.fld GLB_IRQ_CFG f.hi f.lo) ∧
    s.reaches 0 GLB_IRQ_CFG = true ∧ State.reset.reaches 0x400 (CH_IRQ_EN 511) = true ∧ commandReg (CH_IRQ_EN 511) = false ∧
    (regAt (CH_IRQ_EN 511)).isSome = true :=
  ⟨⟨_, rfl, by decide +kernel⟩, by decide +kernel, ⟨_, rfl, by decide +kernel, by decide +kernel⟩, by decide +kernel, by decide +kernel, by decide +kernel, by decide +kernel⟩

theorem witness_refused_write :
    (∃ r f, regAt GLB_EVQ_CFG = some r ∧ r.flds = [f] ∧ f.acc = .rw ∧ within f.min f.max ((0 : Word).field f.hi f.lo) = false) ∧
    commandReg GLB_EVQ_CFG = false ∧ State.reset.reaches 0 GLB_EVQ_CFG = true ∧
    mapped 0x6000000 = false ∧ State.reset.reg GLB_ACCESS_STATUS = 0 ∧
    ((State.reset.setReg GLB_ACCESS_STATUS 1).reg GLB_ACCESS_STATUS ≠ 0) ∧
    (State.reset.setIslandMode 0 2).asleepAt 0x200000 = true ∧ mapped 0x200000 = true ∧ 0x200000 ≤ blockEnd 0x200000 :=
  ⟨⟨_, _, rfl, rfl, by decide +kernel, by decide +kernel⟩, by decide +kernel, by decide +kernel, by decide +kernel, by decide +kernel, by decide +kernel, by decide +kernel, by decide +kernel, by decide +kernel⟩

theorem witness_reads :
    (∃ r, regAt (MSQ_EVENTS 0) = some r) ∧ csWindow (MSQ_EVENTS 0) = none ∧ snapLo (MSQ_EVENTS 0) = false ∧ snapHi (MSQ_EVENTS 0) = false ∧
    ringReg (MSQ_EVENTS 0) = false ∧ positionReg (MSQ_EVENTS 0) = false ∧ MSQ_EVENTS 0 ≤ blockEnd (MSQ_EVENTS 0) ∧ mapped (MSQ_EVENTS 0) = true ∧
    State.reset.asleepAt (MSQ_EVENTS 0) = false ∧ (∃ r, regAt GLB_GCC_LO = some r) ∧ snapLo GLB_GCC_LO = true ∧ snapHi GLB_GCC_HI = true ∧
    (∃ r, regAt GLB_GCC_HI = some r) ∧ regAt 0x60 = none ∧ mapped 0x60 = true ∧ 0x60 ≤ blockEnd 0x60 ∧ mapped 0x70000 = false :=
  ⟨⟨_, rfl⟩, by decide +kernel, by decide +kernel, by decide +kernel, by decide +kernel, by decide +kernel, by decide +kernel, by decide +kernel, by decide +kernel, ⟨_, rfl⟩, by decide +kernel, by decide +kernel, ⟨_, rfl⟩, by decide +kernel, by decide +kernel, by decide +kernel, by decide +kernel⟩
theorem witness_reads_special :
    ringReg (ACQ_RD 15 3) = true ∧ (regAt (ACQ_RD 15 3)).isSome = true ∧ positionReg (FNT_LC 31 7) = true ∧ (regAt (FNT_LC 31 7)).isSome = true ∧
    csWindow 0x1180000 = some (15, 0) ∧ mapped 0x1180000 = true ∧ 0x1180000 ≤ blockEnd 0x1180000 ∧ (regAt AON_RTC_LO).isSome = true ∧
    (State.reset.setIslandMode 15 2).asleepAt 0x1180000 = true := by decide +kernel

theorem witness_evq : (State.reset.logEvent 0x0301 1 2).evq.recs = [withParity (eventRecord 0 0x0301 1 2)] ∧ State.reset.evq.recs = [] ∧
    badWords (withParity (eventRecord 0 0x0301 1 2)) = 0 ∧
    (((State.reset.logEvent 0x0301 1 2).upsetEvq [(0, 64)]).evq.recs.map badWords) = [2] := by decide +kernel

/-- One queue with rings of 16 slots, and a set that opens it. -/
def queue1 : QRec := { queue := 1, cls := 0, mode := 0, sqLog2 := 4, cqLog2 := 4, sqBase := 0x100000, cqBase := 0x200000 }
def limits1 : Limits := { peak := 1000000, idle := 0, run := 100, w1 := 1000000, w2 := 10000000, w3 := 100000000 }
def set1 : ImageSet := { (default : ImageSet) with
  queues := [queue1], classes := [{ opmask := 0x7FFFF, prioMax := 7 }], sites := [{ site := 0, anMask := 1, chMask := 1 }],
  energy := { refine := false, rails := List.replicate 6 limits1, opcs := [], sites := [] } }
/-- A chip that is ACTIVE with that set and a running timebase. -/
def ready : State :=
  let s : State := { State.reset with cfg := { State.reset.cfg with active := some set1 },
                                      aon := { State.reset.aon with resetting := 0, powerStep := 8 } }
  (s.setFld AON_PWR_STATUS 2 0 1).setFld GLB_TB_STATUS 1 0 1
theorem witness_doorbell : ready.aon.resetting = 0 ∧ (ready.bitAt AON_CFG 8 = true → ready.deviceState ≠ 2) ∧
    ready.queueRec 1 = some queue1 ∧ ready.barred 1 = false ∧ ready.accepting = true ∧
    wrapSub (16 : Word).toNat (ready.reg (WQ_SQ_HEAD 1)).toNat ≤ 2 ^ queue1.sqLog2 ∧
    2 ^ queue1.sqLog2 < wrapSub (17 : Word).toNat (ready.reg (WQ_SQ_HEAD 1)).toNat ∧ ready.queueRec 2 = none := by decide +kernel

/-- A BARRIER is posted on the queue; then a descriptor of zeros, whose opcode no queue takes. -/
def posted : State := (ready.writeBytes 0x100000 (leBytes 64 0x0F)).setReg (WQ_SQ_TAIL 1) 2
theorem witness_acceptance : posted.takes = true ∧ posted.paused queue1 = false ∧ posted.bitAt (WQ_STATUS 1) 1 = false ∧
    posted.reg (WQ_SQ_HEAD 1) ≠ posted.reg (WQ_SQ_TAIL 1) ∧ posted.itsTurn set1 1 = true ∧ ready.posted queue1 = false ∧
    acceptCheck set1 queue1 1 false (posted.slotDesc queue1 0) = 0 ∧
    acceptCheck set1 queue1 2 false (posted.slotDesc queue1 1) ≠ 0 := by decide +kernel
theorem test_acceptance : (after (.descriptorAcceptance 1) posted).ops.map Op.opcode = [0xF] ∧
    (after (.descriptorAcceptance 1) (after (.descriptorAcceptance 1) posted)).bitAt (WQ_STATUS 1) 1 = true := by decide +kernel

theorem witness_queue_control : ready.openQ 1 = true ∧ ready.openQ 2 = false ∧ ready.bitAt (WQ_STATUS 1) 1 = false ∧
    (ready.setBitAt (WQ_STATUS 1) 1 true).openQ 1 = true ∧ (ready.setBitAt (WQ_STATUS 1) 1 true).bitAt (WQ_STATUS 1) 1 = true := by decide +kernel

/-- Two operations wait on the queue: a BARRIER of SEQ 1 and one of SEQ 2. -/
def waiting2 : State := { ready with ops := [
  { (default : Op) with asn := 1, queue := 1, seq := 1, desc := 0x0F },
  { (default : Op) with asn := 2, queue := 1, seq := 2, desc := 0x0F }] }
theorem witness_aborts : waiting2.openQ 1 = true ∧ (waiting2.ops.map Op.asn).Nodup ∧
    (∀ o ∈ waiting2.queueOps 1, o.phase = .waiting ∧ o.work = .nothing ∧ waiting2.armedSwap o.asn = false) ∧
    ((waiting2.setReg64 (WQ_ARG_LO 1) (WQ_ARG_HI 1) 2).queueOps 1).find? (fun o => o.seq == 2 && o.phase != .ended) =
      waiting2.op? 2 ∧ (waiting2.queueOps 1).find? (fun o => o.seq == 0 && o.phase != .ended) = none := by decide +kernel
theorem witness_armed_abort :
    let s : State := { waiting2 with cfg := { waiting2.cfg with swap := some { tick := 5, asn := some 2, gen := 1 } } }
    s.armedSwap 2 = true := by decide +kernel

/-- An operation of the queue has ended. -/
def ended1 : State := { ready with ops := [
  { (default : Op) with asn := 1, queue := 1, seq := 1, desc := 0x0F, phase := .ended }] }
theorem witness_record : ended1.recordsFlow = true ∧ (ended1.op? 1).isSome = true ∧
    (ended1.op? 1).map Op.phase = some .ended ∧ ended1.queueRec 1 = some queue1 ∧ ended1.cqRoom queue1 = true ∧
    (ended1.op? 1).map ended1.endedBefore = some false ∧ (ended1.op? 1).map Op.lost = some false ∧
    ready.recordsFlow = true ∧ State.reset.recordsFlow = false ∧
    (let s : State := { ended1 with cfg := { ended1.cfg with active := none } }
     s.queueRec 1 = none ∧ s.recordsFlow = true) := by decide +kernel

set_option Elab.async false in
theorem witness_cq_head :
    let s := ready.setReg (WQ_CQ_TAIL 1) 3
    s.openQ 1 = true ∧ s.openQ 2 = false ∧ ((3 : Word) - s.reg (WQ_CQ_HEAD 1)).toNat ≤ (s.reg (WQ_CQ_TAIL 1) - s.reg (WQ_CQ_HEAD 1)).toNat ∧
    (s.reg (WQ_CQ_TAIL 1) - s.reg (WQ_CQ_HEAD 1)).toNat < ((4 : Word) - s.reg (WQ_CQ_HEAD 1)).toNat := by decide +kernel

/-- A TIMESTAMP that waits alone and has been judged. -/
def stamp : Op := { (default : Op) with asn := 1, queue := 1, seq := 1, desc := 0x10, judged := true, dep0 := .absent, dep1 := .absent }
def stamping : State := { ready with ops := [stamp] }
theorem witness_admission : stamp.phase = .waiting ∧ stamping.dispatching = true ∧
    stamping.resFree stamp.asn (stamping.resources stamp) = true ∧ stamping.islandsOk stamp = true ∧ stamp.startField = 0 ∧
    (stamping.unitsOf stamp).any stamping.cont.faulted.contains = false ∧     stamping.bitAt NRG_CTRL 0 = false ∧ stamping.fits (stamping.opResvs stamp) = true ∧
    stamping.readFits (stamping.readUnits stamp) = true := by decide +kernel

theorem witness_dispatch :
    let s : State := { ready with ops := [{ stamp with phase := .scheduled }] }
    (s.op? 1).map Op.opcode = some 0x10 ∧ (s.op? 1).map Op.phase = some .scheduled ∧ (s.op? 1).map Op.startAt = some 0 ∧ 0 ≤ s.now ∧
    (s.op? 1).map Op.startField = some 0 ∧ s.dispatching = true ∧ s.aon.rtcSub < 32768 ∧
    ({ s with cont := { s.cont with mismatch := true } } : State).dispatching = false := by decide +kernel
/-- A BARRIER runs, alone or behind another operation of its queue. -/
def barrierOp : Op := { (default : Op) with asn := 2, queue := 1, seq := 2, desc := 0x0F, phase := .running, waited := 1 }
theorem witness_barrier :
    ({ ready with ops := [barrierOp] } : State).barrierWaits barrierOp = [] ∧
    ({ ready with ops := [stamp, barrierOp] } : State).barrierWaits barrierOp ≠ [] ∧
    barrierOp.opcode = 0xF := by decide +kernel
/-- A BARRIER with DEADLINE 12 that waits, and a FORCE_SET timed for GCC 10,000. -/
theorem witness_deadline :
    let o : Op := { barrierOp with phase := .waiting, desc := 0x0C00000F, dep0 := .pending }
    let s : State := { ready with ops := [o] }
    o.deadlineAt = some 4096 ∧ o.phase = .waiting ∧ s.counting = true ∧ s.now ≤ 4096 ∧
    (s.advanceTo 4096).candidates.contains 2 = false ∧
    (({ stamping with regs := stamping.regs } : State).candidates.contains 1 = true) := by decide +kernel
theorem witness_check_point :
    let o : Op := { stamp with desc := 0x04 + 10000 * 2 ^ 320 }
    let s : State := { ready with ops := [o] }
    o.startField = 10000 ∧ s.now ≤ o.checkPoint ∧ s.counting = true ∧ o.phase = .waiting ∧
    ((s.advanceTo o.checkPoint).examine.op? 1).isSome = true := by decide +kernel

theorem witness_timebase : (ready.ops.filter (fun o => o.phase == .running && ready.needsTref o)) = [] ∧
    (∀ u, u < 17 → (ready.cal u).auto = true → (ready.cal u).st = 0) ∧ ready.tbState = 1 ∧ State.reset.tbState = 0 ∧
    ready.armAllowed = true ∧ stamping.armAllowed = false ∧ stamping.tbState = 1 ∧ (after .arm ready).tbState = 2 ∧
    (after (.loadEdge [(true, true)]) (after .arm ready)).tbState = 3 ∧ ready.syncOf (true, false) = true ∧
    ready.syncOf (false, true) = false ∧ ready.tb.loadAt = [] ∧ ready.tb.syncHigh = false := by decide +kernel

theorem witness_gcc_check : ready.counting = true ∧ bitsOf 5 26 = [0, 2] ∧ bitsOf 0 26 = [] ∧
    (∀ o ∈ stamping.ops, o.phase = .running → ∀ i ∈ bitsOf 5 26, i ∉ stamping.islandsOf o) ∧
    (let o : Op := { stamp with desc := 0x08, phase := .running }
     let s : State := { ready with ops := [o] }
     o.opcode = 8 ∧ (∀ i ∈ bitsOf 0x10000 26, i ∈ s.islandsOf o) ∧ bitsOf 0x10000 26 ≠ []) := by decide +kernel

theorem witness_engines : ready.lockstep = true ∧ (after .deMismatch ready).cont.mismatch = true ∧
    (after .deMismatch ready).lockstep = true ∧ (ready.setBitAt MEM_CONT_STATUS 2 true).lockstep = false ∧
    (ready.setBitAt MEM_CONT_STATUS 2 true).bitAt MEM_CONT_STATUS 0 = false ∧
    (({ ready with cont := { ready.cont with mismatch := true, resyncs := [0, 0] } } : State).cont.resyncs.filter
      (fun g => decide (ready.now < g + 800000000))).length = 2 := by decide +kernel

theorem witness_memory_faults : ready.bitAt MEM_PC_FAULT 9 = false ∧ ready.pcFaults 1 = 0 ∧
    (after (.pcFault 8 0 0 true) ready).bitAt MEM_PC_FAULT 8 = true ∧ (after (.pcFault 8 0 0 true) ready).pcFaults 1 = 1 ∧
    (after (.pcFault 8 3 16 false) ready).bitAt MEM_PC_FAULT 8 = true ∧ (after (.pcFault 8 3 15 false) ready).bitAt MEM_PC_FAULT 8 = false ∧
    (after (.pcFault 8 0 0 true) ready).bitAt MEM_PC_FAULT 9 = false ∧ (ready.countEcc 8 3 15).rebuiltOf 8 < 16 ∧ ready.segs = [] ∧
    ready.bitAt MEM_MRAM_BANK_FAULT 15 = false ∧ (after (.mramBankFault 15 3) ready).cont.recopying = [(15, 3)] ∧
    (after (.mramBankFault 15 3) ready).bitAt MEM_MRAM_BANK_FAULT 15 = true ∧
    ready.cont.fencedCopies = [] ∧ (after (.islandCtlMismatch 15 1) ready).cont.fencedCopies = [(15, 1)] ∧
    (after (.islandCtlMismatch 15 1) ready).isFaulted 6 15 = false ∧ (after (.islandCtlMismatch 15 1) ready).needing 6 15 = [] := by decide +kernel

theorem witness_unit_faults : ready.isFaulted 7 3 = false ∧ ready.needing 7 3 = [] ∧ (after (.unitFault 7 3) ready).isFaulted 7 3 = true ∧
    ready.isFaulted 4 7 = false ∧ ready.needing 4 7 = [] ∧ ready.relocks = [] ∧
    (({ ready with relocks := [(7, 5)] } : State).relocks.find? (fun x => x.1 == 7)) = some (7, 5) ∧ ready.isFaulted 5 63 = false ∧ ready.needing 5 63 = [] := by decide +kernel
/-- A DIGITIZE waits for the digitizer half of analog channel 0. -/
theorem witness_unit_fault_waiting :
    let o : Op := { stamp with desc := 0x08 }
    let s : State := { ready with ops := [o] }
    s.needing 8 0 = [o] ∧ s.op? 1 = some o ∧ o.phase = .waiting ∧ o.work = .nothing ∧ s.isFaulted 8 0 = false := by decide +kernel

theorem witness_power_fail : ready.aon.vddCore = true ∧ ready.aon.vaon = true ∧ ready.deviceState ≤ 3 ∧
    ready.cont.slots.length = 2 ∧ (ready.setFld AON_PWR_STATUS 2 0 4).deviceState = 4 ∧
    (ready.setFld AON_PWR_STATUS 2 0 4).aon.resetN = true ∧ ready.sec.writing = none ∧ ready.sec.floorWrite = none ∧
    ({ ready.setFld AON_PWR_STATUS 2 0 4 with aon := { ready.aon with resetN := false } } : State).deviceState = 4 := by decide +kernel

/-- One record is owed to the queue from a power failure. -/
def owing : State := { ready with cont := { ready.cont with slots := [
  { pfSlotEmpty with valid := true, order := 1, total := 1, owed := [{ (default : Owed) with queue := 1, seq := 9 }] }, pfSlotEmpty] } }
theorem witness_owed : owing.queueRec 1 = some queue1 ∧ owing.recordsFlow = true ∧ owing.deviceState = 1 ∧
    owing.cqRoom queue1 = true ∧ owing.olderSlot = some 0 ∧ owing.cont.slots.length = 2 ∧ ready.olderSlot = none ∧
    owing.queueRec 2 = none := by decide +kernel

theorem witness_warm_begin : ready.resetBusy = false ∧ ready.cfg.swap = none ∧ State.reset.resetBusy = true ∧
    ready.cont.hubFaultAt = none ∧
    (let s := after (.deSelfCheckDone false false 0) (after .deMismatch (ready.setBitAt AON_CFG 1 true))
     s.cont.hubFaultAt = some 0 ∧ s.counting = true ∧ s.now ≤ 8000 ∧ s.resetBusy = false ∧ s.cfg.swap = none) := by decide +kernel

theorem witness_warm_reset : ready.aon.resetting ≠ 1 ∧ ready.aon.resetting ≠ 3 ∧ (after (.warmCmd 0x5A17) stamping).aon.resetting = 1 ∧
    retentionHolds [] = true ∧ retentionHolds [(3, 5)] = false ∧
    (let s : State := { ready with aon := { ready.aon with resetting := 3 } }
     s.aon.resetting = 3 ∧ s.ops = [] ∧ s.heldRecs = []) := by decide +kernel

theorem witness_cold : ready.deviceState ≠ 4 ∧ ready.deviceState ≠ 5 ∧ ready.aon.vaon = true ∧ ready.aon.vddCore = true ∧
    (ready.setFld AON_PWR_STATUS 2 0 4).deviceState = 4 ∧ (ready.setFld AON_PWR_STATUS 2 0 4).aon.vaon = true ∧
    ready.sec.writing = none ∧ ready.sec.floorWrite = none := by decide +kernel

theorem witness_supplies : State.reset.aon.vaon = true ∧ State.reset.aon.vddCore = true ∧ State.reset.aon.resetting = 2 ∧
    State.reset.aon.powerStep = 0 ∧ State.reset.deviceState = 0 ∧ State.reset.fld AON_PWR_STATUS 19 16 = 0 ∧
    (after .vaonFall State.reset).aon.vaon = false ∧ (after .vaonFall State.reset).aon.vddCore = false ∧
    (after (.powerUpSequence true) State.reset).aon.powerStep = 4 ∧ (after (.powerUpSequence true) State.reset).aon.resetting = 2 ∧
    (State.reset.setFld AON_PWR_STATUS 2 0 3).deviceState = 3 := by decide +kernel
theorem test_power_up : (after .cisternTrained (after (.powerUpSequence true) State.reset)).deviceState = 1 ∧
    (after (.powerUpSequence true) State.reset).fld AON_PWR_STATUS 19 16 = 1 := by decide +kernel

theorem witness_islands : (25 < (0x1A : Word).field 4 0) ∧ (0x103 : Word).field 4 0 = 3 ∧ (0x103 : Word).field 9 8 = 1 ∧
    ready.deviceState = 1 ∧ ready.islandMode 3 = 0 ∧ ready.islandBusy 3 = false ∧ State.reset.deviceState = 0 ∧
    ((ready.setIslandMode 25 1).islandMode 25 = 1) ∧
    (let s := { (ready.setIslandMode 25 3) with aon := { ready.aon with waking := [25] } }
     s.islandMode 25 = 3 ∧ s.aon.after.find? (fun x => x.1 == 25) = none ∧
     (let s : State := { s with aon := { s.aon with after := [(25, 2)] } }
      s.aon.after.find? (fun x => x.1 == 25) = some (25, 2) ∧ s.islandBusy 25 = false)) ∧
    retentionHolds [] = true ∧ retentionHolds [(7, 3)] = false ∧ ready.cfg.lostRetention.contains 25 = false ∧
    ({ ready with mnt := { ready.mnt with running := [⟨6, 3, 0⟩] } } : State).islandBusy 3 = true ∧
    ready.inFlight = 0 ∧ ready.mnt.running = [] ∧ stamping.inFlight ≠ 0 ∧ (ready.setFld AON_PWR_STATUS 2 0 2).deviceState = 2 := by decide +kernel

theorem witness_clock : ready.aon.vaon = true ∧ ready.aon.rtcLoad = none ∧ ready.aon.vddCore = true ∧ ready.aon.mirror.length = 2 ∧
    (ready.setBitAt AON_PWR_STATUS 10 true).bitAt AON_PWR_STATUS 10 = true ∧
    (ready.setBitAt AON_PWR_STATUS 10 false).bitAt AON_PWR_STATUS 10 = false ∧
    (let s := ready.setReg64 AON_ALARM_LO AON_ALARM_HI 1
     s.reg64 AON_ALARM_LO AON_ALARM_HI ≠ 0 ∧ s.reg64 AON_ALARM_LO AON_ALARM_HI = (s.aon.rtcSec + 1) % 2 ^ 48) ∧
    (after .rtcSet (ready.setBitAt AON_PWR_STATUS 10 false)).aon.rtcLoad = some 0 := by decide +kernel

theorem witness_security : ready.secBusy = false ∧ ready.shadowState ≠ 1 ∧ ready.shadowState ≠ 4 ∧ ready.sec.load = none ∧
    ready.keyCheck (ready.regBytes (SEC_KCMD 0) 64) ≠ 0 ∧ ready.sec.writing = none ∧ ready.sec.report = none ∧
    (ready.reportBody 0).length = 192 ∧
    (∀ g, ready.cfg.active = some g → g.version ≤ ready.sec.cfgFloor) ∧
    (∀ n, ready.sec.csVersion = some n → n ≤ ready.sec.csFloor) ∧
    ({ ready with cfg := { ready.cfg with active := some { set1 with version := 3 } } } : State).sec.cfgFloor < 3 ∧
    ({ ready with sec := { ready.sec with floorWrite := some (0, 3) } } : State).secBusy = true ∧
    (List.replicate 192 (0 : Byte)).length = 192 := by
  refine ⟨by decide +kernel, by decide +kernel, by decide +kernel, by decide +kernel, by decide +kernel, by decide +kernel,
    by decide +kernel, by decide +kernel, ?_, ?_, by decide +kernel, by decide +kernel, by decide +kernel⟩
  · intro g h; cases h; decide
  · intro n h; cases h

theorem witness_floors : (ready.took (step { ready with pending := [.raiseCfgFloor] })).sec.cfgFloor = ready.sec.cfgFloor := by decide +kernel

/-- A verified set in the shadow and no generation in force. -/
def verified : State :=
  let s : State := { State.reset with cfg := { State.reset.cfg with shadow := some set1 } }
  ((s.setReg CFG_SHADOW_STATE 2).setFld AON_PWR_STATUS 2 0 1).setFld GLB_TB_STATUS 1 0 1
theorem witness_shadow_set : ready.shadowState = 0 ∧ ready.sec.writing = none ∧ (ready.setReg CFG_SHADOW_STATE 4).shadowState = 4 ∧
    ({ ready with sec := { ready.sec with writing := some [] } } : State).sec.writing.isSome = true ∧
    (ready.setReg CFG_SHADOW_STATE 1).shadowState = 1 ∧ verified.cfg.shadow = some set1 ∧ verified.activeGen = 0 ∧
    verified.shadowState = 2 ∧ verified.reg64 CFG_SWAP_GCC_LO CFG_SWAP_GCC_HI = 0 ∧
    (verified.setReg CFG_SWAP_GCC_LO 3199).reg64 CFG_SWAP_GCC_LO CFG_SWAP_GCC_HI < verified.now + 3200 := by decide +kernel
set_option Elab.async false in
theorem test_verify_fails : (after .verificationComplete (after .verify ready)).shadowState = 3 := by decide +kernel

/-- A CONFIG_SWAP waits alone on the queue of a chip with a verified shadow set. -/
def swapping : State :=
  { (ready.setReg CFG_SHADOW_STATE 2) with
    cfg := { ready.cfg with shadow := some set1 },
    ops := [{ (default : Op) with asn := 7, queue := 1, seq := 1, desc := 0x0E }] }
/-- The CONFIG_SWAP of `swapping` has begun, and the interlock permits it. -/
def swapBegun : State :=
  { swapping with ops := swapping.ops.map (fun (o : Op) => { o with phase := .running, started := true, permitted := true }),
                  mnt := { swapping.mnt with running := [⟨1, 0, 0⟩] } }
/-- `swapping` at GCC 6,900, with TARGET_GCC 10,000 and, before it, a PATTERN_RUN that waits for an operation accepted later. -/
def swapLateState : State :=
  { swapping with
    tb := { swapping.tb with gcc := 6900 }
    ops := [{ (default : Op) with asn := 5, queue := 1, seq := 1, dep0 := .pending, desc := 0x01 + 2 ^ 8 + 2 ^ 64 * (2 + 2 ^ 48) },
            { (default : Op) with asn := 7, queue := 1, seq := 2, desc := 0x0E + 2 ^ 256 * 10000 }] }
theorem witness_config_swap : swapping.swapWaiting = swapping.op? 7 ∧ (swapping.op? 7).isSome = true ∧
    (swapping.op? 7).map (fun o => (o.phase, o.opcode, swapping.drained o)) = some (.waiting, 0xE, true) ∧
    (let u := (swapping.mntAsk 1 0).modOp 7 (fun p => { p with permitted := true })
     u.mntRuns 1 0 = true ∧ (u.examine.op? 7).map Op.phase = some .scheduled ∧ u.examine.mntRuns 1 0 = true) ∧
    (swapLateState.swapWaiting.map (fun o => (o.asn, swapTarget o, swapLateOk o, swapLateState.pastDrain o, lateGcc o))) =
      some (7, 10000, false, false, 6800) ∧ lateGcc ((swapLateState.op? 7).getD default) ≤ swapLateState.now ∧
    (swapLateState.examine.op? 7).map Op.phase = some .waiting := by decide +kernel
theorem witness_config_swap_begun : swapBegun.swapWaiting = swapBegun.op? 7 ∧
    (swapBegun.op? 7).map (fun o => (o.phase, o.opcode, swapBegun.drained o, swapBegun.swapReason o)) = some (.running, 0xE, true, 0) ∧
    swapBegun.mntRuns 1 0 = true ∧ swapBegun.cfg.shadow = some set1 := by decide +kernel
theorem witness_config_swap_stuck :
    ∀ o ∈ swapLateState.op? 7, (swapLateState.ops.filter (fun p => p.asn < o.asn)).all
      (fun p => p.phase == .waiting && swapLateState.namesLater o p) = true := by decide +kernel
theorem witness_config_swap_reason :
    ((swapping.setReg CFG_SHADOW_STATE 3).op? 7).map (swapping.setReg CFG_SHADOW_STATE 3).swapReason = some 1 := by decide +kernel

/-- The set of `verified` is ARMED, and its tick has come. -/
def swapNow : State :=
  { (after .activate verified) with tb := { verified.tb with gcc := 3200 } , aon := { verified.aon with resetting := 0 } }
theorem witness_swap_tick : swapNow.cfg.swap = some ⟨3200, none, 1⟩ ∧ swapNow.cfg.shadow = some set1 ∧ swapNow.aon.resetting = 0 ∧
    swapNow.mntRuns 1 0 = true ∧ swapNow.now = 3200 ∧ queue1 ∈ set1.queues ∧ swapNow.queueRec 1 = none ∧
    ready.cfg.swap = none ∧
    ({ swapNow.setFld GLB_TB_STATUS 1 0 0 with tb := { swapNow.tb with gcc := 0 } } : State).counting = false := by decide +kernel

/-- The active generation is 1, and the islands hold generation 0. -/
def staleState : State := ready.setReg CFG_ACTIVE_GEN 1
theorem witness_stale : staleState.stale 25 = true ∧ staleState.islandMode 25 = 0 ∧ staleState.cfg.reloading.contains 25 = false ∧
    staleState.aon.resetting = 0 ∧ (islandUnits 25).all staleState.cont.faulted.contains = false ∧
    (after (.staleReload 15) staleState).cfg.reloading.contains 15 = true ∧ staleState.ops = [] ∧
    staleState.isFaulted 6 15 = false ∧
    (let s := after (.staleReload 15) staleState
     (((s.endReload 15).upsetStore 15 [(0x1400, 1)]).checkStore 15).2 = true ∧
     (((s.endReload 15).upsetStore 15 [(0x1400, 3)]).checkStore 15).2 = true) ∧ ready.stale 3 = false := by decide +kernel
theorem witness_stale_kept : (staleState.setIslandMode 17 0).cfg.leftGen = [] ∧ staleState.stale 17 = true ∧
    ({ staleState with cfg := { staleState.cfg with leftGen := [(17, 1)] } } : State).keptPart 17 = true := by decide +kernel

/-- A request of host 9 that came in on port 2. -/
def reqMsg (vc op arg addr : Nat) (body : List Byte) : Msg :=
  { (default : Msg) with src := 9, vc := vc, op := op, arg := arg, addr := addr, body := body, port := 2 }
/-- The set of `ready` with a policy that names one other host. -/
def policed : State :=
  { ready with cfg := { ready.cfg with active := some { set1 with policy := { set1.policy with hosts := [(77, 1)] } } } }
theorem witness_register_requests : ready.regServed = true ∧ msgIs (reqMsg 0 1 1 0 []) 0 1 = true ∧
    ready.rightOf 9 0 = true ∧ ready.rightOf 9 1 = true ∧ msgIs (reqMsg 0 2 1 0xF0 [1, 0, 0, 0]) 0 2 = true ∧
    regShape (reqMsg 0 2 1 0xF0 [1, 0, 0, 0]) = true ∧ regShape (reqMsg 0 1 65 0 []) = false ∧
    policed.rightOf 9 1 = false ∧ policed.rightOf 9 0 = false ∧ policed.regServed = true ∧
    openRead (reqMsg 0 1 1 0x100 []) = false ∧ State.reset.regServed = false ∧ regShape (reqMsg 0 1 64 0 []) = true := by decide +kernel

theorem witness_store_requests : ready.storeServed = true ∧ ready.rightOf 9 4 = true ∧ ready.rightOf 9 3 = true ∧
    ready.segsIn 0x1000 2 = [] ∧ ready.shadowState ≠ 1 ∧ ready.fixedDrop 0x1000 = false ∧ ready.fixedDrop 0x1001 = false ∧
    inSetStore 0x541000000 = true ∧ msgIs (reqMsg 3 0x30 0 0x1000 [1, 2]) 3 0x30 = true ∧
    msgIs (reqMsg 3 0x31 2 0x1000 []) 3 0x31 = true ∧ State.reset.storeServed = false ∧
    (ready.setFld AON_PWR_STATUS 2 0 2).storeServed = false := by decide +kernel
theorem witness_submit : ready.regServed = true ∧ ready.aon.resetting = 0 ∧ ready.deviceState = 1 ∧
    ready.rightOf 9 2 = true ∧ ready.queueRec 1 = some queue1 ∧ ready.dbCode 1 1 = 0 ∧
    1 = wrapAdd (ready.reg (WQ_SQ_TAIL 1)).toNat 1 ∧
    msgIs (reqMsg 1 0x10 1 1 (List.replicate 64 0)) 1 0x10 = true := by decide +kernel

/-- Time 5,000,000; line 3 is a SYSTEM line; a flow of host 9 holds one message behind a gap; endpoint 7 is DUP. -/
def meshed : State :=
  { ready with
    tb := { ready.tb with gcc := 5000000 }
    trg := { ready.trg with modes := [0, 1, 0, 2] }
    net := { ready.net with flows := [{ src := 9, dest := 4, vc := 0, last := 65535, held := [({ reqMsg 0 1 1 0 [] with mseq := 1 }, 4)] }],
                            dups := [(7, 12)] } }
theorem witness_flows : msgIs (reqMsg 4 0x41 0 0 []) 4 0x41 = true ∧ meshed.aon.rtcSub < 2 ^ 15 ∧
    meshed.now ≤ 5000000 + meshed.fld GLB_TB_XLAT 15 0 ∧ 0 + meshed.fld GLB_TB_XLAT 15 0 < meshed.now ∧
    (∀ w ∈ meshed.net.flows, meshed.net.flows.filter (fun x => x.src == w.src && x.vc == w.vc) = [w] ∧
      (w.held.map Prod.snd) = [4] ∧ within 2 256 ((1 + 2 ^ 16 - w.last) % 2 ^ 16) = true) ∧
    meshed.net.dups.find? (fun d => d.1 == 7) = some (7, 12) ∧ ready.net.dups.find? (fun d => d.1 == 7) = none ∧
    ready.net.flows = [] := by decide +kernel

/-- Lines 0 to 3 are OFF, LOCAL, LOCAL and SYSTEM; lines 1 and 15 are armed; events are due at 32; line 3 re-arms at 20. -/
def lined : State :=
  { ready.setReg XTB_STATUS 0x88002 with
    tb := { ready.tb with gcc := 40 }
    trg := { ready.trg with modes := [0, 1, 1, 2], fires := [⟨0, 32, false⟩, ⟨1, 32, false⟩, ⟨2, 32, false⟩, ⟨2, 32, false⟩],
                            rearmAt := [(3, 20)], rearmTo := 8 } }
theorem witness_trigger_lines : lined.chipNum = none ∧ lined.lineMode 2 = 1 ∧ lined.lineMode 3 = 2 ∧
    nextFire 0 lined.trg.fires = some ⟨0, 32, false⟩ ∧ nextFire 1 lined.trg.fires = some ⟨1, 32, false⟩ ∧
    nextFire 2 lined.trg.fires = some ⟨2, 32, false⟩ ∧ nextFire 5 lined.trg.fires = none ∧
    (lined.trg.rearmAt.any (fun x => x.1 == 1 && decide (x.2 ≤ 32))) = false ∧ lined.lineMode 0 = 0 ∧ lined.lineMode 1 ≠ 0 ∧
    lined.armed 1 = true ∧ lined.armed 2 = false ∧ lined.ops = [] ∧ lined.targets 1 = [] ∧
    lined.trg.rearmAt.find? (fun x => x.1 == 3) = some (3, 20) ∧ lined.rearming 3 = true ∧ lined.rearming 2 = false := by decide +kernel
theorem test_line_rearm : (after (.lineRearm 3) lined).armed 3 = true ∧ (after (.triggerLineFire 2) lined).reg (XTB_MISSED 2) = 2 ∧
    (after (.xtbFire 0x7) lined).trg.fires.length = 6 := by decide +kernel

theorem witness_staging : ready.storeServed = true ∧ ready.rightOf 9 4 = true ∧
    msgIs (reqMsg 3 0x30 0 0x540FFFFFE [1, 2]) 3 0x30 = true ∧ inStaging 0x540FFFFFF = true ∧ inStaging 0x541000000 = false ∧
    (ready.setShadow 1).shadowState = 1 ∧ (ready.setShadow 1).storeServed = true ∧ ready.shadowState ≠ 1 ∧
    (after (.storeWr (reqMsg 3 0x30 0 0x540FFFFFE [1, 2])) (ready.setShadow 1)).reg CFG_STAGE_DROPS = 1 ∧
    (after (.storeWr (reqMsg 3 0x30 0 0x540FFFFFE [1, 2])) ready).byte 0x540FFFFFF = 2 := by decide +kernel

/-- Port 2 in a state, 9,000,000 steps after it entered it. -/
def portIn (v : Nat) : State :=
  ({ ready with tb := { ready.tb with gcc := 9000000 } } : State).setFld (APL_STATUS 2) 2 0 v
/-- Port 2 has what IDENT needs: a host of number 9 has shown itself, or a chip without a number. -/
def identified (host : Bool) : State :=
  let f := sealFlit ([2, 0, 0, 0, 0, 0, 0, 0, 0, 0, 0, 0] ++ leBytes 1 1 ++ leBytes 1 (if host then 1 else 0) ++ leBytes 2 1 ++
    leBytes 2 (if host then 9 else 0xFFFF) ++ leBytes 2 0 ++ leBytes 8 77)
  (portIn 3).setPort 2 { portDefault 2 with lastIdent := some f, same := 2, exchanges := 0, lats := List.replicate 64 32 }
set_option maxRecDepth 100000 in
theorem witness_ports : (portIn 0).portState 2 = 0 ∧ (portIn 1).portState 2 = 1 ∧ (portIn 5).portState 2 = 5 ∧
    ((portIn 2).port 2).since + 8000000 ≤ (portIn 2).now ∧ ((portIn 3).port 2).since + 800000 ≤ (portIn 3).now ∧
    ((identified true).port 2).lastIdent.map (fun f => (idHost f, idEp f, idUid f)) = some (true, 9, 77) ∧
    ((identified false).port 2).lastIdent.map (fun f => (idHost f, idEp f, idUid f)) = some (false, 65535, 77) ∧
    1024 ≤ (((portIn 5).setPort 2 { portDefault 2 with cleanRow := 1024 }).port 2).cleanRow ∧ ((portIn 5).port 2).cleanRow < 1024 ∧
    (identified true).portState 2 = 3 ∧ 64 ≤ ((identified true).port 2).lats.length ∧ (portIn 4).ops = [] := by decide +kernel
theorem witness_ports_up : (∀ vc, ((portIn 4).port 2).pendingOf vc = []) ∧ (portIn 4).portState 2 = 4 ∧
    8 ≤ (((portIn 4).setPort 2 { portDefault 2 with nakCount := 8 }).port 2).nakCount ∧
    ((portIn 4).port 2).nakCount < 8 ∧ ((portIn 4).port 2).badRow < 16 ∧ ((portIn 4).port 2).unacked = [] := by
  refine ⟨fun vc => ?_, by decide +kernel, by decide +kernel, by decide +kernel, by decide +kernel, by decide +kernel⟩
  have h : (portIn 4).port 2 = portDefault 2 := by decide +kernel
  rw [h]
  match vc with
  | 0 | 1 | 2 | 3 | 4 => rfl
  | n + 5 =>
    have e : (default : Port).unacked = [] := rfl
    simp [Port.pendingOf, portDefault, List.getD, e]

/-- A REG_RD to the neighbour of one word at address 0, whole in one flit, with an LSEQ. -/
def flitRd (lseq : Nat) : Flit :=
  stampFlit (dataFlit 0 epNeighbour 0xFFFF 63 { first := true, last := true, poison := false, relay := none, abort := false }
    (msgBytes { (default : Msg) with op := 1, arg := 1, flowStart := true })) lseq 0
set_option maxRecDepth 100000 in
theorem witness_flits : (portIn 4).portUp 2 = true ∧ ((portIn 4).port 2).gap = false ∧ flitCrcOk (flitRd 0 + 1) = false ∧
    flitCrcOk (flitRd 0) = true ∧ flitAlien (sealFlit [3]) = true ∧ flitAt (flitRd 0) 8 2 % 4096 = ((portIn 4).port 2).expect ∧
    flitAt (flitRd 5) 8 2 % 4096 ≠ ((portIn 4).port 2).expect ∧ flitLegal (flitRd 0) = true ∧ flitDest (flitRd 0) = epNeighbour ∧
    flitFirst (flitRd 0) = true ∧ flitLast (flitRd 0) = true ∧ flitAbort (flitRd 0) = false ∧ flitOp (flitRd 0) = 1 ∧
    (msgOf 2 [flitRd 0]).op = 1 ∧ (portIn 4).flow? (msgOf 2 [flitRd 0]) = none ∧ flitLegal (ctrlFlit []) = false ∧
    flitCrcOk (ctrlFlit []) = true ∧ (portIn 1).portState 2 < 2 ∧ (portIn 3).portUp 2 = false ∧
    (((portIn 4).setPort 2 { portDefault 2 with unacked := [(flitRd 7, 0)] }).port 2).unacked.map (fun x => flitAt x.1 8 2) = [7] := by
  decide +kernel

/-- An ADVERT flit of one entry: endpoint 9 at distance 3, UID 77. -/
def flitAdvert : Flit := ctrlFlit (leBytes 1 6 ++ leBytes 1 1 ++ leBytes 2 0 ++ leBytes 2 9 ++ leBytes 1 3 ++ leBytes 2 100 ++ leBytes 8 77)
set_option maxRecDepth 100000 in
theorem witness_adverts : (portIn 3).portState 2 = 3 ∧ (portIn 4).portState 2 = 4 ∧ (portIn 4).portUp 2 = true ∧
    (portIn 4).facesHost 2 = false ∧ flitAt flitAdvert 13 1 = 1 ∧ flitAt flitAdvert 18 1 < 62 ∧
    (portIn 4).chipNum ≠ some (flitAt flitAdvert 16 2 % 1024) ∧ (portIn 3).portUp 2 = false ∧
    ctlFlit 6 flitAdvert = true ∧ ctlFlit 1 (ctrlFlit [1]) = true ∧ ctlFlit 4 (ctrlFlit [4]) = true ∧ ctlFlit 5 (ctrlFlit [5]) = true ∧
    ctlFlit 5 (ctrlFlit [5, 63]) = true ∧ flitAt (ctrlFlit [5, 63]) 13 1 = 63 ∧
    idEp (ctrlFlit [1]) < 1024 ∧ idUid (ctrlFlit (leBytes 8 1 ++ leBytes 8 5)) ≠ (portIn 4).reg64 (APL_PEER_UID_LO 2) (APL_PEER_UID_HI 2) ∧
    ctlFlit 1 (ctrlFlit (leBytes 8 1 ++ leBytes 8 5)) = true ∧ ctlFlit 1 (ctrlFlit (leBytes 4 1 ++ leBytes 2 0xFFFF)) = true ∧
    idUid (ctrlFlit [1]) = (portIn 4).reg64 (APL_PEER_UID_LO 2) (APL_PEER_UID_HI 2) ∧
    1024 ≤ idEp (ctrlFlit (leBytes 4 1 ++ leBytes 2 0xFFFF)) ∧
    (((portIn 4).setPort 2 { portDefault 2 with exchanges := 64 }).port 2).exchanges = 64 ∧
    flitAt (ctrlFlit [5]) 13 1 = 64 - 64 ∧ ready.bitAt APL_CHIP_NUM 31 = false ∧ (0x80000005 : Word).field 30 10 = 0 ∧
    (ready.setReg APL_CHIP_NUM 0x80000005).chipNum = some 5 ∧ ready.primary 5 = none ∧
    (after (.advert 2 flitAdvert) (portIn 4)).net.cands.map (fun c => (c.ep, c.port, c.dist)) = [(9, 2, 4)] ∧
    ({ (portIn 4) with net := { ready.net with cands := [⟨9, 2, 4, 0, 77, false, false, 0⟩] } } : State).net.cands.find?
      (fun x => x.ep == 9 && x.port == 2) = some ⟨9, 2, 4, 0, 77, false, false, 0⟩ := by decide +kernel

/-- Port 2 UP with a flit to send on VC0, one to send again, a CREDIT flit behind an IDENT flit. -/
def sendingPort (ctl again : Bool) : State :=
  (portIn 4).setPort 2 { portDefault 2 with
    ctrl := if ctl then [ctrlFlit [1], ctrlFlit [2]] else []
    resend := if again then [flitRd 7] else []
    unacked := if again then [(flitRd 7, 0)] else []
    queue := [[flitRd 0], [], [], [], []] }
set_option maxRecDepth 100000 in
theorem witness_transmit : (portIn 0).portState 2 < 3 ∧ (sendingPort true true).portState 2 = 4 ∧
    ((sendingPort true true).port 2).ctrl.filter isUrgent = [ctrlFlit [2]] ∧ ((sendingPort false true).port 2).ctrl = [] ∧
    ((sendingPort false true).port 2).resend = [flitRd 7] ∧ ((sendingPort false false).port 2).resend = [] ∧
    ((sendingPort false false).port 2).nextVc = some 0 ∧ ((sendingPort false false).port 2).queue.length = 5 ∧
    ((portIn 4).port 2).nextVc = none ∧ (portIn 3).portState 2 = 3 ∧ ((portIn 3).port 2).ctrl = [] ∧
    256 ≤ ((({ portDefault 2 with unacked := List.replicate 256 (0, 0) }) : Port)).unacked.length ∧ ((portIn 4).port 2).unacked.length < 256 := by decide +kernel

/-- Cluster 2 with timing set 3 staged as a legal set (a period of 1,024 and edges at 0 with FMT 0) or not. -/
def staged2 (period : Word) : State := ready.setReg (tsAddr 2 3) period
/-- A PATTERN_RUN of site 0 holds its cluster, 0. -/
def holding0 (work : Work) (opc : Desc) : State :=
  { ready with
    ops := [{ (default : Op) with asn := 4, queue := 1, seq := 1, desc := opc, phase := .running, started := true, work := work }] }
theorem witness_commits : ready.islandMode 2 = 0 ∧ (ready.setIslandMode 2 1).islandMode 2 ≠ 0 ∧
    ((staged2 1023).tsFirst 2 (bitsOf 8 64)) = some (1, 3, 255) ∧ ((staged2 1024).tsFirst 2 (bitsOf 8 64)) = none ∧
    ready.clusterHeld 2 = false ∧ lvFirst 7 ((maskChans 2 0).map (fun c => (c, ready.staged c))) = none ∧
    (lvFirst 7 ((maskChans 2 1).map (fun c => (c, (ready.setReg (CH_CFG 64 + 8) 0xFFFF).staged c)))).isSome = true := by decide +kernel
/-- A TSET_LOAD of one set into cluster 0 runs; its block is at 0x1000. -/
def tsetRun (period : Nat) : State :=
  { ready.writeBytes 0x1000 (leBytes 4 period) with
    ops := [{ (default : Op) with asn := 4, queue := 1, seq := 1, desc := 0x12 + 2 ^ 256 * (1 + 2 ^ 24 + 2 ^ 64 * 0x1000),
                                  phase := .running, started := true }] }
set_option maxRecDepth 100000 in
theorem witness_tset_load : ((tsetRun 1024).running? 4 0x12).map (fun o => (o.pay 3 1, bitsOf (o.pay 0 2) 16, o.pay 8 8)) = some (1, [0], 0x1000) ∧
    ((tsetRun 1024).running? 4 0x12).map (fun o => tsCheck (tsetBlock (tsetRun 1024) o 0)) = some none ∧
    ((tsetRun 1).running? 4 0x12).map (fun o => tsCheck (tsetBlock (tsetRun 1) o 0)) = some (some (1, 255)) ∧
    ({ tsetRun 1 with poison := [0x200] } : State).poison.contains (0x1000 / 8) = true := by decide +kernel
theorem witness_tset_clean : (tsetRun 1024).poisonIn 0x1000 1024 = false := by
  have h : (tsetRun 1024).reg MEM_GROUP_LOST = 0 := by decide +kernel
  have p : (tsetRun 1024).poison = [] := by decide +kernel
  simp [State.poisonIn, State.poisonAt, h, p]

/-- An operation of level work on channel 0 is running. -/
def levelled (opc : Desc) (w : LevWork) : State := holding0 (.levels w) opc
def lev0 (wrote : Bool) : LevWork := { chans := [0], wrote := wrote, count := 0, saved := [], volts := [] }
theorem witness_levels : ((levelled 4 (lev0 false)).running? 4 4).isSome = true ∧
    ((levelled 4 (lev0 false)).running? 4 4).map (fun _ => settledAt (levelled 4 (lev0 true)) [0]) = some 0 ∧
    ((levelled 0x11 (lev0 false)).running? 4 0x11).isSome = true ∧ (levelled 4 (lev0 false)).clusterHeld 0 = true ∧
    ((levelled 5 { lev0 true with count := 1 }).running? 4 5).map (fun o => (o.aborting, o.faulting)) = some (false, false) := by
  decide +kernel
theorem witness_levels_check : ((levelled (4 + 2 ^ 448 * 5000) (lev0 false)).running? 4 4).map (fun o =>
      lvFirst 7 [(0, forceWords (levelled (4 + 2 ^ 448 * 5000) (lev0 false)) o 0)]) = some none ∧
    (lvFirst 8 [(0, fun _ => 0xFFFF)]).isSome = true := by decide +kernel
set_option Elab.async false in
theorem witness_levels_contact : contactStep4 { (default : Op) with desc := 5 } 0 + 4000 ≤ 10000000 := by decide +kernel
theorem witness_levels_pins :
    let s := ready.setChan 0 { ready.chan 0 with pinReset := false }
    let t := (s.setLive (CH_CFG 0) 3).setLive (CH_PMU_CTRL 0) 2
    s.liveMode 0 = 0 ∧ s.clampNow 0 = 0 ∧ t.liveMode 0 = 3 ∧ t.clampNow 0 ≠ 0 ∧ t.contactHolds 0 = false ∧
    (levelled 5 (lev0 true)).contactHolds 0 = true ∧ (t.bitAt (CH_PMU_STATUS 0) 1) = false ∧ (s.chan 0).switching = none := by
  decide +kernel

/-- A SEGMENT_LOAD of 4 bytes into segment 5 at 0x10000 runs: COPY from 0x20000 or STREAM, with a CRC. -/
def loading (took : Bool) (mode crc counted : Nat) : State :=
  { ready with
    ops := [{ (default : Op) with
      asn := 6, queue := 1, seq := 1, phase := .running, started := true
      desc := 2 + 2 ^ 256 * (5 + 2 ^ 16 * mode + 2 ^ 24 * 2 + 2 ^ 64 * 1 + 2 ^ 96 * BitVec.ofNat 512 crc + 2 ^ 128 * 0x10000 + 2 ^ 192 * 0x20000)
      work := .load { took := took, counted := counted, partials := [], done := [] } }] }
theorem witness_segment_load : ((loading false 0 0 0).running? 6 2).map (fun o => (loadSeg o, (loading false 0 0 0).loadBusy o)) =
      some (5, none) ∧
    ((loading true 1 0 9).running? 6 2).map (fun o => (o.pay 2 1, decide (loadBlocks o ≤ 9))) = some (1, true) ∧
    ((loading true 1 0 9).running? 6 2).map (fun o => decide (crc32 ((loading true 1 0 9).bytes (loadBase o) (loadDataLen o.desc)) =
      o.pay 0xC 4)) = some false ∧
    ({ ready with trg := { ready.trg with segPulses := [(3, 0, 0)] } } : State).trg.segPulses.find? (fun x => x.1 == 3) = some (3, 0, 0) ∧
    ready.trg.segPulses.find? (fun x => x.1 == 3) = none := by decide +kernel
/-- The CRC-32 of the data that the loads of these tests see: two bytes of zero (its length is the spec's for their geometry). -/
theorem witness_segment_load_crc : ((loading true 1 (crc32 (List.replicate 2 0)) 9).running? 6 2).map
    (fun o => (loadDataLen o.desc, decide (crc32 (List.replicate (loadDataLen o.desc) 0) = o.pay 0xC 4))) = some (2, true) := by decide +kernel

/-- A run of one sequencer on cluster 0: one segment of two vectors, whose second vector is due, or whose end is. -/
def runTable : List TabEnt := [⟨1, 0, 5, 0, 0, 0, 0⟩, ⟨5, 0, 0, 0, 0, 0, 0⟩]
def runBound (chosen : Option PlayAt) (cond : Option (Nat × Nat)) (decided : Bool) : Bound :=
  { res := ⟨cond, ⟨none, []⟩, ⟨none, []⟩⟩, chosen := chosen, armed := [5], lacking := [], judged := true, late := false, decided := decided,
    decidedAt := 0, taken := false, lateTrig := 0, lateReq := 0 }
def runWork (vectors : Nat) (ahead : List Bound) (stopAt : Option Nat) : RunWork :=
  { (default : RunWork) with
    seqMask := 1, clusters := [0], table := runTable, ahead := ahead, vectors := vectors, stopAt := stopAt
    ending := stopAt.map (fun _ => (0, 0, 0))
    plays := [{ base := 0, entry := 0, seg := 5, info := 0x104, vcount := 2, addr := 0x10000 }] }
def running (vec : Nat) (w : RunWork) : State :=
  (holding0 (.run w) (1 + 2 ^ 256 * 1)).setClu 0 { cluDefault 0 with run := some 4, vec := vec }
theorem witness_runs : ((running 1 (runWork 1 [] none)).runOf 4).map Prod.snd = some (runWork 1 [] none) ∧
    (runWork 1 [] none).stop = none ∧ ((running 1 (runWork 1 [] none)).clu 0).run = some 4 ∧ (runWork 1 [] none).endVec = 2 ∧
    ((running 1 (runWork 1 [] none)).clu 0).sNext / 4096 ≤ (running 1 (runWork 1 [] none)).now ∧
    ((running 1 (runWork 1 [] none)).runOf 4).map (fun p => (nextPlace p.1 p.2).isSome) = some true ∧
    (runWork 1 [runBound none (some (1, 0)) false] none).ahead.drop
      ((runWork 1 [runBound none (some (1, 0)) false] none).ahead.takeWhile Bound.decided).length = [runBound none (some (1, 0)) false] ∧
    (∀ k ∈ (runWork 2 [] (some 2)).clusters, 2 ≤ ((running 2 (runWork 2 [] (some 2))).clu k).vec) ∧
    (∀ k ∈ (runWork 2 [] (some 2)).clusters, (running 2 (runWork 2 [] (some 2))).holdsRecords k 4 = false) := by decide +kernel
theorem witness_run_boundary : (runWork 2 [runBound (some ⟨some 0, []⟩) none true] none).endVec = 2 ∧
    (entAt runTable 0).seg = 5 ∧ (runBound (some ⟨some 0, []⟩) none true).lacking = [] ∧
    (running 2 (runWork 2 [] none)).boundaryFine (runWork 2 [] none) [] / 4096 ≤ (running 2 (runWork 2 [] none)).now ∧
    (running 2 (runWork 2 [] none)).segState 5 = 0 ∧ ((running 2 (runWork 2 [] none)).setReg (SEG_D_INFO 5) 2).segState 5 = 2 ∧
    ((running 2 (runWork 2 [] none)).setReg (SEG_D_INFO 5) 2).fld (SEG_D_INFO 5) 15 12 + 1 = (runWork 2 [] none).seqs.length := by decide +kernel
theorem dataBad_clean (s : State) (h : s.reg MEM_GROUP_LOST = 0) (a n : Nat) : s.dataBad a n =
    if (List.range n).any (fun i => s.poison.contains ((a + i) / 8)) then some 0xE else none := by
  simp [State.dataBad, State.poisonIn, State.poisonAt, h]
theorem witness_run_plays : (running 1 (runWork 1 [] none)).endsBefore (runWork 1 [] none) 1 = none := by
  have h : (running 1 (runWork 1 [] none)).reg MEM_GROUP_LOST = 0 := by decide +kernel
  simp only [State.endsBefore, dataBad_clean _ h]
  decide +kernel
/-- The same run with a poison tag on the data of its second vector. -/
def poisonedRun : State := { running 1 (runWork 1 [] none) with poison := [8192] }
theorem witness_run_ends : poisonedRun.endsBefore (runWork 1 [] none) 1 = some (0xE, 0, 6) := by
  have h : poisonedRun.reg MEM_GROUP_LOST = 0 := by decide +kernel
  simp only [State.endsBefore, dataBad_clean _ h]
  decide +kernel

/-- Fountain 3 with a program of one instruction, a plain step, and a refresh interval. -/
def springs (asn : Option Nat) (interval : Nat) : State :=
  ready.setFnt 3 { fntDefault 3 with asn := asn, prog := [0], lcs := List.replicate 8 0, refInterval := interval }
theorem witness_fountains : ((springs (some 4) 0).fnt 3).alive = true ∧ ((springs none 0).fnt 3).alive = false ∧
    ((springs (some 4) 0).fnt 3).refInterval = 0 ∧ ((springs (some 4) 1).fnt 3).refInterval ≠ 0 ∧
    (springs (some 4) 1).refreshNear 3 = true ∧ (springs (some 4) 0).refreshNear 3 = true ∧
    popCount (flippedBits [(0, 1)] 0).toNat 128 = 1 ∧ popCount (flippedBits [(0, 3)] 0).toNat 128 = 2 := by decide +kernel
theorem test_fountain : ((after (.fountainInstruction 3 []) (springs (some 4) 1)).fnt 3).emitted = 1 ∧
    (after (.refreshInterval 3) (springs (some 4) 1)).fld (FNT_REF_STATUS 3) 7 0 = 1 ∧
    (after (.fountainInstruction 3 [(0, 1)]) (springs (some 4) 1)).reg (FNT_ECC_CORR 3) = 1 := by decide +kernel

/-- The set of `ready` with a Basin of two records for site 0, and a cluster at work for it: pin 0 expects LOW. -/
def basin0 : Region := { kind := 3, owner := 0, mode := 1, hwm := 128, base := 0x300000, size := 4096 + 64 }
def capturing : State :=
  let s : State := { ready with
    cfg := { ready.cfg with active := some { set1 with regions := [basin0] } }
    ops := [{ (default : Op) with asn := 4, queue := 1, seq := 1, desc := 1, phase := .running, started := true, work := .run default }] }
  s.setClu 0 { (default : Clu) with strobes := [{ (default : Strobes) with asn := 4, pins := [(0, 2, false)], lastAt := [(0, 0)] }] }
theorem witness_vector_result : (((capturing.clu 0).strobes.find? (fun b => b.vec == 0)).map (fun b => b.open_)) = some [(0, 0)] ∧
    ((capturing.strobeResults 0 [(0, [9000000])] [(0, 2, false)]).1.map Result.failed) = [true] ∧
    ((capturing.strobeResults 0 [(0, [-9000000])] [(0, 2, false)]).1.map Result.failed) = [false] ∧
    capturing.inOrder ((capturing.clu 0).strobes.headD default) 0 [0] = true ∧
    ((capturing.clu 0).strobes.find? (fun b => b.vec == 1)).isNone = true ∧
    (capturing.runOf 4).map (fun x => x.2.clearedAt) = some 0 := by decide +kernel
theorem test_vector_result : (after (.vectorResultComplete 0 0 [(0, [9000000])]) capturing).reg (CMP_FAILCNT 0 0) = 1 ∧
    (after (.vectorResultComplete 0 0 [(0, [9000000])]) capturing).bhead basin0 0x10 8 = 1 ∧
    ((after (.vectorResultComplete 0 0 [(0, [9000000])]) capturing).clu 0).formed.map Rec32.site = [0] ∧
    ((after (.vectorResultComplete 0 0 [(0, [-9000000])]) capturing).clu 0).formed = [] := by decide +kernel
theorem witness_basin : (capturing.setClu 0 { (default : Clu) with formed := [default] }).basinOf 0 = some basin0 ∧
    (({ capturing with clus := [] } : State).setClu 0 { (default : Clu) with formed := [default] }).recordWaits 0 default = false ∧
    ((capturing.setClu 0 { capturing.clu 0 with formed := [default] }).recordWaits 0 { (default : Rec32) with asn := 4, vec := 1 }) = true ∧
    ((capturing.setClu 0 { (default : Clu) with feeder := [{ (default : Rec32) with ix := 1 }] }).clu 0).feeder.map Rec32.ix = [1] ∧
    basinCap basin0 = 2 ∧ basinH basin0 = 1 ∧ (holding0 .nothing (0xB + 2 ^ 256 * 2)).mayClear 0 = false ∧
    ({ capturing with ops := [] } : State).mayClear 0 = true ∧ capturing.basinOf 3 = none ∧ ready.basinOf 0 = none := by decide +kernel
theorem test_basin : (after (.feederEntry 0) (capturing.setClu 0 { (default : Clu) with formed := [default] })).bhead basin0 8 8 = 1 ∧
    (after (.basinRecordStore 0) (capturing.setClu 0 { (default : Clu) with feeder := [{ (default : Rec32) with bits := 7 }] })).byte
      0x301000 = 7 ∧
    (after (.basinRecordStore 0) (capturing.setClu 0 { (default : Clu) with feeder := [{ (default : Rec32) with ix := 2 }] })).bhead
      basin0 0x18 8 = 1 := by decide +kernel
set_option Elab.async false in
theorem witness_feeder_full : feederDepth ≤ (List.replicate 2048 (default : Rec32)).length := by decide +kernel

/-- An ACQUIRE of 32 steps a sample on ring 0: TRIGGERED with one frame and POST 1, or STREAM. -/
def acquiring (stream : Bool) (r : Ring) : State :=
  (holding0 (.acquire { (default : AcqWork) with records := 0 }) (0xA + 2 ^ 256 * (1 + (if stream then 0x10000 else 0) + 2 ^ 128 * 0xFFFFFFFF +
    2 ^ 160 * 0x20000 + 2 ^ 192 * 2))).setClu 0 { (default : Clu) with ring := { r with asn := some 4 } }
theorem witness_rings : ((acquiring true default).ringOp 0).map (fun o => (acqStream o, o.pay 0x14 4, acqLimit o, acqRings o)) =
      some (true, 0x20000, none, [0]) ∧
    ((acquiring false default).ringOp 0).map (fun o => (acqStream o, acqDepth o, acqInstant o 0 / 4096)) = some (false, 16382, 0) ∧
    ((acquiring false { (default : Ring) with st := 2, rearmAt := 0 }).ring 0).st = 2 ∧
    ((acquiring false { (default : Ring) with st := 2, rearmAt := 0 }).running? 4 0xA).map (fun o => 2 ^ o.pay 5 1) = some 1 ∧
    ((acquiring false { (default : Ring) with st := 3 }).ring 0).st = 3 ∧ (acquiring true default).ringBusy 0 = false ∧
    (acquiring false default).ringBusy 0 = true ∧ (acquiring true default).islandMode 0 = 0 ∧
    (after (.acqNext 0 []) (acquiring true { (default : Ring) with recs := [1, 2] })).fld (ACQ_RD_STATUS 0) 7 0 = 0 := by decide +kernel
theorem witness_ring_samples :
    ((after (.acqSample 0 [] []) (acquiring true default)).ring 0).recs.length = 1 ∧
    ((after (.acqSample 0 [] []) (acquiring false { (default : Ring) with st := 1, postLeft := 1, k := 0 })).ring 0).st = 2 ∧
    ((acquiring true { (default : Ring) with k := 0x800000 }).ring 0).k * 0x20000 = 2 ^ 40 := by decide +kernel
/-- An UPLOAD of a store range of 128 bytes to the chip's own number, its two items waiting or in flight. -/
def uploading (ep : Nat) (fly done : Bool) : State :=
  let it : List UplItem := [stagedItem 0 (List.replicate 64 1) 0, stagedItem 1 (List.replicate 64 2) 0]
  let s := holding0 (.upload { (default : UplWork) with
    ep := ep, next := 2, limit := 2, srcEnded := done, fifo := if fly then [] else it, flight := if fly then [it] else [] })
    (0xB + 2 ^ 256 * (1 + 2 ^ 16 * 1 + 2 ^ 24 * 8 + 2 ^ 128 * 0x1000 + 2 ^ 192 * 128))
  s.setReg APL_CHIP_NUM 0x80000005
theorem witness_uploads : ((uploading 5 false true).uplOf 4).map (fun x => (uplFollow x.1, x.1.pay 0 1, (uploading 5 false true).reachable x.2.ep,
      itemBytes x.2.fifo, x.1.pay 2 1 * 128)) = some (false, 1, true, 128, 128) ∧
    ((uploading 9 false true).uplOf 4).map (fun x => (uploading 9 false true).reachable x.2.ep) = some false ∧
    ((uploading 5 true true).uplOf 4).map (fun x => uplDone x.1 { x.2 with flight := [], delivered := 128 }) = some true ∧
    ((uploading 5 true false).uplOf 4).map (fun x => uplDone x.1 { x.2 with flight := [], delivered := 128 }) = some false ∧
    (uploading 5 false true).aon.resetting = 0 ∧
    (after (.uploadPacket 4 []) (uploading 5 false true)).net.inbox.map (fun m => (m.op, m.arg, m.body.length)) = [(0x30, 0, 128)] := by
  decide +kernel

/-- A MEASURE of one kept sample on site 0 runs; `raw` asks for raw words, and `n` is the number of its next sample. -/
def measuring (raw : Bool) (n kept : Nat) : State :=
  let s := holding0 (.measure { (default : MeasWork) with chans := [{ (default : ChStat) with ch := 0, kept := kept, maskHi := 100 }] })
    (3 + 2 ^ 256 * (2 ^ 16 * 1 + 2 ^ 48 * 1 + 2 ^ 136 * (if raw then 6 else 4) + 2 ^ 144 * 1 + 2 ^ 192 * 0x40))
  ({ s with tb := { s.tb with gcc := 100000 }, ops := s.ops.map (fun o => { o with atAccept := [0] }) } : State).setClu 0 { (default : Clu) with sampleNo := [(0, n)] }
theorem witness_sync : ((ready.setClu 3 { (default : Clu) with syncAt := [0] }).clu 3).syncAt = [0] ∧
    ready.measHolder 3 = none ∧ ready.islandMode 3 = 0 ∧ (ready.setIslandMode 3 1).islandMode 3 ≠ 0 ∧ ready.sampleAt 0 0 ≤ ready.now ∧
    (after (.measSync 3) ready).clu 3 = { ready.clu 3 with syncAt := [256] } := by decide +kernel
theorem witness_measure : ((measuring true 6 0).running? 4 3).map (fun o => (measFirst o, measKept o, measBuf o, (measuring true 6 0).sampleAt 0 6)) =
      some (6, 1, 0x1000, 4800) ∧
    ((measuring true 6 0).measureOn 0).map (fun x => (measNeed x.1 x.2, measDue x.1 x.2)) = some (1, 7200) ∧
    (measuring true 6 0).nextSample 0 = 6 ∧ ((measuring true 6 0).measHolder 0).isSome = true ∧
    (measuring true 6 0).op? 4 = (measuring true 6 0).measHolder 0 := by decide +kernel
theorem test_measure : (after (.measSampleOutput 0 0 77 false) (measuring true 6 0)).nextSample 0 = 7 ∧
    (after (.measSampleOutput 0 0 77 false) (measuring true 6 0)).bytes 0x1000 4 = [0, 0, 0, 4] ∧
    (after (.measureEnd 4) (measuring false 7 1)).bytes 0x1002 1 = [8] ∧
    ((after (.measureEnd 4) (measuring false 7 1)).op? 4).map (fun o => (o.phase, o.status, o.detail)) = some (.ended, 0, 2 ^ 16) := by
  decide +kernel

/-- An AWG_PLAY of 10 steps on analog channel 0 plays since GCC 0. -/
def playing (armed : Bool) (gcc : Nat) : State :=
  let s := holding0 (.play { (default : PlayWork) with begun := true, armed := armed, ratio := 1, seed := 1 }) (7 + 2 ^ 256 * (2 ^ 32 * 10))
  ({ s with tb := { s.tb with gcc := gcc } } : State).setAnState 0 4
def digitizing (taken : Nat) (bad : Option Nat) : State :=
  let s := holding0 (.digitize { (default : DigWork) with taken := taken, buf := List.replicate taken 0x10, violation := bad, mask := some (-10, 10) })
    (8 + 2 ^ 256 * (2 ^ 8 * 12 + 2 ^ 32 * 2 + 2 ^ 128 * 0x4000))
  { s with tb := { s.tb with gcc := 1000 } }
def fading (pend : Option (Bool × Nat)) : State :=
  (playing false 5000).setAna 0 { (default : Ana) with fadeStart := 0, fadeEnd := some 300, pend := pend, swaps := [(256, true, 300)] }
theorem witness_analog : (ready.setIslandMode 16 1).islandMode 16 ≠ 0 ∧ ready.islandMode 16 = 0 ∧ ready.awgOp 0 = none ∧
    (ready.setAnState 0 1).anState 0 = 1 ∧ (1 : Word).field 1 0 ≠ ready.fld (AN_STATUS 0) 4 3 ∧
    (0x10000100 : Word).field 31 28 = 1 ∧ within 256 65536 ((0x10000100 : Word).field 16 0) = true ∧
    within 256 65536 ((0x10000000 : Word).field 16 0) = false ∧ ready.bitAt (AN_STATUS 0) 6 = false ∧
    ((ready.setAna 0 { (default : Ana) with saving := some 5, muteUntil := some 0 }).ana 0).saving = some 5 ∧
    ready.bitAt (AN_RS_STATUS 0) 22 = false ∧ (after (.outRangeWrite 0 1) (ready.setAnState 0 1)).anState 0 = 2 := by decide +kernel
theorem witness_play : ((playing false 10).running? 4 7).map (fun o => (o.pay 0 1, o.pay 4 4, o.aborting, o.faulting)) =
      some (0, 10, false, false) ∧ (playing false 10).anState 0 = 4 ∧
    ((playing false 10).running? 4 7).bind (fun o => (awgWork o).bind (fun w => (playing false 10).badSample o w 150)) = none ∧
    ((fading none).awgOp 0).isSome = true ∧ ((fading none).ana 0).fadeEnd = some 300 ∧ 64 + ceilDiv 300 15 ≤ (fading none).now ∧
    (((playing false 5000).setAna 0 { (default : Ana) with swaps := [(256, true, 300)] }).ana 0).swaps = [(256, true, 300)] := by
  decide +kernel
theorem test_play : ((after (.awgPlayEnd 4) (playing false 10)).op? 4).map (fun o => (o.phase, o.status, o.detail)) =
      some (.ended, 0, 150) ∧ (after (.awgPlayEnd 4) (playing false 10)).anState 0 = 1 ∧
    (after (.fadeEnd 0) (fading (some (true, 400)))).fld (AN_RS_STATUS 0) 16 0 = 400 ∧
    (after (.bankSwapTakeEffect 0) (fading none)).bitAt (AN_RS_STATUS 0) 24 = true := by decide +kernel
theorem witness_digitize : ((digitizing 0 none).running? 4 8).map (fun o => (o.pay 0 1, o.pay 4 4, o.aborting, o.faulting)) =
      some (0, 2, false, false) ∧ ((digitizing 2 none).running? 4 8).isSome = true ∧
    ((digitizing 1 none).running? 4 8).map (fun o => digOver o { (default : DigWork) with taken := 1, violation := none }) = some false ∧
    ((digitizing 2 none).running? 4 8).map (fun o => digOver o { (default : DigWork) with taken := 2 }) = some true := by decide +kernel
theorem test_digitize : (after (.digitizerSample 4 11 1) (digitizing 1 none)).bytes 0x4000 2 = [0x10, 0] ∧
    (after (.digitizerSample 4 11 0) (digitizing 0 none)).reg (AN_DIG_LAST 0) = 0xB0 ∧
    (after (.digitizerSample 4 11 0) (digitizing 0 none)).bitAt (AN_EVENTS 0) 1 = true ∧
    ((after (.digitizeEnd 4) (digitizing 1 (some 0))).op? 4).map (fun o => (o.status, o.reason)) = some (0xB, 2) ∧
    (after (.digitizeEnd 4) (digitizing 2 none)).bytes 0x4000 4 = [0x10, 0, 0x10, 0] := by decide +kernel

/-- A LANE_TEST of lane 3 of group 0 with RX and, as asked, an eye scan of step 126 in both directions. -/
def testing (step points : Nat) (eye : Bool) (state : Nat) : State :=
  let s := holding0 (.lanes { (default : LaneWork) with
    step := step, points := points, lanes := [{ (default : LaneStat) with lane := 3, present := true }] })
    (9 + 2 ^ 256 * (2 ^ 8 * (if eye then 14 else 6) + 2 ^ 16 * 16 + 2 ^ 32 * 8 + 2 ^ 128 * 100 + 2 ^ 160 * 0x7E7E + 2 ^ 192 * 0x400))
  ({ s with tb := { s.tb with gcc := 2000000 } } : State).setReg (LN_STATUS 0 3) (BitVec.ofNat 32 state)
theorem witness_lanes : ((testing 1 0 false 0).laneTest 4).map (fun x => (ltGroup x.1, x.1.aborting, x.1.faulting, ltEye x.1,
      x.2.lanes.map LaneStat.lane)) = some (0, false, false, false, [3]) ∧
    ((testing 2 0 true 0).laneTest 4).map (fun x => (ltEye x.1, x.2.step, x.1.startGcc + x.2.tPll + 16000, x.1.pay 0x10 4)) =
      some (true, 2, 16000, 100) ∧
    ((testing 4 0 true 0).laneTest 4).map (fun x => decide (0 < eyePoints x.1.desc)) = some true ∧
    ((testing 4 0 false 0).laneTest 4).map (fun x => (x.2.step, ltEye x.1)) = some (4, false) ∧
    ((testing 3 0 false 2).testOn 0).map (fun x => (x.2.step, (x.2.lanes.find? (fun x => x.lane == 3)).map LaneStat.firstErr)) = some (3, some 0) ∧
    ((ready.setReg (LN_STATUS 0 3) 5).laneState 3, (ready.setReg (LN_STATUS 0 3) 5).bitAt (LN_STATUS 0 3) 2) = (1, true) ∧
    (testing 3 0 false 1).laneState 3 = 1 ∧ (testing 3 0 false 2).laneState 3 = 2 ∧ ((testing 3 0 false 2).testOn 0).isSome = true ∧
    ready.testOn 0 = none := by decide +kernel
theorem test_lanes : (after (.laneDirectionsOn 4 true) (testing 1 0 false 0)).bitAt (LG_STATUS 0) 1 = true ∧
    (after (.checkerLockLoss 3 true []) (testing 3 0 false 2)).reg (LN_LOCK_LOSS 0 3) = 1 ∧
    (after (.laneErr 3 [true]) (testing 3 0 false 2)).bitAt (LG_EVENTS 0) 0 = true ∧
    ((after (.laneTestEnd 4) (testing 4 0 false 1)).op? 4).map (fun o => (o.phase, o.status)) = some (.ended, 0) ∧
    (after (.laneTestEnd 4) (testing 4 0 false 1)).laneState 3 = 0 := by decide +kernel

/-- Site 0 owns controller 0 as its rail 0; a DPS_SEQUENCE of one step is at work there. -/
def sequencing (action flags st dst : Nat) (adm : Bool) (arrived : Option Nat) : State :=
  let x : DpsStep := { rail := 0, action := action, flags := flags, setpoint := 30000, slope := 100, gap := 0, ilim := 100 }
  let p : SiteProg := { site := 0, step := 0, st := st, since := 0, arrived := arrived, admitted := adm }
  let s := holding0 (.dps { (default : DpsWork) with steps := [x], sites := [p] }) (6 + 2 ^ 256 * (2 ^ 16 * 1 + 2 ^ 32 * 1))
  (({ s with
            cfg := { s.cfg with active := some { set1 with dpsMap := ⟨0, 0⟩ :: List.replicate 63 ⟨0xFFFF, 0⟩ } }
            tb := { s.tb with gcc := 1000000 } } : State).setReg (DPS_SETPOINT 0) 30000).setDpsState 0 dst
theorem witness_dps : ((sequencing 1 0 2 0 true none).dpsRun 4).map (fun x => ((x.2.site 0).bind
      (fun p => (sequencing 1 0 2 0 true none).siteStep x.2 p)).map (fun y => (y.1.action, y.2))) = some (some (1, 0)) ∧
    (sequencing 1 0 2 0 true none).dpsState 0 = 0 ∧ (sequencing 2 0 2 2 true none).dpsState 0 = 2 ∧
    (sequencing 3 0 0 2 true none).dpsState 0 = 2 ∧ (sequencing 1 0 2 0 true none).dpsOf 0 = [0] ∧
    ((sequencing 1 1 3 2 true (some 0)).bitAt (DPS_STATUS 0) 3) = false ∧ (sequencing 1 1 3 2 true (some 0)).fld (DPS_PG 0) 31 16 = 1000 ∧
    ready.islandMode 25 = 0 ∧ (ready.setIslandMode 25 1).islandMode 25 ≠ 0 ∧ (ready.setDpsState 0 4).dpsState 0 = 4 := by decide +kernel
theorem test_dps : (after (.dpsStepStart 4 0) (sequencing 1 0 2 0 true none)).dpsState 0 = 1 ∧
    (after (.dpsStepStart 4 0) (sequencing 1 0 2 0 true none)).reg (DPS_SETPOINT 0) = 30000 ∧
    ((after (.dpsStepEnd 4 0) (sequencing 1 0 3 2 true (some 0))).op? 4).map (fun o => (o.phase, o.status, o.detail)) = some (.ended, 0, 1) ∧
    ((after (.pgoodTimeout 4 0) (sequencing 1 1 3 2 true (some 0))).op? 4).map (fun o => (o.phase, o.status, o.reason)) =
      some (.ended, 9, 3) := by decide +kernel
set_option Elab.async false in
theorem witness_dps_events : (ready.setDpsState 0 1).dpsState 0 = 1 ∧ ready.dpsState 0 = 0 ∧ (ready.ctl 0).blank = 0 ∧
    ((ready.setDpsState 0 1).setCtl 0 { (default : Dps) with target := 100, slope := 50 }).ctl 0 = { (default : Dps) with target := 100, slope := 50 } ∧
    (after (.limitTrip 0 40 1000000) (((ready.setDpsState 0 2).setBitAt (DPS_CFG 0) 16 true).setTb 0)).dpsState 0 = 4 ∧
    (after (.dpsSample 0 0 60001) ((ready.setDpsState 0 2).setCtl 0 { (default : Dps) with ovCount := 1 })).dpsState 0 = 4 := by decide +kernel
theorem witness_governor : ({ ready with gov := { ready.gov with resvs := [{ (default : Resv) with release := some 0 }] } } : State).nextExpiry =
      some 8000 ∧ ready.nextExpiry = none ∧ ready.counting = true ∧
    ({ ready with ops := [{ stamp with candSince := some 0 }] } : State).op? 1 = some { stamp with candSince := some 0 } ∧
    (ready.reg NRG_HOLD_AFTER).toNat * usSteps ≤ 100000000000 ∧ (set1.sites.map SiteEnt.site) = [0] ∧
    (after (.monitorSample [7, 0, 0, 0, 0, 0] []) ready).reg (NRG_R_MEAS_MW 0) = 7 := by decide +kernel

/-- A routine of MICRO_CALL 4 runs on sequencer 0 at PC 0x1500 with the word given there. -/
def micro (w : Nat) (u : Msq) : State :=
  let s := holding0 .nothing (0xC + 2 ^ 256 * 0)
  ((s.setMsq 0 { u with asn := some 4, store := [(0x1500, storedWord w)] }).setReg (MSQ_STATUS 0) 1).setReg (MSQ_PC 0) 0x1500
/-- A micro-word from its OP, RD, RA, RB and IMM (R432). -/
def uword (op rd ra rb imm : Nat) : Nat := op * 2 ^ 112 + rd * 2 ^ 108 + ra * 2 ^ 104 + rb * 2 ^ 100 + imm
set_option maxRecDepth 100000 in
theorem witness_micro_word : fetchWord ((micro (uword 3 2 1 0 7) default).storeAt 0 0x1500) = .clean (uword 3 2 1 0 7) ∧
    (micro 0 default).msqRuns 0 = true ∧ (micro 0 default).msqPc 0 = 0x1500 ∧ ((micro 0 default).op? 4).isSome = true ∧
    fetchWord (((micro 0 default).upsetStore 0 [(0x1500, 3)]).storeAt 0 0x1500) = .bad ∧
    fetchWord (((micro 0 default).upsetStore 0 [(0x1500, 1)]).storeAt 0 0x1500) = .corrected 0 ∧
    (List.range 27).map (fun op => mwOp (uword op 0 0 0 0)) = List.range 27 ∧ pcOk 0x1501 = true ∧ msqAddrOk 0 0 = true ∧
    msqAddrOk 0 1 = false ∧ (micro 0 default).msqDepth 0 = 0 ∧ ready.msqRuns 0 = false ∧
    (micro 0 { (default : Msq) with wait := some (1, 0) }).msq 0 = { (micro 0 { (default : Msq) with wait := some (1, 0) }).msq 0 with
      wait := some (1, 0) } ∧ (micro 0 { (default : Msq) with entry := { (default : MsqEntry) with trap := 0x1400 } }).msqDepth 0 < 2 := by
  decide +kernel
set_option maxRecDepth 100000 in
theorem test_micro_word : (after (.microWord 0 []) (micro (uword 3 2 1 0 7) default)).reg (MSQ_G 0 2) = 7 ∧
    (after (.microWord 0 []) (micro (uword 4 2 1 0 0) default)).reg (MSQ_G 0 2) = 0 ∧
    ((after (.microWord 0 []) (micro (uword 4 2 1 0 0) default)).msq 0).flags = 5 ∧
    ((after (.microWord 0 []) (micro (uword 0x1A 0 0 0 0) default)).op? 4).map (fun o => (o.phase, o.status)) = some (.ended, 0) ∧
    ((after (.microWord 0 []) (micro (uword 0x12 0 0 0 0) default)).op? 4).map (fun o => (o.status, o.reason, o.detail)) =
      some (9, 3, 0x21500) := by decide +kernel

def restoringMsq : State := ready.setMsq 16 { (default : Msq) with restoring := true }
def loadingMsq : State :=
  { ready with sec := { ready.sec with load := some (1, { (default : MsqImage) with imageId := 7, version := 3, base := 0x1400, words := [9] }) } }
set_option maxRecDepth 100000 in
theorem witness_control_store : ready.sec.load = none ∧ ready.fld MSQ_LOAD_TARGETS 16 0 = 0 ∧
    (ready.setReg MSQ_LOAD_TARGETS 1).fld MSQ_LOAD_TARGETS 16 0 ≠ 0 ∧ ready.keyBusy = false ∧
    ((ready.setReg MSQ_LOAD_TARGETS 1).loadCheck (ready.setReg MSQ_LOAD_TARGETS 1).csImg 1).1 = 1 ∧
    (after .msqLoadDone loadingMsq).reg MSQ_LOAD_IMAGE_ID = 7 ∧
    ((after .msqLoadDone loadingMsq).msq 0).store = [(0x1400, storedWord 9)] ∧ (restoringMsq.msq 16).restoring = true ∧
    restoringMsq.isFaulted 7 16 = false ∧ fetchWord ((ready.upsetStore 0 [(0x1500, 1)]).storeAt 0 0x1500) = .corrected 0 ∧
    fetchWord ((ready.upsetStore 0 [(0x1500, 3)]).storeAt 0 0x1500) = .bad ∧
    (after (.controlStoreScrub 0 [(0x1500, 1)]) ready).reg (MSQ_ECC_CORR 0) = 1 ∧
    ((after (.controlStoreScrub 0 [(0x1500, 3)]) ready).msq 0).restoring = true := by decide +kernel
set_option Elab.async false in
theorem witness_unwind : ((micro 0 { (default : Msq) with unwindSince := some 0, ending := some (9, 3, 5) }).msq 0).unwindSince = some 0 ∧
    (ready.reg (MSQ_UNWIND_LIMIT 0)).field 15 0 * 800 ≤ 100000000 := by decide +kernel

/-- A calibration of unit 16 stands at a step of its run. -/
def calibrating (st : Nat) : State :=
  (holding0 .nothing (0xD + 2 ^ 256 * (16 + 256))).setCal 16 { (default : Cal) with st := st, asn := some 4, parts := 1 }
theorem witness_calibration : (calibrating 1).calStopped 16 = none ∧ ((calibrating 1).cal 16).due ≤ (calibrating 1).now ∧
    ((calibrating 1).op? 4).isSome = true ∧ (calibrating 5).disagreement 16 ((calibrating 5).cal 16) = none ∧
    ((calibrating 5).setCal 16 { ((calibrating 5).cal 16) with pass1 := [(5, 1)], pass2 := [(5, 2)] }).disagreement 16
      { ((calibrating 5).cal 16) with pass1 := [(5, 1)], pass2 := [(5, 2)] } = some (5, 1) ∧
    ({ calibrating 5 with ops := [{ (default : Op) with asn := 4, aborting := true, phase := .running }] } : State).calStopped 16 = some 4 ∧
    (calibrating 5).freeSlot 16 = 0 := by decide +kernel
def quietAn (n : Nat) : List (Nat × List Int) := (List.range n).map (fun a => (a, [0]))
theorem test_calibration : ((after (.calQuietCheck 16 (quietAn 16) 0) (calibrating 1)).cal 16).st = 2 ∧
    (after (.calQuietCheck 16 (quietAn 3) 0) (calibrating 4)).fld (MNT_U_STATUS 16) 15 8 = 3 ∧
    ((after (.calQuietCheck 16 (quietAn 3) 0) (calibrating 4)).op? 4).map (fun o => (o.status, o.reason, o.detail)) = some (9, 3, 1027) ∧
    ((after (.calAgreementTest 16 0) (calibrating 5)).cal 16).st = 6 ∧ (after (.calApplyTick 16) (calibrating 7)).bitAt MNT_CAL_VALID 16 = true ∧
    ((after (.calRunEnd 16) (calibrating 8)).op? 4).map (fun o => (o.phase, o.status)) = some (.ended, 0) := by decide +kernel
/-- Unit 16 is due and automatic runs are permitted. -/
def autoCal : State := (ready.setBitAt MNT_CAL_CFG 0 true).setBitAt MNT_CAL_DUE 16 true
theorem witness_auto_calibration : ((after (.autoCalStart 16) autoCal).cal 16).st = 1 ∧ (after (.autoCalStart 16) autoCal).mntRuns 6 16 = true ∧
    (autoCal.mntAsk 6 16).fits ((autoCal.mntAsk 6 16).opResvs (autoCal.autoOp 16)) = true ∧ autoCal.bitAt NRG_CTRL 0 = false ∧
    autoCal.calStartCheck 16 = 0 ∧
    (after (.temperatureCheck 3 400) (ready.setBitAt MNT_CAL_DUE 3 false)).calDue 3 = true ∧
    (ready.setBitAt MNT_CAL_DUE 3 false).calDue 3 = false := by decide +kernel
theorem witness_maintenance : (ready.mntAsk 3 0).mntRuns 3 0 = true ∧ (ready.mntAsk 3 0).mntConflict 3 0 = true ∧ ready.mntConflict 2 0 = false ∧
    (ready.mntAsk 6 3).mntConflict 3 0 = true ∧ (ready.mntAsk 6 3).mntRuns 3 0 = false ∧ (ready.setReg MNT_SCRUB_PERIOD 5).fld MNT_SCRUB_PERIOD 15 0 ≠ 0 ∧
    (ready.mntRuns 2 0 || ready.mntWaits 2 0) = false := by decide +kernel

/-- A slave transaction after `n` frames of an operation. -/
def shifting (n op : Nat) (reply : Option Word) : State :=
  { ready with svc := { ready.svc with selLow := true, slave := some { (default : SlvTx) with
      frames := n, op := op, addr := 0, count := 1, reading := true, reply := reply } } }
/-- A master transfer of frames of 8 bits with 2 frames left. -/
def mastering (tx rx : List Nat) : State :=
  let s := (ready.setFld SVC_STATUS 1 0 3).setFld SVC_CFG 13 8 8
  { s with svc := { s.svc with left := 2, tx := tx, rx := rx } }
def pulsing (fresh : Bool) : State :=
  let s := ready.setReg SVC_GPIO_DIR 1
  { s with trg := { s.trg with pulses := if fresh then [(0, 0, 80)] else [], pulseEnd := if fresh then [] else [(0, 0)] } }
theorem witness_service_port : ready.svc.selLow = false ∧ ready.bitAt SVC_STATUS 1 = false ∧ ready.regServed = true ∧
    (shifting 1 1 (some 5)).inPf = false ∧ ((shifting 1 1 (some 5)).setFld AON_PWR_STATUS 2 0 4).inPf = true ∧ ready.svc.slave = none ∧
    (after .selRise (shifting 1 1 none)).svc.slave = none ∧ (after .svcStatus (shifting 0 0 none)).svc.sent = 0xA5000000 ∧
    ((after (.svcRead 0) (shifting 0 0 none)).svc.slave.bind SlvTx.reply).isSome = true ∧
    (after (.svcReadContinuation false true) (shifting 1 1 (some 5))).bitAt SVC_EVENTS 2 = true := by decide +kernel
theorem witness_master : (mastering [0x1FF] []).bitAt SVC_STATUS 0 = true ∧ (mastering [0x1FF] []).bitAt SVC_STATUS 1 = true ∧
    (after (.masterFrame 0x3AB) (mastering [0x1FF] [])).svc.lastFrame = some 0xFF ∧
    (after (.masterFrame 0x3AB) (mastering [0x1FF] [])).svc.rx = [0xAB] ∧
    (after (.masterFrame 1) (mastering [] (List.replicate 16 2))).svc.paused = some 1 ∧
    (after (.masterFrame 1) (mastering [] [])).reg SVC_M_UNDERRUN = 1 ∧ (mastering (List.replicate 16 2) []).svc.tx.length = 16 ∧
    ({ mastering [] [] with svc := { ready.svc with left := 0 } } : State).svc.left = 0 ∧
    (ready.setFld SVC_STATUS 1 0 2).bitAt SVC_STATUS 0 = false := by decide +kernel
theorem witness_gpio : (pulsing true).gpioOut 0 = true ∧ (pulsing true).irqPin = none ∧ (pulsing true).trg.pulses.find? (fun x => x.1 == 0) =
      some (0, 0, 80) ∧ (pulsing false).trg.pulseEnd.find? (fun x => x.1 == 0) = some (0, 0) ∧
    (after (.gpioPulseStart 0) (pulsing true)).svc.driven = 1 ∧ (after (.gpioPulseEnd 0) (pulsing false)).svc.driven = 0 ∧
    ready.gpioIn 3 = true ∧ ready.bitAt SVC_GPIO_IN 3 = false ∧
    (after (.gpioInputEdge 3 true) (((ready.setBitAt AON_CFG 10 true).setFld AON_CFG 14 12 3).setFld AON_PWR_STATUS 2 0 2)).deviceState = 3 := by
  decide +kernel

def resetHeld : State := { ready with aon := { ready.aon with resetN := false } }
theorem witness_board : ready.monitors = true ∧ resetHeld.monitors = false ∧ ready.tapOn = true ∧ ready.tapActs = false ∧
    resetHeld.tapActs = true ∧ ({ ready with aon := { ready.aon with vaon := false } } : State).tapOn = false ∧
    (after (.supplyOut 5 1500) ready).evq.recs.length = 1 ∧ supplyUnits 4 ≠ [] ∧ (after .idcode ready).jtag.ir = 2 ∧
    (after .clamp resetHeld).tapDrives = true ∧ (after .highz ready).tapHighZ = false := by decide +kernel

end Sys2Proof.Tests
end

section
/-! What every command keeps, as one relation of the state before and after a command, and how the parts of a command keep it:
updates of single parts, choices, changes made for each member of a list. The lemmas below go through the model in the order
of its files and say once of each operation that it keeps the relation; each proof has the shape of the operation. -/

namespace Sys2Proof.Machine

/-- What every command keeps, as a relation of the state before and after: the queue of waiting commands, the canonical form
of registers, live copies and store, the bound of the event queue, and floors that never fall. -/
structure State.Upholds (s t : State) : Prop where
  queue : t.pending = s.pending
  regs : Map.wf regDefault s.regs = true → Map.wf regDefault t.regs = true
  live : Map.wf regDefault s.live = true → Map.wf regDefault t.live = true
  store : Map.wf byteDefault s.store = true → Map.wf byteDefault t.store = true
  events : s.evq.recs.length ≤ 1024 → t.evq.recs.length ≤ 1024
  cfgFloor : s.sec.cfgFloor ≤ t.sec.cfgFloor
  csFloor : s.sec.csFloor ≤ t.sec.csFloor

/-- The outcome of a command is a next state, and the command keeps what every command keeps. -/
def State.Ends (s : State) (o : Out) : Prop := ∃ t, o = .next t ∧ s.Upholds t

namespace State
variable {s t : State}

theorem Upholds.refl (s : State) : s.Upholds s := ⟨rfl, id, id, id, id, le_rfl, le_rfl⟩

/-- An update of other parts of the state. -/
theorem Upholds.other {poison hold rdata flagged tb cfg ops kept heldRecs served chans clus fnts segs trg basinGaps anas
    relocks dpss gov msqs cals mnt ports net cont aon svc jtag free} (h : s.Upholds t) :
    s.Upholds ⟨t.regs, t.live, t.store, poison, hold, rdata, flagged, tb, cfg, ops, kept, heldRecs, served, chans,
    clus, fnts, segs, trg, basinGaps, anas, relocks, dpss, gov, msqs, cals, mnt, ports, net, cont, aon, t.sec, svc, jtag, t.evq,
    free, t.pending⟩ :=
  { h with }

/-- An update of other parts of the state, and of parts of the security state that are no floor. -/
theorem Upholds.sec {poison hold rdata flagged tb cfg ops kept heldRecs served chans clus fnts segs trg basinGaps anas
    relocks dpss gov msqs cals mnt ports net cont aon svc jtag free keys writing floorWrite kseq report csVersion verifyKeys
    load} (h : s.Upholds t) : s.Upholds ⟨t.regs, t.live, t.store, poison, hold, rdata, flagged, tb, cfg, ops, kept,
    heldRecs, served, chans, clus, fnts, segs, trg, basinGaps, anas, relocks, dpss, gov, msqs, cals, mnt, ports, net, cont,
    aon, ⟨keys, writing, floorWrite, kseq, t.sec.cfgFloor, t.sec.csFloor, report, csVersion, verifyKeys, load⟩, svc, jtag,
    t.evq, free, t.pending⟩ :=
  { h with }

theorem Upholds.ite {c : Prop} {_ : Decidable c} {u : State} (ht : s.Upholds t) (hu : s.Upholds u) :
    s.Upholds (if c then t else u) := by
  split <;> assumption

theorem Ends.ite {c : Prop} {_ : Decidable c} {o p : Out} (ho : s.Ends o) (hp : s.Ends p) :
    s.Ends (if c then o else p) := by
  split <;> assumption

theorem Ends.next (h : s.Upholds t) : s.Ends (.next t) := ⟨t, rfl, h⟩

theorem Upholds.took {o : Out} (ho : s.Ends o) : s.Upholds (t.took o) := by
  obtain ⟨u, rfl, hu⟩ := ho
  exact hu

/-- A change made for each member of a list, where each single change keeps what is kept. -/
theorem Upholds.forEach {α : Type} {l : List α} {f : State → α → State} (h : s.Upholds t)
    (hf : ∀ u x, s.Upholds u → s.Upholds (f u x)) : s.Upholds (t.forEach l f) := by
  unfold State.forEach
  induction l generalizing t with
  | nil => exact h
  | cons x l ih => exact ih (hf t x h)

theorem Upholds.setReg {a v} (h : s.Upholds t) : s.Upholds (t.setReg a v) :=
  { h with regs := fun hw => Map.wf_set _ _ _ _ (h.regs hw) }

theorem Upholds.setLive {a v} (h : s.Upholds t) : s.Upholds (t.setLive a v) :=
  { h with live := fun hw => Map.wf_set _ _ _ _ (h.live hw) }

theorem Upholds.setByte {a v} (h : s.Upholds t) : s.Upholds (t.setByte a v) :=
  { h with store := fun hw => Map.wf_set _ _ _ _ (h.store hw) }

theorem Upholds.resetWords {a n} (h : s.Upholds t) : s.Upholds (t.resetWords a n) :=
  { h with regs := fun hw => Map.wf_filter _ _ _ (h.regs hw), live := fun hw => Map.wf_filter _ _ _ (h.live hw) }

end State
end Sys2Proof.Machine
end

section
/-! The named operations over the state. -/

namespace Sys2Proof.Machine.State

variable {s t : State}

theorem Upholds.setFld {a hi lo v} (h : s.Upholds t) : s.Upholds (t.setFld a hi lo v) := h.setReg
theorem Upholds.setBitAt {a i b} (h : s.Upholds t) : s.Upholds (t.setBitAt a i b) := h.setFld
theorem Upholds.orReg {a m} (h : s.Upholds t) : s.Upholds (t.orReg a m) := h.setReg
theorem Upholds.clrReg {a m} (h : s.Upholds t) : s.Upholds (t.clrReg a m) := h.setReg
theorem Upholds.addSat {a n} (h : s.Upholds t) : s.Upholds (t.addSat a n) := h.setReg
theorem Upholds.incSat {a} (h : s.Upholds t) : s.Upholds (t.incSat a) := h.addSat
theorem Upholds.setReg64 {lo hi v} (h : s.Upholds t) : s.Upholds (t.setReg64 lo hi v) := h.setReg.setReg
theorem Upholds.setBoth {a v} (h : s.Upholds t) : s.Upholds (t.setBoth a v) := h.setReg.setLive
theorem Upholds.advanceTo {g} (h : s.Upholds t) : s.Upholds (t.advanceTo g) := .ite h.other h
theorem Upholds.fresh {w} (h : s.Upholds t) : s.Upholds (t.fresh w).2 := h.other
theorem Upholds.rtcNow (h : s.Upholds t) : s.Upholds t.rtcNow.2 := h.other

theorem Upholds.writeFrom {a bs} (h : s.Upholds t) : s.Upholds (t.writeFrom a bs) := by
  induction bs generalizing t a with
  | nil => exact h
  | cons b bs ih => exact ih h.setByte

theorem Upholds.writeBytes {a bs} (h : s.Upholds t) : s.Upholds (t.writeBytes a bs) := h.writeFrom.other
theorem Upholds.setChan {c v} (h : s.Upholds t) : s.Upholds (t.setChan c v) := h.other
theorem Upholds.setClu {k v} (h : s.Upholds t) : s.Upholds (t.setClu k v) := h.other
theorem Upholds.setFnt {f v} (h : s.Upholds t) : s.Upholds (t.setFnt f v) := h.other
theorem Upholds.setSeg {n v} (h : s.Upholds t) : s.Upholds (t.setSeg n v) := h.other
theorem Upholds.setAna {a v} (h : s.Upholds t) : s.Upholds (t.setAna a v) := h.other
theorem Upholds.setCtl {d v} (h : s.Upholds t) : s.Upholds (t.setCtl d v) := h.other
theorem Upholds.setMsq {m v} (h : s.Upholds t) : s.Upholds (t.setMsq m v) := h.other
theorem Upholds.setCal {u v} (h : s.Upholds t) : s.Upholds (t.setCal u v) := h.other
theorem Upholds.setPort {p v} (h : s.Upholds t) : s.Upholds (t.setPort p v) := h.other
theorem Upholds.ltAdd {i n} (h : s.Upholds t) : s.Upholds (t.ltAdd i n) := h.other
theorem Upholds.mramWrite (h : s.Upholds t) : s.Upholds t.mramWrite := h.ltAdd

theorem Upholds.logEvent {code unit data} (h : s.Upholds t) : s.Upholds (t.logEvent code unit data) := by
  unfold State.logEvent
  extract_lets _ u
  have hu : s.Upholds u := .ite h.ltAdd h
  split
  case isTrue hlt => exact { hu with events := fun _ => by simpa using hlt }
  case isFalse hge =>
    refine .incSat { hu with events := fun hs => ?_ }
    have := hu.events hs
    simp only [List.length_append, List.length_drop, List.length_singleton]
    omega

theorem Upholds.setMaskBit {a n b} (h : s.Upholds t) : s.Upholds (t.setMaskBit a n b) := h.setBitAt
theorem Upholds.setOp {o} (h : s.Upholds t) : s.Upholds (t.setOp o) := h.other
theorem Upholds.modOp {a f} (h : s.Upholds t) : s.Upholds (t.modOp a f) := h.other

end Sys2Proof.Machine.State
end

section
/-! Flags, the maintenance interlock and the governor's arithmetic (R408 to R419, R481 to R484, R585 to R589). -/

namespace Sys2Proof.Machine.State

variable {s t : State}

theorem Upholds.setIslandMode {i m} (h : s.Upholds t) : s.Upholds (t.setIslandMode i m) := .ite h.setFld h.setFld
theorem Upholds.setGen {i g} (h : s.Upholds t) : s.Upholds (t.setGen i g) := h.other

theorem Upholds.accessFlag {path a b} (h : s.Upholds t) : s.Upholds (t.accessFlag path a b) := by
  unfold State.accessFlag
  refine .ite h.other.setBitAt ?_
  extract_lets u1 u2
  have h1 : s.Upholds u1 := .ite h.setReg.setReg h
  have h2 : s.Upholds u2 := h1.other.setBitAt
  exact .ite h2.setBitAt h2

theorem Upholds.rangeFlag {path a} (h : s.Upholds t) : s.Upholds (t.rangeFlag path a) := h.accessFlag
theorem Upholds.wqEvent {q b} (h : s.Upholds t) : s.Upholds (t.wqEvent q b) := .ite h.setBitAt.setBitAt h.setBitAt
theorem Upholds.settleRole (h : s.Upholds t) : s.Upholds t.settleRole := .ite h h.setBitAt
theorem Upholds.event {a b} (h : s.Upholds t) : s.Upholds (t.event a b) := h.setBitAt
theorem Upholds.mntAsk {k i} (h : s.Upholds t) : s.Upholds (t.mntAsk k i) := .ite h (.ite h.other h.other)
theorem Upholds.mntEnd {k i} (h : s.Upholds t) : s.Upholds (t.mntEnd k i) := h.other
theorem Upholds.mntRefuse (h : s.Upholds t) : s.Upholds t.mntRefuse := h.incSat.event
theorem Upholds.addSample {k mw} (h : s.Upholds t) : s.Upholds (t.addSample k mw) := h.other
theorem Upholds.setRailOver {r above} (h : s.Upholds t) : s.Upholds (t.setRailOver r above) := h.other
theorem Upholds.release {kind ix} (h : s.Upholds t) : s.Upholds (t.release kind ix) := h.other
theorem Upholds.take {rs} (h : s.Upholds t) : s.Upholds (t.take rs) := h.other
theorem Upholds.takeReads {a n} (h : s.Upholds t) : s.Upholds (t.takeReads a n) := .ite h h.other
theorem Upholds.releaseReads {a} (h : s.Upholds t) : s.Upholds (t.releaseReads a) := h.other

theorem Upholds.setK {opc rail v} (h : s.Upholds t) : s.Upholds (t.setK opc rail v) := by
  unfold State.setK
  split <;> exact h.setFld

theorem Upholds.refineRail {o rail} (h : s.Upholds t) : s.Upholds (t.refineRail o rail) := by
  unfold State.refineRail
  split
  · exact h
  · exact .ite h (.ite h.setK.event h.setK)

theorem Upholds.refine {o} (h : s.Upholds t) : s.Upholds (t.refine o) :=
    .other (.ite (h.forEach fun _ _ h1 => h1.refineRail) h)

end Sys2Proof.Machine.State
end

section
/-! Messages, pins, outputs, the life cycle of an operation and source events (R82 to R101, R169 to R192, R309 to R313, R349
to R352, R496 to R513). -/

namespace Sys2Proof.Machine.State

variable {s t : State}

theorem Upholds.enqueue {p vc fs} (h : s.Upholds t) : s.Upholds (t.enqueue p vc fs) := .ite h.setPort h.setPort
theorem Upholds.sendCtrl {p payload} (h : s.Upholds t) : s.Upholds (t.sendCtrl p payload) := h.setPort
theorem Upholds.noRoute {n} (h : s.Upholds t) : s.Upholds (t.noRoute n) := h.addSat.event
theorem Upholds.setMseq {dest vc n start} (h : s.Upholds t) : s.Upholds (t.setMseq dest vc n start) := h.other

theorem Upholds.send {dest vc op status tag arg addr body pois} (h : s.Upholds t) :
    s.Upholds (t.send dest vc op status tag arg addr body pois) := by
  unfold State.send
  refine .ite h.setMseq.other ?_
  split
  · exact h.enqueue.setMseq
  · exact h.noRoute.setMseq

theorem Upholds.sendOut {p dest vc op status tag arg addr body pois} (h : s.Upholds t) :
    s.Upholds (t.sendOut p dest vc op status tag arg addr body pois) :=
  h.enqueue.setMseq

theorem Upholds.reply {m op status arg body pois} (h : s.Upholds t) : s.Upholds (t.reply m op status arg body pois) :=
  .ite h.sendOut (.ite h.send h)

theorem Upholds.broadcast {op arg addr} (h : s.Upholds t) : s.Upholds (t.broadcast op arg addr) :=
  .setMseq (h.forEach fun _ _ h1 => h1.enqueue)

theorem Upholds.tsLive {k t'} (h : s.Upholds t) : s.Upholds (t.tsLive k t') := h.forEach fun _ _ h1 => h1.setLive
theorem Upholds.tsWrite {k t' w} (h : s.Upholds t) : s.Upholds (t.tsWrite k t' w) := h.forEach fun _ _ h1 => h1.setBoth

theorem Upholds.commitTe {held k mask} (h : s.Upholds t) : s.Upholds (t.commitTe held k mask) := by
  unfold State.commitTe
  extract_lets _
  split
  · exact h.setReg
  · exact .ite h.setClu.setReg (.setReg (h.forEach fun _ _ h1 => h1.tsLive))

theorem Upholds.settleTe {k} (h : s.Upholds t) : s.Upholds (t.settleTe k) := by
  unfold State.settleTe
  extract_lets _
  split
  · exact h
  · extract_lets _
    split
    · exact h.setClu.setReg
    · exact .setReg (h.setClu.forEach fun _ _ h1 => h1.tsLive)

theorem Upholds.syncReset {k} (h : s.Upholds t) : s.Upholds (t.syncReset k) :=
  h.setClu.setReg64.event.forEach fun _ _ h1 => .ite h1 h1.setChan

theorem Upholds.runSync {k till} (h : s.Upholds t) : s.Upholds (t.runSync k till) :=
  .setClu (h.forEach fun _ _ h1 => h1.advanceTo.syncReset)

theorem Upholds.compare {c uv} (h : s.Upholds t) : s.Upholds (t.compare c uv).2 := h.other

theorem Upholds.compareAll {c l} (h : s.Upholds t) : s.Upholds (t.compareAll c l).2 := by
  induction l generalizing t with
  | nil => exact h
  | cons v l ih => exact ih h.compare

theorem Upholds.flushEdges (h : s.Upholds t) : s.Upholds t.flushEdges := h.forEach fun _ _ h1 => h1.setChan

theorem Upholds.switchMode {c old driving load} (h : s.Upholds t) : s.Upholds (t.switchMode c old driving load) :=
    h.other.setChan

theorem Upholds.goLive {c w} (h : s.Upholds t) : s.Upholds (t.goLive c w) := by
  unfold State.goLive
  extract_lets _ _ _ _ _ _ u1 _ _ _ _ u2 u3 _ u4 u5 _ _
  have h1 : s.Upholds u1 := h.forEach fun _ _ h1 => h1.setLive
  have h2 : s.Upholds u2 := .ite h1.setChan h1.setChan.switchMode
  have h3 : s.Upholds u3 := .ite h2.ltAdd h2
  have h4 : s.Upholds u4 := .ite h3 h3.setChan
  have h5 : s.Upholds u5 := .ite h4 h4.setBitAt
  exact .ite h5.setChan (.ite h5.setChan.setBitAt h5)

theorem Upholds.pmuLeaves {cs} (h : s.Upholds t) : s.Upholds (t.pmuLeaves cs) :=
  h.forEach fun _ _ h1 => (Upholds.ite h1.ltAdd.setBitAt h1).setChan

theorem Upholds.writeLevels {c w} (h : s.Upholds t) : s.Upholds (t.writeLevels c w) :=
    .goLive (h.forEach fun _ _ h1 => h1.setReg)

theorem Upholds.commitLv {held k mask} (h : s.Upholds t) : s.Upholds (t.commitLv held k mask) := by
  unfold State.commitLv
  extract_lets _
  split
  · exact h.setReg
  · exact .ite h.setClu.setReg (.setReg (h.forEach fun _ _ h1 => h1.goLive))

theorem Upholds.settleLv {k} (h : s.Upholds t) : s.Upholds (t.settleLv k) := by
  unfold State.settleLv
  extract_lets _
  split
  · exact h
  · extract_lets _
    split
    · exact h.setClu.setReg
    · exact .setReg (h.setClu.forEach fun _ _ h1 => h1.goLive)

theorem Upholds.settleCommits {k} (h : s.Upholds t) : s.Upholds (t.settleCommits k) := .ite h h.settleTe.settleLv
theorem Upholds.setAnState {a v} (h : s.Upholds t) : s.Upholds (t.setAnState a v) := h.setFld
theorem Upholds.takeRange {a} (h : s.Upholds t) : s.Upholds (t.takeRange a) := .ite h h.setFld.setAnState.setAna

theorem Upholds.parkAn {a} (h : s.Upholds t) : s.Upholds (t.parkAn a) :=
  .ite h.setAnState (.ite h.setAnState.setAna h.setAnState.setAna.takeRange)

theorem Upholds.fadeOver {a playing} (h : s.Upholds t) : s.Upholds (t.fadeOver a playing) := by
  unfold State.fadeOver
  extract_lets _ u1 _
  have h1 : s.Upholds u1 := h.setFld.setFld.event
  split
  · exact .ite h1.setAna (.ite h1.setAna.setBitAt.setBitAt.setFld h1.setAna.setBitAt)
  · exact h1.setAna

theorem Upholds.awgFree {a} (h : s.Upholds t) : s.Upholds (t.awgFree a) := by
  unfold State.awgFree
  extract_lets u1
  have h1 : s.Upholds u1 := .ite h.fadeOver h
  split
  · exact h1.parkAn
  · exact h1.parkAn
  · exact h1.takeRange
  · exact h1

theorem Upholds.producerEnds {o} (h : s.Upholds t) : s.Upholds (t.producerEnds o) := .ite h h.other

theorem Upholds.endOpAt {a status reason gcc detail} (h : s.Upholds t) : s.Upholds (t.endOpAt a status reason gcc detail) :=
    by
  unfold State.endOpAt
  split
  · exact h
  · refine .ite h ?_
    extract_lets _ u1 u2 _
    have h1 : s.Upholds u1 := by
      refine h.setOp.producerEnds.release.releaseReads.forEach fun _ _ h1 => ?_
      split
      · exact (Upholds.ite h1.syncReset h1).settleCommits
      · exact .ite h1.awgFree h1
      · exact h1
    have h2 : s.Upholds u2 := .ite h1.incSat.event h1
    exact .ite h2.mntEnd (.ite h2.mntEnd h2)

theorem Upholds.endOp {a status reason detail} (h : s.Upholds t) : s.Upholds (t.endOp a status reason detail) := h.endOpAt
theorem Upholds.beginOp {o} (h : s.Upholds t) : s.Upholds (t.beginOp o) := h.setOp
theorem Upholds.setWork {a w} (h : s.Upholds t) : s.Upholds (t.setWork a w) := h.modOp
theorem Upholds.setProgress {a n} (h : s.Upholds t) : s.Upholds (t.setProgress a n) := h.modOp
theorem Upholds.settleDeps (h : s.Upholds t) : s.Upholds t.settleDeps := h.other.forEach fun _ _ h1 => h1.endOp

theorem Upholds.putRecord {r bytes} (h : s.Upholds t) : s.Upholds (t.putRecord r bytes) :=
  .ite h.writeBytes.setReg.send h.writeBytes.setReg

theorem Upholds.releaseKept {a} (h : s.Upholds t) : s.Upholds (t.releaseKept a) :=
  h.release.releaseReads.forEach fun _ _ h1 => h1.release

theorem Upholds.writeRecord {o r} (h : s.Upholds t) : s.Upholds (t.writeRecord o r) := by
  unfold State.writeRecord
  extract_lets _ _ _ u1 u2 u3 _
  have h1 : s.Upholds u1 := h.releaseKept.putRecord
  have h2 : s.Upholds u2 := .ite h1.wqEvent h1
  have h3 : s.Upholds u3 := .ite h2 h2.refine
  exact h3.other.settleDeps

theorem Upholds.gated {path a f} (h : s.Upholds t) (hf : ∀ u, s.Upholds u → s.Ends (f u)) : s.Ends (t.gated path a f) :=
  .ite (.next h.rangeFlag) (hf _ h)

theorem Upholds.addFire {l due system} (h : s.Upholds t) : s.Upholds (t.addFire l due system) :=
    .ite h.other h.incSat.event.other

theorem Upholds.lineEvent {l t'} (h : s.Upholds t) : s.Upholds (t.lineEvent l t') := by
  unfold State.lineEvent
  split
  · exact h.addFire
  · exact (Upholds.ite h.broadcast h).addFire
  · exact h

theorem Upholds.source {kind unit arg t'} (h : s.Upholds t) : s.Upholds (t.source kind unit arg t') := by
  unfold State.source
  split
  · exact h
  · exact h.forEach fun _ _ h1 => h1.lineEvent

end Sys2Proof.Machine.State
end

section
/-! Basins, rings, UPLOAD and acquisition (R290 to R308, R320 to R326). -/

namespace Sys2Proof.Machine.State

variable {s t : State}

theorem Upholds.setBhead {r off n v} (h : s.Upholds t) : s.Upholds (t.setBhead r off n v) := h.writeBytes
theorem Upholds.bumpBhead {r off k} (h : s.Upholds t) : s.Upholds (t.bumpBhead r off k) := h.setBhead
theorem Upholds.setBflag {r b} (h : s.Upholds t) : s.Upholds (t.setBflag r b) := h.setBhead

theorem Upholds.clearBasin {r} (h : s.Upholds t) : s.Upholds (t.clearBasin r) :=
  h.setBhead.setBhead.setBhead.setBhead.setBhead.setBhead.other.setMaskBit.setMaskBit

theorem Upholds.newBasin {r} (h : s.Upholds t) : s.Upholds (t.newBasin r) :=
  h.writeBytes.setBhead.setBhead.setBhead.setBhead.clearBasin

theorem Upholds.setRing {k r} (h : s.Upholds t) : s.Upholds (t.setRing k r) := h.setClu
theorem Upholds.upsetRing {k l} (h : s.Upholds t) : s.Upholds (t.upsetRing k l) := .ite h h.setRing
theorem Upholds.setUpl {a w} (h : s.Upholds t) : s.Upholds (t.setUpl a w) := h.setWork

theorem Upholds.enterItem {a bytes pois} (h : s.Upholds t) : s.Upholds (t.enterItem a bytes pois) := by
  unfold State.enterItem
  split
  · exact h
  · exact .ite h.setUpl h.setUpl.incSat.event

theorem Upholds.fillUpload {a o n} (h : s.Upholds t) : s.Upholds (t.fillUpload a o n) := by
  induction n generalizing t with
  | zero => exact h
  | succ n ih =>
    unfold State.fillUpload
    split
    · exact h
    · exact .ite h (ih (.ite h.setUpl.setRing h.setUpl))

theorem Upholds.followUpload {a o n} (h : s.Upholds t) : s.Upholds (t.followUpload a o n) := by
  induction n generalizing t with
  | zero => exact h
  | succ n ih =>
    unfold State.followUpload
    split
    · exact h
    · refine .ite h (.ite ?_ ?_)
      · split
        · exact .ite (ih h.enterItem) h
        · exact h
      · split
        · exact h
        · exact ih h.enterItem.setRing

theorem Upholds.feedUploads {kind unit n} (h : s.Upholds t) : s.Upholds (t.feedUploads kind unit n) :=
  h.forEach fun _ _ h1 => h1.followUpload

theorem Upholds.endUpload {o w status reason} (h : s.Upholds t) : s.Upholds (t.endUpload o w status reason) := by
  unfold State.endUpload
  refine .endOp ?_
  split
  · exact .ite (Upholds.ite h.setRing.setBitAt h).clearBasin (.ite h.setRing.setBitAt h)
  · exact .ite h.setRing.setBitAt h

theorem Upholds.flushPartial {w} (h : s.Upholds t) : s.Upholds (t.flushPartial w) := .ite h (.ite h.other.incSat h.other)

theorem Upholds.settleUpload {a} (h : s.Upholds t) : s.Upholds (t.settleUpload a) := by
  unfold State.settleUpload
  split
  · exact h
  · exact .ite h.flushPartial.endUpload (.ite h.endUpload h)

theorem Upholds.startUpload {o} (h : s.Upholds t) : s.Upholds (startUpload t o) := by
  unfold Machine.startUpload
  dsimp only
  refine .ite h.endOp ?_
  split
  · exact h.endOp
  · have h1 {w : UplWork} : s.Upholds ((t.beginOp o).setUpl o.asn w) := h.beginOp.setUpl
    exact .ite (.endUpload (.ite h1.setRing.setBitAt h1))
      (.settleUpload (.ite (.followUpload (.ite h1.setRing.setBitAt h1)) (.fillUpload (.ite h1.setRing.setBitAt h1))))

theorem Upholds.execUploadPacket {a upsets} (h : s.Upholds t) : s.Ends (execUploadPacket a upsets t) := by
  unfold Machine.execUploadPacket
  split
  · exact .next h
  · exact .ite (.next h.setUpl) (.ite (.next h.setUpl.settleUpload) (.ite (.next h.setUpl.endUpload) (.ite (.next h.setUpl)
      (.ite (.next h.setUpl.settleUpload) (.next (.ite h.setUpl.setUpl.send h.setUpl.setUpl.send.fillUpload))))))

theorem Upholds.execUploadAck {a} (h : s.Upholds t) : s.Ends (execUploadAck a t) := by
  unfold Machine.execUploadAck
  split
  · exact .next h
  · split
    · exact .next (.ite h.settleUpload h)
    · exact .next (Upholds.ite h.setUpl.setProgress h.setUpl.setProgress.fillUpload).settleUpload

theorem Upholds.startAcquire {o} (h : s.Upholds t) : s.Upholds (startAcquire t o) :=
  .ite h.endOp (h.beginOp.setWork.forEach fun _ _ h1 => .setReg (.setReg (.setReg
    (h1.setRing.forEach fun _ _ h2 => h2.setReg))))

theorem Upholds.countRecord {o valid} (h : s.Upholds t) : s.Upholds (t.countRecord o valid) := by
  unfold State.countRecord
  split
  · exact h.setWork.setProgress
  · exact h

theorem Upholds.streamRecord {k b} (h : s.Upholds t) : s.Upholds (t.streamRecord k b) :=
  .ite h.setRing (.ite h.setRing.incSat.event h.setRing)

theorem Upholds.closeFrame {k o g} (h : s.Upholds t) : s.Upholds (t.closeFrame k o g) := h.setReg.setRing.setBitAt.event

theorem Upholds.acqWrite {k o g ttag flags} (h : s.Upholds t) : s.Upholds (t.acqWrite k o g ttag flags) := by
  unfold State.acqWrite
  extract_lets _ _ u1 _ _ _ u2
  have h1 : s.Upholds u1 := .ite h.event h
  have h2 : s.Upholds u2 := h1.setRing.setReg
  exact .ite h1.streamRecord.countRecord.feedUploads (.ite h1.setRing.setReg.countRecord
    (.ite h2.closeFrame.countRecord h2.countRecord))

theorem Upholds.acqCodes {k o volts} (h : s.Upholds t) : s.Upholds (t.acqCodes k o volts).2 := by
  unfold State.acqCodes
  generalize List.range 32 = l
  generalize hp : ((0, t) : Nat × State) = p
  replace h : s.Upholds p.2 := by simpa [← hp] using h
  clear hp
  induction l generalizing p with
  | nil => exact h
  | cons j l ih =>
    refine ih _ ?_
    beta_reduce
    extract_lets _ x q
    have hq : s.Upholds q.2 := h.compare
    clear_value x
    split
    · exact hq
    · exact h

theorem Upholds.endRing {k} (h : s.Upholds t) : s.Upholds (t.endRing k) := h.setRing.setBitAt

theorem Upholds.tagEndRing {k o} (h : s.Upholds t) : s.Upholds (t.tagEndRing k o) := by
  unfold State.tagEndRing
  extract_lets
  split
  · exact h.endRing.setBitAt.setWork
  · exact h.endRing.setBitAt

theorem Upholds.execAcqSample {cluster volts upsets} (h : s.Upholds t) : s.Ends (execAcqSample cluster volts upsets t) := by
  unfold Machine.execAcqSample
  extract_lets _ _
  split
  · exact .next h.upsetRing
  · extract_lets _ _ u1 _ _ _ _ u2 u3 _
    have h1 : s.Upholds u1 := h.upsetRing.advanceTo
    have h2 : s.Upholds u2 := h1.acqCodes.setRing
    have h3 : s.Upholds u3 := .ite h2.source h2
    exact .ite (.next h.upsetRing) (.ite (.next h1) (.ite (.next h1.tagEndRing) (.ite (.next h3.acqWrite) (.ite
      (.next h3.acqWrite) (.next h3)))))

theorem Upholds.acqFireRing {k l f} (h : s.Upholds t) : s.Upholds (t.acqFireRing k l f) := by
  unfold State.acqFireRing
  split
  · exact h
  · exact .ite h (.ite h.acqWrite h.incSat)

theorem Upholds.acqFire {l f} (h : s.Upholds t) : s.Upholds (t.acqFire l f) := h.forEach fun _ _ h1 => h1.acqFireRing

theorem Upholds.execAcqFrameRearm {cluster} (h : s.Upholds t) : s.Ends (execAcqFrameRearm cluster t) := by
  unfold Machine.execAcqFrameRearm
  split
  · exact .next h
  · exact .ite (.next h) (.ite (.next h.advanceTo) (.ite (.next h.advanceTo.setRing.setBitAt.setFld.acqWrite)
      (.next h.advanceTo.endRing)))

theorem Upholds.endAcquire {o status} (h : s.Upholds t) : s.Upholds (t.endAcquire o status) := by
  unfold State.endAcquire
  extract_lets
  split <;> exact .endOp (h.forEach fun _ _ h1 => .ite h1.endRing.setRing.setBitAt h1)

theorem Upholds.execAcquireEnd {a} (h : s.Upholds t) : s.Ends (execAcquireEnd a t) := by
  unfold Machine.execAcquireEnd
  split
  · exact .next h
  · refine .ite (.next h.endAcquire) (.ite (.next h.advanceTo.endAcquire) ?_)
    split
    · exact .next h
    · exact .next (.ite h.advanceTo h.advanceTo.endAcquire)

theorem Upholds.rdResult {k n} (h : s.Upholds t) : s.Upholds (t.rdResult k n) := h.setFld
theorem Upholds.showRecord {k r} (h : s.Upholds t) : s.Upholds (t.showRecord k r) := h.setRing.setBitAt
theorem Upholds.readShown {k i} (h : s.Upholds t) : s.Upholds (t.readShown k i) := .ite h.setBitAt.event h

theorem Upholds.doAcqNext {cluster} (h : s.Upholds t) : s.Ends (doAcqNext cluster t) :=
  .next (.ite h.rdResult (.ite h.showRecord.rdResult h.showRecord.rdResult))

theorem Upholds.doAcqMark {cluster} (h : s.Upholds t) : s.Ends (doAcqMark cluster t) :=
    .next (.ite h.rdResult h.setRing.rdResult)

theorem Upholds.doAcqRewind {cluster} (h : s.Upholds t) : s.Ends (doAcqRewind cluster t) := by
  unfold Machine.doAcqRewind
  extract_lets _
  refine .next (.ite h.rdResult ?_)
  split
  · exact h.showRecord.rdResult
  · exact h.showRecord.rdResult.event

theorem Upholds.doAcqOldest {cluster} (h : s.Upholds t) : s.Ends (doAcqOldest cluster t) :=
  .next (.ite h.rdResult h.showRecord.rdResult)

end Sys2Proof.Machine.State
end

section
/-! Fountains and analog channels (R256 to R284, R347 to R371). -/

namespace Sys2Proof.Machine.State

variable {s t : State}

theorem Upholds.putFountain {n r} (h : s.Upholds t) : s.Upholds (t.putFountain n r) := by
  unfold State.putFountain
  extract_lets _ u1 u2 u3 u4 u5 u6
  have h1 : s.Upholds u1 := h.setFnt.setFld
  have h2 : s.Upholds u2 := h1.forEach fun _ _ h2 => h2.setReg
  have h3 : s.Upholds u3 := h2.setFld.setBitAt
  have h4 : s.Upholds u4 := .ite h3 h3.addSat.event
  have h5 : s.Upholds u5 := .ite h4 h4.addSat.event
  have h6 : s.Upholds u6 := .ite h5.setBitAt.event h5
  exact .ite h6.setFld.event h6

theorem Upholds.fountainStep {n} (h : s.Upholds t) : s.Upholds (t.fountainStep n) := .ite h.putFountain h

theorem Upholds.fountainTo {n v fuel} (h : s.Upholds t) : s.Upholds (t.fountainTo n v fuel) := by
  induction fuel generalizing t with
  | zero => exact h
  | succ fuel ih => exact .ite h (ih h.fountainStep)

theorem Upholds.fountainAhead {f limit n} (h : s.Upholds t) : s.Upholds (t.fountainAhead f limit n) := by
  induction n generalizing t with
  | zero => exact h
  | succ n ih => exact .ite (ih h.fountainStep) h

theorem Upholds.toRefresh {n fuel} (h : s.Upholds t) : s.Upholds (t.toRefresh n fuel) := by
  induction fuel generalizing t with
  | zero => exact h
  | succ fuel ih => exact .ite h (ih h.fountainStep)

theorem Upholds.loadPark {a} (h : s.Upholds t) : s.Upholds (t.loadPark a) := by
  unfold State.loadPark
  extract_lets u1
  have h1 : s.Upholds u1 := by
    unfold u1
    split
    · exact h.setReg
    · exact h.setReg.setBitAt
  exact .ite h1.parkAn h1

theorem Upholds.doParkSave {ch} (h : s.Upholds t) : s.Ends (doParkSave ch t) := .next (.ite h.setFld h.setAna.setFld.setBitAt)

theorem Upholds.execParkSaveDone {ch} (h : s.Upholds t) : s.Ends (execParkSaveDone ch t) := by
  unfold Machine.execParkSaveDone
  extract_lets
  split
  · exact .next h
  · exact .next h.mramWrite.setAna.setBitAt.event

theorem Upholds.doOutRangeWrite {ch v} (h : s.Upholds t) : s.Ends (doOutRangeWrite ch v t) :=
  .next (.ite h.setFld.takeRange h.setFld)

theorem Upholds.execRangeMuteEnd {ch} (h : s.Upholds t) : s.Ends (execRangeMuteEnd ch t) := by
  unfold Machine.execRangeMuteEnd
  split
  · exact .next h
  · exact .next (.ite h.advanceTo (.ite h.advanceTo.parkAn h.advanceTo.setAna))

theorem Upholds.checkAwg {o} (h : s.Upholds t) : s.Upholds (t.checkAwg o) := .ite h.endOp (.ite h.setWork.takeRange h.setWork)

theorem Upholds.awgBegin {o w} (h : s.Upholds t) : s.Upholds (t.awgBegin o w) :=
    .ite h.setWork.setAna h.setWork.setAna.setAnState

theorem Upholds.startAwgPlay {o} (h : s.Upholds t) : s.Upholds (startAwgPlay t o) := by
  unfold Machine.startAwgPlay
  split
  · exact h
  · exact .ite h.beginOp.setReg64.setWork h.beginOp.setReg64.awgBegin

theorem Upholds.awgReach {o} (h : s.Upholds t) : s.Upholds (t.awgReach o) := by
  unfold State.awgReach
  split
  · exact h
  · exact .ite h (.ite h.advanceTo h.advanceTo.awgBegin)

theorem Upholds.endAwg {o status reason n} (h : s.Upholds t) : s.Upholds (t.endAwg o status reason n) :=
  h.setReg64.setProgress.endOp

theorem Upholds.execAwgPlayEnd {a} (h : s.Upholds t) : s.Ends (execAwgPlayEnd a t) := by
  unfold Machine.execAwgPlayEnd
  split
  · exact .next h
  · extract_lets _
    split
    · exact .next h.awgReach
    · split
      · exact .next h.awgReach
      · extract_lets _
        refine .ite (.next h.awgReach.endAwg) (.ite (.next h.awgReach) ?_)
        split
        · exact .ite (.next h.awgReach.advanceTo.endAwg) (.next (.ite h.awgReach.advanceTo h.awgReach.advanceTo.endAwg))
        · exact .ite (.next h.awgReach) (.next (.ite h.awgReach.advanceTo h.awgReach.advanceTo.endAwg))

theorem Upholds.awgFire {l f} (h : s.Upholds t) : s.Upholds (t.awgFire l f) := by
  unfold State.awgFire
  refine h.forEach fun _ _ h1 => ?_
  extract_lets u2
  have h2 : s.Upholds u2 := .ite h1.awgReach h1
  split
  · exact .ite h2.setWork.setAnState h2
  · exact h2

theorem Upholds.doBankSwap {path ch v} (h : s.Upholds t) : s.Ends (doBankSwap path ch v t) :=
  .ite (.next h.setFld) (.ite (.next h.rangeFlag) (.next h.setAna.setFld))

theorem Upholds.execBankSwapTakeEffect {ch} (h : s.Upholds t) : s.Ends (execBankSwapTakeEffect ch t) := by
  unfold Machine.execBankSwapTakeEffect
  split
  · exact .next h
  · extract_lets _ _ _ u1 _
    have h1 : s.Upholds u1 := h.advanceTo.setAna
    refine .ite (.next h.advanceTo) ?_
    split
    · exact .next h1.setBitAt
    · exact .ite (.next h1.setAna.setBitAt.setBitAt) (.ite (.next h1.setFld) (.next h1.setAna.setBitAt.setBitAt.setFld))

theorem Upholds.execFadeEnd {ch} (h : s.Upholds t) : s.Ends (execFadeEnd ch t) := by
  unfold Machine.execFadeEnd
  split
  · split
    · exact .ite (.next h) (.next (.ite h.advanceTo h.advanceTo.fadeOver))
    · exact .next h
  · exact .next h

theorem Upholds.doCoefficientWrite {ch bankB index v} (h : s.Upholds t) : s.Ends (doCoefficientWrite ch bankB index v t) :=
  .next (.ite h.incSat.event h.setReg)

theorem Upholds.startDigitize {o} (h : s.Upholds t) : s.Upholds (startDigitize t o) :=
  (Upholds.ite h.beginOp h.beginOp.setFld.setAna).setWork

theorem Upholds.latchDig {ch} (h : s.Upholds t) : s.Upholds (t.latchDig ch) := by
  unfold State.latchDig
  split
  · exact .ite h.setWork h
  · exact h

theorem Upholds.digFire {l f} (h : s.Upholds t) : s.Upholds (t.digFire l f) := by
  unfold State.digFire
  refine h.forEach fun _ _ h1 => ?_
  split
  · exact .ite h1.setWork h1
  · exact h1

theorem Upholds.storeSamples {o w n} (h : s.Upholds t) : s.Upholds (t.storeSamples o w n).1 :=
    h.writeBytes.setWork.setProgress

theorem Upholds.execDigitizerSample {a code drained} (h : s.Upholds t) : s.Ends (execDigitizerSample a code drained t) := by
  unfold Machine.execDigitizerSample
  split
  · exact .next h
  · split
    · extract_lets _ _ _ u1 _ u2 _ _ _ _ _ _ _ _ u3 _ _ u4
      have h1 : s.Upholds u1 := h.advanceTo.latchDig
      have h2 : s.Upholds u2 := h1.storeSamples
      have h3 : s.Upholds u3 := .ite h2.setReg.event h2.setReg
      have h4 : s.Upholds u4 := h3.setWork.event.source
      exact .ite (.next h) (.ite (.next h1) (.ite (.next h2.setWork.event) (.ite (.next (.ite h4.lineEvent h4))
        (.next h3.setWork))))
    · exact .next h

theorem Upholds.execDigitizeEnd {a} (h : s.Upholds t) : s.Ends (execDigitizeEnd a t) := by
  unfold Machine.execDigitizeEnd
  split
  · exact .next h
  · split
    · refine .ite (.next h) ?_
      extract_lets _ u1 _
      have h1 : s.Upholds u1 := h.storeSamples
      refine .next ?_
      split
      · exact h1.endOp
      · exact .ite h1.endOp (.ite h1.endOp h1.endOp)
    · exact .next h

end Sys2Proof.Machine.State
end

section
/-! Segments, pattern runs, the play of vectors and the compare logic (R223 to R254, R285 to R296). -/

namespace Sys2Proof.Machine.State

variable {s t : State}

theorem Upholds.setSegState {n v} (h : s.Upholds t) : s.Upholds (t.setSegState n v) := h.setFld
theorem Upholds.emptySeg {n} (h : s.Upholds t) : s.Upholds (t.emptySeg n) := h.setReg.setReg.setReg.setReg.setSeg
theorem Upholds.armSeg {n a} (h : s.Upholds t) : s.Upholds (t.armSeg n a) := .ite h.setSeg.setSegState (.ite h.setSeg h)

theorem Upholds.unarmSeg {n a} (h : s.Upholds t) : s.Upholds (t.unarmSeg n a) := by
  unfold State.unarmSeg
  extract_lets
  split
  · exact h
  · exact .ite h.setSeg.setSegState h.setSeg

theorem Upholds.activateSeg {n a} (h : s.Upholds t) : s.Upholds (t.activateSeg n a) := h.setSeg.setSegState

theorem Upholds.drainSeg {n a} (h : s.Upholds t) : s.Upholds (t.drainSeg n a) :=
  .ite h (.ite h.setSeg (.ite h.setSeg.setSegState h.setSeg.setSegState))

theorem Upholds.takeTarget {o} (h : s.Upholds t) : s.Upholds (t.takeTarget o) :=
  .setWork (.setSeg (.setReg64 (.setReg (.setReg (.ite (h.forEach fun _ _ h1 => h1.emptySeg) (.event
    (h.forEach fun _ _ h1 => h1.emptySeg)))))))

theorem Upholds.startSegmentLoad {o} (h : s.Upholds t) : s.Upholds (startSegmentLoad t o) := by
  unfold Machine.startSegmentLoad
  extract_lets u1
  have h1 : s.Upholds u1 := h.beginOp.setWork
  split
  · exact h1.takeTarget
  · exact .ite h1.endOp h1

theorem Upholds.execSegmentLoadTake {a} (h : s.Upholds t) : s.Ends (execSegmentLoadTake a t) := by
  unfold Machine.execSegmentLoadTake
  split
  · exact .next h
  · split
    · exact .next (.ite h h.takeTarget)
    · exact .next h

theorem Upholds.copyOn {o} (h : s.Upholds t) : s.Upholds (t.copyOn o) := by
  unfold State.copyOn
  split
  · exact .ite h (.ite h.setProgress (.ite h.other h.other.writeBytes.setProgress))
  · exact h

theorem Upholds.execSegmentLoadCrcDone {a} (h : s.Upholds t) : s.Ends (execSegmentLoadCrcDone a t) := by
  unfold Machine.execSegmentLoadCrcDone
  split
  · exact .next h
  · split
    · exact .ite (.next h) (.ite (.next h.emptySeg.endOp) (.ite (.next
        (Upholds.ite h.writeBytes h).setProgress.setSegState.setSeg.endOp) (.next
        (Upholds.ite h.writeBytes h).setProgress.emptySeg.event.endOp)))
    · exact .next h

theorem Upholds.setRun {a w} (h : s.Upholds t) : s.Upholds (t.setRun a w) := h.setWork

theorem Upholds.loadPrograms {g a l} (h : s.Upholds t) : s.Upholds (t.loadPrograms g a l).1 := by
  induction l generalizing t with
  | nil => exact h
  | cons f l ih =>
    unfold State.loadPrograms
    split
    · split
      · exact h.setReg.event
      · exact h
    · exact ih h.setFnt.setReg

theorem Upholds.armFor {n a prev} (h : s.Upholds t) : s.Upholds (t.armFor n a prev) := .ite (.ite h h.setSeg) h.armSeg

theorem Upholds.judgeBound {a t' prev late b} (h : s.Upholds t) : s.Upholds (t.judgeBound a t' prev late b).1 :=
  h.forEach fun _ _ h1 => h1.armFor

theorem Upholds.collide {k j n} (h : s.Upholds t) : s.Upholds (t.collide k j n) := .ite h h.addSat.orReg
theorem Upholds.holdPin {k j lim} (h : s.Upholds t) : s.Upholds (t.holdPin k j lim) := h.setChan.collide

theorem Upholds.holdCluster {g w k cut} (h : s.Upholds t) : s.Upholds (t.holdCluster g w k cut) :=
  .ite h (.setClu (h.forEach fun _ _ h1 => .ite h1.holdPin h1))

theorem Upholds.holdEnded {a} (h : s.Upholds t) : s.Upholds (t.holdEnded a) := by
  unfold State.holdEnded
  split
  · split
    · exact h.forEach fun _ _ h1 => h1.holdCluster
    · exact h
  · exact h

theorem Upholds.endRun {a status reason rank n} (h : s.Upholds t) : s.Upholds (t.endRun a status reason rank n) := by
  unfold State.endRun
  split
  · exact .ite h.setRun.holdEnded h
  · exact h

theorem Upholds.stopRun {a status reason rank} (h : s.Upholds t) : s.Upholds (t.stopRun a status reason rank) := by
  unfold State.stopRun
  split
  · exact h.endRun
  · exact h

theorem Upholds.runAhead {f} (h : s.Upholds t) : s.Upholds (t.runAhead f) := .ite h.other.fountainAhead h
theorem Upholds.showLoops {q loops} (h : s.Upholds t) : s.Upholds (t.showLoops q loops) := h.forEach fun _ _ h1 => h1.setReg

theorem Upholds.showNothing {w} (h : s.Upholds t) : s.Upholds (t.showNothing w) :=
    h.forEach fun _ _ h1 => h1.setReg64.setReg64

theorem Upholds.closeRun {a w} (h : s.Upholds t) : s.Upholds (t.closeRun a w) :=
  .forEach (.forEach (.forEach (.forEach (h.forEach fun _ _ h1 => h1.unarmSeg) fun _ _ h1 => h1.drainSeg) fun _ _ h1 =>
    h1.setBitAt.setReg.setReg.showLoops) fun _ _ h1 => h1.runAhead.setFnt.setBitAt) fun _ _ h1 => .ite h1.setClu.setFld h1

theorem Upholds.failRun {a status reason detail} (h : s.Upholds t) : s.Upholds (t.failRun a status reason detail) := by
  unfold State.failRun
  split
  · exact h.closeRun.showNothing.endOp
  · exact h.endOp

theorem Upholds.armFountain {f} (h : s.Upholds t) : s.Upholds (t.armFountain f) :=
  h.setReg.setReg.setReg.setReg.forEach fun _ _ h1 => h1.setReg

theorem Upholds.clearCounts {w} (h : s.Upholds t) : s.Upholds (t.clearCounts w) :=
  h.forEach fun _ _ h1 => h1.forEach fun _ _ h2 => h2.setReg

theorem Upholds.checkRun {o} (h : s.Upholds t) : s.Upholds (t.checkRun o) := by
  unfold State.checkRun
  split
  · exact h
  · extract_lets w n u keep
    have hu : s.Upholds u := h.clearCounts
    have hl {g a l v} {r : Option (Nat × Nat × Nat)} (e : u.loadPrograms g a l = (v, r)) : s.Upholds v := by
      have := hu.loadPrograms (g := g) (a := a) (l := l)
      rwa [e] at this
    split
    · exact hu.showNothing.endOp
    split
    · exact hu.showNothing.endOp
    split
    next e => exact .endOp (.showNothing ((hl e).forEach fun _ _ h => h.setFnt))
    next e =>
      split
      · exact .endOp (.showNothing ((hl e).forEach fun _ _ h => h.setFnt))
      · extract_lets v p u'
        have hv : s.Upholds v := (hl e).forEach fun _ _ h => h.armFountain
        have hu' : s.Upholds u' := hv.judgeBound.setRun
        exact .ite hv.setRun (.ite hu'.failRun hu')

theorem Upholds.startPatternRun {o} (h : s.Upholds t) : s.Upholds (startPatternRun t o) := by
  unfold Machine.startPatternRun
  split
  · exact .ite h.failRun (.forEach (.showNothing (h.beginOp.setRun.forEach fun _ _ h1 => h1.setReg.setReg.setReg)) fun _ _ h1
      => h1.setClu.forEach fun _ _ h2 => .ite h2 (.ite h2.setChan h2.setChan))
  · exact h

theorem Upholds.segPulse {q b} (h : s.Upholds t) : s.Upholds (t.segPulse q b) := h.other

theorem Upholds.startSegment {a w e loops fine} (h : s.Upholds t) : s.Upholds (t.startSegment a w e loops fine) := by
  unfold State.startSegment
  extract_lets ent n last u1 u2 p clear u3 u4 fire
  have h1 : s.Upholds u1 := h.activateSeg
  have h2 : s.Upholds u2 := by
    unfold u2
    clear_value last
    split
    · exact .ite h1 h1.drainSeg
    · exact h1
  have h3 : s.Upholds u3 := h2.setRun
  have h4 : s.Upholds u4 := h3.forEach fun _ _ h => (Upholds.ite h.setFld.setBitAt h.setFld).showLoops
  exact .ite (h4.forEach fun _ _ h => (Upholds.ite h.segPulse h).source) h4

theorem Upholds.dataLate {b} (h : s.Upholds t) : s.Upholds (t.dataLate b).2 := by
  unfold State.dataLate
  split
  · exact h.other
  · exact h

theorem Upholds.underrun {a w lack} (h : s.Upholds t) : s.Upholds (t.underrun a w lack) := h.setRun.endRun.incSat.event

theorem Upholds.passBoundary {o w fine} (h : s.Upholds t) : s.Upholds (t.passBoundary o w fine) := by
  unfold State.passBoundary
  extract_lets _
  split
  · exact h
  · extract_lets _ _ _
    split
    · exact .endRun (h.forEach fun _ _ h1 => h1.showLoops)
    · extract_lets _
      split
      · exact h.underrun
      · exact .ite h.dataLate.endRun (.ite h.dataLate.endRun (.ite h.dataLate.underrun (.ite h.dataLate (.forEach
          (.startSegment (h.dataLate.forEach fun _ _ h1 => h1.clrReg.clrReg)) fun _ _ h1 => h1.unarmSeg))))

theorem Upholds.resolveNext {o w late} (h : s.Upholds t) : s.Upholds (t.resolveNext o w late).1 := by
  unfold State.resolveNext
  split
  · exact h
  · dsimp only
    exact h.judgeBound

theorem Upholds.drainAhead {a} (h : s.Upholds t) : s.Upholds (t.drainAhead a) := by
  unfold State.drainAhead
  split
  · exact h
  · split
    · exact .ite h.drainSeg h
    · exact h

theorem Upholds.execNeedInstant {a} (h : s.Upholds t) : s.Ends (execNeedInstant a t) := by
  unfold Machine.execNeedInstant
  split
  · exact .next h
  · exact .ite (.next h) (.next h.advanceTo.resolveNext.setRun.drainAhead)

theorem Upholds.execDecisionPoint {a} (h : s.Upholds t) : s.Ends (execDecisionPoint a t) := by
  unfold Machine.execDecisionPoint
  split
  · exact .next h
  · refine .ite (.next h) ?_
    dsimp only
    split
    · exact .next h
    · exact .ite (.next h) (.ite (.next h.advanceTo) (.next h.advanceTo.setRun.drainAhead))

theorem Upholds.execSegmentBoundary {a} (h : s.Upholds t) : s.Ends (execSegmentBoundary a t) := by
  unfold Machine.execSegmentBoundary
  split
  · exact .next h
  · refine .ite (.next h) (.ite (.next h.advanceTo) (.next (.passBoundary (.setRun ?_))))
    split
    · exact h.advanceTo
    · exact h.advanceTo.resolveNext

theorem Upholds.execSegtrigPulseEnd {seq} (h : s.Upholds t) : s.Ends (execSegtrigPulseEnd seq t) := by
  unfold Machine.execSegtrigPulseEnd
  split
  · exact .next h
  · exact .next (.ite h.advanceTo h.advanceTo.other)

theorem Upholds.requestRun {a trig x} (h : s.Upholds t) : s.Upholds (t.requestRun a trig x) := by
  unfold State.requestRun
  split
  · exact h
  · exact .ite h (h.setRun.incSat.event.forEach fun _ _ h1 => h1.setBitAt)

theorem Upholds.execHostRequest {seq bits} (h : s.Upholds t) : s.Ends (execHostRequest seq bits t) :=
  .next (h.orReg.forEach fun _ _ h1 => h1.forEach fun _ _ h2 => h2.requestRun)

theorem Upholds.execHostRequestClear {seq bits} (h : s.Upholds t) : s.Ends (execHostRequestClear seq bits t) := .next h.clrReg

theorem Upholds.fireForRuns {l} (h : s.Upholds t) : s.Upholds (t.fireForRuns l) :=
  h.forEach fun _ _ h1 => .requestRun (h1.forEach fun _ _ h2 => h2.setBitAt)

theorem Upholds.playPin {k j n t' start sym} (h : s.Upholds t) : s.Upholds (t.playPin k j n t' start sym) := by
  unfold State.playPin
  have h1 {c ch p} : s.Upholds ((t.setChan c ch).collide k j p) := h.setChan.collide
  exact .ite (.event (.incSat (.ite h1.orReg.event h1))) (.ite h1.orReg.event h1)

theorem Upholds.leadVector {a w n start} (h : s.Upholds t) : s.Upholds (t.leadVector a w n start) := by
  unfold State.leadVector
  refine .forEach (h.ltAdd.setRun.forEach fun _ _ h1 => h1.setReg64.setReg64) fun _ _ h1 => ?_
  split
  · exact h1
  · exact .ite h1.setReg64.setReg.setReg.setReg.setFld.source h1.setReg64.setReg.setReg.setReg.setFld

theorem Upholds.dropWords {w} (h : s.Upholds t) : s.Upholds (t.dropWords w) := h.forEach fun _ _ h1 => h1.setFnt

theorem Upholds.playVector {g o w k} (h : s.Upholds t) : s.Upholds (t.playVector g o w k) :=
  .holdEnded (.dropWords (.setFld (.setClu ((Upholds.ite h.leadVector.drainAhead h).forEach fun _ _ h1 => .ite h1.playPin
    h1))))

theorem Upholds.execVectorPlay {cluster} (h : s.Upholds t) : s.Ends (execVectorPlay cluster t) := by
  unfold Machine.execVectorPlay
  dsimp only
  split
  · refine .ite (.next h) (.ite (.next h.advanceTo) ?_)
    split
    · exact .next (.endRun (h.advanceTo.forEach fun _ _ h => h.fountainTo))
    · exact .next (.playVector (h.advanceTo.forEach fun _ _ h => h.fountainTo))
  · exact .next h

theorem Upholds.stopAllAt {g o w at_} (h : s.Upholds t) : s.Upholds (t.stopAllAt g o w at_) :=
  .setRun (.forEach (.closeRun (.forEach (h.advanceTo.forEach fun _ _ h1 => h1.holdCluster) fun _ _ h1 =>
    h1.setBitAt.setReg64)) fun _ _ h1 => h1.setBitAt)

theorem Upholds.stopAll {g o w} (h : s.Upholds t) : s.Upholds (t.stopAll g o w) := h.stopAllAt

theorem Upholds.execPatternRunStop {a} (h : s.Upholds t) : s.Ends (execPatternRunStop a t) := by
  unfold Machine.execPatternRunStop
  split
  · split
    · exact .next (.ite h h.stopAll)
    · exact .next h
  · exact .next h

theorem Upholds.execFeederDrainEnd {a} (h : s.Upholds t) : s.Ends (execFeederDrainEnd a t) := by
  unfold Machine.execFeederDrainEnd
  split
  · exact .next h
  · split
    · exact .next (.ite h (.endOpAt (h.forEach fun _ _ h1 => h1.setBitAt)))
    · exact .next h

theorem Upholds.strobeResults {k samples l} (h : s.Upholds t) : s.Upholds (t.strobeResults k samples l).2 := by
  induction l generalizing t with
  | nil => exact h
  | cons p l ih =>
    unfold State.strobeResults
    split
    · exact ih h.compareAll
    · exact ih h

theorem Upholds.markFail {a at_} (h : s.Upholds t) : s.Upholds (t.markFail a at_) := by
  unfold State.markFail
  split
  · exact h
  · exact .ite h.setRun (h.setRun.forEach fun _ _ h1 => h1.setBitAt)

theorem Upholds.formRecord {g k site b rs} (h : s.Upholds t) : s.Upholds (t.formRecord g k site b rs) := by
  unfold State.formRecord
  split
  · exact (Upholds.ite h.bumpBhead h).setBhead.setClu
  · exact h

theorem Upholds.failSite {a vec site e} (h : s.Upholds t) : s.Upholds (t.failSite a vec site e) := by
  unfold State.failSite
  split
  · exact h
  · exact .ite h h.setRun.source

theorem Upholds.failSources {g k b rs} (h : s.Upholds t) : s.Upholds (t.failSources g k b rs) := by
  unfold State.failSources
  split
  · exact h
  · extract_lets _ u1
    have h1 : s.Upholds u1 := by
      refine h.advanceTo.forEach fun _ _ h1 => ?_
      split
      · exact h1.failSite
      · exact h1
    exact .ite h1 h1.source

theorem Upholds.execVectorResultComplete {cluster vec samples} (h : s.Upholds t) :
    s.Ends (execVectorResultComplete cluster vec samples t) := by
  unfold Machine.execVectorResultComplete
  split
  · exact .ite (.next h) (.next (.forEach (h.strobeResults.setClu.failSources.advanceTo.forEach fun _ _ h1 =>
      h1.incSat.markFail) fun _ _ h1 => .ite h1.formRecord h1))
  · exact .next h

theorem Upholds.haltRun {r a reason} (h : s.Upholds t) : s.Upholds (t.haltRun r a reason) := by
  unfold State.haltRun
  split
  · exact h
  · refine .ite h ?_
    extract_lets
    split
    · exact h.stopRun.setBflag.setMaskBit.event
    · exact h.stopRun

theorem Upholds.execFeederEntry {cluster} (h : s.Upholds t) : s.Ends (execFeederEntry cluster t) := by
  unfold Machine.execFeederEntry
  extract_lets _
  split
  · exact .next h
  · refine .ite (.next h) ?_
    split
    · exact .next h.setClu
    · refine .ite ?_ ?_
      · extract_lets u1 u2
        have h1 : s.Upholds u1 := h.setClu.bumpBhead
        have h2 : s.Upholds u2 := h1.setBflag.incSat.event
        exact .next (.ite h2.haltRun h2)
      · extract_lets _ _ u1 u2 u3
        have h1 : s.Upholds u1 := h.setClu.setBhead
        have h2 : s.Upholds u2 := .ite h1.setBflag h1
        have h3 : s.Upholds u3 := .ite h2.setBflag.setMaskBit.event.source h2
        exact .next (.ite h3.haltRun h3)

theorem Upholds.execBasinRecordStore {cluster} (h : s.Upholds t) : s.Ends (execBasinRecordStore cluster t) := by
  unfold Machine.execBasinRecordStore
  extract_lets _
  split
  · exact .next h
  · extract_lets _
    split
    · exact .next h.setClu
    · exact .ite (.next h.setClu.bumpBhead) (.next h.setClu.writeBytes.setBhead.feedUploads)

theorem Upholds.execBasinClear {site} (h : s.Upholds t) : s.Ends (execBasinClear site t) := by
  unfold Machine.execBasinClear
  split
  · exact .next h.setReg
  · exact .next (.ite h.clearBasin.setReg h.setReg)

end Sys2Proof.Machine.State
end

section
/-! Power supply controllers, fast lanes, level commands and the measurement path (R171 to R218, R329 to R346, R372 to R407).
-/

namespace Sys2Proof.Machine.State

variable {s t : State}

theorem Upholds.refreshPg {d stays} (h : s.Upholds t) : s.Upholds (t.refreshPg d stays) := .ite h.setBitAt.event h.setBitAt
theorem Upholds.setDpsState {d v} (h : s.Upholds t) : s.Upholds (t.setDpsState d v) := h.setFld.refreshPg
theorem Upholds.setRef {d v} (h : s.Upholds t) : s.Upholds (t.setRef d v) := h.setCtl.setReg

theorem Upholds.dpsOff {d} (h : s.Upholds t) : s.Upholds (t.dpsOff d) := by
  unfold State.dpsOff
  extract_lets u1 u2 _ _
  have h1 : s.Upholds u1 := h.setFld.setBitAt.setReg
  have h2 : s.Upholds u2 := h1.setRef.setDpsState
  split
  · exact .ite h2.setCtl.release h2.setCtl
  · exact h2.setCtl

theorem Upholds.startMotion {d target slope fast} (h : s.Upholds t) : s.Upholds (t.startMotion d target slope fast) :=
    h.setCtl

theorem Upholds.discharge {d slope fast} (h : s.Upholds t) : s.Upholds (t.discharge d slope fast) :=
  .ite (.ite h.setReg.setDpsState.startMotion.dpsOff h.setReg.setDpsState.startMotion) h

theorem Upholds.dischargeOwn {d} (h : s.Upholds t) : s.Upholds (t.dischargeOwn d) := h.discharge
theorem Upholds.dpsFault {d} (h : s.Upholds t) : s.Upholds (t.dpsFault d) := h.setDpsState.setCtl

theorem Upholds.checkDps {o} (h : s.Upholds t) : s.Upholds (t.checkDps o) := by
  unfold State.checkDps
  refine .ite h.endOp ?_
  split
  · exact h.endOp
  · exact h.setWork

theorem Upholds.settleDps {a} (h : s.Upholds t) : s.Upholds (t.settleDps a) := by
  unfold State.settleDps
  split
  · exact h
  · exact .ite h.endOp h

theorem Upholds.startDpsSequence {o} (h : s.Upholds t) : s.Upholds (startDpsSequence t o) := by
  unfold Machine.startDpsSequence
  split
  · exact h.beginOp.setWork.settleDps
  · exact h

theorem Upholds.siteFail {a site reason} (h : s.Upholds t) : s.Upholds (t.siteFail a site reason) := by
  unfold State.siteFail
  split
  · exact h
  · split
    · exact h
    · refine .ite h ?_
      extract_lets _ _ _ u1 u2
      have h1 : s.Upholds u1 := h.setWork.release.mntEnd
      have h2 : s.Upholds u2 := h1.forEach fun _ _ h2 => h2.dischargeOwn
      exact (Upholds.ite h2.release h2).settleDps

theorem Upholds.beginStep {a w p x d} (h : s.Upholds t) : s.Upholds (t.beginStep a w p x d) := by
  unfold State.beginStep
  extract_lets _ _ u1 _ _ u2 u3
  have h1 : s.Upholds u1 := h.setWork.setReg.setReg
  have h2 : s.Upholds u2 := .ite h1.setCtl.setRef h1
  have h3 : s.Upholds u3 := h2.setDpsState.startMotion
  exact .ite h.siteFail (.ite h.setWork.discharge (.ite h3.setDpsState.setWork h3))

theorem Upholds.execDpsStepStart {a site} (h : s.Upholds t) : s.Ends (execDpsStepStart a site t) := by
  unfold Machine.execDpsStepStart
  split
  · exact .next h
  · split
    · exact .next h
    · split
      · exact .next h
      · extract_lets u1 _ _
        have h1 : s.Upholds u1 := .ite h.advanceTo h
        exact .ite (.next h1) (.ite (.next h1.beginStep) (.ite (.next h1.mntAsk.setWork) (.ite (.next h1.beginStep)
          (.next h1))))

theorem Upholds.execDpsStepEnd {a site} (h : s.Upholds t) : s.Ends (execDpsStepEnd a site t) := by
  unfold Machine.execDpsStepEnd
  split
  · exact .next h
  · split
    · exact .next h
    · split
      · exact .next h
      · exact .ite (.next h) (.ite (.next h.siteFail) (.ite (.next h.setWork.setProgress.release.mntEnd.settleDps) (.next h)))

theorem Upholds.execPgoodTimeout {a site} (h : s.Upholds t) : s.Ends (execPgoodTimeout a site t) := by
  unfold Machine.execPgoodTimeout
  split
  · exact .next h
  · split
    · exact .next h
    · split
      · exact .ite (.next h) (.next (.ite h.advanceTo h.advanceTo.siteFail))
      · exact .next h

theorem Upholds.execStepEnergyTimeout {a site} (h : s.Upholds t) : s.Ends (execStepEnergyTimeout a site t) := by
  unfold Machine.execStepEnergyTimeout
  split
  · exact .next h
  · split
    · exact .next h
    · exact .ite (.next h) (.next (.ite h.advanceTo h.advanceTo.siteFail))

theorem Upholds.stopDps {o status} (h : s.Upholds t) : s.Upholds (t.stopDps o status) := by
  unfold State.stopDps
  split
  · exact h.endOp
  · exact .endOp (.forEach (h.forEach fun _ _ h1 => .ite h1.setCtl.setReg.setDpsState h1) fun _ _ h1 => .ite
      h1.release.mntEnd.release h1.release.mntEnd)

theorem Upholds.execReferenceUpdate {d} (h : s.Upholds t) : s.Ends (execReferenceUpdate d t) := by
  unfold Machine.execReferenceUpdate
  extract_lets _ _ _ _ _ u1 u2
  have h1 : s.Upholds u1 := h.advanceTo.setCtl.setRef
  have h2 : s.Upholds u2 := h1.setDpsState
  refine .ite (.next h) (.ite (.next h1) (.ite (.next h1.dpsOff) (.next ?_)))
  split
  · split
    · split
      · exact .ite h2.setWork h2
      · exact h2
    · exact h2
  · exact h2

theorem Upholds.holdDps {d by_ reason} (h : s.Upholds t) : s.Upholds (t.holdDps d by_ reason) := by
  unfold State.holdDps
  extract_lets _ u1
  have h1 : s.Upholds u1 := h.setFld.setDpsState.setCtl
  split
  · split
    · exact h1.siteFail
    · exact h1
  · exact h1

theorem Upholds.execSwitchingPeriod {d vsns wave} (h : s.Upholds t) : s.Ends (execSwitchingPeriod d vsns wave t) := by
  unfold Machine.execSwitchingPeriod
  refine .ite (.next h) ?_
  extract_lets _ _ _ _ u1 _ _
  have h1 : s.Upholds u1 := h.advanceTo.setBitAt
  refine .ite (.next (.ite h1.setCtl.event h1.setCtl)) ?_
  split <;> exact .next h1.setCtl

theorem Upholds.execLimitTrip {d cycle uv} (h : s.Upholds t) : s.Ends (execLimitTrip d cycle uv t) := by
  unfold Machine.execLimitTrip
  refine .ite (.next h) (.ite (.next h.event) (.ite (.next h) ?_))
  extract_lets _ _ u1 u2
  have h1 : s.Upholds u1 := h.advanceTo.setCtl
  have h2 : s.Upholds u2 := h1.incSat.event.source
  refine .ite (.next h2.holdDps) (.next ?_)
  split
  · split
    · exact h2.setWork
    · exact h2
  · exact h2

theorem Upholds.execDpsSample {d isns vsns} (h : s.Upholds t) : s.Ends (execDpsSample d isns vsns t) :=
  .ite (.next h.setReg.setReg.setReg.setReg64.setCtl.refreshPg.event.holdDps)
    (.next h.setReg.setReg.setReg.setReg64.setCtl.refreshPg)

theorem Upholds.doDpsDisable {d} (h : s.Upholds t) : s.Ends (doDpsDisable d t) := .next (.ite h.dpsOff h.dischargeOwn)
theorem Upholds.doClearTrip {path d} (h : s.Upholds t) : s.Ends (doClearTrip path d t) := .next (.ite h.dpsOff h.rangeFlag)
theorem Upholds.lanesOff {g} (h : s.Upholds t) : s.Upholds (t.lanesOff g) := .setBitAt (h.forEach fun _ _ h1 => h1.setReg)
theorem Upholds.pllLocks {g} (h : s.Upholds t) : s.Upholds (t.pllLocks g) := h.other.setBitAt

theorem Upholds.modLane {a l f} (h : s.Upholds t) : s.Upholds (t.modLane a l f) := by
  unfold State.modLane
  split
  · exact h.setWork
  · exact h

theorem Upholds.loseLock {a l} (h : s.Upholds t) : s.Upholds (t.loseLock a l) := h.setFld.incSat.event.modLane
theorem Upholds.gainLock {a l pos} (h : s.Upholds t) : s.Upholds (t.gainLock a l pos) := h.setFld.modLane
theorem Upholds.firstError {a l} (h : s.Upholds t) : s.Upholds (t.firstError a l) := h.modLane.event.source

theorem Upholds.compareBit {o w x b} (h : s.Upholds t) : s.Upholds (t.compareBit o w x b) := by
  unfold State.compareBit
  extract_lets _ _ _ _ _ _ _ u1 _ u2
  have h1 : s.Upholds u1 := .ite h.setReg64.setReg64 h
  have h2 : s.Upholds u2 := .ite h1.modLane.firstError h1.modLane
  exact .ite h2.loseLock h2

theorem Upholds.acquireBit {o w x b} (h : s.Upholds t) : s.Upholds (t.acquireBit o w x b) := by
  unfold State.acquireBit
  extract_lets _ _
  refine .ite h.modLane (.ite ?_ (.ite h.modLane.gainLock h.modLane))
  split
  · exact h.modLane.gainLock
  · exact h.modLane

theorem Upholds.receiveBit {l b} (h : s.Upholds t) : s.Upholds (t.receiveBit l b) := by
  unfold State.receiveBit
  split
  · exact h
  · split
    · exact h
    · exact .ite h.compareBit (.ite h.acquireBit h)

theorem Upholds.receive {l bits} (h : s.Upholds t) : s.Upholds (t.receive l bits) := h.forEach fun _ _ h1 => h1.receiveBit

theorem Upholds.startLaneTest {o} (h : s.Upholds t) : s.Upholds (startLaneTest t o) :=
  .ite h.beginOp.setWork.setFld h.beginOp.setWork.setFld.other.setBitAt

theorem Upholds.execLaneDirectionsOn {a locked} (h : s.Upholds t) : s.Ends (execLaneDirectionsOn a locked t) := by
  unfold Machine.execLaneDirectionsOn
  split
  · exact .next h
  · extract_lets _ _ u1 u2 _ _
    have h1 : s.Upholds u1 := .ite h.advanceTo h
    have h2 : s.Upholds u2 := .ite h1.pllLocks h1
    exact .ite (.next h1) (.ite (.next h2) (.next (h2.setWork.forEach fun _ _ h3 => h3.setReg)))

theorem Upholds.execCountingWindowOpen {a} (h : s.Upholds t) : s.Ends (execCountingWindowOpen a t) := by
  unfold Machine.execCountingWindowOpen
  split
  · exact .next h
  · exact .ite (.next h) (.ite (.next h.advanceTo) (.next (.setWork
      (h.advanceTo.forEach fun _ _ h1 => h1.setReg64.setReg64.setReg))))

theorem Upholds.execCountingWindowClose {a bits} (h : s.Upholds t) : s.Ends (execCountingWindowClose a bits t) := by
  unfold Machine.execCountingWindowClose
  split
  · exact .next h
  · extract_lets _ _ _ u1
    have h1 : s.Upholds u1 := h.advanceTo.forEach fun _ _ h1 => h1.receive
    refine .ite (.next h) (.ite (.next h.advanceTo) (.next ?_))
    split
    · exact h1
    · exact (Upholds.ite h1.setBitAt h1).setProgress.setWork

theorem Upholds.execEyePoint {a eye} (h : s.Upholds t) : s.Ends (execEyePoint a eye t) := by
  unfold Machine.execEyePoint
  split
  · exact .next h
  · exact .ite (.next h) (.ite (.next h.advanceTo) (.next h.advanceTo.setWork))

theorem Upholds.execLaneTestEnd {a} (h : s.Upholds t) : s.Ends (execLaneTestEnd a t) := by
  unfold Machine.execLaneTestEnd
  split
  · exact .next h
  · extract_lets _ _ u1 _ _ _
    have h1 : s.Upholds u1 := .ite h.writeBytes.writeBytes h.writeBytes
    exact .ite (.next h) (.ite (.next h1.lanesOff.endOp) (.next h1.lanesOff.endOp))

theorem Upholds.stopLanes {o} (h : s.Upholds t) : s.Upholds (t.stopLanes o) := by
  unfold State.stopLanes
  split
  · exact h.lanesOff.setProgress
  · exact h

theorem Upholds.execCheckerLockLoss {lane cdrLost bits} (h : s.Upholds t) :
    s.Ends (execCheckerLockLoss lane cdrLost bits t) := by
  unfold Machine.execCheckerLockLoss
  extract_lets _
  refine .next (.ite h.receive ?_)
  split
  · exact h.receive
  · exact (Upholds.ite h.receive.loseLock h.receive.modLane).setBitAt

theorem Upholds.startTsetLoad {o} (h : s.Upholds t) : s.Upholds (startTsetLoad t o) := h.beginOp.setWork
theorem Upholds.startForceSet {o} (h : s.Upholds t) : s.Upholds (startForceSet t o) := h.beginOp.setWork
theorem Upholds.startLevelsSet {o} (h : s.Upholds t) : s.Upholds (startLevelsSet t o) := h.beginOp.setWork

theorem Upholds.startContactCheck {o} (h : s.Upholds t) : s.Upholds (startContactCheck t o) := by
  unfold Machine.startContactCheck
  split
  · exact h
  · split
    · exact h.endOp
    · exact .forEach (h.beginOp.setWork.forEach fun _ _ h1 => h1.goLive) fun _ _ h1 => h1.setClu

theorem Upholds.restoreContact {w} (h : s.Upholds t) : s.Upholds (restoreContact t w) := h.forEach fun _ _ h1 => h1.goLive
theorem Upholds.doTeCommit {cluster hi} (h : s.Upholds t) : s.Ends (doTeCommit cluster hi t) := .next h.commitTe

theorem Upholds.execTsetLoadWriteTick {a} (h : s.Upholds t) : s.Ends (execTsetLoadWriteTick a t) := by
  unfold Machine.execTsetLoadWriteTick
  split
  · exact .next h
  · extract_lets _ _ _
    refine .ite (.next h.endOp) ?_
    split
    · exact .next h.endOp
    · exact .next (.endOp (.setProgress (h.forEach fun _ _ h1 => h1.forEach fun _ _ h2 => h2.tsWrite)))

theorem Upholds.doLvCommit {cluster mask} (h : s.Upholds t) : s.Ends (doLvCommit cluster mask t) := .next h.commitLv

theorem Upholds.execModeChangeComplete {ch} (h : s.Upholds t) : s.Ends (execModeChangeComplete ch t) := by
  unfold Machine.execModeChangeComplete
  split
  · exact .next h
  · exact .next (.ite h.advanceTo h.advanceTo.setChan)

theorem Upholds.execForceSetWriteTick {a} (h : s.Upholds t) : s.Ends (execForceSetWriteTick a t) := by
  unfold Machine.execForceSetWriteTick
  split
  · exact .next h
  · split
    · refine .ite (.next h) ?_
      split
      · exact .next h.endOp
      · extract_lets u1
        have h1 : s.Upholds u1 := h.forEach fun _ _ h1 => .goLive (h1.setFld.forEach fun _ _ h2 => h2.setReg)
        exact .next h1.setWork.setProgress
    · exact .next h

theorem Upholds.execForceSetSettled {a} (h : s.Upholds t) : s.Ends (execForceSetSettled a t) := by
  unfold Machine.execForceSetSettled
  split
  · exact .next h
  · split
    · exact .ite (.next h) (.next (.ite h.advanceTo.endOp h.advanceTo.endOp))
    · exact .next h

theorem Upholds.execLevelsSetWriteTick {a} (h : s.Upholds t) : s.Ends (execLevelsSetWriteTick a t) := by
  unfold Machine.execLevelsSetWriteTick
  split
  · exact .next h
  · split
    · refine .ite (.next h) (.ite (.next h.endOp) ?_)
      extract_lets _
      split
      · exact .next h.endOp
      · exact .next (.setProgress (.setWork (h.forEach fun _ _ h1 => h1.writeLevels)))
    · exact .next h

theorem Upholds.execLevelsSetDone {a} (h : s.Upholds t) : s.Ends (execLevelsSetDone a t) := by
  unfold Machine.execLevelsSetDone
  split
  · exact .next h
  · split
    · exact .ite (.next h) (.next h.advanceTo.endOp)
    · exact .next h

theorem Upholds.execContactCheckMeasure {a samples} (h : s.Upholds t) : s.Ends (execContactCheckMeasure a samples t) := by
  unfold Machine.execContactCheckMeasure
  split
  · exact .next h
  · split
    · exact .ite (.next h) (.next (.setWork (.advanceTo (h.forEach fun _ _ h1 => h1.runSync))))
    · exact .next h

theorem Upholds.recordContact {g o w} (h : s.Upholds t) : s.Upholds (recordContact t g o w) := by
  unfold Machine.recordContact
  extract_lets _ u1 u2 u3 _ _ _ _ u4 u5
  have h1 : s.Upholds u1 := .ite h h.writeBytes
  have h2 : s.Upholds u2 := h1.forEach fun _ _ h2 => h2.setReg
  have h3 : s.Upholds u3 := .ite h2 (h2.forEach fun _ _ h3 => h3.setMaskBit)
  have h4 : s.Upholds u4 := h3.forEach fun _ _ h4 => h4.setBitAt.setBitAt
  have h5 : s.Upholds u5 := .ite h4.ltAdd h4
  exact h5.setReg64

theorem Upholds.execContactCheckRestore {a} (h : s.Upholds t) : s.Ends (execContactCheckRestore a t) := by
  unfold Machine.execContactCheckRestore
  split
  · split
    · exact .ite (.next h) (.ite (.next h.advanceTo.restoreContact.endOp)
        (.next h.advanceTo.restoreContact.recordContact.setProgress.endOp))
    · exact .next h
  · exact .next h

theorem Upholds.execPmuSettlingEnd {ch} (h : s.Upholds t) : s.Ends (execPmuSettlingEnd ch t) := by
  unfold Machine.execPmuSettlingEnd
  split
  · exact .next h
  · exact .next (.ite h.advanceTo h.advanceTo.setChan.setBitAt)

theorem Upholds.setNextSample {c n} (h : s.Upholds t) : s.Upholds (t.setNextSample c n) := h.setClu
theorem Upholds.reclock {k} (h : s.Upholds t) : s.Upholds (t.reclock k) := h.setClu

theorem Upholds.maskFail {c line t'} (h : s.Upholds t) : s.Upholds (t.maskFail c line t') := by
  unfold State.maskFail
  extract_lets
  split
  · exact h.setBitAt.event.source.lineEvent
  · exact h.setBitAt.event.source

theorem Upholds.startMeasure {o} (h : s.Upholds t) : s.Upholds (startMeasure t o) :=
  h.beginOp.setWork.forEach fun _ _ h1 => h1.syncReset

theorem Upholds.keepSample {o w y} (h : s.Upholds t) : s.Upholds (t.keepSample o w y) := by
  unfold State.keepSample
  split
  · exact h
  · extract_lets _ _ _ u1 _ _ _ _ _ u2
    have h1 : s.Upholds u1 := .ite h.writeBytes h
    have h2 : s.Upholds u2 := h1.setWork.setProgress
    exact .ite h (.ite h2.maskFail h2)

theorem Upholds.monitorTest {y} (h : s.Upholds t) : s.Upholds (t.monitorTest y) := .ite h.maskFail h

theorem Upholds.execMeasSampleOutput {cluster ch value outOfSpan} (h : s.Upholds t) :
    s.Ends (execMeasSampleOutput cluster ch value outOfSpan t) := by
  unfold Machine.execMeasSampleOutput
  extract_lets _ _ _ _ _ _ u1 u2 _ u3
  have h1 : s.Upholds u1 := h.advanceTo.setNextSample
  have h2 : s.Upholds u2 := .ite h1 h1.setChan
  have h3 : s.Upholds u3 := .ite h2.setReg.event h2.setReg
  refine .ite (.next h.advanceTo) ?_
  split
  · exact .next h3.monitorTest
  · split
    · exact .next h3.keepSample
    · exact .next h3

theorem Upholds.execMeasureEnd {a} (h : s.Upholds t) : s.Ends (execMeasureEnd a t) := by
  unfold Machine.execMeasureEnd
  split
  · exact .next h
  · split
    · extract_lets _ _ u1
      have h1 : s.Upholds u1 := .ite h.advanceTo h.advanceTo.writeBytes
      refine .ite (.next h) (.ite (.next h.advanceTo) ?_)
      split
      · exact .next h1.endOp
      · exact .ite (.next h1.endOp) (.next h1.endOp)
    · exact .next h

theorem Upholds.stopMeasure {o} (h : s.Upholds t) : s.Upholds (t.stopMeasure o) := by
  unfold State.stopMeasure
  split
  · exact .ite h h.setWork
  · exact h

theorem Upholds.doMeasSync {cluster} (h : s.Upholds t) : s.Ends (doMeasSync cluster t) :=
    .next (.ite h.setFld h.setClu.setFld)

theorem Upholds.execSynchronizingReset {cluster} (h : s.Upholds t) : s.Ends (execSynchronizingReset cluster t) := by
  unfold Machine.execSynchronizingReset
  split
  · exact .next h
  · exact .next (.ite h.advanceTo h.advanceTo.runSync)

end Sys2Proof.Machine.State
end

section
/-! Micro-sequencers, firings, stops and self-calibration (R101, R122, R310 to R319, R426 to R480). -/

namespace Sys2Proof.Machine.State

variable {s t : State}

theorem Upholds.setFlips {m l} (h : s.Upholds t) : s.Upholds (t.setFlips m l) := h.setMsq
theorem Upholds.upsetStore {m l} (h : s.Upholds t) : s.Upholds (t.upsetStore m l) := .ite h h.setFlips
theorem Upholds.rewriteWord {m a w} (h : s.Upholds t) : s.Upholds (t.rewriteWord m a w) := h.setFlips
theorem Upholds.restoreStore {m} (h : s.Upholds t) : s.Upholds (t.restoreStore m) := h.setMsq
theorem Upholds.restoreVendor {m} (h : s.Upholds t) : s.Upholds (t.restoreVendor m) := h.setFlips
theorem Upholds.countBad {m} (h : s.Upholds t) : s.Upholds (t.countBad m) := h.incSat.event
theorem Upholds.countCorrected {m a w} (h : s.Upholds t) : s.Upholds (t.countCorrected m a w) := h.incSat.event.rewriteWord

theorem Upholds.restoreFor {m a} (h : s.Upholds t) : s.Upholds (t.restoreFor m a) :=
  .ite h.countBad.restoreVendor h.countBad.restoreStore

theorem Upholds.readStore {m} (h : s.Upholds t) : s.Upholds (t.readStore m).1 := by
  unfold State.readStore
  refine h.forEach fun _ _ h1 => ?_
  split
  · exact h1.countCorrected
  · exact h1

theorem Upholds.checkStore {m} (h : s.Upholds t) : s.Upholds (t.checkStore m).1 := by
  have hr {v : State} (hv : s.Upholds v) {u : State} {o : Option Nat} (e : v.readStore m = (u, o)) : s.Upholds u := by
    have := hv.readStore (m := m)
    rwa [e] at this
  unfold State.checkStore
  split
  next e => exact hr h e
  next e =>
    split
    next e' => exact hr (hr h e).restoreFor e'
    next e' => exact (hr (hr h e).restoreFor e').countBad

theorem Upholds.setPc {m a} (h : s.Upholds t) : s.Upholds (t.setPc m a) := h.setReg
theorem Upholds.setStack {m l} (h : s.Upholds t) : s.Upholds (t.setStack m l) := h.setMsq.setFld
theorem Upholds.setWait {m w} (h : s.Upholds t) : s.Upholds (t.setWait m w) := h.setMsq.setBitAt
theorem Upholds.setDeferred {m l} (h : s.Upholds t) : s.Upholds (t.setDeferred m l) := h.setMsq.setReg

theorem Upholds.countWord {m} (h : s.Upholds t) : s.Upholds (t.countWord m) := by
  unfold State.countWord
  extract_lets
  split
  · exact h.setReg64.setProgress
  · exact h.setReg64

theorem Upholds.clearFrames {m} (h : s.Upholds t) : s.Upholds (t.clearFrames m) := h.forEach fun _ _ h1 => h1.setReg.setReg

theorem Upholds.startMicroCall {o} (h : s.Upholds t) : s.Upholds (startMicroCall t o) := by
  unfold Machine.startMicroCall
  extract_lets _
  split
  · exact h.endOp
  · exact .setPc (.setReg (.setReg (.setReg64 (.setReg (.setReg (.clearFrames (.forEach
      (h.beginOp.setMsq.forEach fun _ _ h1 => h1.setReg) fun _ _ h1 => h1.setReg)))))))

theorem Upholds.freeMsq {m} (h : s.Upholds t) : s.Upholds (t.freeMsq m) := h.setWait.setBitAt.setBitAt.setFld.setMsq

theorem Upholds.finishRoutine {m status reason detail} (h : s.Upholds t) :
    s.Upholds (t.finishRoutine m status reason detail) := by
  unfold State.finishRoutine
  extract_lets
  split
  · exact h.freeMsq.endOp
  · exact h.freeMsq

theorem Upholds.dropDeferred {m} (h : s.Upholds t) : s.Upholds (t.dropDeferred m) := h.addSat.setDeferred

theorem Upholds.stopRoutine {m status reason detail} (h : s.Upholds t) : s.Upholds (t.stopRoutine m status reason detail) :=
  .ite h (.ite h.dropDeferred.setWait.setReg.setMsq.setFld.finishRoutine
    h.dropDeferred.setWait.setReg.setMsq.setFld.setMsq.setBitAt.setPc)

theorem Upholds.endUnwind {m timeout} (h : s.Upholds t) : s.Upholds (t.endUnwind m timeout) := by
  unfold State.endUnwind
  split
  · exact h.finishRoutine
  · exact h.freeMsq

theorem Upholds.progFault {m code reason} (h : s.Upholds t) : s.Upholds (t.progFault m code reason) :=
  .ite h.setReg.event.endUnwind h.setReg.event.stopRoutine

theorem Upholds.takeTrap {m} (h : s.Upholds t) : s.Upholds (t.takeTrap m) := by
  unfold State.takeTrap
  refine .ite h ?_
  split
  · exact h
  · extract_lets d u1 x u2
    have h1 : s.Upholds u1 := h.forEach fun _ _ h => h.setReg
    have h2 : s.Upholds u2 := .ite h1.setMsq h1.clrReg
    exact h2.setWait.setFld.setPc.event

theorem Upholds.setEvFlag {m l} (h : s.Upholds t) : s.Upholds (t.setEvFlag m l) := h.orReg.takeTrap
theorem Upholds.doMsqTrap {m} (h : s.Upholds t) : s.Ends (doMsqTrap m t) := .next (.ite h.setFld.setMsq.takeTrap h.setFld)

theorem Upholds.execUnwindTimeout {m} (h : s.Upholds t) : s.Ends (execUnwindTimeout m t) := by
  unfold Machine.execUnwindTimeout
  split
  · exact .next h
  · exact .next (.ite h.advanceTo h.advanceTo.event.endUnwind)

theorem Upholds.closeStore {m a} (h : s.Upholds t) : s.Upholds (t.closeStore m a) := h.restoreFor.setMsq

theorem Upholds.execControlStoreScrub {m upsets} (h : s.Upholds t) : s.Ends (execControlStoreScrub m upsets t) := by
  unfold Machine.execControlStoreScrub
  have hr : s.Upholds ((t.upsetStore m upsets).readStore m).1 := h.upsetStore.readStore
  refine .next ?_
  split
  next e => rwa [e] at hr
  next e => exact .closeStore (by rwa [e] at hr)

theorem Upholds.stopCluster {l k f} (h : s.Upholds t) : s.Upholds (t.stopCluster l k f) := by
  unfold State.stopCluster
  refine h.forEach fun _ _ h1 => ?_
  extract_lets
  split
  · exact .ite h1.stopRun.stopAllAt h1.stopRun
  · exact h1.stopRun

theorem Upholds.actTarget {l f e} (h : s.Upholds t) : s.Upholds (t.actTarget l f e) := by
  unfold State.actTarget
  split
  · exact h.stopCluster
  · exact h.other
  · exact h.setEvFlag

theorem Upholds.fireLine {l f} (h : s.Upholds t) : s.Upholds (t.fireLine l f) :=
  h.setBitAt.setBitAt.other.setReg64.event.fireForRuns.acqFire.awgFire.digFire.forEach fun _ _ h1 => h1.actTarget

theorem Upholds.takeFires {l f} (h : s.Upholds t) : s.Upholds (t.takeFires l f).1 := h.other

theorem Upholds.execXtbFire {mask} (h : s.Upholds t) : s.Ends (execXtbFire mask t) :=
    .next (h.forEach fun _ _ h1 => h1.lineEvent)

theorem Upholds.endRearm {line} (h : s.Upholds t) : s.Upholds (t.endRearm line) :=
    .ite h.other.setBitAt.setBitAt h.other.setBitAt

theorem Upholds.execTriggerLineFire {line} (h : s.Upholds t) : s.Ends (execTriggerLineFire line t) := by
  unfold Machine.execTriggerLineFire
  split
  · exact .next h
  · extract_lets _ u1 _
    have h1 : s.Upholds u1 := .ite h.advanceTo.endRearm h.advanceTo
    exact .ite (.next h.advanceTo) (.next (.ite h1.takeFires (.ite h1.takeFires.fireLine h1.takeFires.addSat.event)))

theorem Upholds.execLineRearm {line} (h : s.Upholds t) : s.Ends (execLineRearm line t) := by
  unfold Machine.execLineRearm
  split
  · exact .next h
  · exact .next (.ite h.advanceTo h.advanceTo.endRearm)

theorem Upholds.execXtbArm {mask} (h : s.Upholds t) : s.Ends (execXtbArm mask t) :=
  .next (h.forEach fun _ _ h1 => .ite h1.other h1.setBitAt)

theorem Upholds.execXtbDisarm {mask} (h : s.Upholds t) : s.Ends (execXtbDisarm mask t) :=
  .next (h.forEach fun _ _ h1 => .ite h1.other h1.setBitAt)

theorem Upholds.driveGpio {n b} (h : s.Upholds t) : s.Upholds (t.driveGpio n b) := h.other
theorem Upholds.settleGpio {n} (h : s.Upholds t) : s.Upholds (t.settleGpio n) := .ite (.ite h h.driveGpio) h.driveGpio

theorem Upholds.setGpioDir {v} (h : s.Upholds t) : s.Upholds (t.setGpioDir v) :=
  h.setReg.other.forEach fun _ _ h1 => h1.settleGpio

theorem Upholds.execGpioOutWrite {v} (h : s.Upholds t) : s.Ends (execGpioOutWrite v t) :=
  .next (h.setReg.forEach fun _ _ h1 => h1.settleGpio)

theorem Upholds.execGpioPulseStart {pin} (h : s.Upholds t) : s.Ends (execGpioPulseStart pin t) := by
  unfold Machine.execGpioPulseStart
  split
  · exact .next h
  · exact .ite (.next h.advanceTo) (.ite (.next h.advanceTo.other) (.next
      (Upholds.ite h.advanceTo.other h.advanceTo.other.driveGpio).other))

theorem Upholds.execGpioPulseEnd {pin} (h : s.Upholds t) : s.Ends (execGpioPulseEnd pin t) := by
  unfold Machine.execGpioPulseEnd
  split
  · exact .next h
  · exact .next (.ite h.advanceTo h.advanceTo.other.settleGpio)

theorem Upholds.askStop {a status} (h : s.Upholds t) : s.Upholds (t.askStop a status) := h.modOp

theorem Upholds.stopLevels {o status} (h : s.Upholds t) : s.Upholds (t.stopLevels o status) := by
  unfold State.stopLevels
  split
  · exact .ite h.endOp (.ite h.endOp h)
  · exact h.endOp

theorem Upholds.stopLoad {o status} (h : s.Upholds t) : s.Upholds (t.stopLoad o status) := by
  unfold State.stopLoad
  split
  · exact .ite h.copyOn.emptySeg.endOp h.endOp
  · exact h.endOp

theorem Upholds.stopRunning {o status} (h : s.Upholds t) : s.Upholds (t.stopRunning o status) := by
  unfold State.stopRunning
  split
  · exact h.stopRun
  · exact h.stopLoad
  · exact h.stopMeasure.askStop
  · exact h.stopLevels
  · exact h.stopLevels
  · exact h.askStop
  · exact h.askStop
  · exact h.askStop
  · exact h.askStop
  · exact h.stopDps
  · split
    · exact h.endAwg
    · exact h.endOp
  · exact h.stopLanes.askStop
  · exact h.askStop.settleUpload
  · exact h.stopRoutine
  · exact h.endOp

theorem Upholds.stopOp {a status} (h : s.Upholds t) : s.Upholds (t.stopOp a status) := by
  unfold State.stopOp
  split
  · exact h
  · refine .ite h (.ite h.stopRunning ?_)
    split
    · exact h.failRun
    · exact h.endOp

theorem Upholds.enterFault {cls ix} (h : s.Upholds t) : s.Upholds (t.enterFault cls ix) := by
  unfold State.enterFault
  split
  · exact (Upholds.ite h h.setAnState.setAna).event
  · exact h.event
  · exact h.dpsFault.event
  · exact h

theorem Upholds.stopAuto {cls ix} (h : s.Upholds t) : s.Upholds (t.stopAuto cls ix) := .ite h.setCal h

theorem Upholds.markFaulted {cls ix} (h : s.Upholds t) : s.Upholds (t.markFaulted cls ix).1 :=
  .stopAuto (.enterFault (h.pmuLeaves.other.forEach fun _ _ h1 => h1.stopOp))

theorem Upholds.faultUnit {cls ix} (h : s.Upholds t) : s.Upholds (t.faultUnit cls ix) := .ite h h.markFaulted.logEvent
theorem Upholds.settleFaults (h : s.Upholds t) : s.Upholds t.settleFaults := h.forEach fun _ _ h1 => h1.endOp

theorem Upholds.execLanePllTimeout {group} (h : s.Upholds t) : s.Ends (execLanePllTimeout group t) := by
  unfold Machine.execLanePllTimeout
  split
  · exact .next h
  · exact .ite (.next h.advanceTo) (.next h.advanceTo.other.event.faultUnit)

theorem Upholds.becomeDue {u} (h : s.Upholds t) : s.Upholds (t.becomeDue u) := .ite h h.setCal.setBitAt.event.logEvent
theorem Upholds.showTemp {u t'} (h : s.Upholds t) : s.Upholds (t.showTemp u t') := h.setReg

theorem Upholds.calBegin {u parts asn} (h : s.Upholds t) : s.Upholds (t.calBegin u parts asn) := by
  unfold State.calBegin
  extract_lets _ _ _ _ u1
  have h1 : s.Upholds u1 := h.setCal.forEach fun _ _ h1 => h1.goLive
  exact .ite (h1.forEach fun _ _ h2 => .ite h2 h2.parkAn) h1

theorem Upholds.calRestore {u} (h : s.Upholds t) : s.Upholds (t.calRestore u) := .setCal (h.forEach fun _ _ h1 => h1.goLive)

theorem Upholds.calFree {u status reason detail} (h : s.Upholds t) : s.Upholds (t.calFree u status reason detail) := by
  unfold State.calFree
  extract_lets _ _ _ u1
  have h1 : s.Upholds u1 := h.calRestore.setCal
  split
  · exact h1.endOp
  · exact .ite h1.release.mntEnd.settleCommits h1.release.mntEnd

theorem Upholds.calOutcome {u status reason} (h : s.Upholds t) : s.Upholds (t.calOutcome u status reason) :=
  h.setFld.setFld.setBitAt

theorem Upholds.calReject {u status reason detail} (h : s.Upholds t) : s.Upholds (t.calReject u status reason detail) :=
  (Upholds.ite h.calOutcome.incSat.event.logEvent.setCal h.calOutcome.incSat.event.logEvent).calFree

theorem Upholds.startCalRun {o} (h : s.Upholds t) : s.Upholds (startCalRun t o) :=
  .ite h.endOp (.ite h.setCal.calReject h.beginOp.calBegin)

theorem Upholds.execAutoCalStart {u} (h : s.Upholds t) : s.Ends (execAutoCalStart u t) := by
  unfold Machine.execAutoCalStart
  extract_lets _ _ _ _ _ _ _ _ _ _
  exact .ite (.next h) (.ite (.next h.mntAsk) (.next (.ite h.mntAsk.take.calBegin h.mntAsk.take.setCal.calReject)))

theorem Upholds.calProgress {u n} (h : s.Upholds t) : s.Upholds (t.calProgress u n) := by
  unfold State.calProgress
  split
  · exact h.setProgress
  · exact h

theorem Upholds.execCalQuietCheck {u samples tNow} (h : s.Upholds t) : s.Ends (execCalQuietCheck u samples tNow t) := by
  unfold Machine.execCalQuietCheck
  refine .ite (.next h) ?_
  split
  · exact .next h.calReject
  · refine .ite (.next h.advanceTo) ?_
    dsimp only
    split
    · exact .next h.advanceTo.showTemp.calReject
    · exact .next (.ite h.advanceTo.showTemp.setCal h.advanceTo.showTemp.setCal)

theorem Upholds.execCalPassEnd {u tNow values} (h : s.Upholds t) : s.Ends (execCalPassEnd u tNow values t) := by
  unfold Machine.execCalPassEnd
  refine .ite (.next h) ?_
  split
  · exact .next h.calReject
  · exact .ite (.next h.advanceTo)
      (.next (.ite h.advanceTo.showTemp.setCal.calProgress h.advanceTo.showTemp.setCal.calProgress))

theorem Upholds.calDisagree {u x e} (h : s.Upholds t) : s.Upholds (t.calDisagree u x e) := by
  unfold State.calDisagree
  extract_lets trim sel reason p q
  have hp : s.Upholds p.2 := by
    unfold p
    split
    · exact h.other
    · exact h
  have hq : s.Upholds q.2 := by
    unfold q
    split
    · exact hp.other
    · exact hp
  exact hq.calReject

theorem Upholds.execCalAgreementTest {u tNow} (h : s.Upholds t) : s.Ends (execCalAgreementTest u tNow t) := by
  unfold Machine.execCalAgreementTest
  refine .ite (.next h) ?_
  split
  · exact .next h.calReject
  · dsimp only
    split
    · exact .next h.showTemp.calDisagree
    · exact .ite (.next h.showTemp.calReject) (.next h.showTemp.setCal)

theorem Upholds.execCalApplyTick {u} (h : s.Upholds t) : s.Ends (execCalApplyTick u t) :=
  .ite (.next h) (.ite (.next h.advanceTo) (.next (.calRestore
    ((Upholds.ite h.advanceTo.setCal.setCal.setReg.setReg.setReg64.setBitAt.setFld.setBitAt
    h.advanceTo.setCal.setCal.setReg.setReg.setReg64.setBitAt.setFld).logEvent.ltAdd.calProgress.forEach fun _ _ h1 =>
    h1.faultUnit))))

theorem Upholds.calLoad {u} (h : s.Upholds t) : s.Upholds (t.calLoad u) := by
  unfold State.calLoad
  extract_lets _ u1
  have h1 : s.Upholds u1 := h.forEach fun _ _ h1 => h1.event.logEvent
  split
  · exact h1.setCal.setBitAt.setBitAt
  · exact h1.setCal.setReg.setReg.setReg64.setBitAt.setFld

theorem Upholds.calDrop {u} (h : s.Upholds t) : s.Upholds (t.calDrop u) := .ite h (.ite h.setCal.release.mntEnd h.setCal)
theorem Upholds.calSettle {u} (h : s.Upholds t) : s.Upholds (t.calSettle u) := .ite h.setCal.calLoad h

theorem Upholds.mntCommand {kind noWait} (h : s.Upholds t) : s.Upholds (t.mntCommand kind noWait) :=
  .ite h.setReg (.ite h.setReg.mntRefuse h.setReg.mntAsk)

end Sys2Proof.Machine.State
end

section
/-! The timebase, starts, queues and the configuration manager (R35 to R103, R143 to R161, R408 to R422). -/

namespace Sys2Proof.Machine.State

variable {s t : State}

theorem Upholds.setTb {n} (h : s.Upholds t) : s.Upholds (t.setTb n) := h.setFld
theorem Upholds.tbResult {n} (h : s.Upholds t) : s.Upholds (t.tbResult n) := h.setFld
theorem Upholds.leaveArmed {n} (h : s.Upholds t) : s.Upholds (t.leaveArmed n) := h.setTb.setBitAt

theorem Upholds.cutMeasure {o} (h : s.Upholds t) : s.Upholds (t.cutMeasure o) := by
  unfold State.cutMeasure
  split
  · exact (Upholds.ite h h.writeBytes).endOp
  · exact h.endOp

theorem Upholds.cutCal {u} (h : s.Upholds t) : s.Upholds (t.cutCal u) := .ite h.calOutcome.calFree h.calReject

theorem Upholds.stopTref {o} (h : s.Upholds t) : s.Upholds (t.stopTref o) := by
  unfold State.stopTref
  split
  · exact .ite h h.stopAllAt.flushEdges
  · exact .ite h.restoreContact.endOp h.stopLevels
  · exact h.cutMeasure
  · exact h.storeSamples.endOp
  · exact .ite h.cutCal h.stopRunning
  · exact h.stopRunning

theorem Upholds.execTrefLost (h : s.Upholds t) : s.Ends (execTrefLost t) :=
  .ite (.next h) (.next (.forEach (h.other.leaveArmed.event.forEach fun _ _ h1 => h1.stopTref) fun _ _ h1 => .ite h1.cutCal
    h1))

theorem Upholds.execTrefValid (h : s.Upholds t) : s.Ends (execTrefValid t) :=
  .next (.ite h (.ite h.setTb.other.event h.setTb.other))

theorem Upholds.execArm (h : s.Upholds t) : s.Ends (execArm t) := by
  unfold Machine.execArm
  refine .next ?_
  split
  · exact h.tbResult
  · exact h.tbResult
  · exact .ite h.tbResult.setTb.setBitAt.other h.tbResult

theorem Upholds.execDisarm (h : s.Upholds t) : s.Ends (execDisarm t) := by
  unfold Machine.execDisarm
  refine .next ?_
  split
  · exact h.tbResult
  · exact h.tbResult.leaveArmed
  · exact h.tbResult

theorem Upholds.loadEdge {g} (h : s.Upholds t) : s.Upholds (t.loadEdge g) := by
  unfold State.loadEdge
  extract_lets _ _ u1 u2 _ u3 _ _
  have h1 : s.Upholds u1 := h.setReg64.setBitAt
  have h2 : s.Upholds u2 := .ite h1.event h1
  have h3 : s.Upholds u3 := h2.leaveArmed.event.flushEdges
  exact .ite h3.other h2.other

theorem Upholds.trefEdge (h : s.Upholds t) : s.Upholds t.trefEdge := .ite h.other.loadEdge h.other
theorem Upholds.syncCycle {levels} (h : s.Upholds t) : s.Upholds (t.syncCycle levels) := h.trefEdge.other

theorem Upholds.toLoadEdge {n} (h : s.Upholds t) : s.Upholds (t.toLoadEdge n) := by
  induction n generalizing t with
  | zero => exact h
  | succ n ih => exact .ite h (.ite h.trefEdge (ih h.trefEdge))

theorem Upholds.mismatchIsland {i} (h : s.Upholds t) : s.Upholds (t.mismatchIsland i) :=
    h.setGen.forEach fun _ _ h1 => h1.stopOp

theorem Upholds.judge {o} (h : s.Upholds t) : s.Upholds (t.judge o) := by
  unfold State.judge
  refine .ite h ?_
  split
  · exact h.endOp
  · exact h.modOp

theorem Upholds.startLate {o} (h : s.Upholds t) : s.Upholds (t.startLate o) := h.endOpAt
theorem Upholds.settleLate (h : s.Upholds t) : s.Upholds t.settleLate := h.forEach fun _ _ h1 => h1.startLate
theorem Upholds.calAsk {o} (h : s.Upholds t) : s.Upholds (t.calAsk o) := .ite h (.ite h.mntRefuse.endOp h.mntAsk.modOp)

theorem Upholds.passOver {b o rs n} (h : s.Upholds t) : s.Upholds (t.passOver b o rs n).1 := by
  unfold State.passOver
  extract_lets _ u1 u2 _
  have h1 : s.Upholds u1 := h.event.setReg
  have h2 : s.Upholds u2 := .ite h1.setReg64 h
  split
  · exact h2.modOp
  · exact h2.modOp

theorem Upholds.checkFamily {o} (h : s.Upholds t) : s.Upholds (t.checkFamily o) := by
  unfold State.checkFamily
  split
  · exact h.checkRun
  · exact h.checkDps
  · exact h.checkAwg
  · exact h

theorem Upholds.admitOp {o rs n} (h : s.Upholds t) : s.Upholds (t.admitOp o rs n) := by
  unfold State.admitOp
  extract_lets _ u1 _
  have h1 : s.Upholds u1 := h.take.takeReads
  refine .ite h1.modOp ?_
  split
  · exact h1.modOp.checkFamily
  · exact h1.modOp

theorem Upholds.examineOp {b o} (h : s.Upholds t) : s.Upholds (t.examineOp b o).1 := by
  unfold State.examineOp
  extract_lets
  split
  · exact h.admitOp
  · exact h.passOver

theorem Upholds.examineStep {b a site} (h : s.Upholds t) : s.Upholds (t.examineStep b a site) := by
  unfold State.examineStep
  split
  · exact h
  · split
    · exact h
    · split
      · exact h
      · exact .ite h h.take.setWork

theorem Upholds.examineItems {l b} (h : s.Upholds t) : s.Upholds (examineItems l (t, b)) := by
  induction l generalizing t b with
  | nil => exact h
  | cons x l ih =>
    cases x with
    | whole a =>
      unfold Machine.examineItems
      split
      · split
        · exact ih h.examineOp
        · exact ih h
      · exact ih h
    | step a n => exact ih h.examineStep

theorem Upholds.examine (h : s.Upholds t) : s.Upholds t.examine := by
  unfold State.examine
  extract_lets u1 u2 u3 cs u4
  have h1 : s.Upholds u1 := h.settleDeps.settleFaults.settleLate
  have h2 : s.Upholds u2 := h1.forEach fun _ _ h => by
    split
    · exact h.judge
    · exact h
  have h3 : s.Upholds u3 := h2.forEach fun _ _ h => by
    split
    · exact h.calAsk
    · exact h
  exact .examineItems (.other h3)

theorem Upholds.dropExpired (h : s.Upholds t) : s.Upholds t.dropExpired := h.other

theorem Upholds.execChargeExpiry (h : s.Upholds t) : s.Ends (execChargeExpiry t) := by
  unfold Machine.execChargeExpiry
  split
  · exact .next h
  · exact .next (.ite h.advanceTo h.advanceTo.dropExpired.examine)

theorem Upholds.execCandidateHolding {a} (h : s.Upholds t) : s.Ends (execCandidateHolding a t) := by
  unfold Machine.execCandidateHolding
  split
  · exact .next h
  · split
    · exact .next h
    · exact .ite (.next h) (.next (.ite h.advanceTo h.advanceTo.modOp.event))

theorem Upholds.railSample {r mw} (h : s.Upholds t) : s.Upholds (t.railSample r mw) :=
  .ite h.addSample.setReg.setRailOver.incSat.event h.addSample.setReg.setRailOver

theorem Upholds.siteSample {n} (h : s.Upholds t) : s.Upholds (t.siteSample n) := by
  unfold State.siteSample
  extract_lets _ _ u1
  have h1 : s.Upholds u1 := h.addSample.setReg
  split
  · exact .ite h1.other.event (.ite h1.other h1)
  · exact h1

theorem Upholds.meter {units} (h : s.Upholds t) : s.Upholds (t.meter units) :=
  h.forEach fun _ _ h1 => h1.forEach fun _ _ h2 => .ite h2 h2.other

theorem Upholds.execStartCheckPoint {a} (h : s.Upholds t) : s.Ends (execStartCheckPoint a t) := by
  unfold Machine.execStartCheckPoint
  split
  · exact .next h
  · refine .ite (.next h) ?_
    extract_lets _ u1
    have h1 : s.Upholds u1 := h.advanceTo.examine
    refine .ite (.next h.advanceTo) (.next ?_)
    split
    · exact .ite h1.startLate h1
    · exact h1

theorem Upholds.startFamily {o} (h : s.Upholds t) : s.Upholds (t.startFamily o) := by
  unfold State.startFamily
  split
  · exact h.startPatternRun
  · exact h.startSegmentLoad
  · exact h.startMeasure
  · exact h.startForceSet
  · exact h.startContactCheck
  · exact h.startDpsSequence
  · exact h.startAwgPlay
  · exact h.startDigitize
  · exact h.startLaneTest
  · exact h.startAcquire
  · exact h.startUpload
  · exact h.startMicroCall
  · exact h.startCalRun
  · exact h.beginOp
  · exact h.beginOp
  · exact h.rtcNow.beginOp.endOp
  · exact h.startLevelsSet
  · exact h.startTsetLoad
  · exact h

theorem Upholds.lateTag {islands} (h : s.Upholds t) : s.Upholds (t.lateTag islands) :=
  .ite h (h.advanceTo.addSat.event.forEach fun _ _ h1 => h1.incSat)

theorem Upholds.dispatch {o} (h : s.Upholds t) : s.Upholds (t.dispatch o) := by
  unfold State.dispatch
  extract_lets _ _ u1 u2
  have h1 : s.Upholds u1 := .ite h.advanceTo.lateTag h.advanceTo
  have h2 : s.Upholds u2 := .ite h1.checkFamily h1
  refine .ite h1 (.ite (.ite h1.failRun h1.endOp) ?_)
  split
  · exact .ite h2.startFamily h2
  · exact h2

theorem Upholds.execDispatchStart {a} (h : s.Upholds t) : s.Ends (execDispatchStart a t) := by
  unfold Machine.execDispatchStart
  split
  · exact .next h
  · refine .ite (.next h.awgReach) ?_
    extract_lets u1
    have h1 : s.Upholds u1 := .ite h.examine h
    refine .next ?_
    split
    · exact .ite h1.dispatch h1
    · exact h1

theorem Upholds.execDeadline {a} (h : s.Upholds t) : s.Ends (execDeadline a t) := by
  unfold Machine.execDeadline
  split
  · exact .next h
  · split
    · exact .next h
    · refine .ite (.next h) ?_
      extract_lets _
      refine .next (.ite h.advanceTo (.ite (.ite h.advanceTo.endOpAt h.advanceTo.endOpAt) ?_))
      split
      · exact h.advanceTo.failRun
      · exact h.advanceTo.endOpAt

theorem Upholds.execBarrierComplete {a} (h : s.Upholds t) : s.Ends (execBarrierComplete a t) := by
  unfold Machine.execBarrierComplete
  split
  · exact .next h
  · refine .ite (.next h) ?_
    extract_lets u1 u2
    have h1 : s.Upholds u1 := .ite h.examine h
    have h2 : s.Upholds u2 := by
      unfold u2
      split
      · exact .ite h1.dispatch h1
      · exact h1
    refine .next ?_
    split
    · exact .ite h2.endOp h2
    · exact h2

theorem Upholds.wakeUp (h : s.Upholds t) : s.Upholds t.wakeUp := .ite h.setFld.event h

theorem Upholds.doorbell {path q t'} (h : s.Upholds t) : s.Upholds (t.doorbell path q t') := by
  unfold State.doorbell
  extract_lets u1 _ _ u2
  have h1 : s.Upholds u1 := .ite h.wakeUp h
  have h2 : s.Upholds u2 := h1.setFld.setReg
  exact .ite h1.setFld.wqEvent.incSat.incSat.rangeFlag (.ite h2.setReg h2)

theorem Upholds.execDoorbell {path q tail} (h : s.Upholds t) : s.Ends (execDoorbell path q tail t) :=
    .next (.ite h h.doorbell)

theorem Upholds.haltQueue {q code} (h : s.Upholds t) : s.Upholds (t.haltQueue q code) :=
  h.setFld.setBitAt.wqEvent.event.incSat.incSat

theorem Upholds.startWake {i} (h : s.Upholds t) : s.Upholds (t.startWake i) := .ite h.setIslandMode.other h
theorem Upholds.autoWake {o} (h : s.Upholds t) : s.Upholds (t.autoWake o) := .ite (h.forEach fun _ _ h1 => h1.startWake) h

theorem Upholds.accept {g q d} (h : s.Upholds t) : s.Upholds (t.accept g q d) :=
  (Upholds.ite h.other.setReg64.setReg64.setReg.ltAdd.setReg.event
    h.other.setReg64.setReg64.setReg.ltAdd.setReg).mramWrite.settleDeps.autoWake

theorem Upholds.execDescriptorAcceptance {q} (h : s.Upholds t) : s.Ends (execDescriptorAcceptance q t) := by
  unfold Machine.execDescriptorAcceptance
  split
  · exact .ite (.next h) (.next (.ite h.other.accept h.other.haltQueue))
  · exact .next h

theorem Upholds.writeHeld {o r} (h : s.Upholds t) : s.Upholds (t.writeHeld o r) := h.writeRecord.other
theorem Upholds.holdRecord {o} (h : s.Upholds t) : s.Upholds (t.holdRecord o) := .ite h.other.other.send h.other
theorem Upholds.forget {o} (h : s.Upholds t) : s.Upholds (t.forget o) := h.releaseKept.other.settleDeps

theorem Upholds.deliver {o} (h : s.Upholds t) : s.Upholds (t.deliver o) := by
  unfold State.deliver
  refine .ite h.forget ?_
  split
  · exact .ite h.writeRecord h
  · exact h.holdRecord

theorem Upholds.execCompletionRecordWrite {a} (h : s.Upholds t) : s.Ends (execCompletionRecordWrite a t) := by
  unfold Machine.execCompletionRecordWrite
  refine .next (.ite h ?_)
  split
  · exact .ite h.deliver h
  · split
    · split
      · exact .ite h.writeHeld h
      · exact h
    · exact h

theorem Upholds.execCqHeadWrite {path q h'} (h : s.Upholds t) : s.Ends (execCqHeadWrite path q h' t) :=
  .next (.ite h (.ite h.rangeFlag h.setReg.other))

theorem Upholds.wqResult {q n} (h : s.Upholds t) : s.Upholds (t.wqResult q n) := h.setFld
theorem Upholds.unhalt {q} (h : s.Upholds t) : s.Upholds (t.unhalt q) := h.setBitAt.setFld
theorem Upholds.execResume {q} (h : s.Upholds t) : s.Ends (execResume q t) := .next (.ite h.unhalt.setBitAt.wqResult h)

theorem Upholds.execSkip {q} (h : s.Upholds t) : s.Ends (execSkip q t) :=
  .next (.ite h (.ite h.wqResult h.unhalt.setReg.wqResult))

theorem Upholds.execFlush {q} (h : s.Upholds t) : s.Ends (execFlush q t) := .next (.ite h.unhalt.setReg.wqResult h)
theorem Upholds.execPause {q} (h : s.Upholds t) : s.Ends (execPause q t) := .next (.ite h.setBitAt.wqResult h)

theorem Upholds.execAbortAll {q} (h : s.Upholds t) : s.Ends (execAbortAll q t) :=
  .next (.ite (.wqResult (h.forEach fun _ _ h1 => .ite h1 h1.stopOp)) h)

theorem Upholds.execAbortSeq {q} (h : s.Upholds t) : s.Ends (execAbortSeq q t) := by
  unfold Machine.execAbortSeq
  refine .next (.ite h ?_)
  split
  · exact h.wqResult
  · exact .ite h.wqResult h.stopOp.wqResult

theorem Upholds.setShadow {n} (h : s.Upholds t) : s.Upholds (t.setShadow n) := h.setReg
theorem Upholds.cfgResult {n} (h : s.Upholds t) : s.Upholds (t.cfgResult n) := h.setFld

theorem Upholds.showSet {idReg verReg digest g} (h : s.Upholds t) : s.Upholds (t.showSet idReg verReg digest g) :=
  h.setReg.setReg.forEach fun _ _ h1 => h1.setReg

theorem Upholds.putShadow {g} (h : s.Upholds t) : s.Upholds (t.putShadow g) := h.other.showSet
theorem Upholds.putActive {g} (h : s.Upholds t) : s.Upholds (t.putActive g) := h.other.showSet

theorem Upholds.execVerify (h : s.Upholds t) : s.Ends (execVerify t) :=
  .next (.ite h.cfgResult (.ite h.cfgResult h.putShadow.setShadow.cfgResult.setBitAt.sec))

theorem Upholds.endVerify {e state} (h : s.Upholds t) : s.Upholds (t.endVerify e state) := h.setReg.setShadow.setBitAt.event

theorem Upholds.execVerificationComplete (h : s.Upholds t) : s.Ends (execVerificationComplete t) := by
  unfold Machine.execVerificationComplete
  refine .next (.ite h ?_)
  split
  · exact h.endVerify
  · exact h.putShadow.endVerify

theorem Upholds.execDiscard (h : s.Upholds t) : s.Ends (execDiscard t) :=
    .next (.ite h.cfgResult h.putShadow.setShadow.cfgResult)

theorem Upholds.execAbortVerify (h : s.Upholds t) : s.Ends (execAbortVerify t) :=
    .next (.ite h.endVerify.cfgResult h.cfgResult)

theorem Upholds.raiseFloors {g} (h : s.Upholds t) : s.Upholds (t.raiseFloors g) := by
  unfold State.raiseFloors
  extract_lets up x u
  have hu : s.Upholds u :=
    { h with cfgFloor := h.cfgFloor.trans (le_max_left _ _), csFloor := h.csFloor.trans (le_max_left _ _) }
  exact .ite hu.mramWrite.event hu

theorem Upholds.armSwap {g tick asn} (h : s.Upholds t) : s.Upholds (t.armSwap g tick asn) :=
  h.other.mramWrite.raiseFloors.setShadow

theorem Upholds.execActivate (h : s.Upholds t) : s.Ends (execActivate t) := by
  unfold Machine.execActivate
  extract_lets _
  refine .next ?_
  split
  · exact .ite h.cfgResult (.ite h.cfgResult h.armSwap.cfgResult.mntAsk)
  · exact h.cfgResult

theorem Upholds.beginSwap {a} (h : s.Upholds t) : s.Upholds (t.beginSwap a) := by
  unfold State.beginSwap
  extract_lets u1
  have h1 : s.Upholds u1 := .ite h.examine h
  split
  · exact .ite h1.beginOp h1
  · exact h1

theorem Upholds.failSwap {o reason gcc} (h : s.Upholds t) : s.Upholds (t.failSwap o reason gcc) := h.setReg.endOpAt

theorem Upholds.execConfigSwapDrainPoint (h : s.Upholds t) : s.Ends (execConfigSwapDrainPoint t) := by
  unfold Machine.execConfigSwapDrainPoint
  split
  · exact .next h
  · refine .ite (.next h) ?_
    extract_lets u1 u2
    have h1 : s.Upholds u1 := h.mntAsk.modOp
    have h2 : s.Upholds u2 := .ite h1.beginSwap h1
    refine .ite (.next h2) ?_
    split
    · exact .next h2.armSwap
    · exact .next h2.failSwap

theorem Upholds.execConfigSwapLate (h : s.Upholds t) : s.Ends (execConfigSwapLate t) := by
  unfold Machine.execConfigSwapLate
  split
  · exact .next h
  · exact .ite (.next h) (.next (.ite h.advanceTo h.advanceTo.beginSwap.failSwap))

theorem Upholds.execDepUnmeetable (h : s.Upholds t) : s.Ends (execDepUnmeetable t) := by
  unfold Machine.execDepUnmeetable
  split
  · exact .next h
  · exact .next (.ite (h.forEach fun _ _ h1 => h1.endOp) h)

theorem Upholds.loadTsets {g k} (h : s.Upholds t) : s.Upholds (t.loadTsets g k) :=
    h.resetWords.forEach fun _ _ h1 => h1.tsWrite

theorem Upholds.swapChannels {old g} (h : s.Upholds t) : s.Upholds (t.swapChannels old g) :=
  .forEach (h.pmuLeaves.forEach fun _ _ h1 => .ite h1 h1.setChan) fun _ _ h1 => h1.setBitAt.setBitAt

theorem Upholds.swapAbsent {old g} (h : s.Upholds t) : s.Upholds (t.swapAbsent old g) := h.forEach fun _ _ h1 => h1.setMaskBit
theorem Upholds.openQueue {q} (h : s.Upholds t) : s.Upholds (t.openQueue q) := .setReg64 (h.forEach fun _ _ h1 => h1.setReg)

theorem Upholds.swapQueues {old g} (h : s.Upholds t) : s.Upholds (t.swapQueues old g) :=
  .other (h.forEach fun _ _ h1 => h1.openQueue)

theorem Upholds.swapJets {g} (h : s.Upholds t) : s.Upholds (t.swapJets g) :=
  .forEach (h.forEach fun _ _ h1 => h1.resetWords.resetWords) fun _ _ h1 => .ite (Upholds.ite h1.setMaskBit h1).setMaskBit
    (.ite h1.setMaskBit h1)

theorem Upholds.swapLines {g} (h : s.Upholds t) : s.Upholds (t.swapLines g) := h.other.setReg

theorem Upholds.swapBasins {old g} (h : s.Upholds t) : s.Upholds (t.swapBasins old g) := by
  unfold State.swapBasins
  refine h.forEach fun _ _ h1 => ?_
  split
  · exact h1.newBasin
  · exact h1.setMaskBit.setMaskBit

theorem Upholds.swapSegs {g} (h : s.Upholds t) : s.Upholds (t.swapSegs g) := h.forEach fun _ _ h1 => h1.emptySeg
theorem Upholds.swapEnergy {old g} (h : s.Upholds t) : s.Upholds (t.swapEnergy old g) := .ite h.other h.other.resetWords

theorem Upholds.swapGeneration {gen} (h : s.Upholds t) : s.Upholds (t.swapGeneration gen) :=
  .event (.setReg64 (.setReg (.other (h.forEach fun _ _ h1 => h1.setGen))))

theorem Upholds.swapSets {g w} (h : s.Upholds t) : s.Upholds (t.swapSets g w) := by
  unfold State.swapSets
  extract_lets _ _ _ u1 _ u2 u3 _ u4 u5 _ _ u6
  have h1 : s.Upholds u1 := h.swapSegs.swapChannels
  have h2 : s.Upholds u2 := h1.swapAbsent.swapQueues
  have h3 : s.Upholds u3 := h2.swapJets.swapLines.swapEnergy
  have h4 : s.Upholds u4 := h3.swapBasins.swapGeneration.forEach fun _ _ h4 => h4.loadTsets
  have h5 : s.Upholds u5 := h4.putActive.putShadow
  have h6 : s.Upholds u6 := h5.other.setShadow
  exact .ite h6.event h6

theorem Upholds.swapDue (h : s.Upholds t) : s.Upholds t.swapDue := by
  unfold State.swapDue
  split
  · refine .ite h ?_
    extract_lets
    split
    · exact h.swapSets.endOp
    · exact h.swapSets.mntEnd
  · exact h

theorem Upholds.execSwapTick (h : s.Upholds t) : s.Ends (execSwapTick t) := by
  unfold Machine.execSwapTick
  refine .next ?_
  split
  · exact .ite h h.advanceTo.swapDue
  · exact h

theorem Upholds.reloadPart {i} (h : s.Upholds t) : s.Upholds (t.reloadPart i) := by
  unfold State.reloadPart
  refine .ite h ?_
  extract_lets _ u1
  have h1 : s.Upholds u1 := by
    unfold u1
    split
    · exact .ite h.loadTsets h
    · exact h
  exact .ite (.ite (.restoreStore (.restoreVendor (h1.forEach fun _ _ h2 => h2.calLoad)))
    (h1.forEach fun _ _ h2 => h2.calLoad)) h1

theorem Upholds.execStaleReload {island} (h : s.Upholds t) : s.Ends (execStaleReload island t) :=
  .ite (.next h) (.next h.reloadPart.other)

theorem Upholds.endReload {i} (h : s.Upholds t) : s.Upholds (t.endReload i) := h.other

theorem Upholds.execStaleReloadEnd {island ok upsets} (h : s.Upholds t) : s.Ends (execStaleReloadEnd island ok upsets t) := by
  unfold Machine.execStaleReloadEnd
  refine .ite (.next h) ?_
  extract_lets u0 p u1 u2 u3 u4
  have h1 : s.Upholds u1 := by
    unfold u1 p
    split
    · exact h.endReload.upsetStore.checkStore
    · exact h.endReload
  have h2 : s.Upholds u2 := h1.forEach fun _ _ h => h.becomeDue
  have h3 : s.Upholds u3 := .ite h2.syncReset h2
  have h4 : s.Upholds u4 := h3.setGen.event
  exact .next (.ite (.ite (h4.forEach fun _ _ h => h.parkAn) h4) (h1.event.forEach fun _ _ h => h.faultUnit))

end Sys2Proof.Machine.State
end

section
/-! The board, fault continuity and gated register writes (R113 to R122, R588 to R606). -/

namespace Sys2Proof.Machine.State

variable {s t : State}

theorem Upholds.loadInstr {code} (h : s.Upholds t) : s.Upholds (t.loadInstr code) := by
  unfold State.loadInstr
  refine .ite h ?_
  extract_lets
  split <;> exact h.other

theorem Upholds.boundary {code cells} (h : s.Upholds t) : s.Upholds (t.boundary code cells) :=
    .ite h.loadInstr.other h.loadInstr

theorem Upholds.fenceEngine {e resultWord} (h : s.Upholds t) : s.Upholds (t.fenceEngine e resultWord) :=
  h.setBitAt.setBitAt.event.logEvent

theorem Upholds.hubFault (h : s.Upholds t) : s.Upholds t.hubFault := h.setBitAt.event.logEvent.other

theorem Upholds.resync {resultWord} (h : s.Upholds t) : s.Upholds (t.resync resultWord) :=
  .ite h.other.incSat.logEvent.fenceEngine h.other.incSat.logEvent

theorem Upholds.execDeMismatch (h : s.Upholds t) : s.Ends (execDeMismatch t) := .next (.ite h.other h)

theorem Upholds.execDeSelfCheckDone {aOk bOk resultWord} (h : s.Upholds t) :
    s.Ends (execDeSelfCheckDone aOk bOk resultWord t) := by
  unfold Machine.execDeSelfCheckDone
  extract_lets _ _
  refine .next (.ite h (.ite (.ite h.other.hubFault h) (.ite h ?_)))
  split
  · exact h.other.fenceEngine
  · exact h.other.fenceEngine
  · exact h.other.resync
  · exact h.other.hubFault

theorem Upholds.loseSeg {n} (h : s.Upholds t) : s.Upholds (t.loseSeg n) := by
  unfold State.loseSeg
  split
  · exact h.emptySeg.endOp
  · exact h.emptySeg

theorem Upholds.loseRecords (h : s.Upholds t) : s.Upholds t.loseRecords := h.other

theorem Upholds.loseJournal {copy} (h : s.Upholds t) : s.Upholds (t.loseJournal copy) :=
  .ite h.setBitAt.logEvent.loseRecords h.setBitAt.logEvent

theorem Upholds.loseGroup {g pc} (h : s.Upholds t) : s.Upholds (t.loseGroup g pc) :=
  .forEach (h.setBitAt.setBitAt.logEvent.forEach fun _ _ h1 => h1.loseSeg) fun _ _ h1 => h1.loseJournal

theorem Upholds.countEcc {pc corrected rebuilt} (h : s.Upholds t) : s.Upholds (t.countEcc pc corrected rebuilt) :=
  h.addSat.addSat.other

theorem Upholds.execPcFault {pc corrected rebuilt failed} (h : s.Upholds t) :
    s.Ends (execPcFault pc corrected rebuilt failed t) := by
  unfold Machine.execPcFault
  refine .next (.ite h ?_)
  extract_lets _ _ _ u1 u2
  have h1 : s.Upholds u1 := h.countEcc.setBitAt.event
  have h2 : s.Upholds u2 := .ite h1.logEvent (.ite h1.loseGroup h1)
  exact .ite h.countEcc h2.setBitAt

theorem Upholds.execMramBankFault {bank objects} (h : s.Upholds t) : s.Ends (execMramBankFault bank objects t) :=
  .next (.ite h (Upholds.ite h.setBitAt.event.setBitAt.logEvent h.setBitAt.event.setBitAt.logEvent.loseRecords).other)

theorem Upholds.execMramRecopyDone {bank} (h : s.Upholds t) : s.Ends (execMramRecopyDone bank t) := by
  unfold Machine.execMramRecopyDone
  refine .next ?_
  split
  · exact h
  · exact (Upholds.ite h.other.setBitAt h.other).ltAdd

theorem Upholds.loseCluster {k} (h : s.Upholds t) : s.Upholds (t.loseCluster k) := .ite h h.markFaulted.logEvent

theorem Upholds.execIslandCtlMismatch {cluster copy} (h : s.Upholds t) : s.Ends (execIslandCtlMismatch cluster copy t) := by
  unfold Machine.execIslandCtlMismatch
  extract_lets _ _
  exact .next (.ite h (.ite h.loseCluster (.ite h.setBitAt.event.logEvent.other.loseCluster h.setBitAt.event.logEvent.other)))

theorem Upholds.execTeCommit {cluster hi} (h : s.Upholds t) : s.Ends (execTeCommit cluster hi t) :=
  h.gated (fun _ h1 => h1.doTeCommit)

theorem Upholds.execLvCommit {cluster mask} (h : s.Upholds t) : s.Ends (execLvCommit cluster mask t) :=
  h.gated (fun _ h1 => h1.doLvCommit)

theorem Upholds.execAcqNext {cluster upsets} (h : s.Upholds t) : s.Ends (execAcqNext cluster upsets t) :=
  h.upsetRing.gated (fun _ h1 => h1.doAcqNext)

theorem Upholds.execAcqMark {cluster upsets} (h : s.Upholds t) : s.Ends (execAcqMark cluster upsets t) :=
  h.upsetRing.gated (fun _ h1 => h1.doAcqMark)

theorem Upholds.execAcqRewind {cluster upsets} (h : s.Upholds t) : s.Ends (execAcqRewind cluster upsets t) :=
  h.upsetRing.gated (fun _ h1 => h1.doAcqRewind)

theorem Upholds.execAcqOldest {cluster upsets} (h : s.Upholds t) : s.Ends (execAcqOldest cluster upsets t) :=
  h.upsetRing.gated (fun _ h1 => h1.doAcqOldest)

theorem Upholds.execMeasSync {cluster} (h : s.Upholds t) : s.Ends (execMeasSync cluster t) :=
    h.gated (fun _ h1 => h1.doMeasSync)

theorem Upholds.execParkSave {ch} (h : s.Upholds t) : s.Ends (execParkSave ch t) := h.gated (fun _ h1 => h1.doParkSave)

theorem Upholds.execOutRangeWrite {ch v} (h : s.Upholds t) : s.Ends (execOutRangeWrite ch v t) :=
  h.gated (fun _ h1 => h1.doOutRangeWrite)

theorem Upholds.execBankSwap {ch v} (h : s.Upholds t) : s.Ends (execBankSwap ch v t) := h.gated (fun _ h1 => h1.doBankSwap)

theorem Upholds.execCoefficientWrite {ch bankB index v} (h : s.Upholds t) :
    s.Ends (execCoefficientWrite ch bankB index v t) :=
  h.gated (fun _ h1 => h1.doCoefficientWrite)

theorem Upholds.execDpsDisable {d} (h : s.Upholds t) : s.Ends (execDpsDisable d t) := h.gated (fun _ h1 => h1.doDpsDisable)
theorem Upholds.execClearTrip {d} (h : s.Upholds t) : s.Ends (execClearTrip d t) := h.gated (fun _ h1 => h1.doClearTrip)
theorem Upholds.execMsqTrap {m} (h : s.Upholds t) : s.Ends (execMsqTrap m t) := h.gated (fun _ h1 => h1.doMsqTrap)

end Sys2Proof.Machine.State
end

section
/-! Routes, link ports, security, store accesses and control-store loads (R456 to R461, R488 to R520, R547 to R563). -/

namespace Sys2Proof.Machine.State

variable {s t : State}

theorem Upholds.settleRoute {e} (h : s.Upholds t) : s.Upholds (t.settleRoute e) := by
  unfold State.settleRoute
  extract_lets new old others x u1 u2
  refine .ite h ?_
  have h2 : s.Upholds u2 := .event (.other h)
  clear_value old new
  split
  · exact h2.logEvent
  · exact .other h2.logEvent
  · exact h2

theorem Upholds.settleRoutes (h : s.Upholds t) : s.Upholds t.settleRoutes := h.forEach fun _ _ h1 => h1.settleRoute

theorem Upholds.learnUid {e uid} (h : s.Upholds t) : s.Upholds (t.learnUid e uid) :=
  .ite h (.ite h.other h.other.event.logEvent.other)

theorem Upholds.learn {c} (h : s.Upholds t) : s.Upholds (t.learn c) := h.learnUid.other.settleRoute
theorem Upholds.lapsePort {p} (h : s.Upholds t) : s.Upholds (t.lapsePort p) := h.other.settleRoutes
theorem Upholds.sendCredit {p} (h : s.Upholds t) : s.Upholds (t.sendCredit p) := h.setPort.sendCtrl

theorem Upholds.releaseFlits {p vc n} (h : s.Upholds t) : s.Upholds (t.releaseFlits p vc n) :=
  .ite h (.ite h.setPort.sendCredit h.setPort)

theorem Upholds.consume {m} (h : s.Upholds t) : s.Upholds (t.consume m) := .ite h.other.releaseFlits h
theorem Upholds.restartFlow {dest vc} (h : s.Upholds t) : s.Upholds (t.restartFlow dest vc) := h.setMseq

theorem Upholds.answerNoRoute {p f} (h : s.Upholds t) : s.Upholds (t.answerNoRoute p f) :=
  .ite h (.ite h.restartFlow (.ite h.reply h))

theorem Upholds.reroute {p fs} (h : s.Upholds t) : s.Upholds (t.reroute p fs) := by
  unfold State.reroute
  extract_lets
  split
  · exact h.enqueue
  · exact h.noRoute.answerNoRoute

theorem Upholds.closeQueue {q vc} (h : s.Upholds t) : s.Upholds (t.closeQueue q vc) := h.setPort

theorem Upholds.transit {p q f} (h : s.Upholds t) : s.Upholds (t.transit p q f) :=
  .ite (.ite h.setPort.releaseFlits.setPort.closeQueue h.setPort.releaseFlits) (.ite h.setPort.setPort.releaseFlits.setPort
    (.ite h.setPort.enqueue.releaseFlits h.setPort))

theorem Upholds.dropTransit {p f} (h : s.Upholds t) : s.Upholds (t.dropTransit p f) :=
  .ite h.noRoute.releaseFlits.answerNoRoute h.noRoute.releaseFlits

theorem Upholds.takeResponse {m} (h : s.Upholds t) : s.Upholds (t.takeResponse m) := (Upholds.ite h.other h).releaseFlits

theorem Upholds.accept1 {m hops} (h : s.Upholds t) : s.Upholds (t.accept1 m hops) := by
  unfold State.accept1
  extract_lets u1 _ _ u2
  have h1 : s.Upholds u1 := .ite (h.forEach fun _ _ h1 => h1.enqueue) h
  have h2 : s.Upholds u2 := h1.releaseFlits
  exact .ite h1.takeResponse (.ite h1.other (.ite h2 h2.reply))

theorem Upholds.setFlow {w} (h : s.Upholds t) : s.Upholds (t.setFlow w) := h.other

theorem Upholds.drainFlow {w n} (h : s.Upholds t) : s.Upholds (t.drainFlow w n) := by
  induction n generalizing t w with
  | zero => exact h.setFlow
  | succ n ih =>
    unfold State.drainFlow
    split
    · exact h.setFlow
    · exact ih h.accept1

theorem Upholds.deliverMsg {m hops} (h : s.Upholds t) : s.Upholds (t.deliverMsg m hops) := by
  unfold State.deliverMsg
  extract_lets _
  split
  · exact h.accept1.setFlow
  · refine .ite h.accept1.drainFlow ?_
    extract_lets _
    exact .ite (.ite h.accept1.setFlow h.incSat.releaseFlits) (.ite h.accept1.drainFlow
      (.ite h.setFlow h.incSat.releaseFlits))

theorem Upholds.relayOn {p fs} (h : s.Upholds t) : s.Upholds (t.relayOn p fs) :=
  .ite h.releaseFlits.enqueue h.releaseFlits.noRoute.answerNoRoute

theorem Upholds.collect {p f} (h : s.Upholds t) : s.Upholds (t.collect p f) :=
  .ite h.setPort (.ite h.setPort.releaseFlits (.ite h.setPort.relayOn h.setPort.deliverMsg))

theorem Upholds.handleFlit {p f} (h : s.Upholds t) : s.Upholds (t.handleFlit p f) := by
  unfold State.handleFlit
  refine .ite h.collect (.ite h.dropTransit ?_)
  split
  · exact h.transit
  · exact h.setPort.dropTransit

theorem Upholds.pullBack {p vc rest} (h : s.Upholds t) : s.Upholds (t.pullBack p vc rest) := by
  unfold State.pullBack
  split
  · exact h
  · exact h.setPort.setPort

theorem Upholds.abortTransit {p vc} (h : s.Upholds t) : s.Upholds (t.abortTransit p vc) :=
  .setPort (h.forEach fun _ _ h1 => .ite h1.setPort.closeQueue h1)

theorem Upholds.failover {p} (h : s.Upholds t) : s.Upholds (t.failover p).1 :=
  .forEach (h.setPort.forEach fun _ _ h1 => h1.pullBack.abortTransit) fun _ _ h1 => h1.reroute

theorem Upholds.settleUplRoutes (h : s.Upholds t) : s.Upholds t.settleUplRoutes := by
  unfold State.settleUplRoutes
  refine h.forEach fun _ _ h1 => ?_
  split
  · exact .ite h1 h1.endUpload
  · exact h1

theorem Upholds.holdTimeout {w} (h : s.Upholds t) : s.Upholds (t.holdTimeout w) := by
  unfold State.holdTimeout
  split
  · exact h
  · exact .ite h.advanceTo (.drainFlow (h.advanceTo.addSat.event.forEach fun _ _ h1 => h1.accept1))

theorem Upholds.execDupClear {endpoint} (h : s.Upholds t) : s.Ends (execDupClear endpoint t) := by
  unfold Machine.execDupClear
  refine .next ?_
  split
  · exact h
  · exact .ite h.advanceTo h.advanceTo.other

theorem Upholds.execRouteLapse {endpoint p} (h : s.Upholds t) : s.Ends (execRouteLapse endpoint p t) := by
  unfold Machine.execRouteLapse
  refine .next ?_
  split
  · exact h
  · exact .ite h.advanceTo h.advanceTo.other.settleRoute

theorem Upholds.sendAdverts {p gone es} (h : s.Upholds t) : s.Upholds (t.sendAdverts p gone es) :=
  h.forEach fun _ _ h1 => h1.sendCtrl

theorem Upholds.execAdvertTimer (h : s.Upholds t) : s.Ends (execAdvertTimer t) :=
  .next (.other (h.forEach fun _ _ h1 => h1.sendAdverts))

theorem Upholds.writeChipNum {path v} (h : s.Upholds t) : s.Upholds (t.writeChipNum path v) := by
  unfold State.writeChipNum
  refine .ite h.rangeFlag ?_
  extract_lets
  split
  · exact h.setReg.other
  · exact h.setReg

theorem Upholds.execAplRtSelWrite {v} (h : s.Upholds t) : s.Ends (execAplRtSelWrite v t) :=
    .next h.setReg.setReg.setReg.setReg64

theorem Upholds.setPortState {p v} (h : s.Upholds t) : s.Upholds (t.setPortState p v) := h.setReg.setPort
theorem Upholds.freshLine {p} (h : s.Upholds t) : s.Upholds (t.freshLine p) := h.setPort
theorem Upholds.stamp (h : s.Upholds t) : s.Upholds t.stamp.2 := h.other
theorem Upholds.sendTsReq {p n} (h : s.Upholds t) : s.Upholds (t.sendTsReq p n) := h.stamp.sendCtrl
theorem Upholds.startExchanges {p} (h : s.Upholds t) : s.Upholds (t.startExchanges p) := h.setPort.sendTsReq
theorem Upholds.refreshSkew (h : s.Upholds t) : s.Upholds t.refreshSkew := h.setBitAt

theorem Upholds.endExchanges {p} (h : s.Upholds t) : s.Upholds (t.endExchanges p) := by
  unfold State.endExchanges
  extract_lets _ _ _
  split
  · exact h.setReg
  · extract_lets u1 _ _ _ u2 u3
    have h1 : s.Upholds u1 := h.setReg.setReg
    have h2 : s.Upholds u2 := .ite h1.setPort.event h1.setPort
    have h3 : s.Upholds u3 := .ite h2.event h2
    exact h3.refreshSkew

theorem Upholds.leaveUp {p why} (h : s.Upholds t) : s.Upholds (t.leaveUp p why) :=
  (Upholds.ite h.event.setPort.refreshSkew h.event.setPort.refreshSkew.logEvent).lapsePort

theorem Upholds.enterIdent {p} (h : s.Upholds t) : s.Upholds (t.enterIdent p) := h.setPortState.freshLine.startExchanges

theorem Upholds.enterPort {p v} (h : s.Upholds t) : s.Upholds (t.enterPort p v) :=
    (Upholds.ite h.mntEnd h).setPortState.freshLine

theorem Upholds.dropUp {p v why event} (h : s.Upholds t) : s.Upholds (t.dropUp p v why event) := by
  unfold State.dropUp
  extract_lets _ u1 u2
  have h1 : s.Upholds u1 := .ite h.setPortState.leaveUp.failover.event.logEvent h.setPortState.leaveUp.failover
  have h2 : s.Upholds u2 := h1.settleUplRoutes.freshLine
  exact .ite h2.mntAsk h2

theorem Upholds.execPortEnable {p} (h : s.Upholds t) : s.Ends (execPortEnable p t) := .next (.ite h.setReg.enterPort h.setReg)

theorem Upholds.execPortDisable {p} (h : s.Upholds t) : s.Ends (execPortDisable p t) :=
  .next (.ite h.setReg.dropUp h.setReg.enterPort)

theorem Upholds.takePeer {p f} (h : s.Upholds t) : s.Upholds (t.takePeer p f) := h.setReg.setReg64
theorem Upholds.learnPeer {p f} (h : s.Upholds t) : s.Upholds (t.learnPeer p f) := .ite h (.ite h.learn h.learnUid)

theorem Upholds.execIdentComplete {p} (h : s.Upholds t) : s.Ends (execIdentComplete p t) := by
  unfold Machine.execIdentComplete
  extract_lets _
  split
  · exact .next h
  · exact .ite (.next h) (.next (Upholds.ite h.setPortState.takePeer.event.logEvent.event
      h.setPortState.takePeer.event.logEvent).refreshSkew.learnPeer)

theorem Upholds.execSignalLost {p} (h : s.Upholds t) : s.Ends (execSignalLost p t) := by
  unfold Machine.execSignalLost
  refine .next ?_
  split
  · exact h.enterPort
  · exact h.dropUp
  · exact h

theorem Upholds.execPortFailure {p alignmentLost} (h : s.Upholds t) : s.Ends (execPortFailure p alignmentLost t) := by
  unfold Machine.execPortFailure
  refine .ite (.next h) (.ite (.next h.incSat.dropUp) ?_)
  split
  · exact .next h
  · exact .next (.ite h.advanceTo h.advanceTo.incSat.dropUp)

theorem Upholds.execRetrain {p} (h : s.Upholds t) : s.Ends (execRetrain p t) := .next (.ite h.dropUp h)
theorem Upholds.execAplMeasure {p} (h : s.Upholds t) : s.Ends (execAplMeasure p t) := .next (.ite h.startExchanges h)
theorem Upholds.requeue {p} (h : s.Upholds t) : s.Upholds (t.requeue p) := h.setPort

theorem Upholds.execResync {p} (h : s.Upholds t) : s.Ends (execResync p t) :=
  .next (.ite (.enterIdent (.requeue (h.setPortState.leaveUp.forEach fun _ _ h1 => h1.abortTransit))) h)

theorem Upholds.takeAck {p f} (h : s.Upholds t) : s.Upholds (t.takeAck p f) := .ite h.setPort h

theorem Upholds.execCodewordReceive {p symbolErrors flits} (h : s.Upholds t) :
    s.Ends (execCodewordReceive p symbolErrors flits t) := by
  unfold Machine.execCodewordReceive
  extract_lets _ _ u1 _ _ u2
  have h1 : s.Upholds u1 := .ite h h.incSat
  have h2 : s.Upholds u2 := .ite h1.setPort h1.setPort.addSat
  exact .next (.ite h (.ite h.incSat.setPort (.ite (h2.forEach fun _ _ h3 => h3.takeAck) h2)))

theorem Upholds.sendNak {p} (h : s.Upholds t) : s.Upholds (t.sendNak p) := .ite h h.setPort.sendCtrl

theorem Upholds.execDataFlit {p f} (h : s.Upholds t) : s.Ends (execDataFlit p f t) := by
  unfold Machine.execDataFlit
  refine .ite (.next h) (.ite (.next h.sendNak) ?_)
  extract_lets _ _ u1
  have h1 : s.Upholds u1 := h.takeAck.setPort
  exact .ite (.next h.takeAck.sendNak) (.next (.ite h1.handleFlit h1.incSat.releaseFlits))

theorem Upholds.execIdent {p f} (h : s.Upholds t) : s.Ends (execIdent p f t) := by
  unfold Machine.execIdent
  extract_lets _
  refine .next (.ite h ?_)
  split
  · exact h.setPort
  · exact .ite h.dropUp h.setPort.takePeer.learnPeer
  · exact h

theorem Upholds.takeAdvert {p f i} (h : s.Upholds t) : s.Upholds (t.takeAdvert p f i) :=
  .ite (.ite h.learnUid h) (.ite h.other.settleRoute h.learn)

theorem Upholds.execFlitTransmit {p} (h : s.Upholds t) : s.Ends (execFlitTransmit p t) := by
  unfold Machine.execFlitTransmit
  have hp {v} : s.Ends (.next (t.setPort p v)) := .next h.setPort
  refine .ite hp ?_
  dsimp only
  split
  · exact hp
  · refine .ite hp ?_
    split
    · exact .next h.incSat.setPort
    · split
      · exact hp
      · split <;> exact hp

theorem Upholds.secResult {n} (h : s.Upholds t) : s.Upholds (t.secResult n) := h.setFld
theorem Upholds.setRegBytes {a bs} (h : s.Upholds t) : s.Upholds (t.setRegBytes a bs) := h.forEach fun _ _ h1 => h1.setReg
theorem Upholds.execKeyCmd (h : s.Upholds t) : s.Ends (execKeyCmd t) := .next (.ite h.secResult (.ite h.secResult h.sec))

theorem Upholds.execKeyTableWritten (h : s.Upholds t) : s.Ends (execKeyTableWritten t) := by
  unfold Machine.execKeyTableWritten
  refine .next ?_
  split
  · exact h
  · exact h.sec.mramWrite.event.secResult

theorem Upholds.raiseFloor {which old v} (h : s.Upholds t) : s.Upholds (t.raiseFloor which old v) := by
  unfold State.raiseFloor
  refine .ite h.secResult ?_
  split
  · exact .ite h.sec h.secResult
  · exact h.secResult

theorem Upholds.execRaiseCfgFloor (h : s.Upholds t) : s.Ends (execRaiseCfgFloor t) := .next h.raiseFloor
theorem Upholds.execRaiseCsFloor (h : s.Upholds t) : s.Ends (execRaiseCsFloor t) := .next h.raiseFloor

theorem Upholds.execFloorWritten (h : s.Upholds t) : s.Ends (execFloorWritten t) := by
  unfold Machine.execFloorWritten
  refine .next ?_
  split
  · exact h
  · extract_lets x u
    have hu : s.Upholds u := by
      refine { h with cfgFloor := h.cfgFloor.trans ?_, csFloor := h.csFloor.trans ?_ }
      all_goals
        unfold u x
        dsimp only
        split <;> simp
    exact hu.mramWrite.event.secResult

theorem Upholds.execAttest (h : s.Upholds t) : s.Ends (execAttest t) := .next (.ite h.secResult h.rtcNow.sec.secResult)

theorem Upholds.execAttestDone (h : s.Upholds t) : s.Ends (execAttestDone t) := by
  unfold Machine.execAttestDone
  refine .next ?_
  split
  · exact h
  · exact h.setRegBytes.sec.setBitAt.event

theorem Upholds.touchSeg {a len n} (h : s.Upholds t) : s.Upholds (t.touchSeg a len n) := by
  unfold State.touchSeg
  refine .ite h.emptySeg.event ?_
  split
  · exact h.setWork
  · exact h

theorem Upholds.addPoison {a n} (h : s.Upholds t) : s.Upholds (t.addPoison a n) := h.other

theorem Upholds.hostWrite {a body poison} (h : s.Upholds t) : s.Upholds (t.hostWrite a body poison).1 :=
  .forEach ((Upholds.ite (.ite h.incSat h) (Upholds.ite h.incSat h).incSat.event).forEach fun _ _ h1 => h1.touchSeg) fun _ _
    h1 => .ite h1.writeBytes.addPoison h1.writeBytes

theorem Upholds.loadResult {code ix} (h : s.Upholds t) : s.Upholds (t.loadResult code ix) := h.setReg.event

theorem Upholds.loadCommand {path} (h : s.Upholds t) : s.Upholds (t.loadCommand path) :=
  .ite h.setFld (.ite h.rangeFlag (.ite h.loadResult (.ite h.loadResult h.setReg.sec)))

theorem Upholds.execMsqLoadDone (h : s.Upholds t) : s.Ends (execMsqLoadDone t) := by
  unfold Machine.execMsqLoadDone
  refine .next ?_
  split
  · exact h
  · exact .loadResult (.setReg (h.sec.forEach fun _ _ h1 => h1.setMsq.restoreStore))

end Sys2Proof.Machine.State
end

section
/-! Resets, power and the service port's master role (R123 to R138, R523 to R545, R573 to R576). -/

namespace Sys2Proof.Machine.State

variable {s t : State}

theorem Upholds.catchUp {g a k lim n} (h : s.Upholds t) : s.Upholds (t.catchUp g a k lim n) := by
  induction n generalizing t with
  | zero => exact h
  | succ n ih =>
    unfold State.catchUp
    split
    · exact .ite (ih h.playVector) h
    · exact h

theorem Upholds.haltAt {a cut} (h : s.Upholds t) : s.Upholds (t.haltAt a cut) := by
  unfold State.haltAt
  split
  · refine .ite h ?_
    extract_lets u1
    have h1 : s.Upholds u1 := h.forEach fun _ _ h1 => h1.catchUp
    split
    · exact h1.stopAllAt
    · exact h1
  · exact h

theorem Upholds.copyMarks (h : s.Upholds t) : s.Upholds t.copyMarks := h.forEach fun _ _ h1 => h1.copyOn

theorem Upholds.dropRoutines (h : s.Upholds t) : s.Upholds t.dropRoutines :=
  h.forEach fun _ _ h1 => h1.dropDeferred.clearFrames.freeMsq

theorem Upholds.dischargeAll (h : s.Upholds t) : s.Upholds t.dischargeAll := h.forEach fun _ _ h1 => h1.discharge
theorem Upholds.allDpsOff (h : s.Upholds t) : s.Upholds t.allDpsOff := h.forEach fun _ _ h1 => h1.dpsOff

theorem Upholds.allAnTo {st} (h : s.Upholds t) : s.Upholds (t.allAnTo st) :=
  h.forEach fun _ _ h1 => (Upholds.ite h1 h1.setAnState).setFld.setFld.setReg64.setReg.setAna

theorem Upholds.allLanesOff (h : s.Upholds t) : s.Upholds t.allLanesOff := h.other.forEach fun _ _ h1 => h1.lanesOff.setReg

theorem Upholds.dropFeeders (h : s.Upholds t) : s.Upholds t.dropFeeders := by
  unfold State.dropFeeders
  refine h.forEach fun _ _ h1 => (.setClu (.other (h1.forEach fun _ _ h2 => ?_)))
  split
  · exact h2.bumpBhead
  · exact h2

theorem Upholds.clearModes (h : s.Upholds t) : s.Upholds t.clearModes :=
  h.forEach fun _ _ h1 => .ite (.ite h1 h1.setFld) (Upholds.ite h1 h1.setFld).setLive

theorem Upholds.dropPins (h : s.Upholds t) : s.Upholds t.dropPins := .other h.pmuLeaves.clearModes

theorem Upholds.dropClusters (h : s.Upholds t) : s.Upholds t.dropClusters :=
  .other (.forEach (h.forEach fun _ _ h1 => h1.setClu.setFld.setBitAt.setBitAt) fun _ _ h1 => h1.setBitAt.setReg)

theorem Upholds.dropFountains (h : s.Upholds t) : s.Upholds t.dropFountains :=
  .other (h.forEach fun _ _ h1 => h1.setBitAt.setBitAt)

theorem Upholds.dropMaint (h : s.Upholds t) : s.Upholds t.dropMaint := by
  unfold State.dropMaint
  exact .other (h.forEach fun _ _ h => h.calDrop)

theorem Upholds.dropHub (h : s.Upholds t) : s.Upholds t.dropHub := by
  unfold State.dropHub
  extract_lets u1 p u2 x y
  have h1 : s.Upholds u1 := .ite h.leaveArmed h
  have h2 : s.Upholds u2 := by
    unfold u2 p
    split
    · exact h1.other
    · exact h1
  have hy : x.cfgFloor ≤ y.cfgFloor ∧ x.csFloor ≤ y.csFloor := by
    unfold y
    constructor <;> (repeat' split) <;> simp
  refine .other { h2 with cfgFloor := h2.cfgFloor.trans hy.1, csFloor := h2.csFloor.trans hy.2 }

theorem Upholds.warmBegin {cause} (h : s.Upholds t) : s.Upholds (t.warmBegin cause) :=
  .ite h.event h.swapDue.setFld.setFld.ltAdd.other

theorem Upholds.warmOps (h : s.Upholds t) : s.Upholds t.warmOps := by
  unfold State.warmOps
  extract_lets u1 u2 u3 u4 _ _ u5
  have h1 : s.Upholds u1 := .copyMarks (h.forEach fun _ _ h1 => h1.haltAt)
  have h2 : s.Upholds u2 := by
    refine h1.forEach fun _ _ h2 => ?_
    split
    · exact h2.flushPartial
    · exact h2
  have h3 : s.Upholds u3 := by
    refine h2.forEach fun _ _ h3 => ?_
    split
    · exact h3.closeRun
    · exact h3
  have h4 : s.Upholds u4 := h3.forEach fun _ _ h4 => h4.release.releaseReads
  have h5 : s.Upholds u5 := h4.other.forEach fun _ _ h5 => h5.producerEnds
  split
  · exact h5.setShadow.other
  · exact h5

theorem Upholds.warmPorts (h : s.Upholds t) : s.Upholds t.warmPorts := by
  unfold State.warmPorts
  extract_lets _ _
  refine h.other.forEach fun _ _ h1 => ?_
  extract_lets _ u2 _ _
  have h2 : s.Upholds u2 := .ite h1.leaveUp h1
  exact .ite h2.setPort.setPortState.freshLine.sendCtrl.startExchanges h2.setPort

theorem Upholds.warmSvc (h : s.Upholds t) : s.Upholds t.warmSvc :=
    h.other.setBitAt.settleRole.forEach fun _ _ h1 => h1.settleGpio

theorem Upholds.warmCommand {path key} (h : s.Upholds t) : s.Upholds (t.warmCommand path key) :=
  .ite h.rangeFlag h.warmBegin.setFld

theorem Upholds.execHubFaultReset (h : s.Upholds t) : s.Ends (execHubFaultReset t) := by
  unfold Machine.execHubFaultReset
  split
  · exact .next h
  · exact .next (.ite h.advanceTo h.advanceTo.warmBegin.other)

theorem Upholds.execWarmResetStart (h : s.Upholds t) : s.Ends (execWarmResetStart t) := by
  unfold Machine.execWarmResetStart
  refine .next (.ite h ?_)
  extract_lets u1 u2 u3 u4 _ _
  have h1 : s.Upholds u1 := h.warmOps.dropRoutines.dischargeAll.allAnTo.allLanesOff
  have h2 : s.Upholds u2 := h1.warmPorts.warmSvc.dropFeeders.dropPins.dropClusters.dropFountains
  have h3 : s.Upholds u3 := .ite h2.endVerify h2
  have h4 : s.Upholds u4 := h3.dropMaint.dropHub.setBitAt
  exact h4.other

theorem Upholds.loseIsland {i} (h : s.Upholds t) : s.Upholds (t.loseIsland i) :=
  .ite h.setGen.other h.setGen.other.resetWords.setClu.other

theorem Upholds.loseRingItems {i} (h : s.Upholds t) : s.Upholds (t.loseRingItems i) := .ite h h.other

theorem Upholds.selfChecks {deFail ctlFail} (h : s.Upholds t) : s.Upholds (t.selfChecks deFail ctlFail) := by
  unfold State.selfChecks
  extract_lets _ _ u1 _ _ u2
  have h1 : s.Upholds u1 := h.setFld.setReg
  have h2 : s.Upholds u2 := h1.other.forEach fun _ _ h2 => h2.loseCluster
  exact .ite h2.hubFault h2

theorem Upholds.resumeUpload {o} (h : s.Upholds t) : s.Upholds (t.resumeUpload o) := by
  unfold State.resumeUpload
  split
  · exact h
  · refine .ite h.endUpload ?_
    extract_lets _ _ u1 u2
    have h1 : s.Upholds u1 := .ite h.setRing.setBitAt h
    have h2 : s.Upholds u2 := .ite h1.followUpload h1.fillUpload
    exact h2.settleUpload

theorem Upholds.warmRecords {owed} (h : s.Upholds t) : s.Upholds (t.warmRecords owed) := by
  unfold State.warmRecords
  refine .logEvent (h.forEach fun _ _ h1 => ?_)
  split
  · exact h1.deliver
  · exact h1

theorem Upholds.execWarmResetEnd {upsets deFail ctlFail} (h : s.Upholds t) :
    s.Ends (execWarmResetEnd upsets deFail ctlFail t) := by
  unfold Machine.execWarmResetEnd
  refine .next (.ite h ?_)
  extract_lets u1 gone u2 u3 u4 u5 u6 owed u7 u8 u9 x u10 u11 u12
  have h2 : s.Upholds u2 := h.allDpsOff.setReg.setReg.clearModes
  have h3 : s.Upholds u3 := h2.forEach fun _ _ h => h.settleTe
  have h4 : s.Upholds u4 := h3.forEach fun _ _ h => h.loseRingItems.loseIsland
  have h5 : s.Upholds u5 := h4.forEach fun _ _ h => h.parkAn
  have h6 : s.Upholds u6 := h5.forEach fun _ _ h => h.calSettle
  have h8 : s.Upholds u8 := h6.selfChecks.forEach fun _ _ h => h.syncReset
  have h10 : s.Upholds u10 := .other h8.setFld.setBitAt.event
  have h11 : s.Upholds u11 := h10.forEach fun _ _ h => h.settleGpio
  exact h11.warmRecords.forEach fun _ _ h => h.resumeUpload

theorem Upholds.pfRecord {start} (h : s.Upholds t) : s.Upholds (t.pfRecord start) := (Upholds.ite h h.logEvent).other

theorem Upholds.execPowerFailStart {pfN detector} (h : s.Upholds t) : s.Ends (execPowerFailStart pfN detector t) := by
  unfold Machine.execPowerFailStart
  refine .next (.ite h ?_)
  extract_lets start u1 u2 u3 x u4 u5 quiet y u6 u7 u8 u9 u10 u11 z w
  have h1 : s.Upholds u1 := h.forEach fun _ _ h => h.ltAdd
  have h4 : s.Upholds u4 := .other h1.ltAdd.setBitAt.setFld.logEvent
  have h5 : s.Upholds u5 := h4.forEach fun _ _ h => h.haltAt
  have h8 : s.Upholds u8 := .other (.pfRecord (.copyMarks (.other h5)))
  have h10 : s.Upholds u10 :=
    h8.dropRoutines.dischargeAll.allAnTo.allLanesOff.dropFeeders.dropClusters.dropFountains.dropMaint.dropHub
  exact .other h10.putShadow.setShadow.setBitAt

theorem Upholds.coldState (h : s.Upholds t) : s.Upholds t.coldState := by
  have hd := h.dropHub
  unfold State.coldState
  exact { hd with
    regs := fun hw => Map.wf_filter _ _ _ (hd.regs hw)
    live := fun _ => Map.wf_nil _
    store := fun _ => Map.wf_nil _
    events := fun _ => Nat.zero_le _ }

theorem Upholds.coldBegin {cause} (h : s.Upholds t) : s.Upholds (t.coldBegin cause) :=
    h.dropPins.coldState.setFld.setBitAt.setFld

theorem Upholds.coldCommand {path key} (h : s.Upholds t) : s.Upholds (t.coldCommand path key) :=
  .ite h.rangeFlag (.ite h.setFld h.setFld.coldBegin)

theorem Upholds.resetCommand {path v} (h : s.Upholds t) : s.Upholds (t.resetCommand path v) := by
  unfold State.resetCommand
  extract_lets
  split
  · exact h.warmCommand
  · exact h.coldCommand
  · exact .ite h.rangeFlag h.setFld

theorem Upholds.resetPin (h : s.Upholds t) : s.Upholds t.resetPin := h.coldBegin
theorem Upholds.execResetNLow (h : s.Upholds t) : s.Ends (execResetNLow t) := .next (.ite h.other h.other.resetPin)
theorem Upholds.mirrorWrite (h : s.Upholds t) : s.Upholds t.mirrorWrite := h.other.mramWrite

theorem Upholds.execPfSequenceEnd (h : s.Upholds t) : s.Ends (execPfSequenceEnd t) := by
  unfold Machine.execPfSequenceEnd
  refine .next (.ite h ?_)
  extract_lets _ _ _ u1 _ _ u2
  have h1 : s.Upholds u1 := h.other.allDpsOff.mramWrite.mirrorWrite
  have h2 : s.Upholds u2 := h1.other.setBitAt.setFld
  exact .ite h2 h2.resetPin

theorem Upholds.deliverOwed {r i} (h : s.Upholds t) : s.Upholds (t.deliverOwed r i) := by
  unfold State.deliverOwed
  extract_lets _
  exact h.forEach fun _ _ h1 => .ite h1 (.ite h1.putRecord.other.mramWrite.logEvent h1.putRecord.other)

theorem Upholds.execAbortedPowerDelivery {q} (h : s.Upholds t) : s.Ends (execAbortedPowerDelivery q t) := by
  unfold Machine.execAbortedPowerDelivery
  refine .next ?_
  split
  · exact h
  · refine .ite h ?_
    split
    · exact h
    · exact h.deliverOwed.deliverOwed

theorem Upholds.discardOldest {path} (h : s.Upholds t) : s.Upholds (t.discardOldest path) := by
  unfold State.discardOldest
  split
  · exact h.rangeFlag
  · exact h.other.mramWrite.logEvent

theorem Upholds.coreOff (h : s.Upholds t) : s.Upholds t.coreOff := .other h.coldBegin

/-- The registers are all back at their reset values, and the always-on domain changes. -/
theorem Upholds.clearRegs {aon} (h : s.Upholds t) : s.Upholds { t with regs := [], aon := aon } :=
  { h with regs := fun _ => Map.wf_nil _ }

theorem Upholds.execVaonFall (h : s.Upholds t) : s.Ends (execVaonFall t) := .next h.coreOff.clearRegs
theorem Upholds.dropInvalid {i} (h : s.Upholds t) : s.Upholds (t.dropInvalid i) := .ite h h.setBitAt.logEvent.other

theorem Upholds.execPowerUpSequence {ready} (h : s.Upholds t) : s.Ends (execPowerUpSequence ready t) :=
  .next (.ite h (.dropInvalid (.dropInvalid (.setReg (.forEach (.forEach (.ite (.event (.setBitAt (.ltAdd
    ((Upholds.ite h.setFld h).other.forEach fun _ _ h1 => h1.setPortState)))) (.setBitAt (.ltAdd
    ((Upholds.ite h.setFld h).other.forEach fun _ _ h1 => h1.setPortState)))) fun _ _ h1 => h1.loadPark) fun _ _ h1 =>
    h1.calLoad)))))

theorem Upholds.execCisternTrained (h : s.Upholds t) : s.Ends (execCisternTrained t) := .next (.ite h h.setBitAt.setFld.other)

theorem Upholds.sleepPins {k} (h : s.Upholds t) : s.Upholds (t.sleepPins k) :=
  .other (h.pmuLeaves.forEach fun _ _ h1 => h1.setFld.setLive)

theorem Upholds.enterMode {i m} (h : s.Upholds t) : s.Upholds (t.enterMode i m) := by
  unfold State.enterMode
  extract_lets _ _ _ _ u1
  have h1 : s.Upholds u1 := (Upholds.ite h.other.sleepPins h.other).setGen.setIslandMode
  exact .ite (h1.forEach fun _ _ h2 => h2.setAnState.setAna) h1

theorem Upholds.askMode {i m} (h : s.Upholds t) : s.Upholds (t.askMode i m) := by
  unfold State.askMode
  extract_lets _ _ _ _
  exact .ite (Upholds.ite h.other h.other).setFld (.ite h.startWake.setFld (.ite h.setFld h.enterMode.setFld))

theorem Upholds.islandCommand {path v} (h : s.Upholds t) : s.Upholds (t.islandCommand path v) :=
  .ite h.rangeFlag (.ite h.setFld h.askMode)

theorem Upholds.execIslandWakeDone {island upsets} (h : s.Upholds t) : s.Ends (execIslandWakeDone island upsets t) := by
  unfold Machine.execIslandWakeDone
  refine .next (.ite h ?_)
  extract_lets u1 _ _ u2
  have h1 : s.Upholds u1 := h.setIslandMode
  have h2 : s.Upholds u2 := .ite h1.other.loseIsland h1.other
  split
  · exact h2.other.askMode
  · exact h2

theorem Upholds.sleepCommand (h : s.Upholds t) : s.Upholds t.sleepCommand :=
  .ite h.setFld (.ite h.setFld (.setFld (.setBitAt (.setFld (h.other.forEach fun _ _ h1 => .ite h1 h1.enterMode)))))

theorem Upholds.sleepWrite {v} (h : s.Upholds t) : s.Upholds (t.sleepWrite v) := by
  unfold State.sleepWrite
  split
  · exact h.sleepCommand
  · exact h.wakeUp.setFld
  · exact h.setFld

theorem Upholds.checkAlarm (h : s.Upholds t) : s.Upholds t.checkAlarm := .ite (.ite h.event.wakeUp h.event) h

theorem Upholds.loadRtc {n} (h : s.Upholds t) : s.Upholds (t.loadRtc n) := by
  unfold State.loadRtc
  extract_lets x u
  have hu : s.Upholds u := .other h
  exact hu.setBitAt.checkAlarm

theorem Upholds.setRtc (h : s.Upholds t) : s.Upholds t.setRtc := .ite h.setFld.loadRtc h.setFld.other
theorem Upholds.countSecond (h : s.Upholds t) : s.Upholds t.countSecond := .ite h.ltAdd.ltAdd.ltAdd h.ltAdd

theorem Upholds.execRtcSecond (h : s.Upholds t) : s.Ends (execRtcSecond t) := by
  unfold Machine.execRtcSecond
  refine .next (.ite h ?_)
  extract_lets _ _ u1 u2
  have h1 : s.Upholds u1 := h.setBitAt.other
  have h2 : s.Upholds u2 := h1.checkAlarm.countSecond
  split
  · exact h2.loadRtc
  · exact h2

theorem Upholds.execXtalReturn (h : s.Upholds t) : s.Ends (execXtalReturn t) := by
  unfold Machine.execXtalReturn
  refine .next (.ite h ?_)
  extract_lets
  split
  · exact h.setBitAt.loadRtc
  · exact h.setBitAt

theorem Upholds.svcResult {n} (h : s.Upholds t) : s.Upholds (t.svcResult n) := h.setFld
theorem Upholds.takeChain {v} (h : s.Upholds t) : s.Upholds (t.takeChain v) := h.forEach fun _ _ h1 => h1.setReg
theorem Upholds.endMaster (h : s.Upholds t) : s.Upholds t.endMaster := .ite h.setBitAt.event.settleRole h

theorem Upholds.startMaster (h : s.Upholds t) : s.Upholds t.startMaster :=
  .ite h.svcResult (.ite h.svcResult h.other.setBitAt.svcResult)

theorem Upholds.stopMaster (h : s.Upholds t) : s.Upholds t.stopMaster := h.other.svcResult

theorem Upholds.masterCommand {v} (h : s.Upholds t) : s.Upholds (t.masterCommand v) := by
  unfold State.masterCommand
  split
  · exact h.startMaster
  · exact h.stopMaster
  · exact h.svcResult

theorem Upholds.sendFrame (h : s.Upholds t) : s.Upholds t.sendFrame := by
  unfold State.sendFrame
  extract_lets
  split
  · exact h.other
  · exact h.incSat.event.other

theorem Upholds.takeFrame {f} (h : s.Upholds t) : s.Upholds (t.takeFrame f) := .ite h.other h.other

theorem Upholds.execMasterFrame {received} (h : s.Upholds t) : s.Ends (execMasterFrame received t) :=
  .next (.ite h (.ite h.other.takeChain h.other.sendFrame.takeFrame))

theorem Upholds.queueFrame {path v} (h : s.Upholds t) : s.Upholds (t.queueFrame path v) := .ite h.rangeFlag h.other

theorem Upholds.popFrame {path} (h : s.Upholds t) : s.Upholds (t.popFrame path) := by
  unfold State.popFrame
  split
  · exact h.rangeFlag.other
  · exact h.other

theorem Upholds.execSvcRxRead {path} (h : s.Upholds t) : s.Ends (execSvcRxRead path t) := .next h.other.popFrame

end Sys2Proof.Machine.State
end

section
/-! Register reads and writes (R13, R536, R578 to R590). -/

namespace Sys2Proof.Machine.State

variable {s t : State}

theorem Upholds.show {a} (h : s.Upholds t) : s.Upholds (t.show a).2 := by
  unfold State.show
  extract_lets
  split
  · exact h
  · split
    · exact h.runAhead
    · exact h

theorem Upholds.snapshot {path a} (h : s.Upholds t) : s.Upholds (t.snapshot path a) := by
  unfold State.snapshot
  refine .other ?_
  split
  · exact h.rtcNow
  · exact h

theorem Upholds.readSide {a} (h : s.Upholds t) : s.Upholds (t.readSide a) := .ite h.readShown h

theorem Upholds.readReg {path a} (h : s.Upholds t) : s.Upholds (t.readReg path a) := by
  unfold State.readReg
  refine .ite h.rangeFlag.other ?_
  split
  · exact h.other
  · split
    · exact h.other
    · exact .ite h.popFrame (.ite h.other (Upholds.ite h.show.snapshot h.show).setReg.readSide.other)

theorem Upholds.burstRead {path start a} (h : s.Upholds t) : s.Upholds (t.burstRead path start a) :=
  .ite h.readReg h.accessFlag.other

theorem Upholds.readAccess {path a} (h : s.Upholds t) : s.Upholds (t.readAccess path a) := .ite h.other.burstRead h

theorem Upholds.writeField {path a v f} (h : s.Upholds t) : s.Upholds (t.writeField path a v f) := by
  unfold State.writeField
  extract_lets _
  split
  · exact .ite h.setFld h.rangeFlag
  · exact .ite (.ite h h.accessFlag) (.ite h.setFld h.rangeFlag)
  · exact h.setReg
  · exact h.orReg
  · exact h

theorem Upholds.writeFields {path a v} (h : s.Upholds t) : s.Upholds (t.writeFields path a v) := by
  unfold State.writeFields
  split
  · exact h
  · exact .ite h.rangeFlag (h.forEach fun _ _ h1 => h1.writeField)

theorem Upholds.evqNext (h : s.Upholds t) : s.Upholds t.evqNext := by
  unfold State.evqNext
  split
  · exact h.setBitAt.setBitAt.setFld
  next r l e =>
    refine .setFld (.setBitAt (.setBitAt (.forEach { h with events := fun hs => ?_ } fun _ _ h => h.setReg)))
    have := h.events hs
    rw [e, List.length_cons] at this
    exact Nat.le_of_succ_le this

theorem Upholds.upsetEvq {upsets} (h : s.Upholds t) : s.Upholds (t.upsetEvq upsets) := by
  have hl (l : List (BitVec 130)) :
      (upsets.foldl (fun (l : List (BitVec 130)) e => l.modify e.1 (fun r => r ^^^ BitVec.ofNat 130 (2 ^ e.2))) l).length =
        l.length := by
    clear h
    induction upsets generalizing l with
    | nil => rfl
    | cons e es ih => rw [List.foldl_cons, ih, List.length_modify]
  exact { h with events := fun hs => (hl _).trans_le (h.events hs) }

theorem Upholds.writeGlb {path a v} (h : s.Upholds t) : s.Upholds (t.writeGlb path a v) := by
  unfold State.writeGlb
  refine .ite (.ite h.evqNext h.setFld) (.ite ?_ h.writeFields)
  split
  · exact .took h.execArm
  · exact .took h.execDisarm
  · exact h.tbResult

theorem Upholds.writeSec {path a v} (h : s.Upholds t) : s.Upholds (t.writeSec path a v) := by
  unfold State.writeSec
  refine .ite ?_ h.writeFields
  split
  · exact .took h.execKeyCmd
  · exact .took h.execAttest
  · exact .took h.execRaiseCfgFloor
  · exact .took h.execRaiseCsFloor
  · exact h.secResult

theorem Upholds.writeCfg {path a v} (h : s.Upholds t) : s.Upholds (t.writeCfg path a v) := by
  unfold State.writeCfg
  refine .ite ?_ h.writeFields
  split
  · exact .took h.execVerify
  · exact .took h.execActivate
  · exact .took h.execDiscard
  · exact .took h.execAbortVerify
  · exact h.cfgResult

theorem Upholds.writeAon {path a v} (h : s.Upholds t) : s.Upholds (t.writeAon path a v) :=
  .ite h.resetCommand (.ite h.sleepWrite (.ite h.islandCommand (.ite (.ite h.setRtc h.setFld) h.writeFields)))

theorem Upholds.writeSvc {path a v} (h : s.Upholds t) : s.Upholds (t.writeSvc path a v) :=
  .ite h.masterCommand (.ite h.queueFrame (.ite h.setGpioDir (.ite (.took h.execGpioOutWrite)
    (.ite h.writeFields.settleRole h.writeFields))))

theorem Upholds.writeMnt {path a v} (h : s.Upholds t) : s.Upholds (t.writeMnt path a v) := by
  unfold State.writeMnt
  refine .ite ?_ h.writeFields
  split
  · exact h.mntCommand
  · exact h.mntCommand
  · exact h.setReg

theorem Upholds.writeWq {path a v} (h : s.Upholds t) : s.Upholds (t.writeWq path a v) := by
  unfold State.writeWq
  extract_lets _
  refine .ite (.took h.execDoorbell) ?_
  refine .ite h.writeFields (.ite h (.ite (.took h.execCqHeadWrite) (.ite ?_ h.writeFields)))
  split
  · exact .took h.execResume
  · exact .took h.execSkip
  · exact .took h.execFlush
  · exact .took h.execPause
  · exact .took h.execAbortAll
  · exact .took h.execAbortSeq
  · exact h.wqResult

theorem Upholds.writeMsq {path m a v} (h : s.Upholds t) : s.Upholds (t.writeMsq path m a v) :=
  .ite (.ite (.took h.doMsqTrap) h.setFld) (.ite h.setReg (.ite (.ite h.loadCommand h.setFld) h.writeFields))

theorem Upholds.writeForce {path c v} (h : s.Upholds t) : s.Upholds (t.writeForce path c v) := .ite h.writeFields h.rangeFlag

theorem Upholds.writeCl {path k o a v} (h : s.Upholds t) : s.Upholds (t.writeCl path k o a v) := by
  unfold State.writeCl
  refine .ite h.setClu ?_
  refine .ite h.commitTe (.ite h.commitLv (.ite h.writeMsq (.ite (.ite (.took h.doMeasSync) h.setFld) ?_)))
  refine .ite (.ite h.writeFields h.writeFields.reclock) (.ite h.writeForce (.ite ?_ h.writeFields))
  split
  · exact .took h.doAcqNext
  · exact .took h.doAcqMark
  · exact .took h.doAcqRewind
  · exact .took h.doAcqOldest
  · exact h.rdResult

theorem Upholds.writeSeg {path a v} (h : s.Upholds t) : s.Upholds (t.writeSeg path a v) := by
  unfold State.writeSeg
  extract_lets _
  exact .ite h.writeFields (.ite (.took h.execHostRequest) (.ite (.took h.execHostRequestClear) h.writeFields))

theorem Upholds.writeAn {path a v} (h : s.Upholds t) : s.Upholds (t.writeAn path a v) := by
  unfold State.writeAn
  extract_lets _ _
  exact .ite (.took h.doOutRangeWrite) (.ite (.took h.doBankSwap) (.ite (.ite (.took h.doParkSave) h.setFld) (.ite
    (.ite h.rangeFlag h.writeFields) (.ite h.latchDig.writeFields (.ite (.took h.doCoefficientWrite) h.writeFields)))))

theorem Upholds.writeDps {path a v} (h : s.Upholds t) : s.Upholds (t.writeDps path a v) := by
  unfold State.writeDps
  extract_lets _
  refine .ite ?_ (.ite h.writeFields.refreshPg h.writeFields)
  split
  · exact .took h.doDpsDisable
  · exact .took h.doClearTrip
  · exact h.rangeFlag

theorem Upholds.writeXtb {path a v} (h : s.Upholds t) : s.Upholds (t.writeXtb path a v) :=
  .ite (.took h.execXtbArm) (.ite (.took h.execXtbDisarm) (.ite (.took h.execXtbFire) (.ite (.ite
    (.took h.execBasinClear) h.setReg) h.writeFields)))

theorem Upholds.writeApl {path a v} (h : s.Upholds t) : s.Upholds (t.writeApl path a v) := by
  unfold State.writeApl
  extract_lets _
  refine .ite (.ite h (.ite (.took h.execPortEnable) (.took h.execPortDisable))) (.ite ?_ h.writeFields)
  split
  · exact .took h.execRetrain
  · exact .took h.execAplMeasure
  · exact h.rangeFlag

theorem Upholds.writeAplG {path a v} (h : s.Upholds t) : s.Upholds (t.writeAplG path a v) :=
  .ite h.writeChipNum (.ite (.took h.execAplRtSelWrite) h.writeFields)

theorem Upholds.writeMem {path a v} (h : s.Upholds t) : s.Upholds (t.writeMem path a v) :=
  .ite (.ite h.discardOldest h.rangeFlag) h.writeFields

theorem Upholds.writeReg {path a v} (h : s.Upholds t) : s.Upholds (t.writeReg path a v) :=
  .ite h.accessFlag (.ite h.rangeFlag (.ite h (.ite h.writeGlb (.ite h.writeSec (.ite h.writeCfg (.ite h.writeFields
    (.ite h.writeAon (.ite h.writeSvc (.ite h.writeMnt (.ite h.writeFields (.ite h.writeMsq (.ite h.writeWq (.ite h.writeCl
    (.ite h.writeFields (.ite h.writeSeg (.ite h.writeAn (.ite h.writeFields (.ite h.writeDps (.ite h.writeXtb
    (.ite h.writeApl (.ite h.writeAplG h.writeMem)))))))))))))))))))))

theorem Upholds.burstWrite {path start a v} (h : s.Upholds t) : s.Upholds (t.burstWrite path start a v) :=
  .ite h.writeReg (.ite h.accessFlag h.accessFlag)

theorem Upholds.execRegisterWrite {path addr v} (h : s.Upholds t) : s.Ends (execRegisterWrite path addr v t) :=
  .next (.ite h.other.burstWrite h)

end Sys2Proof.Machine.State
end

section
/-! The service port's slave role, messages served and micro-words (R432 to R447, R504 to R507, R564 to R572). -/

namespace Sys2Proof.Machine.State

variable {s t : State}

theorem Upholds.slvClear (h : s.Upholds t) : s.Upholds t.slvClear := h.setFld
theorem Upholds.execSelFall (h : s.Upholds t) : s.Ends (execSelFall t) := .next (.ite h h.other)
theorem Upholds.execSelRise (h : s.Upholds t) : s.Ends (execSelRise t) := .next (.ite h.other.settleRole h)
theorem Upholds.shiftReply {t'} (h : s.Upholds t) : s.Upholds (t.shiftReply t') := .ite h.other.slvClear h.other
theorem Upholds.nextFrame {t'} (h : s.Upholds t) : s.Upholds (t.nextFrame t') := h.other

theorem Upholds.frame {f} (h : s.Upholds t) (hf : ∀ u x, s.Upholds u → s.Upholds (f u x)) : s.Upholds (t.frame f) := by
  unfold State.frame
  split
  · exact h
  · exact .ite h.other.nextFrame (hf _ _ h.shiftReply.other)

theorem Upholds.commandFrame {f} (h : s.Upholds t) (hf : ∀ u x, s.Upholds u → s.Upholds (f u x)) :
    s.Upholds (t.commandFrame f) := by
  unfold State.commandFrame
  split
  · exact h
  · exact .ite (h.frame (fun _ _ h1 => hf _ _ h1)) h

theorem Upholds.laterFrame {f} (h : s.Upholds t) (hf : ∀ u x, s.Upholds u → s.Upholds (f u x)) :
    s.Upholds (t.laterFrame f) := by
  unfold State.laterFrame
  split
  · exact h
  · exact .ite h (h.frame (fun _ _ h1 => hf _ _ h1))

theorem Upholds.slvRead {t'} (h : s.Upholds t) : s.Upholds (t.slvRead t') := h.burstRead.nextFrame

theorem Upholds.dataFrame {t' w} (h : s.Upholds t) : s.Upholds (t.dataFrame t' w) := by
  unfold State.dataFrame
  split
  · exact .ite h.slvRead h.nextFrame
  · exact h.burstWrite.nextFrame
  · exact h.nextFrame

theorem Upholds.lateReply (h : s.Upholds t) : s.Upholds t.lateReply := by
  unfold State.lateReply
  split
  · exact h
  · exact .ite h.other.setBitAt.event h

theorem Upholds.answer {m status body pois} (h : s.Upholds t) : s.Upholds (t.answer m status body pois) := h.reply
theorem Upholds.badMsg {m} (h : s.Upholds t) : s.Upholds (t.badMsg m) := h.answer
theorem Upholds.denied {m} (h : s.Upholds t) : s.Upholds (t.denied m) := h.event.answer

theorem Upholds.readWords {path start l} (h : s.Upholds t) : s.Upholds (t.readWords path start l).1 := by
  induction l generalizing t with
  | nil => exact h
  | cons a l ih => exact ih h.burstRead

theorem Upholds.writeWords {path start l bs} (h : s.Upholds t) : s.Upholds (t.writeWords path start l bs) := by
  induction l generalizing t bs with
  | nil => exact h
  | cons a l ih => exact ih h.burstWrite

theorem Upholds.execRegRd {m} (h : s.Upholds t) : s.Ends (execRegRd m t) :=
  .next (.ite h (.ite h.consume.badMsg (.ite h.consume.denied h.consume.other.readWords.answer)))

theorem Upholds.execRegWr {m} (h : s.Upholds t) : s.Ends (execRegWr m t) :=
  .next (.ite h (.ite h.consume.badMsg (.ite h.consume.denied h.consume.other.writeWords.answer)))

theorem Upholds.storeDescs {r tail n poison c k bs} (h : s.Upholds t) : s.Upholds (t.storeDescs r tail n poison c k bs) := by
  induction c generalizing t k bs with
  | zero => exact h
  | succ c ih => exact ih (.ite (.ite h.writeBytes.addPoison h.writeBytes) h)

theorem Upholds.execSubmit {m} (h : s.Upholds t) : s.Ends (execSubmit m t) := by
  unfold Machine.execSubmit
  refine .next (.ite h (.ite h.consume.badMsg (.ite h.consume.denied (.reply (.doorbell (.other ?_))))))
  split
  · exact .ite h.consume.storeDescs h.consume
  · exact h.consume

theorem Upholds.storeRequest {f} (h : s.Upholds t) (hf : ∀ u, s.Upholds u → s.Upholds (f u)) : s.Upholds (t.storeRequest f) :=
  .ite (hf _ h) h.wakeUp

theorem Upholds.execStoreWr {m} (h : s.Upholds t) : s.Ends (execStoreWr m t) :=
  .next (h.storeRequest (fun _ h1 => .ite h1.consume.badMsg (.ite h1.consume.denied h1.consume.hostWrite.reply)))

theorem Upholds.execStoreRd {m} (h : s.Upholds t) : s.Ends (execStoreRd m t) :=
  .next (h.storeRequest (fun _ h1 => .ite h1.consume.badMsg (.ite h1.consume.denied h1.consume.answer)))

theorem Upholds.inside {f} (h : s.Upholds t) (hf : ∀ u, s.Upholds u → s.Upholds (f u)) : s.Upholds (t.inside f) :=
    (hf _ h).other

theorem Upholds.msqPut {m a v} (h : s.Upholds t) : s.Upholds (t.msqPut m a v) := h.inside (fun _ h1 => h1.burstWrite)
theorem Upholds.putG {m w v} (h : s.Upholds t) : s.Upholds (t.putG m w v) := h.setReg
theorem Upholds.putFlags {m n} (h : s.Upholds t) : s.Upholds (t.putFlags m n) := h.setMsq

theorem Upholds.endRoutine {m w} (h : s.Upholds t) : s.Upholds (t.endRoutine m w) := by
  unfold State.endRoutine
  refine .ite h.endUnwind ?_
  extract_lets _ _ u1 u2 _
  have h1 : s.Upholds u1 := h.setFld.setDeferred
  have h2 : s.Upholds u2 := h1.forEach fun _ _ h2 => h2.msqPut
  split
  · exact h2.finishRoutine
  · exact h2.finishRoutine
  · exact .ite h2.finishRoutine h2.other.finishRoutine
  · exact h2.other.other.finishRoutine

theorem Upholds.signal {m w} (h : s.Upholds t) : s.Upholds (t.signal m w) := .ite h.source h

/-- The effect of a micro-word on the state keeps what every command keeps. -/
def WordKeeps : WordEff → Prop
  | .go _ f => ∀ s t : State, s.Upholds t → s.Upholds (f t)
  | .finish f => ∀ s t : State, s.Upholds t → s.Upholds (f t)
  | _ => True

theorem WordKeeps.ite {c : Prop} {_ : Decidable c} {e f : WordEff} (he : WordKeeps e) (hf : WordKeeps f) :
    WordKeeps (if c then e else f) := by
  split <;> assumption

theorem wordKeeps_load (u : State) (m w a : Nat) : WordKeeps (wordLoad u m w a) :=
  .ite trivial fun _ _ h => .other h.burstRead.putG

theorem wordKeeps_store (u : State) (m a : Nat) (v : Word) : WordKeeps (wordStore u m a v) :=
  .ite trivial (.ite (.ite (fun _ _ h => h.msqPut) trivial)
    (.ite (.ite trivial fun _ _ h => h.setDeferred) fun _ _ h => h.msqPut))

theorem wordKeeps_trapReturn (u : State) (m : Nat) : WordKeeps (trapReturn u m) :=
  .ite trivial fun _ _ h =>
    .setFld (.putFlags (.forEach (.forEach h fun _ _ h => h.setReg) fun _ _ h => h.setReg))

/-- Every micro-word keeps what every command keeps: its effect writes G registers, flags, the stack, the counters, another
register through a path of its own, or ends the routine (R433 to R448). -/
theorem wordKeeps_wordEff (u : State) (m w : Nat) : WordKeeps (wordEff u m w) := by
  have hid {n} : WordKeeps (.go n id) := fun _ _ h => h
  have hset {n v} : WordKeeps (.go n (fun s => s.putG m w v)) := fun _ _ h => h.putG
  have hsum {n v k} : WordKeeps (.go n (fun s => (s.putG m w v).putFlags m k)) := fun _ _ h => h.putG.putFlags
  have hstack {n} {l : State → List Nat} : WordKeeps (.go n (fun s => s.setStack m (l s))) := fun _ _ h => h.setStack
  have hcnt {n a v} : WordKeeps (.go n (fun s => s.setReg a v)) := fun _ _ h => h.setReg
  unfold wordEff
  dsimp only
  split
  case h_1 => exact hid
  case h_2 => exact hset
  case h_11 | h_12 => exact wordKeeps_load ..
  case h_13 | h_14 | h_15 => exact wordKeeps_store ..
  case h_16 =>
    split
    · exact hid
    · trivial
  case h_17 =>
    split
    · exact .ite trivial hstack
    · exact hid
    · trivial
  case h_18 =>
    split
    · trivial
    · exact hstack
  case h_19 => exact .ite hcnt hcnt
  case h_20 => exact hcnt
  case h_21 | h_22 | h_23 => trivial
  case h_24 => exact fun _ _ h => h.clrReg
  case h_25 => exact wordKeeps_trapReturn ..
  case h_26 => exact fun _ _ h => h.endRoutine
  case h_27 => trivial
  all_goals exact hsum

theorem Upholds.runWord {m w} (h : s.Upholds t) : s.Upholds (t.runWord m w) := by
  have hw := wordKeeps_wordEff t m w
  unfold State.runWord
  split
  next e => rw [e] at hw; exact .ite (.takeTrap (.signal (.countWord (hw _ _ h.setPc)))) h.progFault
  next => exact h.progFault
  next => exact .ite h.setWait h.progFault
  next e => rw [e] at hw; exact .signal (hw _ _ h.countWord)
  next => exact h

theorem Upholds.badWord {m} (h : s.Upholds t) : s.Upholds (t.badWord m) := h.dropDeferred.finishRoutine.closeStore

theorem Upholds.execMicroWord {m upsets} (h : s.Upholds t) : s.Ends (execMicroWord m upsets t) := by
  unfold Machine.execMicroWord
  extract_lets u1
  have h1 : s.Upholds u1 := .ite h h.upsetStore
  refine .next (.ite h1 ?_)
  split
  · exact h1.runWord
  · exact h1.countCorrected.runWord
  · exact h1.badWord

theorem Upholds.endWait {m} (h : s.Upholds t) : s.Upholds (t.endWait m) := h.setWait.setPc.countWord.signal.takeTrap

theorem Upholds.execWaitEnd {m} (h : s.Upholds t) : s.Ends (execWaitEnd m t) := by
  unfold Machine.execWaitEnd
  refine .next ?_
  split
  · exact h
  · exact .ite h.advanceTo h.advanceTo.endWait
  · exact .ite h h.endWait

theorem Upholds.execControlStoreRestoreDone {m upsets} (h : s.Upholds t) : s.Ends (execControlStoreRestoreDone m upsets t) :=
    by
  unfold Machine.execControlStoreRestoreDone
  refine .next (.ite h ?_)
  extract_lets x u
  have hr : s.Upholds (u.readStore m).1 := .readStore h.upsetStore.setMsq
  split
  next e => rwa [e] at hr
  next v _ e =>
    have hv : s.Upholds v := by rwa [e] at hr
    exact .ite (hv.countBad.event.forEach fun _ _ h => h.faultUnit) (.ite hv.countBad hv.countBad.setBitAt.markFaulted)

end Sys2Proof.Machine.State
end

section
/-! Every command and every step. -/

namespace Sys2Proof.Machine

/-- Every command answers a next state and keeps what every command keeps. -/
theorem State.ends_exec (c : Instr) (s : State) : s.Ends (exec c s) := by
  have h := State.Upholds.refl s
  cases c with
  | registerWrite => exact h.execRegisterWrite
  | rcRegisterRead => exact .next h.readAccess
  | loRegisterRead => exact .next h.readAccess
  | glbEvqNext => exact .next h.upsetEvq.evqNext
  | verify => exact h.execVerify
  | verificationComplete => exact h.execVerificationComplete
  | activate => exact h.execActivate
  | discard => exact h.execDiscard
  | abortVerify => exact h.execAbortVerify
  | configSwapDrainPoint => exact h.execConfigSwapDrainPoint
  | configSwapLate => exact h.execConfigSwapLate
  | swapTick => exact h.execSwapTick
  | depUnmeetable => exact h.execDepUnmeetable
  | staleReload => exact h.execStaleReload
  | staleReloadEnd => exact h.execStaleReloadEnd
  | doorbell => exact h.execDoorbell
  | submit => exact h.execSubmit
  | descriptorAcceptance => exact h.execDescriptorAcceptance
  | startCheckPoint => exact h.execStartCheckPoint
  | dispatchStart => exact h.execDispatchStart
  | deadline => exact h.execDeadline
  | completionRecordWrite => exact h.execCompletionRecordWrite
  | barrierComplete => exact h.execBarrierComplete
  | cqHeadWrite => exact h.execCqHeadWrite
  | resume => exact h.execResume
  | skip => exact h.execSkip
  | flush => exact h.execFlush
  | pause => exact h.execPause
  | abortAll => exact h.execAbortAll
  | abortSeq => exact h.execAbortSeq
  | wkePauseWrite => exact .next h.setReg
  | deMismatch => exact h.execDeMismatch
  | deSelfCheckDone => exact h.execDeSelfCheckDone
  | pcFault => exact h.execPcFault
  | mramBankFault => exact h.execMramBankFault
  | mramRecopyDone => exact h.execMramRecopyDone
  | islandCtlMismatch => exact h.execIslandCtlMismatch
  | unitFault => exact .next h.faultUnit
  | powerFailStart => exact h.execPowerFailStart
  | pfSequenceEnd => exact h.execPfSequenceEnd
  | abortedPowerDelivery => exact h.execAbortedPowerDelivery
  | discardOldest => exact .next h.discardOldest
  | warmCmd => exact .next h.warmCommand
  | coldCmd => exact .next h.coldCommand
  | hubFaultReset => exact h.execHubFaultReset
  | resetNLow => exact h.execResetNLow
  | warmResetStart => exact h.execWarmResetStart
  | warmResetEnd => exact h.execWarmResetEnd
  | trefLost => exact h.execTrefLost
  | trefValid => exact h.execTrefValid
  | arm => exact h.execArm
  | disarm => exact h.execDisarm
  | loadEdge => exact .next (.ite h (.toLoadEdge (.forEach h fun _ _ h => h.syncCycle)))
  | gccBroadcastCheck => exact .next (.ite h (h.event.forEach fun _ _ h1 => h1.mismatchIsland))
  | teCommit => exact h.execTeCommit
  | tsetLoadWriteTick => exact h.execTsetLoadWriteTick
  | lvCommit => exact h.execLvCommit
  | modeChangeComplete => exact h.execModeChangeComplete
  | forceSetWriteTick => exact h.execForceSetWriteTick
  | forceSetSettled => exact h.execForceSetSettled
  | levelsSetWriteTick => exact h.execLevelsSetWriteTick
  | levelsSetDone => exact h.execLevelsSetDone
  | contactCheckMeasure => exact h.execContactCheckMeasure
  | contactCheckRestore => exact h.execContactCheckRestore
  | segmentLoadTake => exact h.execSegmentLoadTake
  | segmentLoadCrcDone => exact h.execSegmentLoadCrcDone
  | vectorPlay => exact h.execVectorPlay
  | needInstant => exact h.execNeedInstant
  | decisionPoint => exact h.execDecisionPoint
  | segmentBoundary => exact h.execSegmentBoundary
  | segtrigPulseEnd => exact h.execSegtrigPulseEnd
  | patternRunStop => exact h.execPatternRunStop
  | feederDrainEnd => exact h.execFeederDrainEnd
  | hostRequest => exact h.execHostRequest
  | hostRequestClear => exact h.execHostRequestClear
  | fountainInstruction => exact .next (Upholds.ite h h.setFnt).fountainStep
  | refreshInterval => exact .next (.ite h h.toRefresh.fountainStep)
  | vectorResultComplete => exact h.execVectorResultComplete
  | feederEntry => exact h.execFeederEntry
  | basinRecordStore => exact h.execBasinRecordStore
  | basinClear => exact h.execBasinClear
  | acqSample => exact h.execAcqSample
  | acqFrameRearm => exact h.execAcqFrameRearm
  | acquireEnd => exact h.execAcquireEnd
  | acqNext => exact h.execAcqNext
  | acqMark => exact h.execAcqMark
  | acqRewind => exact h.execAcqRewind
  | acqOldest => exact h.execAcqOldest
  | xtbFire => exact h.execXtbFire
  | triggerLineFire => exact h.execTriggerLineFire
  | lineRearm => exact h.execLineRearm
  | xtbArm => exact h.execXtbArm
  | xtbDisarm => exact h.execXtbDisarm
  | gpioPulseStart => exact h.execGpioPulseStart
  | gpioPulseEnd => exact h.execGpioPulseEnd
  | uploadPacket => exact h.execUploadPacket
  | uploadAck => exact h.execUploadAck
  | synchronizingReset => exact h.execSynchronizingReset
  | measSync => exact h.execMeasSync
  | measSampleOutput => exact h.execMeasSampleOutput
  | measureEnd => exact h.execMeasureEnd
  | parkSave => exact h.execParkSave
  | parkSaveDone => exact h.execParkSaveDone
  | outRangeWrite => exact h.execOutRangeWrite
  | rangeMuteEnd => exact h.execRangeMuteEnd
  | awgPlayEnd => exact h.execAwgPlayEnd
  | bankSwap => exact h.execBankSwap
  | bankSwapTakeEffect => exact h.execBankSwapTakeEffect
  | fadeEnd => exact h.execFadeEnd
  | coefficientWrite => exact h.execCoefficientWrite
  | digitizerSample => exact h.execDigitizerSample
  | digitizeEnd => exact h.execDigitizeEnd
  | laneDirectionsOn => exact h.execLaneDirectionsOn
  | countingWindowOpen => exact h.execCountingWindowOpen
  | countingWindowClose => exact h.execCountingWindowClose
  | eyePoint => exact h.execEyePoint
  | laneTestEnd => exact h.execLaneTestEnd
  | checkerLock => exact .next (Upholds.ite h.setBitAt h).receive
  | checkerLockLoss => exact h.execCheckerLockLoss
  | laneErr => exact .next h.receive
  | lanePllTimeout => exact h.execLanePllTimeout
  | dpsStepStart => exact h.execDpsStepStart
  | dpsStepEnd => exact h.execDpsStepEnd
  | pgoodTimeout => exact h.execPgoodTimeout
  | switchingPeriod => exact h.execSwitchingPeriod
  | limitTrip => exact h.execLimitTrip
  | dpsSample => exact h.execDpsSample
  | referenceUpdate => exact h.execReferenceUpdate
  | dpsDisable => exact h.execDpsDisable
  | clearTrip => exact h.execClearTrip
  | dpsSelfCheckFail => exact .next h.faultUnit
  | admissionExamine => exact .next h.examine
  | chargeExpiry => exact h.execChargeExpiry
  | candidateHolding => exact h.execCandidateHolding
  | stepEnergyTimeout => exact h.execStepEnergyTimeout
  | monitorSample => exact .next (.meter (.forEach (h.forEach fun _ _ h1 => h1.railSample) fun _ _ h1 => h1.siteSample))
  | microWord => exact h.execMicroWord
  | waitEnd => exact h.execWaitEnd
  | msqTrap => exact h.execMsqTrap
  | unwindTimeout => exact h.execUnwindTimeout
  | controlStoreRestoreDone => exact h.execControlStoreRestoreDone
  | controlStoreScrub => exact h.execControlStoreScrub
  | msqLoad => exact .next h.loadCommand
  | msqLoadDone => exact h.execMsqLoadDone
  | temperatureCheck => exact .next (.ite h (.ite h.showTemp.becomeDue h.showTemp))
  | autoCalStart => exact h.execAutoCalStart
  | calQuietCheck => exact h.execCalQuietCheck
  | calPassEnd => exact h.execCalPassEnd
  | calAgreementTest => exact h.execCalAgreementTest
  | calSlotCommit => exact .ite (.next h) (.next h.mramWrite.setCal)
  | calApplyTick => exact h.execCalApplyTick
  | calRunEnd => exact .ite (.next h) (.ite (.next h.advanceTo) (.next h.advanceTo.calOutcome.calFree))
  | ctrain => exact .next h.mntCommand
  | scrub => exact .next h.mntCommand
  | scrubTimer => exact .next (.ite h h.mntAsk)
  | maintActivityEnd => exact .next (.ite h.mntEnd h)
  | portEnable => exact h.execPortEnable
  | portDisable => exact h.execPortDisable
  | signalDetect => exact .next (.ite h.enterPort h)
  | trainDone => exact .next (.ite h (.ite h.enterIdent (.ite h.mntEnd.enterIdent h)))
  | trainTimeout => exact .ite (.next h) (.next (.ite h.advanceTo h.advanceTo.enterPort))
  | identTimeout => exact .ite (.next h) (.next (.ite h.advanceTo h.advanceTo.enterPort))
  | identComplete => exact h.execIdentComplete
  | signalLost => exact h.execSignalLost
  | portFailure => exact h.execPortFailure
  | retrain => exact h.execRetrain
  | aplMeasure => exact h.execAplMeasure
  | resync => exact h.execResync
  | codewordReceive => exact h.execCodewordReceive
  | dataFlit => exact h.execDataFlit
  | nak => exact .next (.ite h h.setPort)
  | credit => exact .next (.ite h.setPort h)
  | ident => exact h.execIdent
  | tsReq => exact .next (.ite h.sendCtrl h)
  | tsResp => exact .ite (.next h) (.next (.ite h.setPort.endExchanges h.setPort.sendTsReq))
  | advert => exact .next (.ite h (h.forEach fun _ _ h1 => h1.takeAdvert))
  | routeLapse => exact h.execRouteLapse
  | advertTimer => exact h.execAdvertTimer
  | identTimer => exact .next (.ite h.sendCtrl h)
  | creditTimer => exact .next (.ite h.sendCredit h)
  | timestampTimer => exact .next (.ite h.startExchanges h)
  | flitTransmit => exact h.execFlitTransmit
  | regRd => exact h.execRegRd
  | regWr => exact h.execRegWr
  | storeWr => exact h.execStoreWr
  | storeRd => exact h.execStoreRd
  | trig => exact .next (.ite h.consume h.consume.addFire)
  | timeQuery => exact .next (.ite h.consume.reply h.consume.rtcNow.reply)
  | flowHoldTimeout => exact .next (h.forEach fun _ _ h1 => h1.holdTimeout)
  | dupClear => exact h.execDupClear
  | aplChipNumWrite => exact .next h.writeChipNum
  | aplRtSelWrite => exact h.execAplRtSelWrite
  | vaonRise => exact .next (.ite h h.clearRegs)
  | powerUpSequence => exact h.execPowerUpSequence
  | cisternTrained => exact h.execCisternTrained
  | vaonFall => exact h.execVaonFall
  | vddCoreFall => exact .next (.ite h.coreOff h)
  | islandModeRequest => exact .next h.islandCommand
  | islandWakeDone => exact h.execIslandWakeDone
  | deviceSleep => exact .next h.sleepCommand
  | wake => exact .next h.wakeUp.setFld
  | wakingDone => exact .next (.ite h.setBitAt.setFld h)
  | rtcSet => exact .next h.setRtc
  | rtcSecond => exact h.execRtcSecond
  | xtalFail => exact .next (.ite h.setBitAt.setBitAt.event h)
  | lifetimeMirror => exact .next (.ite h.mirrorWrite h)
  | keyCmd => exact h.execKeyCmd
  | keyTableWritten => exact h.execKeyTableWritten
  | attest => exact h.execAttest
  | attestDone => exact h.execAttestDone
  | raiseCfgFloor => exact h.execRaiseCfgFloor
  | raiseCsFloor => exact h.execRaiseCsFloor
  | floorWritten => exact h.execFloorWritten
  | selFall => exact h.execSelFall
  | svcStatus => exact .next (h.commandFrame (fun _ _ h1 => h1.nextFrame))
  | svcRead => exact .next (h.commandFrame (fun _ _ h1 => h1.slvRead))
  | svcReadContinuation => exact .next ((Upholds.ite h.lateReply h).laterFrame (fun _ _ h1 => h1.dataFrame))
  | svcWrite => exact .next (h.commandFrame (fun _ _ h1 => h1.nextFrame))
  | svcWriteData => exact .next (h.laterFrame (fun _ _ h1 => h1.dataFrame))
  | svcBadOp => exact .next (h.commandFrame (fun _ _ h1 => h1.setBitAt.nextFrame))
  | selRise => exact h.execSelRise
  | masterStart => exact .next h.startMaster
  | masterStop => exact .next h.stopMaster
  | masterFrame => exact h.execMasterFrame
  | masterTransferEnd => exact .next h.endMaster
  | svcTxWrite => exact .next h.queueFrame
  | svcRxRead => exact h.execSvcRxRead
  | gpioOutWrite => exact h.execGpioOutWrite
  | gpioInputEdge => exact .next (.ite h (.ite h.setBitAt (Upholds.ite h.setBitAt.wakeUp h.setBitAt).source))
  | supplyOut => exact .next (.ite h (h.logEvent.forEach fun _ _ h1 => h1.faultUnit))
  | testLogicReset => exact .next h.loadInstr
  | extest => exact .next h.boundary
  | samplePreload => exact .next h.boundary
  | idcode => exact .next h.loadInstr
  | clamp => exact .next h.loadInstr
  | highz => exact .next h.loadInstr
  | extestPulse => exact .next h.loadInstr
  | extestTrain => exact .next h.loadInstr
  | bypass => exact .next h.loadInstr
  | cisternRetraining => exact .next h.mntAsk
  | xtalReturn => exact h.execXtalReturn
  | srefDerivedSecond => exact .next (.ite h.countSecond h)
  | pmuClampEngage => exact .next (.ite (.ite h.setBitAt.event h.setBitAt) h)
  | pmuSettlingEnd => exact h.execPmuSettlingEnd
  | driverCurrentLimit => exact .next (.ite h.event h)
  | clampHit => exact .next (.ite h h.event)

/-- A step keeps the canonical form, the bound of the event queue and the floors: it runs one command, or one tick passes. -/
theorem State.step_keeps {s t : State} (h : step s = .next t) : (s.withPending t.pending).Upholds t := by
  unfold step at h
  split at h
  next hp =>
    obtain rfl : tick s = t := Host.Outcome.next.inj h
    have ht : s.Upholds (tick s) := .ite (.other (.refl s)) (.refl s)
    exact { ht with queue := rfl }
  next c r hp =>
    obtain ⟨u, hu, hk⟩ := State.ends_exec c (s.withPending r)
    obtain rfl : u = t := Host.Outcome.next.inj (hu.symm.trans h)
    exact { hk with queue := rfl }

/-- The canonical form holds of each of the three maps. -/
theorem State.canonical_iff (s : State) : s.canonical = true ↔
    Map.wf regDefault s.regs = true ∧ Map.wf regDefault s.live = true ∧ Map.wf byteDefault s.store = true := by
  simp [State.canonical, and_assoc]

end Sys2Proof.Machine

open Sys2Proof Sys2Proof.Machine

/-- Settles O3: every operation of the model keeps the canonical form of the maps and the bound of the event queue
(`State.Upholds`), so every command does, and so does the tick on an empty queue. -/
theorem everyStepKeepsTheInvariant : Obligations.EveryStepKeepsTheInvariant := by
  unfold Obligations.EveryStepKeepsTheInvariant
  intro s t hc he hs
  have hk := State.step_keeps hs
  rw [State.canonical_iff] at hc ⊢
  obtain ⟨hr, hl, hst⟩ := hc
  exact ⟨⟨hk.regs hr, hk.live hl, hk.store hst⟩, hk.events he⟩
end

section
/-! The register map: which block holds an address, which row stands there, and what the tables of rows keep (R13, R578,
R584). -/

namespace Sys2Proof.Machine

/-- An address of a block of a list whose blocks rise is found in that block. -/
theorem findBlk_of_mem {bs : List Blk} (hs : bs.Pairwise (fun x y => x.base + x.n * x.stride ≤ y.base)) {b : Blk} (hb : b ∈ bs)
    {a : Nat} (hlo : b.base ≤ a) (hhi : a < b.base + b.n * b.stride) (hl : (a - b.base) % b.stride ≤ b.last + 3) :
    findBlk bs a = some (b, (a - b.base) / b.stride, (a - b.base) % b.stride) := by
  induction bs with
  | nil => cases hb
  | cons c bs ih =>
    rw [List.pairwise_cons] at hs
    unfold findBlk
    rcases List.mem_cons.1 hb with rfl | hb
    · rw [if_pos ⟨hlo, hhi, hl⟩]
    · have hc := hs.1 b hb
      rw [if_neg (by omega)]
      exact ih hs.2 hb

/-- A block that is found belongs to the list, and holds the address. -/
theorem findBlk_eq_some {bs : List Blk} {a : Nat} {b : Blk} {i o : Nat} (h : findBlk bs a = some (b, i, o)) :
    b ∈ bs ∧ b.base ≤ a ∧ a < b.base + b.n * b.stride ∧ o = (a - b.base) % b.stride ∧ o ≤ b.last + 3 := by
  induction bs with
  | nil => cases h
  | cons c bs ih =>
    unfold findBlk at h
    split at h
    next hc =>
      cases h
      exact ⟨List.mem_cons_self, hc.1, hc.2.1, rfl, hc.2.2⟩
    next =>
      obtain ⟨hm, hr⟩ := ih h
      exact ⟨List.mem_cons_of_mem _ hm, hr⟩

/-- A row that is found belongs to the list. -/
theorem mem_of_rowAt {rs : List Row} {o : Nat} {r : Row} (h : rowAt rs o = some r) : r ∈ rs := by
  induction rs with
  | nil => cases h
  | cons c rs ih =>
    unfold rowAt at h
    split at h
    · cases h
      exact List.mem_cons_self
    · exact List.mem_cons_of_mem _ (ih h)

/-! The blocks of the map, and those of a cluster, rise. -/

theorem blocks_rise : blocks.Pairwise (fun x y => x.base + x.n * x.stride ≤ y.base) := by decide +kernel
theorem clusterBlocks_rise : clusterBlocks.Pairwise (fun x y => x.base + x.n * x.stride ≤ y.base) := by decide +kernel

/-- The segment directory lies in the SEG block. -/
theorem blockAt_seg {a : Nat} (hlo : 0x02400000 ≤ a) (hhi : a < 0x02450000) :
    blockAt a = some (⟨"SEG", "R255", 0x02400000, 1, 0x50000, 0x4FFFC, rowsSeg⟩, (a - 0x02400000) / 0x50000,
      (a - 0x02400000) % 0x50000) := by
  unfold blockAt
  rw [if_neg (by omega)]
  exact findBlk_of_mem blocks_rise (by simp [blocks]) hlo (by simpa using hhi) (by simp; omega)

/-- An analog channel's registers lie in the channel's part of the AN block. -/
theorem blockAt_an {a : Nat} (hlo : 0x03000000 ≤ a) (hhi : a < 0x03100000) :
    blockAt a = some (⟨"AN", "R371", 0x03000000, 16, 0x10000, 0xFFFC, rowsAn⟩, (a - 0x03000000) / 0x10000,
      (a - 0x03000000) % 0x10000) := by
  unfold blockAt
  rw [if_neg (by omega)]
  exact findBlk_of_mem blocks_rise (by simp [blocks]) hlo (by simpa using hhi) (by simp; omega)

/-- A segment's directory entry shows EMPTY at reset (R223). -/
theorem resetWord_segInfo {n : Nat} (h : n < 16384) : resetWord (SEG_D_INFO n) = 0 := by
  have hr : rowAt rowsSeg (0x10000 + n * 16) =
      some (regN "SEG_D_INFO" 0x10000 16384 0x10 0 [fld 23 12 .ro, fld 10 8 .ro, fld 2 0 .ro]) := by
    simp only [rowsSeg, reg1, regN, rowAt]
    repeat rw [if_neg (by omega)]
    rw [if_pos (by omega)]
  unfold resetWord
  rw [blockAt_seg (by simp only [SEG_D_INFO]; omega) (by simp only [SEG_D_INFO]; omega),
    show (SEG_D_INFO n - 0x02400000) % 0x50000 = 0x10000 + n * 16 by simp only [SEG_D_INFO]; omega]
  simp [hr, regN]

/-- A word of a coefficient bank at reset: tap 16 of every phase is one (R362). -/
theorem resetWord_coef {a : Nat} (hlo : 0x03000000 ≤ a) (hhi : a < 0x03100000) (h4 : 0x4000 ≤ (a - 0x03000000) % 0x10000)
    (h8 : (a - 0x03000000) % 0x10000 < 0x8000) :
    resetWord a = if (a - 0x03000000) % 0x10000 / 4 % 32 = 16 then 0x10000 else 0 := by
  unfold resetWord
  rw [blockAt_an hlo hhi]
  exact if_pos ⟨rfl, h4, h8⟩

end Sys2Proof.Machine

open Sys2Proof Sys2Proof.Machine

/-- Settles O2: no register is listed at reset, so each holds its reset word; the other parts are those of `State.reset`. -/
theorem resetValues : Obligations.ResetValues := by
  unfold Obligations.ResetValues
  have hcoef (a i : Nat) (ha : resetWord a = if (a - 0x03000000) % 0x10000 / 4 % 32 = 16 then 0x10000 else 0)
      (hi : (a - 0x03000000) % 0x10000 / 4 % 32 = i % 32) : State.reset.reg a = if i % 32 = 16 then 0x10000 else 0 := by
    rw [← hi]
    exact ha
  refine ⟨fun _ => rfl, rfl, rfl, by decide +kernel, by decide +kernel, fun _ => rfl, rfl, rfl, by decide +kernel, rfl,
    fun n hn => ?_, rfl, fun _ _ => rfl, fun ch i hc hi =>
      ⟨hcoef _ _ (resetWord_coef ?_ ?_ ?_ ?_) ?_, hcoef _ _ (resetWord_coef ?_ ?_ ?_ ?_) ?_⟩, fun _ => rfl, rfl, Nat.zero_le _⟩
  · have : State.reset.reg (SEG_D_INFO n) = 0 := resetWord_segInfo hn
    simp [State.fld, this, Word.field]
  all_goals simp only [AN_COEF_A, AN_COEF_B]; omega
end

section
/-! A cold reset (R527): what it reads of the state before, part by part. -/

namespace Sys2Proof.Machine

variable {β : Type}

/-- A read of a map whose entries were left out by their keys. -/
theorem Map.get_filter (d : Nat → β) (m : Map β) (p : Nat × β → Bool) (q : Nat → Bool) (hp : ∀ e, p e = q e.1) (k : Nat) :
    Map.get d (m.filter p) k = if q k then Map.get d m k else d k := by
  induction m with
  | nil => simp [Map.get]
  | cons e r ih =>
    obtain ⟨a, v⟩ := e
    by_cases hk : a = k
    · subst hk
      cases hq : q a <;> simp [hp, hq, Map.get, ih]
    · cases hq : q a <;> simp [hp, hq, Map.get, ih, hk]

variable (s : State)

/-- Pins that leave their drive change nothing outside the clusters' registers and units. -/
theorem State.endFrame_pmuLeaves (cs : List Nat) (h : ∀ c ∈ cs, c < 512) : s.EndFrame (s.pmuLeaves cs) := by
  refine State.endFrame_forEach _ _ (fun t c hc => ?_) s
  have hc' : c < 512 := h c (List.mem_of_mem_filter hc)
  have hr : endReg (CH_PMU_STATUS c) = true := by simp only [endReg, CH_PMU_STATUS, chBase, clBase]; grind
  refine State.EndFrame.trans ?_ (State.endFrame_setChan _ _ _)
  exact State.endFrame_ite ((State.endFrame_ltAdd _ _ _).trans (State.endFrame_setBitAt _ _ _ _ hr)) (State.EndFrame.refl t)

theorem State.endFrame_clearModes : s.EndFrame s.clearModes := by
  refine State.endFrame_forEach _ _ (fun t c hc => ?_) s
  have hc' : c < 512 := List.mem_range.1 hc
  have hr : endReg (CH_CFG c) = true := by simp only [endReg, CH_CFG, chBase, clBase]; grind
  have h1 := State.endFrame_ite (c := t.fld (CH_CFG c) 1 0 = 0) (State.EndFrame.refl t) (State.endFrame_setFld t _ 1 0 0 hr)
  exact State.endFrame_ite h1 (h1.trans (State.endFrame_setLive _ _ _))

theorem State.endFrame_noChans : s.EndFrame { s with chans := [] } := ⟨rfl, fun _ _ => rfl⟩

theorem State.endFrame_dropPins : s.EndFrame s.dropPins := by
  have h (cs : List Nat) (hcs : ∀ c ∈ cs, c < 512) : s.EndFrame { (s.pmuLeaves cs).clearModes with chans := [] } :=
    ((s.endFrame_pmuLeaves cs hcs).trans (State.endFrame_clearModes _)).trans (State.endFrame_noChans _)
  exact h (List.range 512) (fun c hc => List.mem_range.1 hc)

theorem State.onlyRegs_leaveArmed (n : Nat) : s.OnlyRegs (s.leaveArmed n) [GLB_TB_STATUS, WKE_STATUS] := by
  unfold State.leaveArmed State.setTb
  exact (State.onlyRegs_setFld _ _ _ _ _ _ (by simp)).trans (State.onlyRegs_setBitAt _ _ _ _ _ (by simp))

/-- What the hub gives up at a reset leaves the AON block, the records owed and the parts of other units. -/
theorem State.dropHub_kept : s.RegsKept s.dropHub [GLB_TB_STATUS, WKE_STATUS] ∧
    s.dropHub.aon = s.aon ∧ s.dropHub.cont.slots = s.cont.slots ∧ s.dropHub.cfg.genCounter = s.cfg.genCounter := by
  unfold State.dropHub
  extract_lets u p v x _ _
  have hu : s.OnlyRegs u [GLB_TB_STATUS, WKE_STATUS] := State.onlyRegs_ite (s.onlyRegs_leaveArmed _) (State.OnlyRegs.refl s _)
  have hv : s.RegsKept v [GLB_TB_STATUS, WKE_STATUS] ∧ v.aon = u.aon ∧ v.cont = u.cont ∧ v.cfg = u.cfg := by
    subst v p
    split <;> exact ⟨hu.2, rfl, rfl, rfl⟩
  obtain ⟨hr, ha, hc, hg⟩ := hv
  exact ⟨hr, ha.trans (by rw [hu.1]), (congrArg Cont.slots hc).trans (by rw [hu.1]),
    (congrArg Cfg.genCounter hg).trans (by rw [hu.1])⟩

/-- With no key table and no floor under way, a reset leaves the key table, its sequence number and the floors. -/
theorem State.dropHub_sec (hw : s.sec.writing = none) (hf : s.sec.floorWrite = none) :
    s.dropHub.sec.keys = s.sec.keys ∧ s.dropHub.sec.kseq = s.sec.kseq ∧
    s.dropHub.sec.cfgFloor = s.sec.cfgFloor ∧ s.dropHub.sec.csFloor = s.sec.csFloor := by
  unfold State.dropHub
  extract_lets u p v x y _
  have hu : s.OnlyRegs u [GLB_TB_STATUS, WKE_STATUS] := State.onlyRegs_ite (s.onlyRegs_leaveArmed _) (State.OnlyRegs.refl s _)
  have hs : u.sec = s.sec := by rw [hu.1]
  have hp : p = (0, u) := if_neg (by simp [hs, hw, hf])
  have hy : y = s.sec := by
    subst y x v
    rw [if_neg (by simp [hp]), hp]
    exact hs
  have h : y.keys = _ ∧ y.kseq = _ ∧ y.cfgFloor = _ ∧ y.csFloor = _ :=
    ⟨congrArg Sec.keys hy, congrArg Sec.kseq hy, congrArg Sec.cfgFloor hy, congrArg Sec.csFloor hy⟩
  exact h

/-- The AON block is outside what the pins and the hub change. -/
theorem State.reg_dropHub_dropPins {a : Nat} (h : 0x40000 ≤ a ∧ a < 0x40300) : s.dropPins.dropHub.reg a = s.reg a := by
  rw [s.dropPins.dropHub_kept.1 a (by simp [GLB_TB_STATUS, WKE_STATUS]; omega), s.endFrame_dropPins.2 a]
  simp only [endReg]
  grind

theorem State.reg_coldState (a : Nat) : s.coldState.reg a =
    if 0x40000 ≤ a ∧ a < 0x40300 ∧ a ≠ AON_ISL_MODE0 ∧ a ≠ AON_ISL_MODE1 then s.dropHub.reg a else resetWord a := by
  have h := Map.get_filter regDefault s.dropHub.regs _
    (fun a => decide (0x40000 ≤ a) && decide (a < 0x40300) && a != AON_ISL_MODE0 && a != AON_ISL_MODE1) (fun _ => rfl) a
  simp only [Bool.and_eq_true, decide_eq_true_eq, bne_iff_ne, and_assoc] at h
  exact h

/-- A cold reset puts every register outside the AON block back to its reset value. -/
theorem State.reg_coldBegin_out (cause : Nat) {a : Nat} (h : ¬ (0x40000 ≤ a ∧ a < 0x40300)) :
    (s.coldBegin cause).reg a = resetWord a := by
  have hp : a ≠ AON_PWR_STATUS := by simp only [AON_PWR_STATUS]; omega
  rw [State.coldBegin, State.reg_setFld_ne _ _ _ _ hp, State.reg_setBitAt_ne _ _ _ hp, State.reg_setFld_ne _ _ _ _ hp,
    State.reg_coldState, if_neg (by omega)]

/-- A cold reset keeps the registers of the AON block, but for the modes of the islands and the power status. -/
theorem State.reg_coldBegin_aon (cause : Nat) {a : Nat} (h : 0x40000 ≤ a ∧ a < 0x40300) (h0 : a ≠ AON_ISL_MODE0)
    (h1 : a ≠ AON_ISL_MODE1) (hp : a ≠ AON_PWR_STATUS) : (s.coldBegin cause).reg a = s.reg a := by
  rw [State.coldBegin, State.reg_setFld_ne _ _ _ _ hp, State.reg_setBitAt_ne _ _ _ hp, State.reg_setFld_ne _ _ _ _ hp,
    State.reg_coldState, if_pos ⟨h.1, h.2, h0, h1⟩, s.reg_dropHub_dropPins h]

/-- The device state and the cause that a cold reset shows. -/
theorem State.coldBegin_status (cause : Nat) :
    (s.coldBegin cause).deviceState = 0 ∧ (s.coldBegin cause).fld AON_PWR_STATUS 19 16 = cause % 16 := by
  constructor
  · rw [State.deviceState, State.coldBegin, State.fld_setFld_ne _ _ _ _ _ _ _ _ (by omega) (by omega) (by omega),
      State.fld_setBitAt _ _ _ _ _ _ _ (by omega) (by omega), State.fld_setFld_same _ _ _ _ _ (by omega) (by omega)]
    rfl
  · exact State.fld_setFld_same _ _ _ _ _ (by omega) (by omega)

/-- What a cold reset keeps of the parts outside the registers. -/
theorem State.coldState_kept : s.coldState.cont.slots = s.cont.slots ∧ s.coldState.cfg.genCounter = s.cfg.genCounter ∧
    (s.sec.writing = none → s.sec.floorWrite = none → s.coldState.sec.keys = s.sec.keys ∧ s.coldState.sec.kseq = s.sec.kseq ∧
      s.coldState.sec.cfgFloor = s.sec.cfgFloor ∧ s.coldState.sec.csFloor = s.sec.csFloor) := by
  obtain ⟨-, -, hslots, hgen⟩ := s.dropHub_kept
  exact ⟨hslots, hgen, s.dropHub_sec⟩

theorem State.coldBegin_kept (cause : Nat) :
    (s.coldBegin cause).cont.slots = s.cont.slots ∧ (s.coldBegin cause).cfg.genCounter = s.cfg.genCounter ∧
    (s.sec.writing = none → s.sec.floorWrite = none →
      (s.coldBegin cause).sec.keys = s.sec.keys ∧ (s.coldBegin cause).sec.kseq = s.sec.kseq ∧
      (s.coldBegin cause).sec.cfgFloor = s.sec.cfgFloor ∧ (s.coldBegin cause).sec.csFloor = s.sec.csFloor) := by
  have h := s.dropPins.coldState_kept
  have e := s.endFrame_dropPins.1
  rw [show s.dropPins.cont = s.cont by rw [e], show s.dropPins.cfg = s.cfg by rw [e], show s.dropPins.sec = s.sec by rw [e]] at h
  simpa only [State.coldBegin, State.setFld_cont, State.setBitAt_cont, State.setFld_cfg, State.setBitAt_cfg, State.setFld_sec,
    State.setBitAt_sec] using h

/-- What a cold reset leaves at reset: all of the state but what `coldBegin_kept` and the registers of the AON block name. -/
theorem State.coldBegin_reset (cause : Nat) : let t := s.coldBegin cause
    t.aon.resetting = 2 ∧ t.aon.powerStep = 0 ∧ t.cfg.active = none ∧ t.cfg.shadow = none ∧ t.ops = [] ∧ t.heldRecs = [] ∧
      (∀ b, t.byte b = 0) ∧ (∀ n, n < 16384 → t.fld (SEG_D_INFO n) 2 0 = 0) ∧ t.evq.recs = [] ∧ t.now = 0 ∧ t.tbState = 0 := by
  refine ⟨rfl, rfl, rfl, rfl, rfl, rfl, fun _ => rfl, fun n hn => ?_, rfl, rfl, ?_⟩
  · rw [State.fld, s.reg_coldBegin_out cause (by simp only [SEG_D_INFO]; omega), resetWord_segInfo hn]
    rfl
  · rw [State.tbState, State.fld, s.reg_coldBegin_out cause (by simp only [GLB_TB_STATUS]; omega)]
    decide +kernel

/-- COLD with the key is a cold reset with cause 3, and is refused in the power-fail states. -/
theorem exec_coldCmd (h : ¬ (s.deviceState = 4 ∨ s.deviceState = 5)) :
    exec (.coldCmd 0x5A17) s = .next ((s.setFld AON_PWR_STATUS 31 28 0).coldBegin 3) :=
  congrArg Host.Outcome.next (by rw [State.coldCommand, if_neg (by simp), if_neg h])

theorem exec_coldCmd_refused (h : s.deviceState = 4 ∨ s.deviceState = 5) :
    exec (.coldCmd 0x5A17) s = .next (s.setFld AON_PWR_STATUS 31 28 2) :=
  congrArg Host.Outcome.next (by rw [State.coldCommand, if_neg (by simp), if_pos h])

/-- The state with RESET_N low. -/
def State.resetNLow (s : State) : State := { s with aon := { s.aon with resetN := false } }

/-- RESET_N low acts with the supplies in range outside the power-fail sequence, and else is noted. -/
theorem exec_resetNLow (hv : s.aon.vaon = true) (hd : s.aon.vddCore = true) (h4 : s.deviceState ≠ 4) :
    ∃ cause, exec .resetNLow s = .next (s.resetNLow.coldBegin cause) := by
  have h4' : s.resetNLow.deviceState ≠ 4 := h4
  exact ⟨_, congrArg Host.Outcome.next (if_neg (by simpa [hv, hd, State.resetNLow] using h4'))⟩

theorem exec_resetNLow_noted (h : s.aon.vaon = false ∨ s.aon.vddCore = false ∨ s.deviceState = 4) :
    exec .resetNLow s = .next s.resetNLow := by
  have h' : s.aon.vaon = false ∨ s.aon.vddCore = false ∨ s.resetNLow.deviceState = 4 := h
  exact congrArg Host.Outcome.next (if_pos (by simpa [or_assoc, State.resetNLow] using h'))

/-- Both commands end in `coldBegin`, from a state that has changed in AON_PWR_STATUS and the RESET_N pin at most. -/
theorem exec_cold (c : Instr) (h : (c = .coldCmd 0x5A17 ∧ s.deviceState ≠ 4 ∧ s.deviceState ≠ 5) ∨
      (c = .resetNLow ∧ s.aon.vaon = true ∧ s.aon.vddCore = true ∧ s.deviceState ≠ 4)) :
    ∃ (u : State) (cause : Nat), exec c s = .next (u.coldBegin cause) ∧ (c = .coldCmd 0x5A17 → cause = 3) ∧
      (∀ a, a ≠ AON_PWR_STATUS → u.reg a = s.reg a) ∧ u.cont = s.cont ∧ u.cfg = s.cfg ∧ u.sec = s.sec := by
  rcases h with ⟨rfl, h4, h5⟩ | ⟨rfl, hv, hd, h4⟩
  · exact ⟨s.setFld AON_PWR_STATUS 31 28 0, 3, exec_coldCmd s (by omega), fun _ => rfl, fun _ => State.reg_setFld_ne s _ _ _,
      s.setFld_cont .., s.setFld_cfg .., s.setFld_sec ..⟩
  · obtain ⟨cause, he⟩ := exec_resetNLow s hv hd h4
    exact ⟨s.resetNLow, cause, he, Instr.noConfusion, fun _ _ => rfl, rfl, rfl, rfl⟩

end Sys2Proof.Machine

open Sys2Proof Sys2Proof.Machine

/-- Settles O26: both commands end in `State.coldBegin`, from a state that differs only in AON_PWR_STATUS or in the RESET_N pin
(`exec_cold`). -/
theorem coldResetsClearTheDevice : Obligations.ColdResetsClearTheDevice := by
  unfold Obligations.ColdResetsClearTheDevice
  intro s
  refine ⟨fun h => ⟨_, exec_coldCmd_refused s h, State.fld_setFld_same _ _ _ _ _ (by omega) (by omega),
    State.onlyRegs_setFld _ _ _ _ _ _ (by simp)⟩, exec_resetNLow_noted s, fun c h => ?_⟩
  obtain ⟨u, cause, he, hcause, hreg, hcont, hcfg, hsec⟩ := exec_cold s c h
  obtain ⟨hstate, hshown⟩ := u.coldBegin_status cause
  obtain ⟨hres, hstep, hact, hsh, hops, hheld, hbyte, hseg, hevq, hnow, htb⟩ := u.coldBegin_reset cause
  obtain ⟨hslots, hgen, hkeys⟩ := u.coldBegin_kept cause
  rw [hcont] at hslots
  rw [hcfg] at hgen
  rw [hsec] at hkeys
  exact ⟨_, he, hstate, hres, hstep, fun hc => by rw [hshown, hcause hc], fun a ha => u.reg_coldBegin_out cause ha,
    fun a h1 h2 h3 h4 h5 => (u.reg_coldBegin_aon cause ⟨h1, h2⟩ h3 h4 h5).trans (hreg a h5), hact, hsh, hops, hheld, hbyte, hseg,
    hevq, hnow, htb, hslots, hgen, hkeys⟩
end

section
/-! Register reads (R13, R284, R306, R583): which registers are pairs, ring words and positions of a generator, and what a
read of each does. The tables of registers are arrays of evenly spaced addresses; two arrays are shown to have no address in
common by their ranges, or by what their addresses leave modulo a common divisor of the spacings. -/

namespace Sys2Proof.Machine

/-- An array of registers: first address, spacing and number. -/
structure RegArr where
  base : Nat
  step : Nat
  n : Nat

/-- The address is one of the array's. -/
def RegArr.has (x : RegArr) (a : Nat) : Bool := inArr a x.base x.step x.n

/-- The array of the registers that follow. -/
def RegArr.next (x : RegArr) : RegArr := { x with base := x.base + 4 }

/-- The last register of the array. -/
def RegArr.last (x : RegArr) : Nat := x.base + x.step * (x.n - 1)

/-- A test that two arrays have no address in common. -/
def RegArr.apart (x y : RegArr) : Bool :=
  decide (x.last < y.base) || decide (y.last < x.base) ||
    x.base % Nat.gcd x.step y.step != y.base % Nat.gcd x.step y.step

theorem RegArr.has_iff (x : RegArr) (a : Nat) :
    x.has a = true ↔ x.base ≤ a ∧ a < x.base + x.step * x.n ∧ (a - x.base) % x.step = 0 := by
  simp [RegArr.has, inArr, and_assoc]

theorem RegArr.has_next {x : RegArr} {a : Nat} (h : x.has a = true) : x.next.has (a + 4) = true := by
  rw [RegArr.has_iff] at h ⊢
  obtain ⟨h1, h2, h3⟩ := h
  refine ⟨by simp [RegArr.next, h1], by simp only [RegArr.next]; omega, ?_⟩
  rwa [RegArr.next, Nat.add_sub_add_right]

theorem RegArr.le_last {x : RegArr} {a : Nat} (h : x.has a = true) : x.base ≤ a ∧ a ≤ x.last := by
  obtain ⟨h1, h2, h3⟩ := (x.has_iff a).1 h
  obtain ⟨q, hq⟩ := Nat.dvd_of_mod_eq_zero h3
  have hn : q < x.n := Nat.lt_of_mul_lt_mul_left (a := x.step) (by omega)
  have hm : x.step * q ≤ x.step * (x.n - 1) := Nat.mul_le_mul_left _ (by omega)
  simp only [RegArr.last]
  omega

/-- An address of an array leaves what its first address leaves, modulo a divisor of the spacing. -/
theorem RegArr.mod_of_has {x : RegArr} {a g : Nat} (h : x.has a = true) (hg : g ∣ x.step) : a % g = x.base % g := by
  rw [RegArr.has_iff] at h
  obtain ⟨h1, -, h3⟩ := h
  exact ((Nat.modEq_iff_dvd' h1).2 (hg.trans (Nat.dvd_of_mod_eq_zero h3))).symm

theorem RegArr.not_has_of_apart {x y : RegArr} (h : x.apart y = true) {a : Nat} (hx : x.has a = true) : y.has a = false := by
  by_contra hy
  rw [Bool.not_eq_false] at hy
  have hm : x.base % Nat.gcd x.step y.step = y.base % Nat.gcd x.step y.step :=
    (RegArr.mod_of_has hx (Nat.gcd_dvd_left _ _)).symm.trans (RegArr.mod_of_has hy (Nat.gcd_dvd_right _ _))
  have hx' := RegArr.le_last hx
  have hy' := RegArr.le_last hy
  simp only [RegArr.apart, hm, bne_self_eq_false, Bool.or_false, Bool.or_eq_true, decide_eq_true_eq] at h
  omega

/-- Tables whose arrays are apart have no address in common. -/
theorem RegArr.any_eq_false {l m : List RegArr} (h : l.all (fun x => m.all x.apart) = true) {a : Nat}
    (ha : l.any (·.has a) = true) : m.any (·.has a) = false := by
  obtain ⟨x, hx, hxa⟩ := List.any_eq_true.1 ha
  refine List.any_eq_false.2 (fun y hy => ?_)
  rw [RegArr.not_has_of_apart (List.all_eq_true.1 (List.all_eq_true.1 h x hx) y hy) hxa]
  exact Bool.false_ne_true

/-- The LO registers of the pairs (`snapLo`), as arrays. -/
def snapArrs : List RegArr :=
  [GLB_GCC_LO, GLB_TB_LAST_SYNC_LO, GLB_CONTACT_GCC_LO, SEC_KSEQ_LO, CFG_LAST_SWAP_GCC_LO, NRG_NEVER_SEQ_LO, AON_RTC_LO,
    WKE_ASN_LO, MSQ_WORDS_LO 16, APL_UID_LO, APL_RT_UID_LO, MEM_PF_GCC_LO].map (fun b => ⟨b, 4, 1⟩) ++
  [⟨AON_LT_LO 0, 8, 32⟩, ⟨MNT_U_TIME_LO 0, 0x20, 18⟩, ⟨WQ_NEXT_SEQ_LO 0, 0x40, 4096⟩, ⟨MSQ_WORDS_LO 0, 0x100000, 16⟩,
    ⟨MEAS_SYNC_GCC_LO 0, 0x100000, 16⟩, ⟨FNT_CYCLES_LO 0, 0x10000, 32⟩, ⟨SEG_Q_VADDR_LO 0, 0x40, 16⟩,
    ⟨SEG_Q_VECTORS_LO 0, 0x40, 16⟩, ⟨SEG_D_BASE_LO 0, 16, 16384⟩, ⟨AN_SAMPLES_LO 0, 0x10000, 16⟩, ⟨AN_FTW_LO 0, 0x10000, 16⟩,
    ⟨AN_NOISE_SEED_LO 0, 0x10000, 16⟩] ++
  (List.range 8).flatMap (fun g => [⟨LN_BITS_LO g 0, 0x20, 16⟩, ⟨LN_ERR_LO g 0, 0x20, 16⟩]) ++
  [⟨DPS_ENERGY_LO 0, 0x400, 64⟩, ⟨XTB_FIRE_GCC_LO 0, 8, 16⟩, ⟨APL_PEER_UID_LO 0, 0x10000, 16⟩]

/-- The registers of capture rings' windows and of generators' positions, as arrays over the clusters and the fountains. -/
def sideArrs : List RegArr :=
  (List.range 4).map (fun i => ⟨ACQ_RD 0 i, 0x100000, 16⟩) ++
  [⟨FNT_STATUS 0, 0x10000, 32⟩, ⟨FNT_REF_STATUS 0, 0x10000, 32⟩] ++ (List.range 8).map (fun i => ⟨FNT_LC 0 i, 0x10000, 32⟩)

theorem RegArr.has_single (a b : Nat) : (RegArr.mk b 4 1).has a = (a == b) := by
  rw [Bool.eq_iff_iff, RegArr.has_iff, beq_iff_eq]
  simp only
  omega

theorem snapLo_eq (a : Nat) : snapLo a = snapArrs.any (·.has a) := by
  simp only [snapLo, snapArrs, List.any_append, List.any_map, List.any_flatMap, List.any_cons, List.any_nil, Function.comp_def,
    RegArr.has_single, List.contains_cons, List.contains_nil, Bool.or_false, Bool.or_assoc]
  rfl

theorem ringReg_side {a : Nat} (h : ringReg a = true) : sideArrs.any (·.has a) = true := by
  obtain ⟨k, hk, ha⟩ := List.any_eq_true.1 h
  rw [List.mem_range] at hk
  obtain ⟨h1, h2, h3⟩ := (RegArr.has_iff ⟨ACQ_RD k 0, 4, 4⟩ a).1 ha
  simp only [ACQ_RD, clBase] at h1 h2 h3
  refine List.any_eq_true.2 ⟨⟨ACQ_RD 0 ((a - ACQ_RD k 0) / 4), 0x100000, 16⟩, ?_, (RegArr.has_iff _ _).2 ?_⟩
  · simp only [sideArrs, List.mem_append, List.mem_map, List.mem_range, ACQ_RD, clBase]
    exact .inl (.inl ⟨_, by omega, rfl⟩)
  · simp only [ACQ_RD, clBase]
    omega

theorem positionReg_side {a : Nat} (h : positionReg a = true) : sideArrs.any (·.has a) = true := by
  simp only [positionReg, Bool.and_eq_true, Bool.or_eq_true, decide_eq_true_eq, beq_iff_eq] at h
  obtain ⟨hr, (h | h) | h⟩ := h
  · refine List.any_eq_true.2 ⟨⟨FNT_STATUS 0, 0x10000, 32⟩,
      List.mem_append_left _ (List.mem_append_right _ List.mem_cons_self), (RegArr.has_iff _ _).2 ?_⟩
    simp only [FNT_STATUS] at h ⊢
    omega
  · refine List.any_eq_true.2 ⟨⟨FNT_REF_STATUS 0, 0x10000, 32⟩,
      List.mem_append_left _ (List.mem_append_right _ (List.mem_cons_of_mem _ List.mem_cons_self)), (RegArr.has_iff _ _).2 ?_⟩
    simp only [FNT_REF_STATUS] at h ⊢
    omega
  · obtain ⟨h1, h2, h3⟩ := (RegArr.has_iff ⟨_, 4, 8⟩ a).1 h
    refine List.any_eq_true.2 ⟨⟨FNT_LC 0 ((a - FNT_LC ((a - 0x2000000) / 0x10000) 0) / 4), 0x10000, 32⟩, ?_,
      (RegArr.has_iff _ _).2 ?_⟩
    · simp only [sideArrs, List.mem_append, List.mem_map, List.mem_range]
      exact .inr ⟨_, by simp only [FNT_LC] at h1 h2 ⊢; omega, rfl⟩
    · simp only [FNT_LC] at h1 h2 h3 ⊢
      omega

theorem snapArrs_next_apart : (snapArrs.map RegArr.next).all (fun x => snapArrs.all x.apart) = true := by decide +kernel
theorem sideArrs_apart : sideArrs.all (fun x => snapArrs.all x.apart) = true := by decide +kernel
theorem sideArrs_next_apart : sideArrs.all (fun x => (snapArrs.map RegArr.next).all x.apart) = true := by decide +kernel

theorem snapHi_next {a : Nat} (h : snapHi a = true) : (snapArrs.map RegArr.next).any (·.has a) = true := by
  simp only [snapHi, Bool.and_eq_true, decide_eq_true_eq, snapLo_eq] at h
  obtain ⟨h4, h⟩ := h
  obtain ⟨x, hx, hxa⟩ := List.any_eq_true.1 h
  exact List.any_eq_true.2 ⟨x.next, List.mem_map_of_mem hx, by simpa [Nat.sub_add_cancel h4] using RegArr.has_next hxa⟩

/-- No LO register of a pair is the HI register of another. -/
theorem snapHi_of_snapLo {a : Nat} (h : snapLo a = true) : snapHi a = false := by
  by_contra hh
  have hf := RegArr.any_eq_false snapArrs_next_apart (snapHi_next (Bool.of_not_eq_false hh))
  rw [← snapLo_eq, h] at hf
  cases hf

/-- A ring word or a generator's position belongs to no pair. -/
theorem snap_of_side {a : Nat} (h : sideArrs.any (·.has a) = true) : snapLo a = false ∧ snapHi a = false := by
  refine ⟨(snapLo_eq a).trans (RegArr.any_eq_false sideArrs_apart h), ?_⟩
  by_contra hh
  have hf := RegArr.any_eq_false sideArrs_next_apart h
  rw [snapHi_next (Bool.of_not_eq_false hh)] at hf
  cases hf

/-- What the model asks of an address that shows a generator's position. -/
theorem positionReg_iff {a : Nat} (h4 : a % 4 = 0) : positionReg a = true ↔
    let f := (a - 0x2000000) / 0x10000
    0x2000000 ≤ a ∧ a < 0x2200000 ∧ (a = FNT_STATUS f ∨ a = FNT_REF_STATUS f ∨ (FNT_LC f 0 ≤ a ∧ a < FNT_LC f 8)) := by
  simp only [positionReg, inArr, Bool.and_eq_true, Bool.or_eq_true, decide_eq_true_eq, beq_iff_eq, FNT_LC]
  omega

/-- What the model asks of an address in a ring's window. -/
theorem ringReg_iff {a : Nat} (h4 : a % 4 = 0) : ringReg a = true ↔
    let k := (a - 0x200000) / 0x100000
    0x200000 ≤ a ∧ k < 16 ∧ ACQ_RD k 0 ≤ a ∧ a < ACQ_RD k 4 := by
  simp only [ringReg, List.any_eq_true, List.mem_range, inArr, Bool.and_eq_true, decide_eq_true_eq, beq_iff_eq]
  simp only [ACQ_RD, clBase]
  constructor
  · rintro ⟨k, hk, h⟩
    omega
  · intro h
    exact ⟨(a - 0x200000) / 0x100000, by omega⟩

variable {s : State} {path a : Nat} {r : Row}

/-- A register that shows no generator's position shows its view, and nothing changes. -/
theorem State.show_of_not_position (h4 : a % 4 = 0) (hr : a ≠ AON_RTC_LO) (hp : positionReg a = false) :
    s.show a = ((s.view a).toNat, s) := by
  have h := mt (positionReg_iff h4).2 (by simp [hp])
  rw [State.show, if_neg hr, if_neg h]

/-- A register that shows a generator's position shows where it stands by now. -/
theorem State.show_of_position (hp : positionReg a = true) (h4 : a % 4 = 0) :
    s.show a = (((s.runAhead ((a - 0x2000000) / 0x10000)).view a).toNat, s.runAhead ((a - 0x2000000) / 0x10000)) := by
  have h := (positionReg_iff h4).1 hp
  rw [State.show, if_neg (by rintro rfl; exact absurd h.1 (by decide)), if_pos h]

theorem State.readSide_of_not_ring (h4 : a % 4 = 0) (hr : ringReg a = false) : s.readSide a = s :=
  if_neg (mt (ringReg_iff h4).2 (by simp [hr]))

theorem State.readSide_of_ring (h4 : a % 4 = 0) (hr : ringReg a = true) :
    s.readSide a = s.readShown ((a - 0x200000) / 0x100000) ((a - ACQ_RD ((a - 0x200000) / 0x100000) 0) / 4) :=
  if_pos ((ringReg_iff h4).1 hr)

/-- A read that reaches a register: what it shows, the snapshot of a pair, the RC fields and what a ring's word brings. -/
theorem State.readReg_row (hs : s.asleepAt a = false) (hc : csWindow a = none) (hr : regAt a = some r) (hx : a ≠ SVC_RX)
    (hh : snapHi a = false) {n : Nat} {u : State} (hn : s.show a = (n, u)) : s.readReg path a =
      let v := if snapLo a then u.snapshot path a else u
      { (v.setReg a (r.clearRc (v.reg a))).readSide a with rdata := word n &&& r.readMask } := by
  unfold State.readReg
  rw [hs, hc, hr]
  simp only [hx, hh, hn]
  rfl

/-- A register of a table of pairs that is no ring word and no position: the conditions of `readReg_row` in one. -/
theorem State.readReg_pair (hs : s.asleepAt a = false) (hc : csWindow a = none) (hr : regAt a = some r) (hx : a ≠ SVC_RX)
    (h4 : a % 4 = 0) (hl : snapLo a = true) {n : Nat} (hn : s.show a = (n, s)) : s.readReg path a =
      { (s.snapshot path a).setReg a (r.clearRc ((s.snapshot path a).reg a)) with rdata := word n &&& r.readMask } := by
  have hside : sideArrs.any (·.has a) ≠ true := fun h => by rw [(snap_of_side h).1] at hl; cases hl
  have hring : ringReg a = false := Bool.eq_false_iff.2 (mt ringReg_side hside)
  rw [State.readReg_row hs hc hr hx (snapHi_of_snapLo hl) hn]
  simp only [hl, if_true, State.readSide_of_not_ring h4 hring]

theorem word_toNat (w : Word) : word w.toNat = w := by simp [word]

/-- A register of its own: what it shows, and its RC fields return to their reset value. -/
theorem State.readReg_plain (hs : s.asleepAt a = false) (hc : csWindow a = none) (hr : regAt a = some r) (hx : a ≠ SVC_RX)
    (h4 : a % 4 = 0) (hrtc : a ≠ AON_RTC_LO) (hl : snapLo a = false) (hh : snapHi a = false) (hring : ringReg a = false)
    (hp : positionReg a = false) :
    s.readReg path a = { s.setReg a (r.clearRc (s.reg a)) with rdata := s.view a &&& r.readMask } := by
  rw [State.readReg_row hs hc hr hx hh (State.show_of_not_position h4 hrtc hp)]
  simp only [hl, State.readSide_of_not_ring h4 hring, word_toNat]
  rfl

/-- The HI register of a pair: what the path's last LO read left. -/
theorem State.readReg_hi (hs : s.asleepAt a = false) (hc : csWindow a = none) (hr : regAt a = some r) (hx : a ≠ SVC_RX)
    (hh : snapHi a = true) : s.readReg path a = { s with rdata := Map.get holdDefault s.hold (holdKey path a) } := by
  unfold State.readReg
  rw [hs, hc, hr]
  simp only [hx, hh]
  rfl

/-- The snapshot that the LO read of a pair takes. -/
theorem State.snapshot_eq (hrtc : a ≠ AON_RTC_LO) :
    s.snapshot path a = { s with hold := Map.set holdDefault s.hold (holdKey path (a + 4)) (s.view (a + 4)) } := by
  unfold State.snapshot
  rw [if_neg hrtc]
  simp only [Nat.mul_div_cancel_left _ (Nat.two_pow_pos 32), word_toNat]

/-- The LO register of a pair: what it shows, and the HI register as it shows then is kept for the path. -/
theorem State.readReg_lo (hs : s.asleepAt a = false) (hc : csWindow a = none) (hr : regAt a = some r) (hx : a ≠ SVC_RX)
    (h4 : a % 4 = 0) (hrtc : a ≠ AON_RTC_LO) (hl : snapLo a = true) : s.readReg path a =
      { s.setReg a (r.clearRc (s.reg a)) with
        hold := Map.set holdDefault s.hold (holdKey path (a + 4)) (s.view (a + 4)), rdata := s.view a &&& r.readMask } := by
  have hp : positionReg a = false :=
    Bool.eq_false_iff.2 (fun h => by rw [(snap_of_side (positionReg_side h)).1] at hl; cases hl)
  rw [State.readReg_pair hs hc hr hx h4 hl (State.show_of_not_position h4 hrtc hp), State.snapshot_eq hrtc, word_toNat]
  rfl

/-- The registers of the RTC read as whole words. -/
theorem readMask_rtc : regAt AON_RTC_LO = some r → r.readMask = BitVec.allOnes 32 := by
  have h : (regAt AON_RTC_LO).map Row.readMask = some (BitVec.allOnes 32) := by decide +kernel
  intro hr
  rw [hr] at h
  exact Option.some.inj h

/-- AON_RTC_LO: the low word of the seconds, and what `rtcNow` gives above them is kept for the path. -/
theorem State.readReg_rtc (hs : s.asleepAt AON_RTC_LO = false) (hr : regAt AON_RTC_LO = some r) :
    s.readReg path AON_RTC_LO = let u := s.snapshot path AON_RTC_LO
      { u.setReg AON_RTC_LO (r.clearRc (u.reg AON_RTC_LO)) with rdata := word s.aon.rtcSec } := by
  have hn : s.show AON_RTC_LO = (s.aon.rtcSec % 2 ^ 32, s) := by rw [State.show, if_pos rfl]
  have hw : word (s.aon.rtcSec % 2 ^ 32) = word s.aon.rtcSec := BitVec.eq_of_toNat_eq (by simp [word])
  rw [State.readReg_pair hs (by decide) hr (by decide) (by decide) (by decide +kernel) hn, readMask_rtc hr, hw,
    BitVec.and_allOnes]

/-- What the RTC's snapshot keeps above its low word: bits 47 to 32 of the seconds, below a sub-second. -/
theorem State.rtcNow_high (s : State) : (word (s.rtcNow.1 / 2 ^ 32)).field 15 0 = s.aon.rtcSec / 2 ^ 32 % 2 ^ 16 := by
  simp only [State.rtcNow, word, Word.field, BitVec.toNat_ofNat]
  generalize s.aon.rtcSub + _ = n
  omega

/-- The words of a ring's window are read-only whole words. -/
theorem clearRc_ring (h4 : a % 4 = 0) (hring : ringReg a = true) (hr : regAt a = some r) (w : Word) : r.clearRc w = w := by
  obtain ⟨hlo, hk, h1, h2⟩ := (ringReg_iff h4).1 hring
  simp only [ACQ_RD, clBase] at h1 h2
  have hb : blockAt a = some (⟨"ACQ", "R327", 0x40000, 1, 0x10000, 0xFFFC, rowsAcq⟩,
      ((a - 0x200000) % 0x100000 - 0x40000) / 0x10000, ((a - 0x200000) % 0x100000 - 0x40000) % 0x10000) := by
    unfold blockAt
    rw [if_pos (by omega)]
    exact findBlk_of_mem clusterBlocks_rise (by simp [clusterBlocks]) (by simp only; omega) (by simp only; omega)
      (by simp only; omega)
  have hrow : rowAt rowsAcq (((a - 0x200000) % 0x100000 - 0x40000) % 0x10000) = some (regN "ACQ_RD" 0x020 4 4 0 (whole .ro)) := by
    simp only [rowsAcq, reg1, regN, rowAt]
    repeat rw [if_neg (by omega)]
    rw [if_pos (by omega)]
  rw [regAt, hb] at hr
  obtain rfl : _ = r := Option.some.inj (hrow.symm.trans hr)
  rfl

/-- A ring's window word: the word, and POISON with its event when the word fails its parity check. -/
theorem State.readReg_ring (hs : s.asleepAt a = false) (hc : csWindow a = none) (hr : regAt a = some r) (hx : a ≠ SVC_RX)
    (h4 : a % 4 = 0) (hring : ringReg a = true) : s.readReg path a =
      { (s.setReg a (s.reg a)).readShown ((a - 0x200000) / 0x100000) ((a - ACQ_RD ((a - 0x200000) / 0x100000) 0) / 4) with
        rdata := s.view a &&& r.readMask } := by
  obtain ⟨hl, hh⟩ := snap_of_side (ringReg_side hring)
  have hlt := (ringReg_iff h4).1 hring
  simp only [ACQ_RD, clBase] at hlt
  have hrtc : a ≠ AON_RTC_LO := by simp only [AON_RTC_LO]; omega
  have hp : positionReg a = false := Bool.eq_false_iff.2 (fun h => by have := (positionReg_iff h4).1 h; simp only at this; omega)
  rw [State.readReg_row hs hc hr hx hh (State.show_of_not_position h4 hrtc hp)]
  simp only [hl, Bool.false_eq_true, if_false, State.readSide_of_ring h4 hring, clearRc_ring h4 hring hr, word_toNat]

/-- What the parity check of a ring's word sets. -/
theorem State.readShown_poison (s : State) (k i : Nat) : let bad := bit (((s.ring k).shown.map badWords).getD 0) (i / 2)
    (s.readShown k i).bitAt (ACQ_RD_STATUS k) 9 = (s.bitAt (ACQ_RD_STATUS k) 9 || bad) ∧
    (s.readShown k i).bitAt (ACQ_EVENTS k) 3 = (s.bitAt (ACQ_EVENTS k) 3 || bad) ∧
    s.OnlyRegs (s.readShown k i) [ACQ_RD_STATUS k, ACQ_EVENTS k] := by
  unfold State.readShown
  split
  next hb =>
    refine ⟨?_, ?_, (State.onlyRegs_setBitAt _ _ _ _ _ (by simp)).trans (State.onlyRegs_event _ _ _ _ (by simp))⟩
    · rw [State.bitAt_event _ _ _ _ _ (by omega), State.bitAt_setBitAt _ _ _ _ _ _ (by omega)]
      simp [hb]
    · rw [State.bitAt_event _ _ _ _ _ (by omega)]
      simp [hb]
  next hb =>
    simp only [Bool.not_eq_true] at hb
    exact ⟨by simp [hb], by simp [hb], State.OnlyRegs.refl s _⟩

/-- A register that takes the value that it has. -/
theorem State.reg_setReg_self (s : State) (a b : Nat) : (s.setReg a (s.reg a)).reg b = s.reg b := by
  rw [State.reg_setReg]
  split
  · subst b; rfl
  · rfl

/-- Two bits of registers and a frame, where the word read has changed as well. -/
theorem State.OnlyRegs.withRdata {s u : State} {l : List Nat} (h : s.OnlyRegs u l) {a b i j : Nat} {p q : Bool}
    (hp : u.bitAt a i = p) (hq : u.bitAt b j = q) (w : Word) : let t : State := { u with rdata := w }
    t.bitAt a i = p ∧ t.bitAt b j = q ∧ t = { s with regs := t.regs, rdata := w } ∧ s.RegsKept t l := by
  obtain ⟨e, hk⟩ := h
  exact ⟨hp, hq, by rw [e], hk⟩

/-- What a read of a ring's word at `a` sets, the word's register having taken the value that it had. -/
theorem State.readRing_poison (s : State) (a k : Nat) (w : Word) :
    let bad := bit (((s.ring k).shown.map badWords).getD 0) ((a - ACQ_RD k 0) / 8)
    let t : State := { (s.setReg a (s.reg a)).readShown k ((a - ACQ_RD k 0) / 4) with rdata := w }
    t.bitAt (ACQ_RD_STATUS k) 9 = (s.bitAt (ACQ_RD_STATUS k) 9 || bad) ∧
    t.bitAt (ACQ_EVENTS k) 3 = (s.bitAt (ACQ_EVENTS k) 3 || bad) ∧
    t = { s with regs := t.regs, rdata := w } ∧ s.RegsKept t [ACQ_RD_STATUS k, ACQ_EVENTS k] := by
  have hbit (b i : Nat) : (s.setReg a (s.reg a)).bitAt b i = s.bitAt b i := congrArg (·.getLsbD i) (s.reg_setReg_self a b)
  obtain ⟨h9, h3, hk⟩ := (s.setReg a (s.reg a)).readShown_poison k ((a - ACQ_RD k 0) / 4)
  rw [hbit, Nat.div_div_eq_div_mul] at h9 h3
  have hself : s.OnlyRegs (s.setReg a (s.reg a)) [ACQ_RD_STATUS k, ACQ_EVENTS k] := ⟨rfl, fun b _ => s.reg_setReg_self a b⟩
  exact (hself.trans hk).withRdata h9 h3 w

/-- A register that shows a generator's position: the fountain has run ahead by a free amount. -/
theorem State.readReg_position (hs : s.asleepAt a = false) (hc : csWindow a = none) (hr : regAt a = some r) (hx : a ≠ SVC_RX)
    (h4 : a % 4 = 0) (hp : positionReg a = true) : s.readReg path a =
      let u := s.runAhead ((a - 0x2000000) / 0x10000)
      { u.setReg a (r.clearRc (u.reg a)) with rdata := u.view a &&& r.readMask } := by
  obtain ⟨hl, hh⟩ := snap_of_side (positionReg_side hp)
  have hring : ringReg a = false := Bool.eq_false_iff.2 (fun h => by
    have h1 := (ringReg_iff h4).1 h
    have h2 := (positionReg_iff h4).1 hp
    simp only [ACQ_RD, clBase] at h1 h2
    omega)
  rw [State.readReg_row hs hc hr hx hh (State.show_of_position hp h4)]
  simp only [hl, Bool.false_eq_true, if_false, State.readSide_of_not_ring h4 hring, word_toNat]

/-- A read that no block answers, and one that a block does. -/
theorem State.readAccess_past (h4 : a % 4 = 0) (hm : mapped a = false) :
    s.readAccess path a = { ({ s with flagged := false }).accessFlag path a 2 with rdata := 0 } := by
  rw [State.readAccess, if_pos h4, State.burstRead, if_neg (by simp [hm])]

theorem State.readAccess_mapped (h4 : a % 4 = 0) (hm : mapped a = true) (he : a ≤ blockEnd a) :
    s.readAccess path a = ({ s with flagged := false }).readReg path a := by
  rw [State.readAccess, if_pos h4, State.burstRead, if_pos ⟨hm, he⟩]

end Sys2Proof.Machine

open Sys2Proof Sys2Proof.Machine

/-- Settles O7: an aligned read of a mapped address is `State.readReg`, whose outcome the lemmas `State.readReg_plain`, `_lo`,
`_hi`, `_rtc`, `_ring` and `_position` give kind by kind; every kind sets the register read at most, and what they name beside
it. -/
theorem registerReads : Obligations.RegisterReads := by
  unfold Obligations.RegisterReads
  intro path a s c hc
  have he : exec c s = .next (s.readAccess path a) := by
    simp only [List.mem_cons, List.not_mem_nil, or_false] at hc
    obtain rfl | rfl := hc <;> rfl
  rw [he]
  refine ⟨fun h4 => congrArg _ (if_neg h4), fun h4 hm => congrArg _ (State.readAccess_past h4 hm), fun h4 hm hend => ?_⟩
  rw [State.readAccess_mapped h4 hm hend]
  refine ⟨fun hs => congrArg _ (if_pos hs), fun hs m o hc => congrArg _ ?_, fun hs hc hr => congrArg _ ?_,
    fun hs hc r hr hx => ?_⟩
  · have hs' : ({ s with flagged := false } : State).asleepAt a = false := hs
    rw [State.readReg, hs', hc]
    rfl
  · have hs' : ({ s with flagged := false } : State).asleepAt a = false := hs
    rw [State.readReg, hs', hc, hr]
    rfl
  refine ⟨fun hrtc hl hh hring hp => ⟨_, congrArg _ (State.readReg_plain hs hc hr hx h4 hrtc hl hh hring hp), ?_⟩,
    fun hrtc hl => ⟨_, congrArg _ (State.readReg_lo hs hc hr hx h4 hrtc hl), ?_⟩,
    fun hh => congrArg _ (State.readReg_hi hs hc hr hx hh), ?_,
    fun hring => ⟨_, congrArg _ (State.readReg_ring hs hc hr hx h4 hring), ?_⟩,
    fun hp => ⟨_, congrArg _ (State.readReg_position hs hc hr hx h4 hp), ?_⟩⟩
  · exact ⟨rfl, State.reg_setReg_same _ _ _, rfl, fun _ hb => State.reg_setReg_ne _ _ (List.ne_of_not_mem_cons hb)⟩
  · exact ⟨rfl, Map.get_set_same _ _ _ _, fun _ hk => Map.get_set_ne _ _ _ hk, rfl,
      fun _ hb => State.reg_setReg_ne _ _ (List.ne_of_not_mem_cons hb)⟩
  · rintro rfl
    refine ⟨_, congrArg _ (State.readReg_rtc hs hr), rfl, ?_, rfl,
      fun _ hb => State.reg_setReg_ne _ _ (List.ne_of_not_mem_cons hb)⟩
    exact (congrArg (fun w : Word => w.field 15 0) (Map.get_set_same _ _ _ _)).trans (State.rtcNow_high _)
  · exact ⟨rfl, State.readRing_poison { s with flagged := false } a _ _⟩
  · exact ⟨rfl, rfl, fun _ hb => State.reg_setReg_ne _ _ (List.ne_of_not_mem_cons hb)⟩
end

section
/-! Register writes (R13, R56, R69, R585): what the rows of the map keep, what a legal write makes of each field, and that the
write of a register that is no command goes to its fields alone. -/

namespace Sys2Proof.Machine

/-- The fields of a row lie in a word and beside each other, from the highest down. -/
def Row.fieldsApart (r : Row) : Bool :=
  r.flds.all (fun f => decide (f.lo ≤ f.hi) && decide (f.hi < 32)) && decide (r.flds.Pairwise (fun f g => g.hi < f.lo))

/-- A block's registers are words, and its last one lies in it. -/
def Blk.aligned (b : Blk) : Bool := b.base % 4 == 0 && b.stride % 4 == 0 && b.last % 4 == 0

theorem rows_fieldsApart : (blocks ++ clusterBlocks).all (fun b => b.rows.all Row.fieldsApart) = true := by decide +kernel
theorem blocks_aligned : (blocks ++ clusterBlocks).all Blk.aligned = true := by decide +kernel

/-- Where an address that some block holds lies: in a block of the map, or in one of a cluster, as an offset. -/
theorem blockAt_eq_some {a : Nat} {b : Blk} {i o : Nat} (h : blockAt a = some (b, i, o)) :
    b ∈ blocks ++ clusterBlocks ∧ o ≤ a ∧ o ≤ b.last + 3 ∧ (a % 4 = 0 → o % 4 = 0) := by
  have hsub {a : Nat} (hb : b ∈ blocks ++ clusterBlocks) (h4 : a % 4 = 0) (hle : b.base ≤ a) :
      (a - b.base) % b.stride % 4 = 0 := by
    have hal := List.all_eq_true.1 blocks_aligned b hb
    simp only [Blk.aligned, Bool.and_eq_true, beq_iff_eq] at hal
    rw [Nat.mod_mod_of_dvd _ (Nat.dvd_of_mod_eq_zero hal.1.2)]
    omega
  unfold blockAt at h
  split at h
  next hc =>
    obtain ⟨hm, hle, -, ho, hl⟩ := findBlk_eq_some h
    have hb := List.mem_append_right blocks hm
    have := Nat.mod_le ((a - 0x200000) % 0x100000 - b.base) b.stride
    exact ⟨hb, by omega, hl, fun h4 => ho ▸ hsub hb (by omega) hle⟩
  next =>
    obtain ⟨hm, hle, -, ho, hl⟩ := findBlk_eq_some h
    have hb := List.mem_append_left clusterBlocks hm
    have := Nat.mod_le (a - b.base) b.stride
    exact ⟨hb, by omega, hl, fun h4 => ho ▸ hsub hb h4 hle⟩

theorem mem_of_regAt {a : Nat} {r : Row} (h : regAt a = some r) : ∃ b ∈ blocks ++ clusterBlocks, r ∈ b.rows := by
  unfold regAt at h
  split at h
  next b i o hb => exact ⟨b, (blockAt_eq_some hb).1, mem_of_rowAt h⟩
  next => cases h

theorem mapped_of_regAt {a : Nat} {r : Row} (h : regAt a = some r) : mapped a = true := by
  unfold regAt at h
  unfold mapped
  split at h
  next hb => rw [hb]; rfl
  next => cases h

/-- A word of a block does not lie past the block's last register. -/
theorem le_blockEnd {a : Nat} (h4 : a % 4 = 0) (hm : mapped a = true) : a ≤ blockEnd a := by
  obtain ⟨⟨b, i, o⟩, hb⟩ := Option.isSome_iff_exists.1 hm
  obtain ⟨hmem, hle, hlast, ho⟩ := blockAt_eq_some hb
  have hal := List.all_eq_true.1 blocks_aligned b hmem
  simp only [Blk.aligned, Bool.and_eq_true, beq_iff_eq] at hal
  simp only [blockEnd, hb]
  have := ho h4
  omega

theorem fieldsApart_of_regAt {a : Nat} {r : Row} (h : regAt a = some r) :
    (∀ f ∈ r.flds, f.lo ≤ f.hi ∧ f.hi < 32) ∧ r.flds.Pairwise (fun f g => g.hi < f.lo) := by
  obtain ⟨b, hb, hr⟩ := mem_of_regAt h
  have := List.all_eq_true.1 (List.all_eq_true.1 rows_fieldsApart b hb) r hr
  simpa [Row.fieldsApart] using this

/-! Fields. -/

/-- What a legal write makes of a field that held `old`, by its access code (R13). -/
def Fld.after (f : Fld) (v : Word) (old : Nat) : Nat :=
  match f.acc with
  | .rw => v.field f.hi f.lo
  | .rwl => v.field f.hi f.lo
  | .w1c => old &&& (2 ^ (f.hi + 1 - f.lo) - 1 - v.field f.hi f.lo)
  | .w1s => old ||| v.field f.hi f.lo
  | _ => old

/-- The write's part for a field is legal in a state (R13, R56). -/
def State.writeLegal (s : State) (a : Nat) (v : Word) (f : Fld) : Prop :=
  ((f.acc = .rw ∨ (f.acc = .rwl ∧ s.cfg.locked = false)) → within f.min f.max (v.field f.hi f.lo) = true) ∧
  (f.acc = .rwl → s.cfg.locked = true → v.field f.hi f.lo = s.fld a f.hi f.lo)

/-- A bit of a field of one word as it stands in another that is 0 outside the field. -/
theorem Word.getLsbD_part (v : Word) (hi lo i : Nat) :
    (word (v.field hi lo * 2 ^ lo)).getLsbD i = (decide (lo ≤ i ∧ i ≤ hi) && v.getLsbD i) := by
  rw [word, BitVec.getLsbD_ofNat, Nat.testBit_mul_two_pow, Word.testBit_field]
  by_cases h : lo ≤ i
  · have h1 : lo + (i - lo) = i := by omega
    have h2 : i - lo < hi + 1 - lo ↔ i ≤ hi := by omega
    by_cases h3 : i < 32
    · simp [h, h1, h2, h3]
    · simp [BitVec.getLsbD_of_ge v i (by omega), h1]
  · simp [h]

/-- Bits of a field with those of another word's cleared. -/
theorem Word.field_andNot (w v : Word) (hi lo : Nat) (hh : hi < 32) :
    (w &&& ~~~ word (v.field hi lo * 2 ^ lo)).field hi lo = w.field hi lo &&& (2 ^ (hi + 1 - lo) - 1 - v.field hi lo) := by
  refine Nat.eq_of_testBit_eq (fun i => ?_)
  have hs : 2 ^ (hi + 1 - lo) - 1 - v.field hi lo = 2 ^ (hi + 1 - lo) - (v.field hi lo + 1) := by omega
  rw [hs, Nat.testBit_and, Nat.testBit_two_pow_sub_succ (v.field_lt hi lo), Word.testBit_field, Word.testBit_field,
    Word.testBit_field, BitVec.getLsbD_and, BitVec.getLsbD_not, Word.getLsbD_part]
  by_cases h : i < hi + 1 - lo
  · simp [h, show lo + i < 32 by omega, show lo + i ≤ hi by omega]
  · simp [h]

/-- Bits of a field with those of another word's set. -/
theorem Word.field_or (w v : Word) (hi lo : Nat) :
    (w ||| word (v.field hi lo * 2 ^ lo)).field hi lo = w.field hi lo ||| v.field hi lo := by
  refine Nat.eq_of_testBit_eq (fun i => ?_)
  rw [Nat.testBit_or, Word.testBit_field, Word.testBit_field, Word.testBit_field, BitVec.getLsbD_or, Word.getLsbD_part]
  by_cases h : i < hi + 1 - lo
  · simp [h, show lo + i ≤ hi by omega]
  · simp [h]

/-- A field outside of one whose bits are cleared or set. -/
theorem Word.field_andNot_ne (w v : Word) (hi lo hi' lo' : Nat) (hd : hi' < lo ∨ hi < lo') :
    (w &&& ~~~ word (v.field hi lo * 2 ^ lo)).field hi' lo' = w.field hi' lo' := by
  refine Nat.eq_of_testBit_eq (fun i => ?_)
  rw [Word.testBit_field, Word.testBit_field, BitVec.getLsbD_and, BitVec.getLsbD_not, Word.getLsbD_part]
  by_cases h : i < hi' + 1 - lo'
  · have h1 : ¬ (lo ≤ lo' + i ∧ lo' + i ≤ hi) := by omega
    by_cases h3 : lo' + i < 32
    · simp [h1, h3]
    · simp [BitVec.getLsbD_of_ge w (lo' + i) (by omega)]
  · simp [h]

theorem Word.field_or_ne (w v : Word) (hi lo hi' lo' : Nat) (hd : hi' < lo ∨ hi < lo') :
    (w ||| word (v.field hi lo * 2 ^ lo)).field hi' lo' = w.field hi' lo' := by
  refine Nat.eq_of_testBit_eq (fun i => ?_)
  rw [Word.testBit_field, Word.testBit_field, BitVec.getLsbD_or, Word.getLsbD_part]
  by_cases h : i < hi' + 1 - lo'
  · have h1 : ¬ (lo ≤ lo' + i ∧ lo' + i ≤ hi) := by omega
    simp [h1]
  · simp [h]

variable {s : State} {path a : Nat} {v : Word}

/-- One register takes a value that changes one field as its code gives and leaves those beside it. -/
theorem State.setReg_legal {f : Fld} {w : Word} (hs : w.field f.hi f.lo = f.after v (s.fld a f.hi f.lo))
    (hne : ∀ hi lo, hi < f.lo ∨ f.hi < lo → w.field hi lo = (s.reg a).field hi lo) :
    (s.setReg a w).fld a f.hi f.lo = f.after v (s.fld a f.hi f.lo) ∧
    (∀ hi lo, hi < f.lo ∨ f.hi < lo → (s.setReg a w).fld a hi lo = s.fld a hi lo) ∧ s.OnlyRegs (s.setReg a w) [a] := by
  simp only [State.fld, State.reg_setReg_same]
  exact ⟨hs, hne, s.onlyRegs_setReg a w [a] List.mem_cons_self⟩

/-- A field takes its part of a legal write, and fields beside it stay. -/
theorem State.writeField_legal {f : Fld} (hlo : f.lo ≤ f.hi) (hhi : f.hi < 32) (ht : s.writeLegal a v f) :
    (s.writeField path a v f).fld a f.hi f.lo = f.after v (s.fld a f.hi f.lo) ∧
    (∀ hi lo, hi < f.lo ∨ f.hi < lo → (s.writeField path a v f).fld a hi lo = s.fld a hi lo) ∧
    s.OnlyRegs (s.writeField path a v f) [a] := by
  obtain ⟨hw, hl⟩ := ht
  have hput := (s.reg a).field_withField_same f.hi f.lo (v.field f.hi f.lo) hlo hhi
  rw [Nat.mod_eq_of_lt (v.field_lt _ _)] at hput
  have hbeside (hi lo : Nat) (h : hi < f.lo ∨ f.hi < lo) :=
    (s.reg a).field_withField_ne f.hi f.lo (v.field f.hi f.lo) hi lo hlo hhi h
  have hstay (h : f.after v (s.fld a f.hi f.lo) = s.fld a f.hi f.lo) : s.fld a f.hi f.lo = f.after v (s.fld a f.hi f.lo) ∧
      (∀ hi lo, hi < f.lo ∨ f.hi < lo → s.fld a hi lo = s.fld a hi lo) ∧ s.OnlyRegs s [a] :=
    ⟨h.symm, fun _ _ _ => rfl, State.OnlyRegs.refl s _⟩
  unfold State.writeField
  cases hacc : f.acc with
  | rw =>
    dsimp only
    rw [if_pos (hw (.inl hacc))]
    exact State.setReg_legal (hput.trans (by simp [Fld.after, hacc])) hbeside
  | rwl =>
    dsimp only
    split
    next hlock =>
      rw [if_pos (hl hacc hlock)]
      exact hstay (by simp [Fld.after, hacc, hl hacc hlock])
    next hlock =>
      rw [if_pos (hw (.inr ⟨hacc, Bool.eq_false_iff.2 hlock⟩))]
      exact State.setReg_legal (hput.trans (by simp [Fld.after, hacc])) hbeside
  | w1c =>
    exact State.setReg_legal ((Word.field_andNot _ _ _ _ hhi).trans (by simp [Fld.after, hacc, State.fld]))
      (fun hi lo h => Word.field_andNot_ne _ _ _ _ _ _ h)
  | w1s =>
    exact State.setReg_legal ((Word.field_or _ _ _ _).trans (by simp [Fld.after, hacc, State.fld]))
      (fun hi lo h => Word.field_or_ne _ _ _ _ _ _ h)
  | ro => exact hstay (by simp [Fld.after, hacc])
  | wo => exact hstay (by simp [Fld.after, hacc])
  | rc => exact hstay (by simp [Fld.after, hacc])

/-- Fields beside each other take their parts of a legal write one after the other. -/
theorem State.forEach_writeField {l : List Fld} (hl : ∀ f ∈ l, f.lo ≤ f.hi ∧ f.hi < 32) (hd : l.Pairwise (fun f g => g.hi < f.lo))
    (ht : ∀ f ∈ l, s.writeLegal a v f) : let t := s.forEach l (fun s f => s.writeField path a v f)
    (∀ f ∈ l, t.fld a f.hi f.lo = f.after v (s.fld a f.hi f.lo)) ∧
    (∀ hi lo, (∀ f ∈ l, hi < f.lo ∨ f.hi < lo) → t.fld a hi lo = s.fld a hi lo) ∧ s.OnlyRegs t [a] := by
  induction l generalizing s with
  | nil => exact ⟨fun _ hf => absurd hf List.not_mem_nil, fun _ _ _ => rfl, State.OnlyRegs.refl s _⟩
  | cons f l ih =>
    rw [List.pairwise_cons] at hd
    obtain ⟨hlo, hhi⟩ := hl f List.mem_cons_self
    obtain ⟨hf, hne, hk⟩ := State.writeField_legal (path := path) hlo hhi (ht f List.mem_cons_self)
    have hlocked : (s.writeField path a v f).cfg = s.cfg := by rw [hk.1]
    have hbeside (g : Fld) (hg : g ∈ l) := hne g.hi g.lo (.inl (hd.1 g hg))
    have hlegal (g : Fld) (hg : g ∈ l) : (s.writeField path a v f).writeLegal a v g := by
      unfold State.writeLegal
      rw [hlocked, hbeside g hg]
      exact ht g (List.mem_cons_of_mem _ hg)
    obtain ⟨ih1, ih2, ih3⟩ := ih (fun g hg => hl g (List.mem_cons_of_mem _ hg)) hd.2 hlegal
    refine ⟨fun g hg => ?_, fun hi lo hb => ?_, hk.trans ih3⟩
    · rcases List.mem_cons.1 hg with rfl | hg
      · rw [State.forEach_cons, ih2 _ _ (fun g hg => .inr (hd.1 g hg)), hf]
      · rw [State.forEach_cons, ih1 g hg, hbeside g hg]
    · rw [State.forEach_cons, ih2 hi lo (fun g hg => hb g (List.mem_cons_of_mem _ hg)), hne hi lo (hb f List.mem_cons_self)]

/-- A legal write of a register's fields. -/
theorem State.writeFields_legal {r : Row} (hr : regAt a = some r) (hstrict : strictHigh a = true → v &&& ~~~ r.readMask = 0)
    (ht : ∀ f ∈ r.flds, s.writeLegal a v f) :
    (∀ f ∈ r.flds, (s.writeFields path a v).fld a f.hi f.lo = f.after v (s.fld a f.hi f.lo)) ∧
    s.OnlyRegs (s.writeFields path a v) [a] := by
  obtain ⟨hl, hd⟩ := fieldsApart_of_regAt hr
  have he : s.writeFields path a v = s.forEach r.flds (fun s f => s.writeField path a v f) := by
    unfold State.writeFields
    rw [hr]
    exact if_neg (fun h => h.2 (hstrict h.1))
  rw [he]
  obtain ⟨h1, -, h3⟩ := State.forEach_writeField (path := path) hl hd ht
  exact ⟨h1, h3⟩

/-! Command registers. -/

/-- An address outside an array is none of its registers. -/
theorem ne_of_inArr {a b d n k : Nat} (h : inArr a b d n = false) (hk : k < n) (hd : 0 < d) : a ≠ b + d * k := by
  rintro rfl
  have := Nat.mul_lt_mul_of_pos_left hk hd
  simp [inArr, this] at h

/-- A command register that stands alone. -/
theorem ne_command {x : Nat} (hc : commandReg a = false) (hx : commandReg x = true) : a ≠ x := by
  rintro rfl
  rw [hx] at hc
  cases hc

/-- The arrays of command registers. -/
theorem commandReg_arrays (hc : commandReg a = false) :
    (∀ b ∈ [WQ_SQ_TAIL 0, WQ_CQ_HEAD 0, WQ_CTRL 0], inArr a b 0x40 4096 = false) ∧
    (∀ b ∈ [MSQ_CTRL 0, MSQ_TRAP_EN 0, TE_COMMIT_LO 0, TE_COMMIT_HI 0, LV_COMMIT 0, MEAS_CTRL 0, MEAS_CFG 0, ACQ_RD_CMD 0],
      inArr a b 0x100000 16 = false) ∧
    (∀ b ∈ [SEG_Q_REQ 0, SEG_Q_REQ_CLR 0], inArr a b 0x40 16 = false) ∧
    (∀ k < 16, inArr a (CH_PMU_FORCE (32 * k)) 0x400 32 = false) ∧
    (∀ b ∈ [AN_OUT_CFG 0, AN_RS_CMD 0, AN_PARK_CMD 0, AN_NOISE_SEED_LO 0, AN_NOISE_SEED_HI 0, AN_DIG_MASK 0],
      inArr a b 0x10000 16 = false) ∧
    ¬ ((0x3000000 ≤ a ∧ a < 0x3100000) ∧ 0x4000 ≤ a % 0x10000 ∧ a % 0x10000 < 0x8000) ∧
    (∀ b ∈ [DPS_CTRL 0, DPS_PG 0], inArr a b 0x400 64 = false) ∧
    (∀ b ∈ [APL_CTRL 0, APL_CMD 0], inArr a b 0x10000 16 = false) := by
  simp only [commandReg, Bool.or_eq_false_iff, List.any_eq_false, Bool.not_eq_true, List.mem_range, ← Bool.decide_and,
    decide_eq_false_iff_not] at hc
  obtain ⟨⟨⟨⟨⟨⟨⟨⟨-, hwq⟩, hcl⟩, hseg⟩, hch⟩, han⟩, hcoef⟩, hdps⟩, hapl⟩ := hc
  exact ⟨hwq, hcl, hseg, hch, han, hcoef, hdps, hapl⟩

variable (hc : commandReg a = false)
include hc

/-! Block by block: a register that is no command goes to its fields. -/

theorem State.writeGlb_fields : s.writeGlb path a v = s.writeFields path a v := by
  rw [State.writeGlb, if_neg (ne_command hc (by decide)), if_neg (ne_command hc (by decide))]

theorem State.writeSec_fields : s.writeSec path a v = s.writeFields path a v := by
  rw [State.writeSec, if_neg (ne_command hc (by decide))]

theorem State.writeCfg_fields : s.writeCfg path a v = s.writeFields path a v := by
  rw [State.writeCfg, if_neg (ne_command hc (by decide))]

theorem State.writeAon_fields : s.writeAon path a v = s.writeFields path a v := by
  rw [State.writeAon, if_neg (ne_command hc (by decide)), if_neg (ne_command hc (by decide)),
    if_neg (ne_command hc (by decide)), if_neg (ne_command hc (by decide))]

theorem State.writeSvc_fields : s.writeSvc path a v = s.writeFields path a v := by
  rw [State.writeSvc, if_neg (ne_command hc (by decide)), if_neg (ne_command hc (by decide)),
    if_neg (ne_command hc (by decide)), if_neg (ne_command hc (by decide)), if_neg (ne_command hc (by decide))]

theorem State.writeMnt_fields : s.writeMnt path a v = s.writeFields path a v := by
  rw [State.writeMnt, if_neg (ne_command hc (by decide))]

theorem State.writeXtb_fields : s.writeXtb path a v = s.writeFields path a v := by
  rw [State.writeXtb, if_neg (ne_command hc (by decide)), if_neg (ne_command hc (by decide)),
    if_neg (ne_command hc (by decide)), if_neg (ne_command hc (by decide))]

theorem State.writeAplG_fields : s.writeAplG path a v = s.writeFields path a v := by
  rw [State.writeAplG, if_neg (ne_command hc (by decide)), if_neg (ne_command hc (by decide))]

theorem State.writeMem_fields : s.writeMem path a v = s.writeFields path a v := by
  rw [State.writeMem, if_neg (ne_command hc (by decide))]

theorem State.writeMsq16_fields : s.writeMsq path 16 a v = s.writeFields path a v := by
  rw [State.writeMsq, if_neg (ne_command hc (by decide)), if_neg (fun h => ne_command hc (by decide) h.1),
    if_neg (fun h => ne_command hc (by decide) h.2)]

theorem State.writeWq_fields (hlo : 0x100000 ≤ a) (hhi : a < 0x140000) (hq : closedAt s a = false) :
    s.writeWq path a v = s.writeFields path a v := by
  obtain ⟨hwq, -⟩ := commandReg_arrays hc
  have hne {b : Nat} (hb : b ∈ [WQ_SQ_TAIL 0, WQ_CQ_HEAD 0, WQ_CTRL 0]) : a ≠ b + 0x40 * ((a - WQ_SQ_TAIL 0) / 0x40) :=
    ne_of_inArr (hwq b hb) (by simp only [WQ_SQ_TAIL]; omega) (by decide)
  have htail := hne (b := WQ_SQ_TAIL 0) (by simp)
  have hhead := hne (b := WQ_CQ_HEAD 0) (by simp)
  have hctrl := hne (b := WQ_CTRL 0) (by simp)
  have hopen : a ≠ WQ_NOTIFY_EP ((a - WQ_SQ_TAIL 0) / 0x40) → a ≠ WQ_EVENTS ((a - WQ_SQ_TAIL 0) / 0x40) →
      s.openQ ((a - WQ_SQ_TAIL 0) / 0x40) = true := fun hn he => by
    simpa [closedAt, hlo, show a < 0x200000 by omega, hn, he] using hq
  unfold State.writeWq
  dsimp only
  rw [if_neg (by simp only [WQ_SQ_TAIL] at htail ⊢; omega)]
  split
  next => rfl
  next hn =>
    rw [not_or] at hn
    rw [hopen hn.1 hn.2, if_neg (by decide), if_neg (by simp only [WQ_CQ_HEAD, WQ_SQ_TAIL] at hhead ⊢; omega),
      if_neg (by simp only [WQ_CTRL, WQ_SQ_TAIL] at hctrl ⊢; omega)]

theorem State.writeMsq_fields {k : Nat} (hk : k < 16) : s.writeMsq path k a v = s.writeFields path a v := by
  obtain ⟨-, hcl, -⟩ := commandReg_arrays hc
  have hctrl := ne_of_inArr (hcl (MSQ_CTRL 0) (by simp)) hk (by decide)
  have htrap := ne_of_inArr (hcl (MSQ_TRAP_EN 0) (by simp)) hk (by decide)
  have hbase : msqBase k = msqBase 0 + 0x100000 * k := by simp only [msqBase]; grind
  have hctrl' : a ≠ MSQ_CTRL k := by simp only [MSQ_CTRL, hbase] at hctrl ⊢; omega
  have htrap' : a ≠ MSQ_TRAP_EN k := by simp only [MSQ_TRAP_EN, hbase] at htrap ⊢; omega
  rw [State.writeMsq, if_neg hctrl', if_neg (fun h => htrap' h.1), if_neg (by omega)]

theorem State.writeCl_fields (hlo : 0x200000 ≤ a) (hhi : a < 0x1200000) :
    s.writeCl path ((a - 0x200000) / 0x100000) ((a - 0x200000) % 0x100000) a v = s.writeFields path a v := by
  obtain ⟨-, hcl, -, hch, -⟩ := commandReg_arrays hc
  have hk : (a - 0x200000) / 0x100000 < 16 := by omega
  have ho : a = 0x200000 + 0x100000 * ((a - 0x200000) / 0x100000) + (a - 0x200000) % 0x100000 := by omega
  generalize (a - 0x200000) / 0x100000 = k at hk ho ⊢
  generalize (a - 0x200000) % 0x100000 = o at ho ⊢
  have hne {x b : Nat} (hb : b ∈ [MSQ_CTRL 0, MSQ_TRAP_EN 0, TE_COMMIT_LO 0, TE_COMMIT_HI 0, LV_COMMIT 0, MEAS_CTRL 0, MEAS_CFG 0,
      ACQ_RD_CMD 0]) (hx : x = b + 0x100000 * k) : a ≠ x := hx ▸ ne_of_inArr (hcl b hb) hk (by decide)
  have hbase : clBase k = clBase 0 + 0x100000 * k := by simp only [clBase]; omega
  have hforce : ¬ (0x10000 ≤ o ∧ o < 0x18000 ∧ o % 0x400 = 0x2C) := fun h => by
    have := ne_of_inArr (hch k hk) (k := (o - 0x10000) / 0x400) (by omega) (by decide)
    simp only [CH_PMU_FORCE, chBase, clBase] at this
    omega
  unfold State.writeCl
  rw [if_neg (hne (b := TE_COMMIT_LO 0) (by decide) (by simp only [TE_COMMIT_LO, hbase]; omega)),
    if_neg (hne (b := TE_COMMIT_HI 0) (by decide) (by simp only [TE_COMMIT_HI, hbase]; omega)),
    if_neg (hne (b := LV_COMMIT 0) (by decide) (by simp only [LV_COMMIT, hbase]; omega)),
    if_neg (hne (b := MEAS_CTRL 0) (by decide) (by simp only [MEAS_CTRL, hbase]; omega)),
    if_neg (hne (b := MEAS_CFG 0) (by decide) (by simp only [MEAS_CFG, hbase]; omega)), if_neg hforce,
    if_neg (hne (b := ACQ_RD_CMD 0) (by decide) (by simp only [ACQ_RD_CMD, hbase]; omega)), State.writeMsq_fields hc hk, ite_self]

theorem State.writeSeg_fields : s.writeSeg path a v = s.writeFields path a v := by
  obtain ⟨-, -, hseg, -⟩ := commandReg_arrays hc
  unfold State.writeSeg
  dsimp only
  split
  next => rfl
  next hq =>
    have hreq := ne_of_inArr (hseg (SEG_Q_REQ 0) (by decide)) (not_le.1 hq) (by decide)
    have hclr := ne_of_inArr (hseg (SEG_Q_REQ_CLR 0) (by decide)) (not_le.1 hq) (by decide)
    rw [if_neg (by simp only [SEG_Q_REQ, SEG_Q_STATUS] at hreq ⊢; omega),
      if_neg (by simp only [SEG_Q_REQ_CLR, SEG_Q_STATUS] at hclr ⊢; omega)]

theorem State.writeAn_fields (hlo : 0x3000000 ≤ a) (hhi : a < 0x3100000) : s.writeAn path a v = s.writeFields path a v := by
  obtain ⟨-, -, -, -, han, hcoef, -⟩ := commandReg_arrays hc
  have hn : (a - 0x3000000) / 0x10000 < 16 := by omega
  have hne {x b : Nat} (hb : b ∈ [AN_OUT_CFG 0, AN_RS_CMD 0, AN_PARK_CMD 0, AN_NOISE_SEED_LO 0, AN_NOISE_SEED_HI 0,
      AN_DIG_MASK 0]) (hx : x = b + 0x10000 * ((a - 0x3000000) / 0x10000)) : a ≠ x := hx ▸ ne_of_inArr (han b hb) hn (by decide)
  unfold State.writeAn
  dsimp only
  rw [if_neg (hne (b := AN_OUT_CFG 0) (by decide) (by simp only [AN_OUT_CFG]; omega)),
    if_neg (hne (b := AN_RS_CMD 0) (by decide) (by simp only [AN_RS_CMD]; omega)),
    if_neg (hne (b := AN_PARK_CMD 0) (by decide) (by simp only [AN_PARK_CMD]; omega)),
    if_neg (not_or.2 ⟨hne (b := AN_NOISE_SEED_LO 0) (by decide) (by simp only [AN_NOISE_SEED_LO]; omega),
      hne (b := AN_NOISE_SEED_HI 0) (by decide) (by simp only [AN_NOISE_SEED_HI]; omega)⟩),
    if_neg (hne (b := AN_DIG_MASK 0) (by decide) (by simp only [AN_DIG_MASK]; omega)), if_neg (by omega)]

theorem State.writeDps_fields (hlo : 0x3200000 ≤ a) (hhi : a < 0x3210000) : s.writeDps path a v = s.writeFields path a v := by
  obtain ⟨-, -, -, -, -, -, hdps, -⟩ := commandReg_arrays hc
  have hctrl := ne_of_inArr (hdps (DPS_CTRL 0) (by decide)) (k := (a - 0x3200000) / 0x400) (by omega) (by decide)
  have hpg := ne_of_inArr (hdps (DPS_PG 0) (by decide)) (k := (a - 0x3200000) / 0x400) (by omega) (by decide)
  unfold State.writeDps
  dsimp only
  rw [if_neg (by simp only [DPS_CTRL] at hctrl ⊢; omega), if_neg (by simp only [DPS_PG] at hpg ⊢; omega)]

theorem State.writeApl_fields (hlo : 0x4000000 ≤ a) (hhi : a < 0x4100000) : s.writeApl path a v = s.writeFields path a v := by
  obtain ⟨-, -, -, -, -, -, -, hapl⟩ := commandReg_arrays hc
  have hctrl := ne_of_inArr (hapl (APL_CTRL 0) (by decide)) (k := (a - 0x4000000) / 0x10000) (by omega) (by decide)
  have hcmd := ne_of_inArr (hapl (APL_CMD 0) (by decide)) (k := (a - 0x4000000) / 0x10000) (by omega) (by decide)
  unfold State.writeApl
  dsimp only
  rw [if_neg (by simp only [APL_CTRL] at hctrl ⊢; omega), if_neg (by simp only [APL_CMD] at hcmd ⊢; omega)]

omit hc

/-- No block holds an address of a gap between the blocks. -/
theorem not_gap_of_mapped {lo hi : Nat}
    (hg : blocks.all (fun b => decide (b.base + b.n * b.stride ≤ lo) || decide (hi ≤ b.base)) = true)
    (hcl : hi ≤ 0x200000 ∨ 0x1200000 ≤ lo) (hm : mapped a = true) : ¬ (lo ≤ a ∧ a < hi) := by
  rintro ⟨h1, h2⟩
  obtain ⟨⟨b, i, o⟩, hb⟩ := Option.isSome_iff_exists.1 hm
  unfold blockAt at hb
  rw [if_neg (by omega)] at hb
  obtain ⟨hmem, hle, hlt, -⟩ := findBlk_eq_some hb
  have := List.all_eq_true.1 hg b hmem
  simp only [Bool.or_eq_true, decide_eq_true_eq] at this
  omega

/-- The write of a register that is no command goes to its fields. -/
theorem State.writeReg_eq_writeFields {r : Row} (hr : regAt a = some r) (hc : commandReg a = false) (hq : closedAt s a = false)
    (h : s.reaches path a = true) : s.writeReg path a v = s.writeFields path a v := by
  have hm := mapped_of_regAt hr
  have hwq : ¬ (0x140000 ≤ a ∧ a < 0x200000) := not_gap_of_mapped (by decide +kernel) (by decide) hm
  have hdps : ¬ (0x3210000 ≤ a ∧ a < 0x3400000) := not_gap_of_mapped (by decide +kernel) (by decide) hm
  simp only [State.reaches, Bool.and_eq_true, beq_iff_eq, Bool.not_eq_true', Option.isNone_iff_eq_none,
    Bool.and_eq_false_iff] at h
  obtain ⟨⟨⟨-, hs⟩, hw⟩, hl⟩ := h
  unfold State.writeReg
  rw [if_neg (fun h => by simp [h.1, h.2] at hl), if_neg (by simp [hs, hw]), if_neg (by simp [hr])]
  refine ite_eq_iff'.2 ⟨fun _ => State.writeGlb_fields hc, fun _ => ?_⟩
  refine ite_eq_iff'.2 ⟨fun _ => State.writeSec_fields hc, fun _ => ?_⟩
  refine ite_eq_iff'.2 ⟨fun _ => State.writeCfg_fields hc, fun _ => ?_⟩
  refine ite_eq_iff'.2 ⟨fun _ => rfl, fun _ => ?_⟩
  refine ite_eq_iff'.2 ⟨fun _ => State.writeAon_fields hc, fun _ => ?_⟩
  refine ite_eq_iff'.2 ⟨fun _ => State.writeSvc_fields hc, fun _ => ?_⟩
  refine ite_eq_iff'.2 ⟨fun _ => State.writeMnt_fields hc, fun _ => ?_⟩
  refine ite_eq_iff'.2 ⟨fun _ => rfl, fun _ => ?_⟩
  refine ite_eq_iff'.2 ⟨fun _ => State.writeMsq16_fields hc, fun hwqLo => ?_⟩
  refine ite_eq_iff'.2 ⟨fun hhi => State.writeWq_fields hc (by omega) (by omega) hq, fun hclLo => ?_⟩
  refine ite_eq_iff'.2 ⟨fun hhi => State.writeCl_fields hc (by omega) hhi, fun _ => ?_⟩
  refine ite_eq_iff'.2 ⟨fun _ => rfl, fun _ => ?_⟩
  refine ite_eq_iff'.2 ⟨fun _ => State.writeSeg_fields hc, fun hanLo => ?_⟩
  refine ite_eq_iff'.2 ⟨fun hhi => State.writeAn_fields hc (by omega) hhi, fun _ => ?_⟩
  refine ite_eq_iff'.2 ⟨fun _ => rfl, fun hdpsLo => ?_⟩
  refine ite_eq_iff'.2 ⟨fun hhi => State.writeDps_fields hc (by omega) (by omega), fun _ => ?_⟩
  refine ite_eq_iff'.2 ⟨fun _ => State.writeXtb_fields hc, fun haplLo => ?_⟩
  refine ite_eq_iff'.2 ⟨fun hhi => State.writeApl_fields hc (by omega) hhi, fun _ => ?_⟩
  refine ite_eq_iff'.2 ⟨fun _ => State.writeAplG_fields hc, fun _ => ?_⟩
  exact State.writeMem_fields hc

end Sys2Proof.Machine

open Sys2Proof Sys2Proof.Machine

/-- Settles O5: the write of a register that is no command goes to its fields (`State.writeReg_eq_writeFields`), which lie
beside each other, so each takes its part (`State.forEach_writeField`). -/
theorem legalRegisterWriteTakesEffect : Obligations.LegalRegisterWriteTakesEffect := by
  unfold Obligations.LegalRegisterWriteTakesEffect
  intro path a v s r hr hc hq h hstrict hrw hrwl
  have h4 : a % 4 = 0 := by
    simp only [State.reaches, Bool.and_eq_true, beq_iff_eq] at h
    obtain ⟨⟨⟨h4, -⟩, -⟩, -⟩ := h
    exact h4
  have hm := mapped_of_regAt hr
  obtain ⟨hf, hk⟩ := State.writeFields_legal (s := { s with flagged := false }) (path := path) hr hstrict
    (fun f hf => ⟨hrw f hf, hrwl f hf⟩)
  have he : exec (.registerWrite path a v) s = .next (({ s with flagged := false } : State).burstWrite path a a v) :=
    congrArg _ (if_pos h4)
  rw [State.burstWrite, if_pos ⟨hm, le_blockEnd h4 hm⟩,
    State.writeReg_eq_writeFields (s := { s with flagged := false }) hr hc hq h] at he
  exact ⟨_, he, hf, hk.1, hk.2⟩
end

section
/-! Refused register writes (R56, R435, R560, R585, R586): what an access flag changes, and which flag each refusal sets. -/

namespace Sys2Proof.Machine

variable {s : State} {path a b : Nat} {v : Word}

/-! The access flag. -/

/-- The first flag while GLB_ACCESS_STATUS reads 0 records the address and the path of the access (R586). -/
def State.recordAccess (s : State) (path a : Nat) : State :=
  if s.reg GLB_ACCESS_STATUS = 0 then
    (s.setReg GLB_ACCESS_ADDR (BitVec.ofNat 32 a)).setReg GLB_ACCESS_SRC
      (BitVec.ofNat 32 (if path = svcPath then path else path % 1024))
  else s

/-- The answer of an access says that it set a flag. -/
def State.withFlag (s : State) : State := { s with flagged := true }

/-- The service port notes a flag in its status word (R572). -/
def State.noteAccess (s : State) (path b : Nat) : State := if path = svcPath then s.setBitAt SVC_STATUS (16 + b) true else s

/-- The flag of an access by a micro-sequencer is its ACCESS event (R435). -/
theorem State.accessFlag_msq (h : 0x401 ≤ path) (h' : path < 0x412) :
    s.accessFlag path a b = s.withFlag.setBitAt (MSQ_EVENTS (path - 0x401)) 3 true :=
  if_pos ⟨h, h'⟩

/-- The flag of an access by an endpoint or the service port (R572, R585, R586). -/
theorem State.accessFlag_host (h : path ≤ 0x400) : s.accessFlag path a b =
    ((s.withFlag.recordAccess path a).setBitAt GLB_ACCESS_STATUS b true).noteAccess path b := by
  refine (if_neg (c := 0x401 ≤ path ∧ path < 0x412) (by omega)).trans ?_
  by_cases h0 : s.reg GLB_ACCESS_STATUS = 0
  · rw [State.recordAccess, if_pos (show s.withFlag.reg GLB_ACCESS_STATUS = 0 from h0), if_pos h0]
    rfl
  · rw [State.recordAccess, if_neg (show ¬ s.withFlag.reg GLB_ACCESS_STATUS = 0 from h0), if_neg h0]
    rfl

theorem State.onlyRegs_recordAccess : s.OnlyRegs (s.recordAccess path a) [GLB_ACCESS_ADDR, GLB_ACCESS_SRC] :=
  State.onlyRegs_ite ((s.onlyRegs_setReg _ _ _ (by simp)).trans (State.onlyRegs_setReg _ _ _ _ (by simp)))
    (State.OnlyRegs.refl s _)

theorem State.onlyRegs_noteAccess : s.OnlyRegs (s.noteAccess path b) [SVC_STATUS] :=
  State.onlyRegs_ite (s.onlyRegs_setBitAt _ _ _ _ (by simp)) (State.OnlyRegs.refl s _)

theorem State.reg_recordAccess_of_zero (h : s.reg GLB_ACCESS_STATUS = 0) :
    (s.recordAccess path a).reg GLB_ACCESS_ADDR = BitVec.ofNat 32 a ∧
    (s.recordAccess path a).reg GLB_ACCESS_SRC = BitVec.ofNat 32 (if path = svcPath then path else path % 1024) := by
  have hne : GLB_ACCESS_ADDR ≠ GLB_ACCESS_SRC := by decide
  simp [State.recordAccess, h, State.reg_setReg, hne]

theorem State.recordAccess_of_nonzero (h : s.reg GLB_ACCESS_STATUS ≠ 0) : s.recordAccess path a = s := if_neg h

/-- What the flag of an access by a micro-sequencer changes. -/
theorem State.accessFlag_msq_frame (h : 0x401 ≤ path) (h' : path < 0x412) : let t := s.accessFlag path a b
    t.bitAt (MSQ_EVENTS (path - 0x401)) 3 = true ∧ t = { s with regs := t.regs, flagged := true } ∧
    s.RegsKept t [MSQ_EVENTS (path - 0x401)] := by
  rw [State.accessFlag_msq h h']
  exact ⟨by simp [State.bitAt_setBitAt],
    s.withFlag.onlyRegs_setBitAt (MSQ_EVENTS (path - 0x401)) 3 true [_] List.mem_cons_self⟩

/-- What the flag of an access by an endpoint or the service port changes. -/
theorem State.accessFlag_host_frame (h : path ≤ 0x400) : let t := s.accessFlag path a b
    t = { s with regs := t.regs, flagged := true } ∧ s.RegsKept t (accessRegs path) := by
  have hl : accessRegs path = [GLB_ACCESS_STATUS, GLB_ACCESS_ADDR, GLB_ACCESS_SRC, SVC_STATUS] :=
    if_neg (c := 0x401 ≤ path ∧ path < 0x412) (by omega)
  have hr := (s.withFlag.onlyRegs_recordAccess (path := path) (a := a)).mono (m := accessRegs path) (by simp [hl])
  have hb := (s.withFlag.recordAccess path a).onlyRegs_setBitAt GLB_ACCESS_STATUS b true (accessRegs path) (by simp [hl])
  have hn := (State.onlyRegs_noteAccess (s := (s.withFlag.recordAccess path a).setBitAt GLB_ACCESS_STATUS b true) (path := path)
    (b := b)).mono (m := accessRegs path) (by simp [hl])
  rw [State.accessFlag_host h]
  exact (hr.trans hb).trans hn

/-- The registers that record an access through a flag, and the flag (R572, R586). -/
theorem State.accessFlag_host_regs (h : path ≤ 0x400) (hb : b < 3) : let t := s.accessFlag path a b
    t.fld GLB_ACCESS_STATUS b b = 1 ∧ (path = 0x400 → t.bitAt SVC_STATUS (16 + b) = true) ∧
    t.reg GLB_ACCESS_ADDR = (s.withFlag.recordAccess path a).reg GLB_ACCESS_ADDR ∧
    t.reg GLB_ACCESS_SRC = (s.withFlag.recordAccess path a).reg GLB_ACCESS_SRC := by
  have hne : GLB_ACCESS_STATUS ∉ [SVC_STATUS] ∧ GLB_ACCESS_ADDR ∉ [SVC_STATUS] ∧ GLB_ACCESS_SRC ∉ [SVC_STATUS] ∧
      GLB_ACCESS_ADDR ≠ GLB_ACCESS_STATUS ∧ GLB_ACCESS_SRC ≠ GLB_ACCESS_STATUS := by decide
  obtain ⟨hstatus, haddr, hsrc, ha, hs⟩ := hne
  rw [State.accessFlag_host h]
  generalize s.withFlag.recordAccess path a = u
  have hn := (u.setBitAt GLB_ACCESS_STATUS b true).onlyRegs_noteAccess (path := path) (b := b)
  refine ⟨?_, fun hp => ?_, (hn.2 _ haddr).trans (u.reg_setBitAt_ne _ _ ha), (hn.2 _ hsrc).trans (u.reg_setBitAt_ne _ _ hs)⟩
  · rw [State.fld, hn.2 _ hstatus]
    exact (State.fld_setFld_same _ _ _ _ _ le_rfl (by omega)).trans (by simp)
  · rw [State.noteAccess, if_pos (c := path = svcPath) hp, State.bitAt_setBitAt _ _ _ _ _ _ (by omega), if_pos ⟨rfl, rfl⟩]

/-! Writes that are refused. -/

/-- A word write of a mapped register is the write of its register. -/
theorem exec_registerWrite_mapped (h4 : a % 4 = 0) (hm : mapped a = true) :
    exec (.registerWrite path a v) s = .next (({ s with flagged := false } : State).writeReg path a v) :=
  (congrArg _ (if_pos h4)).trans (congrArg _ (if_pos ⟨hm, le_blockEnd h4 hm⟩))

/-- A write of an address that no block holds is discarded and sets PAST_END (R584). -/
theorem exec_registerWrite_unmapped (h4 : a % 4 = 0) (hm : mapped a = false) (hl : path = svcPath → s.svcLocked = false) :
    exec (.registerWrite path a v) s = .next (({ s with flagged := false } : State).accessFlag path a 2) := by
  refine (congrArg _ (if_pos h4)).trans (congrArg _ ((if_neg (by simp [hm])).trans (if_neg fun h => ?_)))
  rw [show s.svcLocked = true from h.2] at hl
  exact absurd (hl h.1) (by decide)

/-- A register write through a locked service port is discarded and sets LOCKED (R560). -/
theorem State.writeReg_svcLocked (hp : path = svcPath) (hl : s.svcLocked = true) : s.writeReg path a v = s.accessFlag path a 1 :=
  if_pos ⟨hp, hl⟩

/-- A register write to an island that is not ON is discarded and sets RANGE (R536). -/
theorem State.writeReg_asleep (hs : s.asleepAt a = true) (hl : path = svcPath → s.svcLocked = false) :
    s.writeReg path a v = s.accessFlag path a 0 :=
  (if_neg fun h => by simp [hl h.1] at h).trans (if_pos (.inl hs))

/-- A write that sets a bit that has to be 0 keeps the register and sets RANGE (R346, R575). -/
theorem State.writeFields_strict {r : Row} (hr : regAt a = some r) (hs : strictHigh a = true) (hv : v &&& ~~~ r.readMask ≠ 0) :
    s.writeFields path a v = s.accessFlag path a 0 := by
  rw [State.writeFields, hr]
  exact if_pos ⟨hs, hv⟩

/-- The write of a register with one field is the write of the field. -/
theorem State.writeFields_single {r : Row} {f : Fld} (hr : regAt a = some r) (hf : r.flds = [f])
    (hs : strictHigh a = true → v &&& ~~~ r.readMask = 0) : s.writeFields path a v = s.writeField path a v f := by
  rw [State.writeFields, hr]
  refine (if_neg fun h => h.2 (hs h.1)).trans ?_
  rw [hf, State.forEach_cons, State.forEach_nil]

/-- A code outside the legal ones keeps the field and sets RANGE (R585). -/
theorem State.writeField_range {f : Fld} (ha : f.acc = .rw ∨ (f.acc = .rwl ∧ s.cfg.locked = false))
    (hw : within f.min f.max (v.field f.hi f.lo) = false) : s.writeField path a v f = s.accessFlag path a 0 := by
  rcases ha with ha | ⟨ha, hl⟩
  · simp [State.writeField, ha, hw, State.rangeFlag]
  · simp [State.writeField, ha, hl, hw, State.rangeFlag]

/-- Another value for a locked field keeps it and sets LOCKED (R56). -/
theorem State.writeField_locked {f : Fld} (ha : f.acc = .rwl) (hl : s.cfg.locked = true)
    (hv : v.field f.hi f.lo ≠ s.fld a f.hi f.lo) : s.writeField path a v f = s.accessFlag path a 1 := by
  simp [State.writeField, ha, hl, hv]

/-- A write that reaches a register that is no command is the write of its fields. -/
theorem exec_registerWrite_fields {r : Row} (hr : regAt a = some r) (hc : commandReg a = false) (hq : closedAt s a = false)
    (h4 : a % 4 = 0) (h : s.reaches path a = true) :
    exec (.registerWrite path a v) s = .next (({ s with flagged := false } : State).writeFields path a v) := by
  rw [exec_registerWrite_mapped h4 (mapped_of_regAt hr),
    State.writeReg_eq_writeFields (s := { s with flagged := false }) hr hc hq h]

end Sys2Proof.Machine

open Sys2Proof Sys2Proof.Machine

/-- Settles O6: each refusal ends in `State.accessFlag`, of which the last two clauses say what it changes. -/
theorem refusedRegisterWriteKeepsTheField : Obligations.RefusedRegisterWriteKeepsTheField := by
  unfold Obligations.RefusedRegisterWriteKeepsTheField
  intro path a v s h4
  refine ⟨fun r hr hc hq h hs hv => ?_, fun r f hr hf hc hs hq h => ?_, fun hm hl => exec_registerWrite_unmapped h4 hm hl,
    fun hm _ has hl => ?_, fun hm _ hp hl => ?_, fun b _ hlo hhi => State.accessFlag_msq_frame hlo hhi, fun b hb hp => ?_⟩
  · rw [exec_registerWrite_fields hr hc hq h4 h, State.writeFields_strict hr hs hv]
  · rw [exec_registerWrite_fields hr hc hq h4 h, State.writeFields_single hr hf hs]
    exact ⟨fun ⟨ha, hw⟩ => congrArg _ (State.writeField_range ha hw),
      fun ⟨ha, hl, hv⟩ => congrArg _ (State.writeField_locked ha hl hv)⟩
  · rw [exec_registerWrite_mapped h4 hm, State.writeReg_asleep (s := { s with flagged := false }) has hl]
  · rw [exec_registerWrite_mapped h4 hm, State.writeReg_svcLocked (s := { s with flagged := false }) hp hl]
  · obtain ⟨hf, hsvc, haddr, hsrc⟩ := State.accessFlag_host_regs (s := s) (a := a) hp hb
    refine ⟨hf, hsvc, fun h0 => ?_, fun h0 => ?_, State.accessFlag_host_frame hp⟩
    · rw [haddr, hsrc]
      obtain ⟨ha, hs⟩ := State.reg_recordAccess_of_zero (s := s.withFlag) (path := path) (a := a) h0
      exact ⟨ha, hs.trans (by by_cases h : path = 0x400 <;> simp [h, svcPath])⟩
    · rw [haddr, hsrc, State.recordAccess_of_nonzero (s := s.withFlag) h0]
      exact ⟨rfl, rfl⟩
end

section
/-! Host writes to the store (R38, R228, R507): which bytes they keep, and that nothing else on their way touches the store, the
configuration manager or the registers of its block. -/

namespace Sys2Proof.Machine

/-! What leaves the configuration manager and the store alone. -/

/-- `t` holds the configuration manager, the registers of its block and the store as `s` does. -/
structure State.CfgKept (s t : State) : Prop where
  cfg : t.cfg = s.cfg
  regs : ∀ a, 0x20000 ≤ a → a < 0x30000 → t.reg a = s.reg a
  store : t.store = s.store

namespace State
variable {s t u : State}

theorem CfgKept.refl (s : State) : s.CfgKept s := ⟨rfl, fun _ _ _ => rfl, rfl⟩
theorem CfgKept.trans (h : s.CfgKept t) (h' : t.CfgKept u) : s.CfgKept u :=
  ⟨h'.cfg.trans h.cfg, fun a ha hb => (h'.regs a ha hb).trans (h.regs a ha hb), h'.store.trans h.store⟩
/-- An update of other parts of the state. -/
theorem CfgKept.other (h : s.CfgKept t) (hc : u.cfg = t.cfg) (hr : u.regs = t.regs) (hs : u.store = t.store) : s.CfgKept u :=
  h.trans ⟨hc, fun a _ _ => congrArg (fun m => Map.get regDefault m a) hr, hs⟩
theorem CfgKept.byte (h : s.CfgKept t) (b : Nat) : t.byte b = s.byte b := congrArg (fun m => Map.get byteDefault m b) h.store
theorem CfgKept.shadowState (h : s.CfgKept t) : t.shadowState = s.shadowState :=
  congrArg (fun w : Word => w.field 2 0) (h.regs CFG_SHADOW_STATE (by decide) (by decide))
theorem CfgKept.setReg {a : Nat} {v : Word} (ha : 0x30000 ≤ a) (h : s.CfgKept t) : s.CfgKept (t.setReg a v) :=
  h.trans ⟨rfl, fun b _ hb => t.reg_setReg_ne v (by omega), rfl⟩
theorem CfgKept.ite {c : Prop} [Decidable c] (ht : s.CfgKept t) (hu : s.CfgKept u) : s.CfgKept (if c then t else u) := by
  split <;> assumption

theorem CfgKept.emptySeg {n : Nat} (h : s.CfgKept t) : s.CfgKept (t.emptySeg n) := by
  obtain ⟨hinfo, hcount, hlo, hhi⟩ : 0x30000 ≤ SEG_D_INFO n ∧ 0x30000 ≤ SEG_D_VCOUNT n ∧ 0x30000 ≤ SEG_D_BASE_LO n ∧
      0x30000 ≤ SEG_D_BASE_HI n := by
    simp only [SEG_D_INFO, SEG_D_VCOUNT, SEG_D_BASE_LO, SEG_D_BASE_HI]
    omega
  exact ((((h.setReg hinfo).setReg hcount).setReg hlo).setReg hhi).other rfl rfl rfl
theorem CfgKept.touchSeg {a len n : Nat} (h : s.CfgKept t) : s.CfgKept (t.touchSeg a len n) := by
  unfold State.touchSeg
  refine .ite (h.emptySeg.setReg (by decide)) ?_
  split
  · exact h.other rfl rfl rfl
  · exact h

theorem CfgKept.enqueue {p vc : Nat} {fs : List Flit} (h : s.CfgKept t) : s.CfgKept (t.enqueue p vc fs) :=
  .ite (h.other rfl rfl rfl) (h.other rfl rfl rfl)
theorem CfgKept.noRoute {n : Nat} (h : s.CfgKept t) : s.CfgKept (t.noRoute n) := (h.setReg (by decide)).setReg (by decide)
theorem CfgKept.setMseq {dest vc n : Nat} {start : Bool} (h : s.CfgKept t) : s.CfgKept (t.setMseq dest vc n start) :=
  h.other rfl rfl rfl
theorem CfgKept.send {dest vc op status tag arg addr : Nat} {body : List Byte} {pois : Nat → Bool} (h : s.CfgKept t) :
    s.CfgKept (t.send dest vc op status tag arg addr body pois) := by
  unfold State.send
  refine .ite (h.other rfl rfl rfl) ?_
  split
  · exact h.enqueue.setMseq
  · exact h.noRoute.setMseq
theorem CfgKept.reply {m : Msg} {op status arg : Nat} {body : List Byte} {pois : Nat → Bool} (h : s.CfgKept t) :
    s.CfgKept (t.reply m op status arg body pois) :=
  .ite h.enqueue.setMseq (.ite h.send h)

/-- The release of flits changes the port that they came in on. -/
theorem releaseFlits_eq (s : State) (p vc n : Nat) : ∃ ports, s.releaseFlits p vc n = { s with ports := ports } := by
  unfold State.releaseFlits
  split
  · exact ⟨s.ports, rfl⟩
  · dsimp only
    split
    · exact ⟨_, rfl⟩
    · exact ⟨_, rfl⟩
/-- A message that has been served leaves the inbox, and its flits are released. -/
theorem consume_eq (s : State) (m : Msg) :
    ∃ ports inbox, s.consume m = { s with ports := ports, net := { s.net with inbox := inbox } } := by
  unfold State.consume
  split
  · obtain ⟨ports, h⟩ := State.releaseFlits_eq { s with net := { s.net with inbox := s.net.inbox.erase m } } m.port m.vc
      (msgLen m)
    exact ⟨ports, _, h⟩
  · exact ⟨s.ports, s.net.inbox, rfl⟩
end State

/-! Runs of kept bytes. -/

variable {keep : Nat → Bool}

/-- A run of kept bytes: each of its bytes is to be kept and stands in the body at its place. -/
def RunOf (keep : Nat → Bool) (a : Nat) (body : List Byte) (r : Nat × List Byte) : Prop :=
  a ≤ r.1 ∧ ∀ j (h : j < r.2.length), keep (r.1 + j) = true ∧ body[r.1 + j - a]? = some r.2[j]

/-- The run covers the byte. -/
def RunHas (r : Nat × List Byte) (x : Nat) : Prop := r.1 ≤ x ∧ x < r.1 + r.2.length

theorem RunOf.later {a : Nat} {b : Byte} {bs : List Byte} {r : Nat × List Byte} (h : RunOf keep (a + 1) bs r) :
    RunOf keep a (b :: bs) r := by
  obtain ⟨hle, hr⟩ := h
  refine ⟨by omega, fun j hj => ⟨(hr j hj).1, ?_⟩⟩
  rw [show r.1 + j - a = r.1 + j - (a + 1) + 1 by omega, List.getElem?_cons_succ]
  exact (hr j hj).2

/-- A kept byte in front of a run of the bytes behind it. -/
theorem RunOf.cons {a : Nat} {b : Byte} {bs l : List Byte} (hk : keep a = true) (h : RunOf keep (a + 1) bs (a + 1, l)) :
    RunOf keep a (b :: bs) (a, b :: l) := by
  refine ⟨le_rfl, fun j hj => ?_⟩
  cases j with
  | zero => simpa using hk
  | succ j =>
    have := h.2 j (by simpa using hj)
    simpa [show a + 1 + j = a + (j + 1) by omega, show a + (j + 1) - (a + 1) = j by omega,
      show a + (j + 1) - a = j + 1 by omega] using this

theorem RunOf.single {a : Nat} {b : Byte} {bs : List Byte} (hk : keep a = true) : RunOf keep a (b :: bs) (a, [b]) :=
  ⟨le_rfl, fun j hj => by
    obtain rfl : j = 0 := by simpa using hj
    simpa using hk⟩

/-- A kept byte goes to the front of the run that begins behind it, or stands as a run of its own. -/
theorem keptRuns_cons {a : Nat} (b : Byte) (bs : List Byte) (hk : keep a = true) :
    (∃ l t, keptRuns keep (a + 1) bs = (a + 1, l) :: t ∧ keptRuns keep a (b :: bs) = (a, b :: l) :: t) ∨
    keptRuns keep a (b :: bs) = (a, [b]) :: keptRuns keep (a + 1) bs := by
  rw [keptRuns, if_pos hk]
  cases keptRuns keep (a + 1) bs with
  | nil => exact .inr rfl
  | cons r t =>
    obtain ⟨c, l⟩ := r
    by_cases hc : c = a + 1
    · exact .inl ⟨l, t, by rw [hc], if_pos hc⟩
    · exact .inr (if_neg hc)

/-- The runs hold bytes that are to be kept, each at its place. -/
theorem keptRuns_runs (body : List Byte) : ∀ a, ∀ r ∈ keptRuns keep a body, RunOf keep a body r := by
  induction body with
  | nil => intro a r hr; exact absurd hr List.not_mem_nil
  | cons b bs ih =>
    intro a
    by_cases hk : keep a = true
    · rcases keptRuns_cons b bs hk with ⟨l, t, he, he'⟩ | he'
      · have ih' := ih (a + 1)
        rw [he] at ih'
        rw [he', List.forall_mem_cons]
        exact ⟨(ih' _ List.mem_cons_self).cons hk, fun r hr => (ih' r (List.mem_cons_of_mem _ hr)).later⟩
      · rw [he', List.forall_mem_cons]
        exact ⟨RunOf.single hk, fun r hr => (ih (a + 1) r hr).later⟩
    · rw [keptRuns, if_neg hk]
      exact fun r hr => (ih (a + 1) r hr).later

/-- Every byte of the body that is to be kept lies in a run. -/
theorem keptRuns_cover (body : List Byte) : ∀ a i, i < body.length → keep (a + i) = true →
    ∃ r ∈ keptRuns keep a body, RunHas r (a + i) := by
  induction body with
  | nil => intro a i h; exact absurd h (Nat.not_lt_zero i)
  | cons b bs ih =>
    intro a i hi hx
    cases i with
    | zero =>
      rcases keptRuns_cons b bs hx with ⟨l, t, -, he⟩ | he
      · exact ⟨_, he ▸ List.mem_cons_self, by simp [RunHas]⟩
      · exact ⟨_, he ▸ List.mem_cons_self, by simp [RunHas]⟩
    | succ i =>
      have hi' : i < bs.length := by simpa using hi
      obtain ⟨r, hr, h⟩ := ih (a + 1) i hi' (by rwa [show a + 1 + i = a + (i + 1) by omega])
      rw [show a + 1 + i = a + (i + 1) by omega] at h
      by_cases hk : keep a = true
      · rcases keptRuns_cons b bs hk with ⟨l, t, he, he'⟩ | he'
        · rw [he']
          rcases List.mem_cons.1 (he ▸ hr) with rfl | hr
          · simp only [RunHas] at h
            exact ⟨_, List.mem_cons_self, by simp only [RunHas, List.length_cons]; omega⟩
          · exact ⟨r, List.mem_cons_of_mem _ hr, h⟩
        · exact ⟨r, he' ▸ List.mem_cons_of_mem _ hr, h⟩
      · rw [keptRuns, if_neg hk]
        exact ⟨r, hr, h⟩

/-! The write of the runs. -/

variable {s : State}

/-- A run of a host write is stored, with poison tags where the message carries poison. -/
def State.storeRun (poison : Bool) (s : State) (r : Nat × List Byte) : State :=
  let t := s.writeBytes r.1 r.2
  if poison then t.addPoison r.1 r.2.length else t

theorem State.storeRun_eq (poison : Bool) (r : Nat × List Byte) :
    ∃ tags, s.storeRun poison r = { s.writeBytes r.1 r.2 with poison := tags } := by
  unfold State.storeRun
  dsimp only
  split
  · exact ⟨_, rfl⟩
  · exact ⟨_, rfl⟩
theorem State.byte_storeRun (poison : Bool) (r : Nat × List Byte) (x : Nat) :
    (s.storeRun poison r).byte x = (s.writeBytes r.1 r.2).byte x := by
  obtain ⟨tags, h⟩ := s.storeRun_eq poison r
  rw [h]
  rfl

/-- A byte that no run covers stays. -/
theorem State.byte_storeRuns_out {poison : Bool} {rs : List (Nat × List Byte)} {x : Nat} (h : ∀ r ∈ rs, ¬ RunHas r x) :
    (s.forEach rs (State.storeRun poison)).byte x = s.byte x := by
  refine State.forEach_same (fun t => t.byte x) rs _ (fun t r hr => ?_) s
  have := h r hr
  unfold RunHas at this
  exact (t.byte_storeRun poison r x).trans (t.byte_writeBytes_out _ _ _ (by omega))

/-- A byte to which every run that covers it gives one value, where some run covers it. -/
theorem State.byte_storeRuns_in {poison : Bool} {rs : List (Nat × List Byte)} {x : Nat} {v : Byte}
    (h : ∀ r ∈ rs, RunHas r x → r.2[x - r.1]? = some v) (hx : ∃ r ∈ rs, RunHas r x) :
    (s.forEach rs (State.storeRun poison)).byte x = v := by
  have hput (t : State) (r : Nat × List Byte) (hr : r ∈ rs) (hc : RunHas r x) : (t.storeRun poison r).byte x = v := by
    obtain ⟨hl, hv⟩ := List.getElem?_eq_some_iff.1 (h r hr hc)
    have := t.byte_writeBytes_in r.1 (x - r.1) r.2 hl
    rw [show r.1 + (x - r.1) = x by have := hc.1; omega] at this
    rw [t.byte_storeRun, this, hv]
  obtain ⟨r, hr, hc⟩ := hx
  obtain ⟨as, bs, rfl⟩ := List.append_of_mem hr
  rw [State.forEach_append, State.forEach_cons]
  refine State.forEach_keeps (fun t => t.byte x = v) bs _ (fun t q hq ht => ?_) _ (hput _ r hr hc)
  by_cases hcq : RunHas q x
  · exact hput t q (by simp [hq]) hcq
  · unfold RunHas at hcq
    rw [t.byte_storeRun, t.byte_writeBytes_out _ _ _ (by omega), ht]

/-- What the kept bytes of a host write leave in a byte of the store. -/
theorem State.byte_keptRuns (poison : Bool) (a : Nat) (body : List Byte) :
    (∀ x, keep x = false → (s.forEach (keptRuns keep a body) (State.storeRun poison)).byte x = s.byte x) ∧
    ∀ i (h : i < body.length), keep (a + i) = true →
      (s.forEach (keptRuns keep a body) (State.storeRun poison)).byte (a + i) = body[i] := by
  have hplace : ∀ r ∈ keptRuns keep a body, ∀ x, RunHas r x →
      keep x = true ∧ a ≤ x ∧ r.2[x - r.1]? = body[x - a]? := by
    intro r hr x ⟨hlo, hhi⟩
    obtain ⟨hle, h⟩ := keptRuns_runs body a r hr
    have hj : x - r.1 < r.2.length := by omega
    obtain ⟨hk, hb⟩ := h (x - r.1) hj
    rw [show r.1 + (x - r.1) = x by omega] at hk hb
    exact ⟨hk, by omega, by rw [hb, List.getElem?_eq_getElem hj]⟩
  refine ⟨fun x hx => State.byte_storeRuns_out fun r hr hc => ?_,
    fun i hi hk => State.byte_storeRuns_in (fun r hr hc => ?_) ?_⟩
  · exact absurd (hplace r hr x hc).1 (by simp [hx])
  · rw [(hplace r hr _ hc).2.2, Nat.add_sub_cancel_left]
    exact List.getElem?_eq_getElem hi
  · exact keptRuns_cover body a i hi hk

/-- Storing runs changes the store and its poison tags only. -/
theorem State.storeRuns_eq (poison : Bool) (rs : List (Nat × List Byte)) (s : State) :
    ∃ store tags, s.forEach rs (State.storeRun poison) = { s with store := store, poison := tags } := by
  refine State.forEach_keeps (fun t => ∃ store tags, t = { s with store := store, poison := tags }) rs _ ?_ s
    ⟨s.store, s.poison, rfl⟩
  rintro t r - ⟨store, tags, rfl⟩
  obtain ⟨tags', h⟩ := State.storeRun_eq (s := { s with store := store, poison := tags }) poison r
  rw [h, State.writeBytes_eq]
  exact ⟨_, _, rfl⟩

/-! The host's write. -/

/-- The bytes of a host write of `n` bytes from `a` that are stored (R38, R228, R507). -/
def State.hostKeeps (s : State) (a n x : Nat) : Bool :=
  !(!inStaging x && (s.fixedDrop x || ((s.segsIn a n).filter s.segDrops).any (fun m => s.segOverlaps m x 1))) &&
  !(s.shadowState == 1 && inStaging x)
/-- A host write counts as dropped from the staging window (R38). -/
def State.stageCount (s : State) (a n : Nat) : State :=
  if ((List.range n).map (fun i => a + i)).any (fun x => s.shadowState == 1 && inStaging x) then s.incSat CFG_STAGE_DROPS else s

theorem State.onlyRegs_stageCount (a n : Nat) : s.OnlyRegs (s.stageCount a n) [CFG_STAGE_DROPS] :=
  State.onlyRegs_ite (s.onlyRegs_incSat _ _ (by simp)) (State.OnlyRegs.refl s _)
/-- While VERIFYING a write that touches the window counts. -/
theorem State.stageCount_of_verifying {a n i : Nat} (h : s.shadowState = 1) (hi : i < n) (hin : inStaging (a + i) = true) :
    s.stageCount a n = s.incSat CFG_STAGE_DROPS :=
  if_pos (List.any_eq_true.2 ⟨a + i, List.mem_map.2 ⟨i, List.mem_range.2 hi, rfl⟩, by simp [h, hin]⟩)
/-- In every other shadow state nothing counts. -/
theorem State.stageCount_of_not_verifying {a n : Nat} (h : s.shadowState ≠ 1) : s.stageCount a n = s := by
  simp [State.stageCount, h]

/-- A byte of the staging window is stored unless the shadow set is VERIFYING. -/
theorem State.hostKeeps_staging {a n x : Nat} (h : inStaging x = true) : s.hostKeeps a n x = !(s.shadowState == 1) := by
  simp [State.hostKeeps, h]

/-- A host write counts its drops, acts on segments, and stores its kept bytes. -/
theorem State.hostWrite_eq (a : Nat) (body : List Byte) (poison : Bool) :
    ∃ u, (s.stageCount a body.length).CfgKept u ∧
      (s.hostWrite a body poison).1 = u.forEach (keptRuns (s.hostKeeps a body.length) a body) (State.storeRun poison) := by
  refine ⟨_, ?_, rfl⟩
  refine State.forEach_keeps _ _ _ (fun t n _ ht => ht.touchSeg) _ ?_
  exact .ite (.refl _) (((State.CfgKept.refl _).setReg (by decide)).setReg (by decide))

/-- What a host write leaves of the configuration manager, and of the bytes of the staging window. -/
theorem State.hostWrite_staging (a : Nat) (body : List Byte) (poison : Bool) : let t := (s.hostWrite a body poison).1
    t.cfg = s.cfg ∧ (∀ b, 0x20000 ≤ b → b < 0x30000 → t.reg b = (s.stageCount a body.length).reg b) ∧
    (s.shadowState = 1 → ∀ b, inStaging b = true → t.byte b = s.byte b) ∧
    (s.shadowState ≠ 1 → ∀ i (h : i < body.length), inStaging (a + i) = true → t.byte (a + i) = body[i]) := by
  obtain ⟨u, hu, he⟩ := s.hostWrite_eq a body poison
  obtain ⟨store, tags, hr⟩ := State.storeRuns_eq poison (keptRuns (s.hostKeeps a body.length) a body) u
  obtain ⟨hout, hin⟩ := u.byte_keptRuns (keep := s.hostKeeps a body.length) poison a body
  have hcfg : (s.stageCount a body.length).cfg = s.cfg := by rw [(s.onlyRegs_stageCount _ _).1]
  have hbyte (b : Nat) : (s.stageCount a body.length).byte b = s.byte b := by rw [(s.onlyRegs_stageCount _ _).1]; rfl
  intro t
  have ht : t = _ := he
  refine ⟨?_, fun b h h' => ?_, fun hs b hb => ?_, fun hs i hi hb => ?_⟩
  · rw [ht, hr]
    exact hu.cfg.trans hcfg
  · rw [ht, hr]
    exact hu.regs b h h'
  · rw [ht, hout b (by simp [State.hostKeeps_staging hb, hs]), hu.byte, hbyte]
  · rw [ht, hin i hi (by simp [State.hostKeeps_staging hb, hs])]

/-- A store write that the device serves, whose form is legal and whose sender has the right, is a host write with an answer. -/
theorem exec_storeWr {m : Msg} (hs : s.storeServed = true) (hm : msgIs m 3 0x30 = true) (ha : m.arg = 0) (hb : m.body ≠ [])
    (hl : m.body.length ≤ 4096) (he : m.addr + m.body.length ≤ storeEnd) (hr : s.rightOf m.src 4 = true) :
    exec (.storeWr m) s = .next (((s.consume m).hostWrite m.addr m.body m.poison).1.reply m 0xB0 0
      (if ((s.consume m).hostWrite m.addr m.body m.poison).2 then 1 else 0) [] clean) := by
  have hr' : (s.consume m).rightOf m.src 4 = true := by
    obtain ⟨ports, inbox, h⟩ := s.consume_eq m
    rw [h]
    exact hr
  refine congrArg _ ((if_pos hs).trans ((if_neg ?_).trans (if_neg ?_)))
  · simp [hm, ha, hb, hl, he]
  · simp [hr']

end Sys2Proof.Machine

open Sys2Proof Sys2Proof.Machine

/-- Settles O40: of a served write the bytes in the window are stored as `State.hostWrite_staging` says, and neither taking the
message nor its answer touches what the statement names. -/
theorem stagingWindowWrites : Obligations.StagingWindowWrites := by
  unfold Obligations.StagingWindowWrites
  intro m s hs hm ha hb hl he hr
  obtain ⟨ports, inbox, hc⟩ := s.consume_eq m
  have hx := exec_storeWr hs hm ha hb hl he hr
  rw [hc] at hx
  generalize hu : ({ s with ports := ports, net := { s.net with inbox := inbox } } : State) = u at hx
  have hst : u.shadowState = s.shadowState := by rw [← hu]; rfl
  have hreg (a : Nat) : u.reg a = s.reg a := by rw [← hu]; rfl
  have hbyte (a : Nat) : u.byte a = s.byte a := by rw [← hu]; rfl
  obtain ⟨hcfg, hregs, hdrop, hstore⟩ := u.hostWrite_staging m.addr m.body m.poison
  have hk := (State.CfgKept.refl (u.hostWrite m.addr m.body m.poison).1).reply (m := m) (op := 0xB0) (status := 0)
    (arg := if (u.hostWrite m.addr m.body m.poison).2 then 1 else 0) (body := []) (pois := clean)
  have hr (a : Nat) (h : 0x20000 ≤ a) (h' : a < 0x30000) := (hk.regs a h h').trans (hregs a h h')
  rw [← hst]
  refine ⟨_, hx, ?_, ?_, fun h1 => ⟨fun b hb => ?_, fun ⟨i, hi, hin⟩ => ?_⟩, fun h1 => ⟨?_, fun i hi hin => ?_⟩⟩
  · rw [hk.cfg, hcfg, ← hu]
  · rw [hr _ (by decide) (by decide), (u.onlyRegs_stageCount _ _).2 _ (by decide), hreg]
  · rw [hk.byte, hdrop h1 b hb, hbyte]
  · rw [hr _ (by decide) (by decide), State.stageCount_of_verifying h1 hi hin, State.toNat_reg_incSat, hreg]
  · rw [hr _ (by decide) (by decide), State.stageCount_of_not_verifying h1, hreg]
  · rw [hk.byte, hstore h1 i hi hin]
end

section
/-! Completion records of closed queues (R51, R98, R512): the copy that NOTIFY asks for is a message, and one without a route is
counted. -/

namespace Sys2Proof.Machine

/-- An operation of queue 1 that has ended. -/
def endedOp : Op := { (default : Op) with asn := 1, queue := 1, seq := 1, phase := .ended }
/-- A chip without a number, a route or an active set, on which that operation stands and whose queue 1 has NOTIFY set for
endpoint 0. -/
def notifyUnrouted : State :=
  let s : State := { State.reset with ops := [endedOp], aon := { State.reset.aon with resetting := 0 } }
  (s.setReg (WQ_NOTIFY_EP 1) 0x8000).setReg (WQ_IRQ_EN 1) 0x100

/-- On a closed queue the record of an ended operation that nothing keeps back is held. -/
theorem exec_completionRecordWrite_held {a : Asn} {s : State} {o : Op} (ho : s.op? a = some o) (hf : s.recordsFlow = true)
    (hp : o.phase = .ended) (hb : s.endedBefore o = false) (hl : o.lost = false) (hq : s.queueRec o.queue = none) :
    exec (.completionRecordWrite a) s = .next (s.holdRecord o) := by
  show execCompletionRecordWrite a s = _
  simp [execCompletionRecordWrite, State.deliver, ho, hf, hp, hb, hl, hq]

/-- The copy of the held record finds no route and is counted. -/
theorem holdRecord_counts_drop :
    (notifyUnrouted.holdRecord endedOp).reg APL_DROPS = 1 ∧ notifyUnrouted.reg APL_DROPS = 0 := by decide +kernel

end Sys2Proof.Machine

open Sys2Proof Sys2Proof.Machine

/-- Refutes O13: where a closed queue holds the record it asks that every register stays, but with NOTIFY set a copy of the record
leaves, and on a chip that has no route to the endpoint to be notified the copy is discarded and counted in APL_DROPS. -/
theorem not_completionRecordIsWritten : ¬ Obligations.CompletionRecordIsWritten := by
  unfold Obligations.CompletionRecordIsWritten
  intro h
  have hop : notifyUnrouted.op? 1 = some endedOp := by decide +kernel
  have hflow : notifyUnrouted.recordsFlow = true := by decide +kernel
  have hfirst : notifyUnrouted.endedBefore endedOp = false := by decide +kernel
  obtain ⟨-, hdue⟩ := h.1 1 notifyUnrouted endedOp hop
  obtain ⟨-, hclosed⟩ := hdue hflow rfl hfirst rfl
  obtain ⟨t, ht, -, -, -, hregs, -⟩ := hclosed rfl
  rw [exec_completionRecordWrite_held hop hflow rfl hfirst rfl rfl] at ht
  obtain rfl := Host.Outcome.next.inj ht
  obtain ⟨hone, hzero⟩ := holdRecord_counts_drop
  have : (notifyUnrouted.holdRecord endedOp).reg APL_DROPS = notifyUnrouted.reg APL_DROPS :=
    congrArg (fun m => Map.get regDefault m APL_DROPS) hregs
  rw [hone, hzero] at this
  exact absurd this (by decide)
end

section
/-! What a stop leaves alone (R101, R122): the end of an operation, the stop of a running one and the fault of a unit keep the
configuration manager, the faulted units and the registers below WKE but the event queue's count of losses. The lemmas go through
the operations in the order of the model's files; each proof has the shape of the operation. -/

namespace Sys2Proof.Machine

/-- A register that a stop may write. -/
def stopReg (a : Nat) : Prop := a = GLB_EVQ_LOST ∨ 0x30000 ≤ a

theorem stopReg_block {b o n : Nat} (h : 0x30000 ≤ b := by omega) : stopReg (b + o + n) := .inr (by omega)
theorem stopReg_cl {k o : Nat} : stopReg (clBase k + o) := .inr (by unfold clBase; omega)
theorem stopReg_chan {c o : Nat} : stopReg (chBase c + o) := .inr (by unfold chBase clBase; omega)
theorem stopReg_msq {m o : Nat} : stopReg (msqBase m + o) := .inr (by unfold msqBase; split <;> omega)

/-- What a stop keeps, as a relation of the state before and after. -/
structure State.StopKept (s t : State) : Prop where
  cfg : t.cfg = s.cfg
  faulted : ∀ x ∈ s.cont.faulted, x ∈ t.cont.faulted
  regs : ∀ a, ¬ stopReg a → t.reg a = s.reg a

namespace State
variable {s t u : State}

theorem StopKept.refl (s : State) : s.StopKept s := ⟨rfl, fun _ h => h, fun _ _ => rfl⟩
theorem StopKept.trans (h : s.StopKept t) (h' : t.StopKept u) : s.StopKept u :=
  ⟨h'.cfg.trans h.cfg, fun x hx => h'.faulted x (h.faulted x hx), fun a ha => (h'.regs a ha).trans (h.regs a ha)⟩

/-- An update of other parts of the state. -/
theorem StopKept.other {live store poison hold rdata flagged tb ops kept heldRecs served chans clus fnts segs trg basinGaps anas
    relocks dpss gov msqs cals mnt ports net aon sec svc jtag evq free pending} (h : s.StopKept t) :
    s.StopKept ⟨t.regs, live, store, poison, hold, rdata, flagged, tb, t.cfg, ops, kept, heldRecs, served, chans,
    clus, fnts, segs, trg, basinGaps, anas, relocks, dpss, gov, msqs, cals, mnt, ports, net, t.cont, aon, sec, svc, jtag, evq,
    free, pending⟩ :=
  h.trans ⟨rfl, fun _ hx => hx, fun _ _ => rfl⟩
theorem StopKept.ite {c : Prop} {_ : Decidable c} (ht : s.StopKept t) (hu : s.StopKept u) : s.StopKept (if c then t else u) := by
  split <;> assumption
theorem StopKept.forEach {α : Type} {l : List α} {f : State → α → State} (h : s.StopKept t)
    (hf : ∀ u x, s.StopKept u → s.StopKept (f u x)) : s.StopKept (t.forEach l f) :=
  State.forEach_keeps _ l f (fun u x _ hu => hf u x hu) t h

/-- A write of a register that a stop may write. -/
theorem StopKept.setReg {a : Nat} {v : Word} (h : s.StopKept t) (ha : stopReg a) : s.StopKept (t.setReg a v) :=
  h.trans ⟨rfl, fun _ hx => hx, fun _ hb => t.reg_setReg_ne v (fun e => hb (e ▸ ha))⟩
theorem StopKept.setFld {a hi lo v : Nat} (h : s.StopKept t) (ha : stopReg a) : s.StopKept (t.setFld a hi lo v) := h.setReg ha
theorem StopKept.setBitAt {a i : Nat} {b : Bool} (h : s.StopKept t) (ha : stopReg a) : s.StopKept (t.setBitAt a i b) := h.setReg ha
theorem StopKept.event {a i : Nat} (h : s.StopKept t) (ha : stopReg a) : s.StopKept (t.event a i) := h.setReg ha
theorem StopKept.addSat {a n : Nat} (h : s.StopKept t) (ha : stopReg a) : s.StopKept (t.addSat a n) := h.setReg ha
theorem StopKept.setReg64 {lo hi v : Nat} (h : s.StopKept t) (hlo : stopReg lo) (hhi : stopReg hi) :
    s.StopKept (t.setReg64 lo hi v) := (h.setReg hlo).setReg hhi
theorem StopKept.setMaskBit {a n : Nat} {b : Bool} (h : s.StopKept t) (ha : 0x30000 ≤ a) : s.StopKept (t.setMaskBit a n b) :=
  h.setBitAt (.inr (Nat.le_add_right_of_le ha))

theorem StopKept.setLive {a v} (h : s.StopKept t) : s.StopKept (t.setLive a v) := h.other
theorem StopKept.setOp {o} (h : s.StopKept t) : s.StopKept (t.setOp o) := h.other
theorem StopKept.modOp {a f} (h : s.StopKept t) : s.StopKept (t.modOp a f) := h.other
theorem StopKept.setWork {a w} (h : s.StopKept t) : s.StopKept (t.setWork a w) := h.other
theorem StopKept.setProgress {a n} (h : s.StopKept t) : s.StopKept (t.setProgress a n) := h.other
theorem StopKept.setRun {a w} (h : s.StopKept t) : s.StopKept (t.setRun a w) := h.other
theorem StopKept.setChan {c v} (h : s.StopKept t) : s.StopKept (t.setChan c v) := h.other
theorem StopKept.setClu {k v} (h : s.StopKept t) : s.StopKept (t.setClu k v) := h.other
theorem StopKept.setRing {k r} (h : s.StopKept t) : s.StopKept (t.setRing k r) := h.other
theorem StopKept.setMsq {m v} (h : s.StopKept t) : s.StopKept (t.setMsq m v) := h.other
theorem StopKept.setFnt {f v} (h : s.StopKept t) : s.StopKept (t.setFnt f v) := h.other
theorem StopKept.setSeg {n v} (h : s.StopKept t) : s.StopKept (t.setSeg n v) := h.other
theorem StopKept.setAna {a v} (h : s.StopKept t) : s.StopKept (t.setAna a v) := h.other
theorem StopKept.setCtl {d v} (h : s.StopKept t) : s.StopKept (t.setCtl d v) := h.other
theorem StopKept.setCal {c v} (h : s.StopKept t) : s.StopKept (t.setCal c v) := h.other
theorem StopKept.ltAdd {i n} (h : s.StopKept t) : s.StopKept (t.ltAdd i n) := h.other
theorem StopKept.fresh {w} (h : s.StopKept t) : s.StopKept (t.fresh w).2 := h.other
theorem StopKept.release {k i} (h : s.StopKept t) : s.StopKept (t.release k i) := h.other
theorem StopKept.releaseReads {a} (h : s.StopKept t) : s.StopKept (t.releaseReads a) := h.other
theorem StopKept.mntEnd {k i} (h : s.StopKept t) : s.StopKept (t.mntEnd k i) := h.other
theorem StopKept.producerEnds {o} (h : s.StopKept t) : s.StopKept (t.producerEnds o) := .ite h h.other
theorem StopKept.writeBytes {a bs} (h : s.StopKept t) : s.StopKept (t.writeBytes a bs) := by
  rw [State.writeBytes_eq]
  exact h.other
theorem StopKept.setBhead {r off n v} (h : s.StopKept t) : s.StopKept (t.setBhead r off n v) := h.writeBytes

/-! The end of an operation (R82, R171, R191, R352, R361). -/

theorem StopKept.tsLive {k n} (h : s.StopKept t) : s.StopKept (t.tsLive k n) := h.forEach fun _ _ h1 => h1.setLive
theorem StopKept.settleTe {k} (h : s.StopKept t) : s.StopKept (t.settleTe k) := by
  unfold State.settleTe
  extract_lets _
  split
  · exact h
  · extract_lets _
    split
    · exact h.setClu.setReg stopReg_cl
    · exact (h.setClu.forEach fun _ _ h1 => h1.tsLive).setReg stopReg_cl
theorem StopKept.switchMode {c old driving load} (h : s.StopKept t) : s.StopKept (t.switchMode c old driving load) :=
  h.fresh.setChan
theorem StopKept.goLive {c w} (h : s.StopKept t) : s.StopKept (t.goLive c w) := by
  unfold State.goLive
  extract_lets _ _ _ _ _ _ u1 _ _ _ _ u2 u3 _ u4 u5 _ _
  have h1 : s.StopKept u1 := h.forEach fun _ _ h1 => h1.setLive
  have h2 : s.StopKept u2 := .ite h1.setChan h1.setChan.switchMode
  have h3 : s.StopKept u3 := .ite h2.ltAdd h2
  have h4 : s.StopKept u4 := .ite h3 h3.setChan
  have h5 : s.StopKept u5 := .ite h4 (h4.setBitAt stopReg_chan)
  exact .ite h5.setChan (.ite (h5.setChan.setBitAt stopReg_chan) h5)
theorem StopKept.settleLv {k} (h : s.StopKept t) : s.StopKept (t.settleLv k) := by
  unfold State.settleLv
  extract_lets _
  split
  · exact h
  · extract_lets _
    split
    · exact h.setClu.setReg stopReg_cl
    · exact (h.setClu.forEach fun _ _ h1 => h1.goLive).setReg stopReg_cl
theorem StopKept.settleCommits {k} (h : s.StopKept t) : s.StopKept (t.settleCommits k) := .ite h h.settleTe.settleLv
theorem StopKept.syncReset {k} (h : s.StopKept t) : s.StopKept (t.syncReset k) :=
  ((h.setClu.setReg64 (stopReg_cl (o := 0x3001C)) (stopReg_cl (o := 0x30020))).event (stopReg_cl (o := 0x30014))).forEach
    fun _ _ h1 => .ite h1 h1.setChan

theorem StopKept.setAnState {a v} (h : s.StopKept t) : s.StopKept (t.setAnState a v) := h.setFld stopReg_block
theorem StopKept.takeRange {a} (h : s.StopKept t) : s.StopKept (t.takeRange a) :=
  .ite h (h.setFld stopReg_block).setAnState.setAna
theorem StopKept.parkAn {a} (h : s.StopKept t) : s.StopKept (t.parkAn a) :=
  .ite h.setAnState (.ite h.setAnState.setAna h.setAnState.setAna.takeRange)
theorem StopKept.fadeOver {a playing} (h : s.StopKept t) : s.StopKept (t.fadeOver a playing) := by
  unfold State.fadeOver
  extract_lets _ u1 _
  have h1 : s.StopKept u1 := ((h.setFld stopReg_block).setFld stopReg_block).event stopReg_block
  split
  · exact .ite h1.setAna (.ite (((h1.setAna.setBitAt stopReg_block).setBitAt stopReg_block).setFld stopReg_block)
      (h1.setAna.setBitAt stopReg_block))
  · exact h1.setAna
theorem StopKept.awgFree {a} (h : s.StopKept t) : s.StopKept (t.awgFree a) := by
  unfold State.awgFree
  extract_lets u1
  have h1 : s.StopKept u1 := .ite h.fadeOver h
  split
  · exact h1.parkAn
  · exact h1.parkAn
  · exact h1.takeRange
  · exact h1

theorem stopReg_nrg : stopReg NRG_DENIED ∧ stopReg NRG_EVENTS := by
  constructor <;> exact .inr (by decide)
theorem StopKept.endOpAt {a status reason gcc detail} (h : s.StopKept t) :
    s.StopKept (t.endOpAt a status reason gcc detail) := by
  unfold State.endOpAt
  split
  · exact h
  · refine .ite h ?_
    extract_lets _ u1 u2 _
    have h1 : s.StopKept u1 := by
      refine h.setOp.producerEnds.release.releaseReads.forEach fun _ _ h1 => ?_
      split
      · exact (StopKept.ite h1.syncReset h1).settleCommits
      · exact .ite h1.awgFree h1
      · exact h1
    have h2 : s.StopKept u2 := .ite ((h1.addSat stopReg_nrg.1).event stopReg_nrg.2) h1
    exact .ite h2.mntEnd (.ite h2.mntEnd h2)
theorem StopKept.endOp {a status reason detail} (h : s.StopKept t) : s.StopKept (t.endOp a status reason detail) := h.endOpAt

/-! Pattern runs (R246, R247). -/

theorem StopKept.collide {k j n} (h : s.StopKept t) : s.StopKept (t.collide k j n) :=
  .ite h ((h.addSat stopReg_cl).setReg stopReg_cl)
theorem StopKept.holdPin {k j lim} (h : s.StopKept t) : s.StopKept (t.holdPin k j lim) := h.setChan.collide
theorem StopKept.holdCluster {g w k cut} (h : s.StopKept t) : s.StopKept (t.holdCluster g w k cut) :=
  .ite h (h.forEach fun _ _ h1 => .ite h1.holdPin h1).setClu
theorem StopKept.holdEnded {a} (h : s.StopKept t) : s.StopKept (t.holdEnded a) := by
  unfold State.holdEnded
  split
  · split
    · exact h.forEach fun _ _ h1 => h1.holdCluster
    · exact h
  · exact h
theorem StopKept.endRun {a status reason rank n} (h : s.StopKept t) : s.StopKept (t.endRun a status reason rank n) := by
  unfold State.endRun
  split
  · exact .ite h.setRun.holdEnded h
  · exact h
theorem StopKept.stopRun {a status reason rank} (h : s.StopKept t) : s.StopKept (t.stopRun a status reason rank) := by
  unfold State.stopRun
  split
  · exact h.endRun
  · exact h

theorem StopKept.emptySeg {n} (h : s.StopKept t) : s.StopKept (t.emptySeg n) :=
  ((((h.setReg stopReg_block).setReg stopReg_block).setReg stopReg_block).setReg
    stopReg_block).setSeg
theorem StopKept.setSegState {n v} (h : s.StopKept t) : s.StopKept (t.setSegState n v) := h.setFld stopReg_block
theorem StopKept.unarmSeg {n a} (h : s.StopKept t) : s.StopKept (t.unarmSeg n a) := by
  unfold State.unarmSeg
  extract_lets
  split
  · exact h
  · exact .ite h.setSeg.setSegState h.setSeg
theorem StopKept.drainSeg {n a} (h : s.StopKept t) : s.StopKept (t.drainSeg n a) :=
  .ite h (.ite h.setSeg (.ite h.setSeg.setSegState h.setSeg.setSegState))
theorem StopKept.showLoops {q loops} (h : s.StopKept t) : s.StopKept (t.showLoops q loops) :=
  h.forEach fun _ _ h1 => h1.setReg (.inr (by simp only [SEG_Q_LOOP0]; omega))
theorem StopKept.putFountain {n r} (h : s.StopKept t) : s.StopKept (t.putFountain n r) := by
  unfold State.putFountain
  extract_lets _ u1 u2 u3 u4 u5 u6
  have h1 : s.StopKept u1 := h.setFnt.setFld stopReg_block
  have h2 : s.StopKept u2 := h1.forEach fun _ _ h2 => h2.setReg stopReg_block
  have h3 : s.StopKept u3 := (h2.setFld stopReg_block).setBitAt stopReg_block
  have h4 : s.StopKept u4 := .ite h3 ((h3.addSat stopReg_block).event stopReg_block)
  have h5 : s.StopKept u5 := .ite h4 ((h4.addSat stopReg_block).event stopReg_block)
  have h6 : s.StopKept u6 := .ite ((h5.setBitAt stopReg_block).event stopReg_block) h5
  exact .ite ((h6.setFld stopReg_block).event stopReg_block) h6
theorem StopKept.fountainStep {n} (h : s.StopKept t) : s.StopKept (t.fountainStep n) := .ite h.putFountain h
theorem StopKept.fountainAhead {f limit n} (h : s.StopKept t) : s.StopKept (t.fountainAhead f limit n) := by
  induction n generalizing t with
  | zero => exact h
  | succ n ih => exact .ite (ih h.fountainStep) h
theorem StopKept.runAhead {f} (h : s.StopKept t) : s.StopKept (t.runAhead f) := .ite h.fresh.fountainAhead h
theorem StopKept.closeRun {a w} (h : s.StopKept t) : s.StopKept (t.closeRun a w) := by
  unfold State.closeRun
  extract_lets u1 u2 u3 u4
  have h1 : s.StopKept u1 := h.forEach fun _ _ h1 => h1.unarmSeg
  have h2 : s.StopKept u2 := h1.forEach fun _ _ h1 => h1.drainSeg
  have h3 : s.StopKept u3 := h2.forEach fun _ _ h1 =>
    (((h1.setBitAt stopReg_block).setReg stopReg_block).setReg stopReg_block).showLoops
  have h4 : s.StopKept u4 := h3.forEach fun _ _ h1 => h1.runAhead.setFnt.setBitAt stopReg_block
  exact h4.forEach fun _ _ h1 => .ite (h1.setClu.setFld stopReg_cl) h1
theorem StopKept.showNothing {w} (h : s.StopKept t) : s.StopKept (t.showNothing w) :=
  h.forEach fun _ _ h1 => (h1.setReg64 stopReg_block stopReg_block).setReg64 stopReg_block stopReg_block
theorem StopKept.failRun {a status reason detail} (h : s.StopKept t) : s.StopKept (t.failRun a status reason detail) := by
  unfold State.failRun
  split
  · exact h.closeRun.showNothing.endOp
  · exact h.endOp

/-! The stop points of the other opcodes (R109, R205, R234, R323, R344, R361, R380, R404). -/

theorem StopKept.copyOn {o} (h : s.StopKept t) : s.StopKept (t.copyOn o) := by
  unfold State.copyOn
  split
  · exact .ite h (.ite h.setProgress (.ite h.fresh h.fresh.writeBytes.setProgress))
  · exact h
theorem StopKept.stopLoad {o status} (h : s.StopKept t) : s.StopKept (t.stopLoad o status) := by
  unfold State.stopLoad
  split
  · exact .ite h.copyOn.emptySeg.endOp h.endOp
  · exact h.endOp
theorem StopKept.stopMeasure {o} (h : s.StopKept t) : s.StopKept (t.stopMeasure o) := by
  unfold State.stopMeasure
  split
  · exact .ite h h.setWork
  · exact h
theorem StopKept.askStop {a status} (h : s.StopKept t) : s.StopKept (t.askStop a status) := h.modOp
theorem StopKept.stopLevels {o status} (h : s.StopKept t) : s.StopKept (t.stopLevels o status) := by
  unfold State.stopLevels
  split
  · exact .ite h.endOp (.ite h.endOp h)
  · exact h.endOp

theorem StopKept.refreshPg {d stays} (h : s.StopKept t) : s.StopKept (t.refreshPg d stays) :=
  .ite ((h.setBitAt stopReg_block).event stopReg_block) (h.setBitAt stopReg_block)
theorem StopKept.setDpsState {d v} (h : s.StopKept t) : s.StopKept (t.setDpsState d v) := (h.setFld stopReg_block).refreshPg
theorem StopKept.dpsFault {d} (h : s.StopKept t) : s.StopKept (t.dpsFault d) := h.setDpsState.setCtl
theorem StopKept.stopDps {o status} (h : s.StopKept t) : s.StopKept (t.stopDps o status) := by
  unfold State.stopDps
  split
  · exact h.endOp
  · extract_lets u1 u2
    have h1 : s.StopKept u1 := h.forEach fun _ _ h1 => .ite (h1.setCtl.setReg stopReg_block).setDpsState h1
    have h2 : s.StopKept u2 := h1.forEach fun _ _ h1 => .ite h1.release.mntEnd.release h1.release.mntEnd
    exact h2.endOp

theorem StopKept.endAwg {o status reason n} (h : s.StopKept t) : s.StopKept (t.endAwg o status reason n) :=
  (h.setReg64 stopReg_block stopReg_block).setProgress.endOp
theorem StopKept.lanesOff {g} (h : s.StopKept t) : s.StopKept (t.lanesOff g) :=
  (h.forEach fun _ _ h1 => h1.setReg stopReg_block).setBitAt stopReg_block
theorem StopKept.stopLanes {o} (h : s.StopKept t) : s.StopKept (t.stopLanes o) := by
  unfold State.stopLanes
  split
  · exact h.lanesOff.setProgress
  · exact h

theorem StopKept.flushPartial {w} (h : s.StopKept t) : s.StopKept (t.flushPartial w) :=
  .ite h (.ite (h.fresh.addSat (.inr (by decide))) h.fresh)
theorem StopKept.clearBasin {r} (h : s.StopKept t) : s.StopKept (t.clearBasin r) := by
  unfold State.clearBasin
  extract_lets u1 u2 u3
  have h2 : s.StopKept u2 := h.setBhead.setBhead.setBhead.setBhead.setBhead.setBhead
  have h3 : s.StopKept u3 := h2.other
  exact (h3.setMaskBit (by decide)).setMaskBit (by decide)
theorem StopKept.endUpload {o w status reason} (h : s.StopKept t) : s.StopKept (t.endUpload o w status reason) := by
  unfold State.endUpload
  extract_lets _ _ u1 _ u2
  have h1 : s.StopKept u1 := .ite (h.setRing.setBitAt stopReg_cl) h
  have h2 : s.StopKept u2 := by
    unfold u2
    split
    · exact .ite h1.clearBasin h1
    · exact h1
  exact h2.endOp
theorem StopKept.settleUpload {a} (h : s.StopKept t) : s.StopKept (t.settleUpload a) := by
  unfold State.settleUpload
  split
  · exact h
  · exact .ite h.flushPartial.endUpload (.ite h.endUpload h)

/-! Routines of micro-sequencers (R448, R451). -/

theorem StopKept.setWait {m w} (h : s.StopKept t) : s.StopKept (t.setWait m w) := h.setMsq.setBitAt stopReg_msq
theorem StopKept.setDeferred {m l} (h : s.StopKept t) : s.StopKept (t.setDeferred m l) := h.setMsq.setReg stopReg_msq
theorem StopKept.dropDeferred {m} (h : s.StopKept t) : s.StopKept (t.dropDeferred m) := (h.addSat stopReg_msq).setDeferred
theorem StopKept.setPc {m a} (h : s.StopKept t) : s.StopKept (t.setPc m a) := h.setReg stopReg_msq
theorem StopKept.freeMsq {m} (h : s.StopKept t) : s.StopKept (t.freeMsq m) :=
  (((h.setWait.setBitAt stopReg_msq).setBitAt stopReg_msq).setFld stopReg_msq).setMsq
theorem StopKept.finishRoutine {m status reason detail} (h : s.StopKept t) :
    s.StopKept (t.finishRoutine m status reason detail) := by
  unfold State.finishRoutine
  extract_lets
  split
  · exact h.freeMsq.endOp
  · exact h.freeMsq
theorem StopKept.stopRoutine {m status reason detail} (h : s.StopKept t) :
    s.StopKept (t.stopRoutine m status reason detail) := by
  unfold State.stopRoutine
  refine .ite h ?_
  extract_lets u1 u2 _ u3 _
  have h1 : s.StopKept u1 := h.dropDeferred.setWait
  have h2 : s.StopKept u2 := h1.setReg stopReg_msq
  have h3 : s.StopKept u3 := h2.setMsq.setFld stopReg_msq
  exact .ite h3.finishRoutine (h3.setMsq.setBitAt stopReg_msq).setPc

/-! Stops and faults of units (R101, R122). -/

theorem StopKept.stopRunning {o status} (h : s.StopKept t) : s.StopKept (t.stopRunning o status) := by
  unfold State.stopRunning
  split
  · exact h.stopRun
  · exact h.stopLoad
  · exact h.stopMeasure.askStop
  · exact h.stopLevels
  · exact h.stopLevels
  · exact h.askStop
  · exact h.askStop
  · exact h.askStop
  · exact h.askStop
  · exact h.stopDps
  · split
    · exact h.endAwg
    · exact h.endOp
  · exact h.stopLanes.askStop
  · exact h.askStop.settleUpload
  · exact h.stopRoutine
  · exact h.endOp
theorem StopKept.stopOp {a status} (h : s.StopKept t) : s.StopKept (t.stopOp a status) := by
  unfold State.stopOp
  split
  · exact h
  · refine .ite h (.ite h.stopRunning ?_)
    split
    · exact h.failRun
    · exact h.endOp

theorem StopKept.pmuLeaves {cs} (h : s.StopKept t) : s.StopKept (t.pmuLeaves cs) :=
  h.forEach fun _ _ h1 => (StopKept.ite (h1.ltAdd.setBitAt stopReg_chan) h1).setChan
theorem StopKept.enterFault {cls ix} (h : s.StopKept t) : s.StopKept (t.enterFault cls ix) := by
  unfold State.enterFault
  split
  · exact (StopKept.ite h h.setAnState.setAna).event stopReg_block
  · exact h.event stopReg_block
  · exact h.dpsFault.event stopReg_block
  · exact h
theorem StopKept.stopAuto {cls ix} (h : s.StopKept t) : s.StopKept (t.stopAuto cls ix) := .ite h.setCal h
/-- A unit joins the faulted ones. -/
theorem StopKept.fault {x : Nat × Nat} (h : s.StopKept t) :
    s.StopKept { t with cont := { t.cont with faulted := t.cont.faulted ++ [x] } } :=
  h.trans ⟨rfl, fun _ hx => List.mem_append_left _ hx, fun _ _ => rfl⟩
theorem StopKept.markFaulted {cls ix} (h : s.StopKept t) : s.StopKept (t.markFaulted cls ix).1 :=
  (h.pmuLeaves.fault.forEach fun _ _ h1 => h1.stopOp).enterFault.stopAuto
theorem StopKept.logEvent {code unit data} (h : s.StopKept t) : s.StopKept (t.logEvent code unit data) := by
  unfold State.logEvent
  extract_lets _ u
  have hu : s.StopKept u := .ite h.ltAdd h
  exact .ite hu.other (hu.other.addSat (.inl rfl))
theorem StopKept.faultUnit {cls ix} (h : s.StopKept t) : s.StopKept (t.faultUnit cls ix) := .ite h h.markFaulted.logEvent
end State
end Sys2Proof.Machine
end

section
/-! A GCC copy that differs (R59, R155): the island holds generation 0 and what runs on it is asked to end; the check changes
nothing else of the hub. -/

namespace Sys2Proof.Machine
namespace State
variable {s t : State} {i : Nat}

theorem genOf_setGen (g j : Nat) : (s.setGen i g).genOf j = if j = i then g else s.genOf j := Map.get_set natDefault s.cfg.gens i g j

/-- The operations that run on an island. -/
def runningOn (s : State) (i : Nat) : List Op := s.ops.filter (fun o => o.phase == .running && (s.islandsOf o).contains i)

theorem mismatchIsland_eq : s.mismatchIsland i = (s.setGen i 0).forEach (s.runningOn i) (fun u o => u.stopOp o.asn 6) := rfl

/-- An event of the timebase marks no site absent, so that operations need the islands that they needed. -/
theorem islandsOf_event (b : Nat) (o : Op) : (s.event GLB_TB_EVENTS b).islandsOf o = s.islandsOf o := by
  have habs : (s.event GLB_TB_EVENTS b).absent = s.absent := funext fun n =>
    congrArg (fun w : Word => w.getLsbD (n % 32)) (s.reg_event_ne b (by simp only [GLB_SITE_ABSENT, GLB_TB_EVENTS]; omega))
  have hforce (g : ImageSet) : (s.event GLB_TB_EVENTS b).forceChans g o = s.forceChans g o := by
    simp only [forceChans, habs]
  have hres : (s.event GLB_TB_EVENTS b).resources o = s.resources o := by
    unfold resources
    simp only [hforce]
    rfl
  simp only [islandsOf, hres]
theorem runningOn_event (b : Nat) : (s.event GLB_TB_EVENTS b).runningOn i = s.runningOn i := by
  simp only [runningOn, islandsOf_event]
  rfl

/-! The generations. -/

theorem cfg_stopOps (l : List Op) : (s.forEach l (fun u o => u.stopOp o.asn 6)).cfg = s.cfg :=
  ((StopKept.refl s).forEach fun _ _ h => h.stopOp).cfg
theorem genOf_mismatchIsland (j : Nat) : (s.mismatchIsland i).genOf j = if j = i then 0 else s.genOf j := by
  rw [mismatchIsland_eq, genOf, cfg_stopOps]
  exact genOf_setGen 0 j
theorem genOf_mismatchIslands (l : List Nat) (j : Nat) :
    (s.forEach l mismatchIsland).genOf j = if j ∈ l then 0 else s.genOf j := by
  induction l generalizing s with
  | nil => rfl
  | cons i l ih =>
    show ((s.mismatchIsland i).forEach l mismatchIsland).genOf j = _
    rw [ih, genOf_mismatchIsland]
    by_cases hj : j ∈ l
    · rw [if_pos hj, if_pos (List.mem_cons_of_mem i hj)]
    · simp only [List.mem_cons, hj, or_false, if_false]

theorem regs_mismatchIslands (l : List Nat) {a : Nat} (ha : ¬ stopReg a) :
    (s.forEach l mismatchIsland).reg a = s.reg a := by
  refine forEach_keeps (fun t => t.reg a = s.reg a) l _ (fun t i _ ht => ?_) s rfl
  rw [mismatchIsland_eq]
  exact (((StopKept.refl (t.setGen i 0)).forEach fun _ _ h => h.stopOp).regs a ha).trans ht

/-! The operations. -/

/-- Islands on which nothing runs only lose their generation. -/
theorem mismatchIslands_idle (l : List Nat) (hl : ∀ i ∈ l, s.runningOn i = []) :
    s.forEach l mismatchIsland = { s with cfg := { s.cfg with gens := (s.forEach l mismatchIsland).cfg.gens } } := by
  refine forEach_keeps (fun t => t = { s with cfg := { s.cfg with gens := t.cfg.gens } }) l _ (fun t i hi ht => ?_) s rfl
  have hidle : t.runningOn i = [] := by rw [ht]; exact hl i hi
  rw [mismatchIsland_eq, hidle, ht]
  rfl

/-- An operation asked to end by a fault. -/
def asked (o : Op) : Op := { o with faulting := true }

/-- A running CONTACT_CHECK or DIGITIZE that is alone is asked to end. -/
theorem stopOp_alone {o : Op} (ho : s.ops = [o]) (hp : o.phase = .running) (hc : o.opcode = 5 ∨ o.opcode = 8) :
    (s.stopOp o.asn 6).ops = [asked o] := by
  have hop : s.op? o.asn = some o := by simp [op?, ho]
  have hask : s.stopRunning o 6 = s.askStop o.asn 6 := by
    rcases hc with h | h <;> simp only [stopRunning, h]
  simp [stopOp, hop, hp, hask, askStop, modOp, ho, asked]
/-- So it is by an island on which it runs; another island leaves it. -/
theorem mismatchIsland_alone {o : Op} (ho : s.ops = [o]) (hp : o.phase = .running) (hc : o.opcode = 5 ∨ o.opcode = 8) :
    (s.mismatchIsland i).ops = [if i ∈ s.islandsOf o then asked o else o] := by
  rw [mismatchIsland_eq]
  by_cases hi : i ∈ s.islandsOf o
  · have hrun : s.runningOn i = [o] := by simp [runningOn, ho, hp, hi]
    rw [hrun, if_pos hi]
    exact stopOp_alone (s := s.setGen i 0) ho hp hc
  · have hrun : s.runningOn i = [] := by simp [runningOn, ho, hi]
    rw [hrun, if_neg hi]
    exact ho
/-- Once asked, it stays asked. -/
theorem mismatchIslands_asked {o : Op} (hp : o.phase = .running) (hc : o.opcode = 5 ∨ o.opcode = 8) (l : List Nat)
    (ho : s.ops = [asked o]) : (s.forEach l mismatchIsland).ops = [asked o] := by
  refine forEach_keeps (fun t => t.ops = [asked o]) l _ (fun t i _ ht => ?_) s ho
  rw [mismatchIsland_alone (o := asked o) ht hp hc]
  split <;> rfl
theorem mismatchIslands_alone {o : Op} (ho : s.ops = [o]) (hp : o.phase = .running) (hc : o.opcode = 5 ∨ o.opcode = 8)
    {l : List Nat} (hne : l ≠ []) (hl : ∀ i ∈ l, i ∈ s.islandsOf o) : (s.forEach l mismatchIsland).ops = [asked o] := by
  obtain ⟨i, l, rfl⟩ := List.exists_cons_of_ne_nil hne
  refine mismatchIslands_asked (s := s.mismatchIsland i) hp hc l ?_
  rw [mismatchIsland_alone ho hp hc, if_pos (hl i List.mem_cons_self)]

/-! The check. -/

theorem exec_gccBroadcastCheck_none {d : Nat} (h : bitsOf d 26 = [] ∨ s.counting = false) :
    exec (.gccBroadcastCheck d) s = .next s := by
  show execGccBroadcastCheck d s = _
  unfold execGccBroadcastCheck
  exact congrArg _ (if_pos (by rcases h with h | h <;> simp [h]))
theorem exec_gccBroadcastCheck_differs {d : Nat} (hc : s.counting = true) (h : bitsOf d 26 ≠ []) :
    exec (.gccBroadcastCheck d) s = .next ((s.event GLB_TB_EVENTS 6).forEach (bitsOf d 26) mismatchIsland) := by
  show execGccBroadcastCheck d s = _
  unfold execGccBroadcastCheck
  exact congrArg _ (if_neg (by simp [hc, h]))
end State
end Sys2Proof.Machine

open Sys2Proof Sys2Proof.Machine

/-- Settles O18: the generations by induction on the islands that differ, the rest from what a stop leaves alone. -/
theorem gccCheckMakesIslandsStale : Obligations.GccCheckMakesIslandsStale := by
  unfold Obligations.GccCheckMakesIslandsStale
  intro d s
  have hkeep {a : Nat} (ha : ¬ stopReg a) :=
    State.regs_mismatchIslands (s := s.event GLB_TB_EVENTS 6) (bitsOf d 26) ha
  have hevent : ((s.event GLB_TB_EVENTS 6).forEach (bitsOf d 26) State.mismatchIsland).bitAt GLB_TB_EVENTS 6 = true := by
    rw [State.bitAt, hkeep (by unfold stopReg; decide)]
    exact (s.bitAt_event GLB_TB_EVENTS 6 GLB_TB_EVENTS 6 (by decide)).trans (by simp)
  have hgen := State.genOf_mismatchIslands (s := s.event GLB_TB_EVENTS 6) (bitsOf d 26)
  have hzero : ∀ i ∈ bitsOf d 26, ((s.event GLB_TB_EVENTS 6).forEach (bitsOf d 26) State.mismatchIsland).genOf i = 0 :=
    fun i hi => (hgen i).trans (if_pos hi)
  refine ⟨State.exec_gccBroadcastCheck_none, fun hc hd => ⟨_, State.exec_gccBroadcastCheck_differs hc hd, hevent⟩, ?_, ?_⟩
  · intro o hc ho hp hop hl hd
    have hops := State.mismatchIslands_alone (s := s.event GLB_TB_EVENTS 6) ho hp hop hd
      (fun i hi => by rw [State.islandsOf_event]; exact hl i hi)
    exact ⟨_, State.asked o, State.exec_gccBroadcastCheck_differs hc hd, by simp [State.op?, hops, State.asked], rfl, hzero⟩
  · intro hc hd hidle
    have hrun : ∀ i ∈ bitsOf d 26, (s.event GLB_TB_EVENTS 6).runningOn i = [] := by
      intro i hi
      rw [State.runningOn_event]
      simp only [State.runningOn, List.filter_eq_nil_iff, Bool.and_eq_true, beq_iff_eq, List.contains_iff_mem, not_and]
      exact fun o ho hp => hidle o ho hp i hi
    have hstate := State.mismatchIslands_idle (s := s.event GLB_TB_EVENTS 6) _ hrun
    refine ⟨_, State.exec_gccBroadcastCheck_differs hc hd, hevent, hzero, fun i hi => (hgen i).trans (if_neg hi), ?_, ?_⟩
    · rw [hstate]
      rfl
    · intro a ha
      rw [hstate]
      exact s.reg_event_ne 6 (fun e => ha (e ▸ List.mem_cons_self))
end

section
/-! The end of an unwind whose call has ended already (R449): the sequencer is freed, and the call keeps its outcome. -/

namespace Sys2Proof.Machine

/-- The work of an operation that has ended ends no second time. -/
theorem State.endOp_of_ended {s : State} {a status reason detail : Nat} {o : Op} (ho : s.op? a = some o) (hp : o.phase = .ended) :
    s.endOp a status reason detail = s := by
  simp only [State.endOp, State.endOpAt, ho, hp, if_true]

/-- MSQ0 unwinds past its limit of 0 with PRECONDITION_FAILED decided for operation 1, which has ended. -/
def unwindEnded : State :=
  let s : State := { State.reset with ops := [endedOp] }
  (s.setReg (MSQ_UNWIND_LIMIT 0) 0).setMsq 0 { s.msq 0 with asn := some 1, unwindSince := some 0, ending := some (9, 0, 0) }

/-- An unwind past its limit frees the sequencer, and leaves a call that has ended as it is. -/
theorem exec_unwindTimeout_ended {s : State} {m g a : Nat} {o : Op} {e : Nat × Nat × Nat} (hu : (s.msq m).unwindSince = some g)
    (hd : g + s.fld (MSQ_UNWIND_LIMIT m) 15 0 * 800 ≤ s.now) (he : (s.msq m).ending = some e) (ha : (s.msq m).asn = some a)
    (ho : s.op? a = some o) (hp : o.phase = .ended) :
    exec (.unwindTimeout m) s = .next ((s.event (MSQ_EVENTS m) 4).freeMsq m) := by
  have hnow := s.advanceTo_past hd
  show execUnwindTimeout m s = _
  unfold execUnwindTimeout
  simp only [hu, hnow, if_neg (Nat.not_lt.mpr hd)]
  refine congrArg Host.Outcome.next ?_
  have he' : ((s.event (MSQ_EVENTS m) 4).msq m).ending = some e := he
  have ha' : ((s.event (MSQ_EVENTS m) 4).msq m).asn = some a := ha
  simp only [State.endUnwind, he', State.finishRoutine, ha']
  exact State.endOp_of_ended ho hp

end Sys2Proof.Machine

open Sys2Proof Sys2Proof.Machine

/-- Refutes O57: it asks that the end of an unwind past its limit gives the call the outcome decided before, of every state in which
the sequencer names the call; where that call has ended already with another outcome, it keeps the one that it has. -/
theorem not_controlStoresAreLoadedAndRestored : ¬ Obligations.ControlStoresAreLoadedAndRestored := by
  unfold Obligations.ControlStoresAreLoadedAndRestored
  intro h
  have hu : (unwindEnded.msq 0).unwindSince = some 0 := by decide +kernel
  have hd : 0 + unwindEnded.fld (MSQ_UNWIND_LIMIT 0) 15 0 * 800 ≤ unwindEnded.now := by decide +kernel
  have he : (unwindEnded.msq 0).ending = some (9, 0, 0) := by decide +kernel
  have ha : (unwindEnded.msq 0).asn = some 1 := by decide +kernel
  have ho : unwindEnded.op? 1 = some endedOp := by decide +kernel
  obtain ⟨-, -, htimeout⟩ := h.2 0 unwindEnded (by decide)
  obtain ⟨t, ht, -, -, -, -, p, hp, hended, -⟩ := htimeout 0 1 endedOp 9 0 0 hu hd he ha ho
  rw [exec_unwindTimeout_ended hu hd he ha ho rfl] at ht
  obtain rfl := Host.Outcome.next.inj ht
  obtain rfl := Option.some.inj (ho.symm.trans hp)
  obtain ⟨-, -, -, -, -, -, hstatus, -⟩ := hended
  exact absurd hstatus (by decide)
end

section
/-! What the loads of a set leave alone (R48, R60): where a swap or a reload gives the units their parts of a set, the operations,
the security block, the timebase, the configuration manager and the registers of it and of the queues stay. The lemmas go through
the loads in the order of the model's files. -/

namespace Sys2Proof.Machine

/-- A register of the configuration manager or of a queue. -/
def hubReg (a : Nat) : Prop := 0x20000 ≤ a ∧ a < 0x30000 ∨ 0x100000 ≤ a ∧ a < 0x140000

theorem not_hubReg_above {a : Nat} (h : 0x140000 ≤ a) : ¬ hubReg a := by unfold hubReg; omega
theorem not_hubReg_wake {a : Nat} (h : 0x30000 ≤ a ∧ a < 0x100000) : ¬ hubReg a := by unfold hubReg; omega
theorem not_hubReg_cl {k o : Nat} : ¬ hubReg (clBase k + o) := not_hubReg_above (by unfold clBase; omega)
theorem not_hubReg_chan {c o : Nat} : ¬ hubReg (chBase c + o) := not_hubReg_above (by unfold chBase clBase; omega)
theorem not_hubReg_msq {m o : Nat} (h : o < 0x60000 := by decide) : ¬ hubReg (msqBase m + o) := by
  unfold msqBase hubReg
  split <;> omega
theorem not_hubReg_ts {k t o : Nat} : ¬ hubReg (tsAddr k t + o) := by
  rw [tsAddr, TS_PERIOD, tsBase, clBase, hubReg]
  omega

/-- What a load keeps, as a relation of the state before and after; `stores` says whether it may write the store. -/
structure State.HubKept (stores : Bool) (s t : State) : Prop where
  ops : t.ops = s.ops
  sec : t.sec = s.sec
  tb : t.tb = s.tb
  cfg : t.cfg = s.cfg
  regs : ∀ a, hubReg a → t.reg a = s.reg a
  store : stores = false → t.store = s.store

namespace State
variable {w : Bool} {s t u : State}

theorem HubKept.refl (s : State) : s.HubKept w s := ⟨rfl, rfl, rfl, rfl, fun _ _ => rfl, fun _ => rfl⟩
theorem HubKept.trans (h : s.HubKept w t) (h' : t.HubKept w u) : s.HubKept w u :=
  ⟨h'.ops.trans h.ops, h'.sec.trans h.sec, h'.tb.trans h.tb, h'.cfg.trans h.cfg,
    fun a ha => (h'.regs a ha).trans (h.regs a ha), fun hw => (h'.store hw).trans (h.store hw)⟩

/-- An update of other parts of the state. -/
theorem HubKept.other {live poison hold rdata flagged kept heldRecs served chans clus fnts segs trg basinGaps anas relocks dpss gov
    msqs cals mnt ports net cont aon svc jtag evq free pending} (h : s.HubKept w t) :
    s.HubKept w ⟨t.regs, live, t.store, poison, hold, rdata, flagged, t.tb, t.cfg, t.ops, kept, heldRecs, served, chans,
    clus, fnts, segs, trg, basinGaps, anas, relocks, dpss, gov, msqs, cals, mnt, ports, net, cont, aon, t.sec, svc, jtag, evq,
    free, pending⟩ :=
  h.trans ⟨rfl, rfl, rfl, rfl, fun _ _ => rfl, fun _ => rfl⟩
/-- So keeps what may write the store. -/
theorem HubKept.stored {store poison} (h : s.HubKept true t) : s.HubKept true { t with store := store, poison := poison } :=
  h.trans ⟨rfl, rfl, rfl, rfl, fun _ _ => rfl, nofun⟩
theorem HubKept.ite {c : Prop} {_ : Decidable c} (ht : s.HubKept w t) (hu : s.HubKept w u) : s.HubKept w (if c then t else u) := by
  split <;> assumption
theorem HubKept.forEach {α : Type} {l : List α} {f : State → α → State} (h : s.HubKept w t)
    (hf : ∀ u x, s.HubKept w u → s.HubKept w (f u x)) : s.HubKept w (t.forEach l f) :=
  State.forEach_keeps _ l f (fun u x _ hu => hf u x hu) t h

theorem HubKept.setReg {a : Nat} {v : Word} (h : s.HubKept w t) (ha : ¬ hubReg a) : s.HubKept w (t.setReg a v) :=
  h.trans ⟨rfl, rfl, rfl, rfl, fun _ hb => t.reg_setReg_ne v (fun e => ha (e ▸ hb)), fun _ => rfl⟩
theorem HubKept.setFld {a hi lo v : Nat} (h : s.HubKept w t) (ha : ¬ hubReg a) : s.HubKept w (t.setFld a hi lo v) := h.setReg ha
theorem HubKept.setBitAt {a i : Nat} {b : Bool} (h : s.HubKept w t) (ha : ¬ hubReg a) : s.HubKept w (t.setBitAt a i b) :=
  h.setReg ha
theorem HubKept.event {a i : Nat} (h : s.HubKept w t) (ha : ¬ hubReg a) : s.HubKept w (t.event a i) := h.setReg ha
theorem HubKept.addSat {a n : Nat} (h : s.HubKept w t) (ha : ¬ hubReg a) : s.HubKept w (t.addSat a n) := h.setReg ha
theorem HubKept.setReg64 {lo hi v : Nat} (h : s.HubKept w t) (hlo : ¬ hubReg lo) (hhi : ¬ hubReg hi) :
    s.HubKept w (t.setReg64 lo hi v) := (h.setReg hlo).setReg hhi
theorem HubKept.setMaskBit {a n : Nat} {b : Bool} (h : s.HubKept w t) (ha : 0x140000 ≤ a) : s.HubKept w (t.setMaskBit a n b) :=
  h.setBitAt (not_hubReg_above (Nat.le_add_right_of_le ha))
theorem HubKept.setBoth {a : Nat} {v : Word} (h : s.HubKept w t) (ha : ¬ hubReg a) : s.HubKept w (t.setBoth a v) :=
  (h.setReg ha).other
/-- A reset of registers of which none is the hub's. -/
theorem HubKept.resetWords {a n : Nat} (h : s.HubKept w t) (ha : ∀ b, a ≤ b → b < a + 4 * n → ¬ hubReg b) :
    s.HubKept w (t.resetWords a n) := by
  refine h.trans ⟨rfl, rfl, rfl, rfl, fun b hb => ?_, fun _ => rfl⟩
  have hout : decide (b < a) || decide (a + 4 * n ≤ b) := by
    simp only [Bool.or_eq_true, decide_eq_true_eq]
    by_contra hin
    exact ha b (by omega) (by omega) hb
  have hget := Map.get_filter regDefault t.regs _ (fun b => decide (b < a) || decide (a + 4 * n ≤ b)) (fun _ => rfl) b
  exact hget.trans (if_pos hout)
theorem HubKept.logEvent {code unit data} (h : s.HubKept w t) : s.HubKept w (t.logEvent code unit data) := by
  unfold State.logEvent
  extract_lets _ u
  have hu : s.HubKept w u := .ite h.other h
  exact .ite hu.other (hu.other.addSat (by unfold hubReg; decide))
theorem HubKept.writeBytes {a bs} (h : s.HubKept true t) : s.HubKept true (t.writeBytes a bs) := by
  rw [State.writeBytes_eq]
  exact h.stored

/-! Timing sets, calibration and control stores. -/

theorem HubKept.tsWrite {k t' f} (h : s.HubKept w t) : s.HubKept w (t.tsWrite k t' f) :=
  h.forEach fun _ _ h1 => h1.setBoth not_hubReg_ts
theorem HubKept.loadTsets {g k} (h : s.HubKept w t) : s.HubKept w (t.loadTsets g k) := by
  refine .forEach (h.resetWords fun b hb _ => not_hubReg_above ?_) fun _ _ h1 => h1.tsWrite
  rw [tsAddr, TS_PERIOD, tsBase, clBase] at hb
  omega
theorem HubKept.setCal {u v} (h : s.HubKept w t) : s.HubKept w (t.setCal u v) := h.other
theorem HubKept.calLoad {u} (h : s.HubKept w t) (hu : u < 26) : s.HubKept w (t.calLoad u) := by
  unfold State.calLoad
  extract_lets _ u1
  have h1 : s.HubKept w u1 := h.forEach fun _ _ h1 => (h1.event (by unfold hubReg; decide)).logEvent
  have hv : ¬ hubReg MNT_CAL_VALID ∧ ¬ hubReg MNT_CAL_DUE := by unfold hubReg; decide
  split
  · exact (h1.setCal.setBitAt hv.1).setBitAt hv.2
  · have hr (o : Nat) (ho : 0x60000 ≤ o ∧ o < 0x61000) : ¬ hubReg (o + u * 32) := not_hubReg_wake (by omega)
    exact ((((h1.setCal.setReg (hr _ (by decide))).setReg (hr _ (by decide))).setReg64 (hr _ (by decide))
      (hr _ (by decide))).setBitAt hv.1).setFld (hr _ (by decide))
theorem HubKept.setMsq {m v} (h : s.HubKept w t) : s.HubKept w (t.setMsq m v) := h.other
theorem HubKept.restoreVendor {m} (h : s.HubKept w t) : s.HubKept w (t.restoreVendor m) := h.setMsq
theorem HubKept.restoreStore {m} (h : s.HubKept w t) : s.HubKept w (t.restoreStore m) := h.setMsq
theorem HubKept.upsetStore {m l} (h : s.HubKept w t) : s.HubKept w (t.upsetStore m l) := .ite h h.setMsq
theorem HubKept.countBad {m} (h : s.HubKept w t) : s.HubKept w (t.countBad m) :=
  (h.addSat not_hubReg_msq).event not_hubReg_msq
theorem HubKept.countCorrected {m a v} (h : s.HubKept w t) : s.HubKept w (t.countCorrected m a v) :=
  ((h.addSat not_hubReg_msq).event not_hubReg_msq).setMsq
theorem HubKept.restoreFor {m a} (h : s.HubKept w t) : s.HubKept w (t.restoreFor m a) :=
  .ite h.countBad.restoreVendor h.countBad.restoreStore
theorem HubKept.readStore {m} (h : s.HubKept w t) : s.HubKept w (t.readStore m).1 := by
  refine h.forEach fun u a h1 => ?_
  split
  · exact h1.countCorrected
  · exact h1
theorem HubKept.checkStore {m} (h : s.HubKept w t) : s.HubKept w (t.checkStore m).1 := by
  have h1 : s.HubKept w (t.readStore m).1 := h.readStore
  unfold State.checkStore
  split
  · next e => rwa [e] at h1
  · next u a e =>
    rw [e] at h1
    have h2 : s.HubKept w ((u.restoreFor m a).readStore m).1 := h1.restoreFor.readStore
    split
    · next e' => rwa [e'] at h2
    · next e' =>
      rw [e'] at h2
      exact h2.countBad
theorem HubKept.becomeDue {u} (h : s.HubKept w t) : s.HubKept w (t.becomeDue u) :=
  .ite h ((h.setCal.setBitAt (by unfold hubReg; decide)).event (by unfold hubReg; decide)).logEvent

/-! Channels. -/

theorem HubKept.setChan {c v} (h : s.HubKept w t) : s.HubKept w (t.setChan c v) := h.other
theorem HubKept.syncReset {k} (h : s.HubKept w t) : s.HubKept w (t.syncReset k) :=
  (((h.other (clus := _)).setReg64 (not_hubReg_cl (o := 0x3001C)) (not_hubReg_cl (o := 0x30020))).event
    (not_hubReg_cl (o := 0x30014))).forEach fun _ _ h1 => .ite h1 h1.setChan
theorem HubKept.setAnState {a v} (h : s.HubKept w t) : s.HubKept w (t.setAnState a v) :=
  h.setFld (not_hubReg_above (by simp only [AN_STATUS]; omega))
theorem HubKept.setAna {a v} (h : s.HubKept w t) : s.HubKept w (t.setAna a v) := h.other
theorem HubKept.takeRange {a} (h : s.HubKept w t) : s.HubKept w (t.takeRange a) :=
  .ite h (h.setFld (not_hubReg_above (by simp only [AN_STATUS]; omega))).setAnState.setAna
theorem HubKept.parkAn {a} (h : s.HubKept w t) : s.HubKept w (t.parkAn a) :=
  .ite h.setAnState (.ite h.setAnState.setAna h.setAnState.setAna.takeRange)
theorem HubKept.pmuLeaves {cs} (h : s.HubKept w t) : s.HubKept w (t.pmuLeaves cs) :=
  h.forEach fun _ _ h1 => (HubKept.ite (h1.other.setBitAt not_hubReg_chan) h1).setChan
end State
end Sys2Proof.Machine
end

section
/-! The reload of a stale island (R59 to R61): its begin, its end with success, and its end with a fault. -/

namespace Sys2Proof.Machine
namespace State
variable {w : Bool} {s t : State} {i : Nat}

/-! The begin. -/

theorem islandCals_lt {u : Nat} (hi : i < 26) (h : u ∈ islandCals i) : u < 26 := by
  unfold islandCals at h
  split at h
  · simp_all
  · split at h <;> simp_all
theorem HubKept.reloadPart (h : s.HubKept w t) (hi : i < 26) : s.HubKept w (t.reloadPart i) := by
  unfold State.reloadPart
  refine .ite h ?_
  extract_lets _ u1
  have h1 : s.HubKept w u1 := by
    unfold u1
    split
    · exact .ite h.loadTsets h
    · exact h
  have h2 : s.HubKept w (u1.forEach (islandCals i) State.calLoad) :=
    State.forEach_keeps _ _ _ (fun u x hx hu => hu.calLoad (islandCals_lt hi hx)) u1 h1
  exact .ite (.ite h2.restoreVendor.restoreStore h2) h1

/-- A stale island that is ON and sound, of which no reload runs, when no reset runs. -/
def mayReload (s : State) (i : Nat) : Prop :=
  i < 26 ∧ s.stale i = true ∧ s.islandMode i = 0 ∧ s.cfg.reloading.contains i = false ∧ s.aon.resetting = 0 ∧
    (islandUnits i).all s.cont.faulted.contains = false
/-- The reload of an island begins with its part of the set. -/
def beginReload (s : State) (i : Nat) : State :=
  { s.reloadPart i with cfg := { (s.reloadPart i).cfg with reloading := (s.reloadPart i).cfg.reloading ++ [i] } }

theorem exec_staleReload (h : s.mayReload i) : exec (.staleReload i) s = .next (s.beginReload i) := by
  obtain ⟨hi, hs, hm, hr, ha, hf⟩ := h
  show execStaleReload i s = _
  exact if_neg (by rw [hs, hm, hr, ha, hf, decide_eq_false (Nat.not_le.mpr hi)]; decide)
theorem exec_staleReload_not (h : ¬ s.mayReload i) : exec (.staleReload i) s = .next s := by
  show execStaleReload i s = _
  refine if_pos ?_
  by_contra hc
  refine h ?_
  simp only [Bool.or_eq_true, decide_eq_true_eq, Bool.not_eq_true', bne_iff_ne, not_or, Bool.not_eq_true, ne_eq, not_not,
    Bool.not_eq_false] at hc
  obtain ⟨⟨⟨⟨⟨hi, hs⟩, hm⟩, hr⟩, ha⟩, hf⟩ := hc
  exact ⟨Nat.not_le.mp hi, hs, hm, hr, ha, hf⟩

/-! The end. -/

/-- The check of the control store that comes with the end of a cluster's reload. -/
def checkReload (s : State) (i : Nat) (upsets : List (Nat × BitVec 128)) : State × Bool :=
  if i < 16 then (s.upsetStore i upsets).checkStore i else (s, true)
/-- The island's calibration is queued and its cluster synchronized. -/
def queueReload (s : State) (i : Nat) : State :=
  let s := s.forEach ((islandCals i).filter s.calMoved) State.becomeDue
  if i < 16 then s.syncReset i else s
/-- The island takes the active generation. -/
def takeGen (s : State) (i : Nat) : State := (s.setGen i s.activeGen).event CFG_STATUS 2
/-- The analog channels of the island park. -/
def parkReload (s : State) (i : Nat) : State :=
  if i = 16 then s.forEach ((List.range 16).filter (fun a => s.anState a == 0)) State.parkAn else s
/-- The reload fails, and the units of the island are faulted. -/
def failReload (s : State) (i : Nat) : State :=
  (s.event CFG_STATUS 3).forEach (islandUnits i) (fun s u => s.faultUnit u.1 u.2)

theorem exec_staleReloadEnd_idle {ok : Bool} {upsets : List (Nat × BitVec 128)} (h : s.cfg.reloading.contains i = false) :
    exec (.staleReloadEnd i ok upsets) s = .next s := by
  show execStaleReloadEnd i ok upsets s = _
  exact if_pos (by rw [h]; rfl)
theorem exec_staleReloadEnd {ok : Bool} {upsets : List (Nat × BitVec 128)} (h : s.cfg.reloading.contains i = true) :
    exec (.staleReloadEnd i ok upsets) s = .next (if ok && ((s.endReload i).checkReload i upsets).2
      then ((((s.endReload i).checkReload i upsets).1.queueReload i).takeGen i).parkReload i
      else ((s.endReload i).checkReload i upsets).1.failReload i) := by
  show execStaleReloadEnd i ok upsets s = _
  exact if_neg (by rw [h]; decide)
theorem checkReload_good {upsets : List (Nat × BitVec 128)} :
    (s.checkReload i upsets).2 = (decide (16 ≤ i) || ((s.upsetStore i upsets).checkStore i).2) := by
  unfold checkReload
  by_cases h : i < 16
  · rw [if_pos h, decide_eq_false (by omega), Bool.false_or]
  · rw [if_neg h, decide_eq_true (by omega), Bool.true_or]

theorem HubKept.checkReload {upsets} (h : s.HubKept w t) : s.HubKept w (t.checkReload i upsets).1 := by
  unfold State.checkReload
  split
  · exact h.upsetStore.checkStore
  · exact h
theorem HubKept.queueReload (h : s.HubKept w t) : s.HubKept w (t.queueReload i) :=
  have h1 := h.forEach fun _ _ h1 => h1.becomeDue
  .ite h1.syncReset h1
theorem HubKept.parkReload (h : s.HubKept w t) : s.HubKept w (t.parkReload i) := .ite (h.forEach fun _ _ h1 => h1.parkAn) h

/-! Success. -/

theorem takeGen_parkReload_fresh : (((s.takeGen i).parkReload i).genOf i = s.activeGen) ∧
    ((s.takeGen i).parkReload i).stale i = false := by
  have hk : (s.takeGen i).HubKept true ((s.takeGen i).parkReload i) := (HubKept.refl _).parkReload
  have hgen : ((s.takeGen i).parkReload i).genOf i = s.activeGen := by
    rw [genOf, hk.cfg]
    exact Map.get_set_same natDefault s.cfg.gens i s.activeGen
  have hact : ((s.takeGen i).parkReload i).activeGen = s.activeGen := by
    rw [activeGen, hk.regs _ (by unfold hubReg; decide)]
    exact congrArg BitVec.toNat ((s.setGen i s.activeGen).reg_event_ne 2 (by decide))
  exact ⟨hgen, by rw [stale, hgen, hact, bne_self_eq_false]⟩
/-- Lane groups have no calibration, control store or analog channels: their reload only takes the generation. -/
theorem queueReload_lane (h : 17 ≤ i ∧ i ≤ 24) : s.queueReload i = s := by
  have hcal : islandCals i = [] := by unfold islandCals; rw [if_neg (by omega), if_neg (by omega)]
  unfold queueReload
  rw [hcal, if_neg (by omega)]
  rfl

/-! Failure. -/

theorem isFaulted_mono (h : s.StopKept t) {cls ix : Nat} (hf : s.isFaulted cls ix = true) : t.isFaulted cls ix = true :=
  List.contains_iff_mem.mpr (h.faulted _ (List.contains_iff_mem.mp hf))
theorem isFaulted_markFaulted (cls ix : Nat) : (s.markFaulted cls ix).1.isFaulted cls ix = true := by
  unfold markFaulted
  extract_lets _ _ _ _ u _
  refine isFaulted_mono (s := u) ?_ (List.contains_iff_mem.mpr (List.mem_append_right _ (List.mem_singleton_self _)))
  exact ((StopKept.refl u).forEach fun _ _ h => h.stopOp).enterFault.stopAuto
theorem isFaulted_faultUnit (cls ix : Nat) : (s.faultUnit cls ix).isFaulted cls ix = true := by
  unfold faultUnit
  split
  · assumption
  · exact isFaulted_mono (StopKept.refl _).logEvent (isFaulted_markFaulted cls ix)
theorem isFaulted_faultUnits (l : List (Nat × Nat)) :
    ∀ x ∈ l, (s.forEach l (fun s u => s.faultUnit u.1 u.2)).isFaulted x.1 x.2 = true := by
  induction l generalizing s with
  | nil => exact nofun
  | cons y l ih =>
    rintro x (_ | ⟨_, hx⟩)
    · exact isFaulted_mono ((StopKept.refl (s.faultUnit y.1 y.2)).forEach fun _ _ h => h.faultUnit) (isFaulted_faultUnit y.1 y.2)
    · exact ih x hx
theorem failReload_stopKept : (s.event CFG_STATUS 3).StopKept (s.failReload i) := (StopKept.refl _).forEach fun _ _ h => h.faultUnit

theorem evq_pmuLeaves (cs : List Nat) : (s.pmuLeaves cs).evq = s.evq := by
  unfold pmuLeaves
  refine forEach_keeps (fun u => u.evq = s.evq) _ _ (fun u c _ hu => ?_) s rfl
  rw [State.setChan_evq]
  split
  · exact (State.setBitAt_evq ..).trans hu
  · exact hu
theorem evq_stopAuto (cls ix : Nat) : (s.stopAuto cls ix).evq = s.evq := by
  unfold stopAuto
  extract_lets
  split <;> rfl
/-- With nothing in flight the fault of a cluster stops nothing. -/
theorem markFaulted_idle {k : Nat} (hops : s.ops = []) : s.HubKept false (s.markFaulted 6 k).1 ∧
    (s.markFaulted 6 k).1.evq = s.evq ∧ (s.markFaulted 6 k).2 = 0 := by
  have hit : s.needing 6 k = [] := by simp only [needing, hops, List.filter_nil]
  unfold markFaulted
  rw [hit]
  refine ⟨?_, (evq_stopAuto 6 k).trans (evq_pmuLeaves _), rfl⟩
  exact .ite ((HubKept.refl s).pmuLeaves.other).setCal (HubKept.refl s).pmuLeaves.other
/-- So it is logged with 0. -/
theorem faultUnit_idle {k : Nat} (hops : s.ops = []) (hf : s.isFaulted 6 k = false) :
    s.Logged (s.faultUnit 6 k) 0x030B (4096 * 6 + k) 0 ∧ s.HubKept false (s.faultUnit 6 k) := by
  obtain ⟨hkept, hevq, hzero⟩ := markFaulted_idle (k := k) hops
  have hnow : (s.markFaulted 6 k).1.now = s.now := congrArg Tb.gcc hkept.tb
  have hlog : s.faultUnit 6 k = (s.markFaulted 6 k).1.logEvent 0x030B (4096 * 6 + k) 0 := by
    rw [← hzero, faultUnit, hf]
    rfl
  rw [hlog]
  refine ⟨?_, hkept.logEvent⟩
  rw [Logged, logEvent_recs, hevq, hnow]

/-- Nothing is logged and no unit is faulted. -/
def Quiet (s t : State) : Prop := t.evq = s.evq ∧ t.cont = s.cont
theorem quiet_readStore {m : Nat} (h : s.Quiet t) : s.Quiet (t.readStore m).1 := by
  refine forEach_keeps s.Quiet _ _ (fun u a _ hu => ?_) t h
  split
  · exact hu
  · exact hu
theorem quiet_checkStore {m : Nat} (h : s.Quiet t) : s.Quiet (t.checkStore m).1 := by
  have h1 : s.Quiet (t.readStore m).1 := quiet_readStore h
  unfold checkStore
  split
  · next e => rwa [e] at h1
  · next u a e =>
    rw [e] at h1
    have h2 : s.Quiet ((u.restoreFor m a).readStore m).1 := by
      refine quiet_readStore ?_
      unfold restoreFor
      split <;> exact h1
    split
    · next e' => rwa [e'] at h2
    · next e' =>
      rw [e'] at h2
      exact h2
theorem quiet_checkReload (upsets : List (Nat × BitVec 128)) : s.Quiet (s.checkReload i upsets).1 := by
  unfold checkReload
  split
  · refine quiet_checkStore ?_
    unfold upsetStore
    split <;> exact ⟨rfl, rfl⟩
  · exact ⟨rfl, rfl⟩
end State
end Sys2Proof.Machine

open Sys2Proof Sys2Proof.Machine

/-- Settles O35: the begin and the success from what the loads of a set leave alone, the failure from what a fault leaves alone. -/
theorem staleIslandsReload : Obligations.StaleIslandsReload := by
  unfold Obligations.StaleIslandsReload
  refine ⟨fun i s hi hs hm hr ha hf => ?_, fun i s h => ?_, fun i ok upsets s hi hr => ?_, fun i ok upsets s hr => ?_⟩
  · have hk : s.HubKept false (s.reloadPart i) := (State.HubKept.refl s).reloadPart hi
    refine ⟨_, State.exec_staleReload ⟨hi, hs, hm, hr, ha, hf⟩, ?_, ?_, ?_, hk.ops, hk.store rfl, hk.sec, hk.tb, fun hp => ?_⟩
    · show (s.reloadPart i).cfg.reloading ++ [i] = _
      rw [hk.cfg]
    · show Map.get natDefault (s.reloadPart i).cfg.gens i = _
      rw [hk.cfg]
      rfl
    · show (s.reloadPart i).cfg.active = _
      rw [hk.cfg]
    · have : s.reloadPart i = s := if_pos hp
      rw [State.beginReload, this]
  · refine State.exec_staleReload_not ?_
    rintro ⟨hi, hs, hm, hr, ha, hf⟩
    simp only [hs, hm, hr, ha, hf, Nat.not_le.mpr hi, ne_eq, not_true, reduceCtorEq, or_self] at h
  · extract_lets good
    have hgood : good = (ok && ((s.endReload i).checkReload i upsets).2) := by rw [State.checkReload_good]
    have hkc : (s.endReload i).HubKept false ((s.endReload i).checkReload i upsets).1 := (State.HubKept.refl _).checkReload
    have hfilter : (s.endReload i).cfg.reloading.contains i = false := by simp [State.endReload]
    rw [State.exec_staleReloadEnd hr, ← hgood]
    refine ⟨fun hg => ?_, fun hg => ?_⟩
    · rw [hg]
      have hkq := hkc.queueReload (i := i)
      generalize hq : ((s.endReload i).checkReload i upsets).1.queueReload i = q at hkq
      have hkp : (q.takeGen i).HubKept false ((q.takeGen i).parkReload i) := (State.HubKept.refl _).parkReload
      have hact : q.activeGen = s.activeGen := congrArg BitVec.toNat (hkq.regs _ (by unfold hubReg; decide))
      obtain ⟨hgen, hstale⟩ := State.takeGen_parkReload_fresh (s := q) (i := i)
      refine ⟨_, rfl, hgen.trans hact, hstale, ?_, ?_, hkp.ops.trans hkq.ops, (hkp.store rfl).trans (hkq.store rfl),
        hkp.sec.trans hkq.sec, ?_, fun h17 h24 => ?_⟩
      · rw [if_pos rfl, hkp.cfg, ← hfilter, ← hkq.cfg]
        rfl
      · rw [if_pos rfl, State.bitAt, hkp.regs _ (by unfold hubReg; decide)]
        exact (State.bitAt_event _ CFG_STATUS 2 CFG_STATUS 2 (by decide)).trans (by simp)
      · rw [if_pos rfl, hkp.cfg]
        show q.cfg.active = _
        rw [hkq.cfg]
        rfl
      · have hq' : q = s.endReload i := by
          rw [← hq, State.queueReload_lane ⟨h17, h24⟩, State.checkReload, if_neg (by omega)]
        have hlane : (q.takeGen i).parkReload i = q.takeGen i := if_neg (by omega)
        rw [if_pos rfl, hlane, hq']
        exact ⟨fun a ha => State.reg_event_ne _ 2 (fun e => ha (e ▸ List.mem_cons_self)), rfl⟩
    · rw [hg]
      generalize hc : ((s.endReload i).checkReload i upsets).1 = c at hkc
      have hkf : (c.event CFG_STATUS 3).StopKept (c.failReload i) := State.failReload_stopKept
      refine ⟨_, rfl, ?_, ?_, State.isFaulted_faultUnits _, fun h16 hops hf => ?_⟩
      · rw [if_neg nofun, hkf.cfg, ← hfilter, ← hkc.cfg]
        rfl
      · rw [if_neg nofun, State.bitAt, hkf.regs _ (by unfold stopReg; decide)]
        exact (State.bitAt_event _ CFG_STATUS 3 CFG_STATUS 3 (by decide)).trans (by simp)
      · have hunits : islandUnits i = [(6, i)] := if_pos h16
        obtain ⟨hevq, hcont⟩ : (s.endReload i).Quiet c := hc ▸ State.quiet_checkReload upsets
        have hfc : (c.event CFG_STATUS 3).isFaulted 6 i = false :=
          (congrArg (fun x : Cont => x.faulted.contains (6, i)) hcont).trans hf
        obtain ⟨hlog, hkl⟩ := State.faultUnit_idle (s := c.event CFG_STATUS 3) (k := i) (hkc.ops.trans hops) hfc
        rw [if_neg nofun, State.failReload, hunits]
        refine ⟨?_, hkl.ops.trans (hkc.ops.trans hops), (hkl.store rfl).trans (hkc.store rfl)⟩
        have hnow : (c.event CFG_STATUS 3).now = s.now := congrArg Tb.gcc hkc.tb
        unfold State.Logged at hlog ⊢
        rw [hnow, State.event_evq, hevq] at hlog
        exact hlog
  · exact State.exec_staleReloadEnd_idle hr
end

section
/-! The swap tick (R48): what the units load leaves the hub alone, then the registers and the sets change, then the CONFIG_SWAP
ends. -/

namespace Sys2Proof.Machine
namespace State
variable {w : Bool} {s t : State}

/-! What the units load. -/

theorem HubKept.emptySeg {n} (h : s.HubKept w t) : s.HubKept w (t.emptySeg n) := by
  exact ((((h.setReg (by rw [SEG_D_INFO]; exact not_hubReg_above (by omega))).setReg
    (by rw [SEG_D_VCOUNT]; exact not_hubReg_above (by omega))).setReg
    (by rw [SEG_D_BASE_LO]; exact not_hubReg_above (by omega))).setReg
    (by rw [SEG_D_BASE_HI]; exact not_hubReg_above (by omega))).other
theorem HubKept.swapSegs {g} (h : s.HubKept w t) : s.HubKept w (t.swapSegs g) := h.forEach fun _ _ h1 => h1.emptySeg
theorem HubKept.swapChannels {old g} (h : s.HubKept w t) : s.HubKept w (t.swapChannels old g) :=
  .forEach (h.pmuLeaves.forEach fun _ _ h1 => .ite h1 h1.setChan) fun _ _ h1 =>
    (h1.setBitAt (by unfold hubReg; decide)).setBitAt (by unfold hubReg; decide)
theorem HubKept.swapAbsent {old g} (h : s.HubKept w t) : s.HubKept w (t.swapAbsent old g) := by
  refine State.forEach_keeps _ _ _ (fun u n hn hu => hu.setBitAt ?_) t h
  have : n < 256 := List.mem_range.mp (List.mem_of_mem_filter hn)
  rw [hubReg, GLB_SITE_ABSENT]
  omega
theorem HubKept.swapJets {g} (h : s.HubKept w t) : s.HubKept w (t.swapJets g) := by
  have hen (f : Nat) : 0x140000 ≤ FNT_JET_EN f 0 := by rw [FNT_JET_EN]; omega
  have hinv (f : Nat) : 0x140000 ≤ FNT_JET_INV f 0 := by rw [FNT_JET_INV]; omega
  refine .forEach (h.forEach fun _ f h1 => HubKept.resetWords (h1.resetWords fun b hb _ => ?_) fun b hb _ => ?_)
    fun _ j h1 => ?_
  · exact not_hubReg_above ((hen f).trans hb)
  · exact not_hubReg_above ((hinv f).trans hb)
  · extract_lets u
    have hu : s.HubKept w u := .ite (h1.setMaskBit (hen j.fountain)) h1
    exact .ite (hu.setMaskBit (hinv j.fountain)) hu
theorem HubKept.swapLines {g} (h : s.HubKept w t) : s.HubKept w (t.swapLines g) := h.other.setReg (by unfold hubReg; decide)
theorem HubKept.swapEnergy {old g} (h : s.HubKept w t) : s.HubKept w (t.swapEnergy old g) :=
  .ite h.other (h.other.resetWords fun b hb hb' =>
    not_hubReg_wake ⟨by rw [NRG_K_A] at hb; omega, by rw [NRG_K_A] at hb'; omega⟩)
theorem HubKept.setBhead {r off n v} (h : s.HubKept true t) : s.HubKept true (t.setBhead r off n v) := h.writeBytes
theorem HubKept.clearBasin {r} (h : s.HubKept true t) : s.HubKept true (t.clearBasin r) :=
  (h.setBhead.setBhead.setBhead.setBhead.setBhead.setBhead.other.setMaskBit (by decide)).setMaskBit (by decide)
theorem HubKept.newBasin {r} (h : s.HubKept true t) : s.HubKept true (t.newBasin r) :=
  h.writeBytes.setBhead.setBhead.setBhead.setBhead.clearBasin
theorem HubKept.swapBasins {old g} (h : s.HubKept true t) : s.HubKept true (t.swapBasins old g) := by
  unfold State.swapBasins
  refine h.forEach fun _ _ h1 => ?_
  split
  · exact h1.newBasin
  · exact (h1.setMaskBit (by decide)).setMaskBit (by decide)

/-! Queues that open. -/

/-- What the registers of a queue that has opened hold (R69). -/
def Opened (s : State) (q : Nat) : Prop :=
  s.reg (WQ_SQ_HEAD q) = 0 ∧ s.reg (WQ_SQ_TAIL q) = 0 ∧ s.reg (WQ_CQ_HEAD q) = 0 ∧ s.reg (WQ_CQ_TAIL q) = 0 ∧
    s.reg (WQ_NEXT_SEQ_LO q) = 1 ∧ s.reg (WQ_NEXT_SEQ_HI q) = 0

theorem Opened.keep {q : Nat} (h : s.Opened q)
    (hr : ∀ o < 0x40, t.reg (0x100000 + q * 0x40 + o) = s.reg (0x100000 + q * 0x40 + o)) :
    t.Opened q := by
  obtain ⟨h1, h2, h3, h4, h5, h6⟩ := h
  exact ⟨(hr 4 (by decide)).trans h1, (hr 0 (by decide)).trans h2, (hr 0xC (by decide)).trans h3, (hr 8 (by decide)).trans h4,
    (hr 0x20 (by decide)).trans h5, (hr 0x24 (by decide)).trans h6⟩
theorem Opened.nextSeq {q : Nat} (h : s.Opened q) : s.nextSeq q = 1 := by
  obtain ⟨-, -, -, -, hlo, hhi⟩ := h
  rw [State.nextSeq, reg64, hlo, hhi]
  rfl
/-- A queue that opens writes its own registers only. -/
theorem reg_openQueue_ne {q a : Nat} (h : a < 0x100000 + q * 0x40 ∨ 0x100000 + q * 0x40 + 0x40 ≤ a) :
    (s.openQueue q).reg a = s.reg a := by
  have hne (o : Nat) (ho : o < 0x40) : a ≠ 0x100000 + q * 0x40 + o := by omega
  rw [openQueue, reg_setReg64, if_neg (hne 0x24 (by decide)), if_neg (hne 0x20 (by decide))]
  simp only [List.foldl, reg_setReg, hne _ (show 0 < 0x40 by decide), hne 4 (by decide), hne 8 (by decide), hne 0xC (by decide),
    hne 0x38 (by decide), if_false]
theorem opened_openQueue (q : Nat) : (s.openQueue q).Opened q := by
  simp [Opened, openQueue, reg_setReg64, reg_setReg]
theorem opened_forEach {l : List Nat} {q : Nat} (h : q ∈ l ∨ s.Opened q) : (s.forEach l openQueue).Opened q := by
  induction l generalizing s with
  | nil => simpa using h
  | cons p l ih =>
    refine ih (s := s.openQueue p) ?_
    by_cases hp : q = p
    · exact .inr (hp ▸ opened_openQueue q)
    · refine h.imp (fun hq => (List.mem_cons.mp hq).resolve_left hp) fun hq => hq.keep fun o ho => reg_openQueue_ne ?_
      omega
theorem opened_swapQueues {old : Nat → Option QRec} {g : ImageSet} {q : Nat}
    (hq : q ∈ g.queues.map QRec.queue) (ho : old q = none) :
    (s.swapQueues old g).Opened q :=
  opened_forEach (l := (g.queues.map QRec.queue).filter (fun q => (old q).isNone))
    (.inl (List.mem_filter.mpr ⟨hq, by rw [ho]; rfl⟩))

/-! The registers that describe the sets. -/

/-- Only registers have changed. -/
def SameParts (s t : State) : Prop := t = { s with regs := t.regs }
theorem showSet_same (idReg verReg digest : Nat) (g : Option ImageSet) : s.SameParts (s.showSet idReg verReg digest g) := by
  refine forEach_keeps s.SameParts _ _ (fun u i _ hu => ?_) _ rfl
  rw [SameParts] at hu ⊢
  rw [hu]
  rfl
theorem reg_showSet {idReg verReg digest a : Nat} (g : Option ImageSet) (h : a < digest ∨ digest + 32 ≤ a) :
    (s.showSet idReg verReg digest g).reg a = if a = verReg then BitVec.ofNat 32 ((g.map ImageSet.version).getD 0)
      else if a = idReg then BitVec.ofNat 32 ((g.map ImageSet.imageId).getD 0) else s.reg a := by
  refine forEach_keeps (fun t => t.reg a = _) _ _ (fun u i hi hu => ?_) _ ?_
  · have hi : i < 8 := List.mem_range.mp hi
    exact (u.reg_setReg_ne _ (by omega)).trans hu
  · rw [reg_setReg, reg_setReg]
theorem reg_putActive_ne (g : Option ImageSet) {a : Nat}
    (h : a ∉ [CFG_ACTIVE_IMAGE_ID, CFG_ACTIVE_VERSION] ∧ (a < 0x20060 ∨ 0x20080 ≤ a)) :
    (s.putActive g).reg a = s.reg a := by
  obtain ⟨hne, hd⟩ := h
  simp only [List.mem_cons, List.not_mem_nil, or_false, not_or] at hne
  rw [putActive, reg_showSet g hd, if_neg hne.2, if_neg hne.1]
  rfl
theorem reg_putShadow_ne (g : Option ImageSet) {a : Nat}
    (h : a ∉ [CFG_SHADOW_IMAGE_ID, CFG_SHADOW_VERSION] ∧ (a < 0x20080 ∨ 0x200A0 ≤ a)) :
    (s.putShadow g).reg a = s.reg a := by
  obtain ⟨hne, hd⟩ := h
  simp only [List.mem_cons, List.not_mem_nil, or_false, not_or] at hne
  rw [putShadow, reg_showSet g hd, if_neg hne.2, if_neg hne.1]
  rfl

/-! The parts of the swap. -/

/-- The sets stand exchanged: `old` is the set that was active. -/
def exchange (s : State) (g : ImageSet) (asn : Option Asn) (old : Option ImageSet) : State :=
  let s := (s.putActive (some g)).putShadow (if asn.isSome then old else none)
  { s with cfg := { s.cfg with swap := none } }.setShadow (if asn.isSome then 5 else 0)
/-- What the units load before the queues open. -/
def loadBefore (s : State) (g : ImageSet) (old : Option ImageSet) : State :=
  ((s.swapSegs g).swapChannels (fun c => old.bind (fun o => o.siteOfCh c)) g).swapAbsent
    (fun n => old.bind (fun o => o.siteEnt n)) g
/-- What they load after. -/
def loadAfter (s : State) (g : ImageSet) (old : Option ImageSet) : State :=
  (((s.swapJets g).swapLines g).swapEnergy (old.map ImageSet.energy) g).swapBasins (fun n => old.bind (fun o => o.basin n)) g
/-- The new generation is in force in the hub and in the clusters that held the former one. -/
def startGeneration (s : State) (g : ImageSet) (gen : Nat) (l : List Nat) : State :=
  (s.swapGeneration gen).forEach (l.filter (fun i => decide (i < 16))) (fun s k => s.loadTsets g k)
/-- Records that are owed to queues which the set lacks are counted. -/
def markOwed (s : State) (g : ImageSet) : State :=
  if (s.cont.slots.flatMap PfSlot.owed).any (fun x => (g.queueRec x.queue).isNone) then s.event MEM_EVENTS 4 else s

theorem swapSets_eq (g : ImageSet) (x : Swap) : s.swapSets g x =
    (((((s.loadBefore g s.cfg.active).swapQueues (fun q => s.cfg.active.bind (fun o => o.queueRec q)) g).loadAfter g
      s.cfg.active).startGeneration g x.gen s.freshIslands).exchange g x.asn s.cfg.active).markOwed g := rfl

theorem HubKept.loadBefore {g old} (h : s.HubKept w t) : s.HubKept w (t.loadBefore g old) := h.swapSegs.swapChannels.swapAbsent
theorem HubKept.loadAfter {g old} (h : s.HubKept true t) : s.HubKept true (t.loadAfter g old) :=
  h.swapJets.swapLines.swapEnergy.swapBasins
theorem HubKept.markOwed {g} (h : s.HubKept w t) : s.HubKept w (t.markOwed g) := .ite (h.event (by unfold hubReg; decide)) h

/-- The operations, the security block and the timebase stay. -/
def RunKept (s t : State) : Prop := t.ops = s.ops ∧ t.sec = s.sec ∧ t.tb = s.tb
theorem RunKept.trans {u : State} (h : s.RunKept t) (h' : t.RunKept u) : s.RunKept u :=
  ⟨h'.1.trans h.1, h'.2.1.trans h.2.1, h'.2.2.trans h.2.2⟩
theorem HubKept.run (h : s.HubKept w t) : s.RunKept t := ⟨h.ops, h.sec, h.tb⟩
theorem swapQueues_run (old : Nat → Option QRec) (g : ImageSet) : s.RunKept (s.swapQueues old g) :=
  forEach_keeps s.RunKept ((g.queues.map QRec.queue).filter (fun q => (old q).isNone)) openQueue (fun _ _ _ hu => hu) s
    ⟨rfl, rfl, rfl⟩

/-! The new generation. -/

theorem setGens_eq (l : List Nat) (gen : Nat) :
    ∃ m, l.foldl (fun s i => s.setGen i gen) s = { s with cfg := { s.cfg with gens := m } } := by
  refine forEach_keeps (fun t => ∃ m, t = { s with cfg := { s.cfg with gens := m } }) l (fun s i => s.setGen i gen) ?_ s
    ⟨_, rfl⟩
  rintro t i - ⟨_, rfl⟩
  exact ⟨_, rfl⟩
theorem swapGeneration_eq (gen : Nat) : ∃ m, s.swapGeneration gen =
    ((({ s with cfg := { s.cfg with gens := m, locked := true, reloading := [] } }.setReg CFG_ACTIVE_GEN
      (BitVec.ofNat 32 gen)).setReg64 CFG_LAST_SWAP_GCC_LO CFG_LAST_SWAP_GCC_HI s.now).event CFG_STATUS 1) := by
  obtain ⟨m, hm⟩ := s.setGens_eq s.freshIslands gen
  refine ⟨m, ?_⟩
  simp only [swapGeneration, hm]
  rfl

/-- What the start of a generation shows. -/
structure InForce (s : State) (gen now : Nat) : Prop where
  gen : s.reg CFG_ACTIVE_GEN = BitVec.ofNat 32 gen
  swapped : s.reg64 CFG_LAST_SWAP_GCC_LO CFG_LAST_SWAP_GCC_HI = now % 2 ^ 64
  event : s.bitAt CFG_STATUS 1 = true
/-- These registers keep what they show. -/
theorem InForce.keep {gen now : Nat} (h : s.InForce gen now)
    (hr : ∀ a ∈ [CFG_ACTIVE_GEN, CFG_LAST_SWAP_GCC_LO, CFG_LAST_SWAP_GCC_HI, CFG_STATUS], t.reg a = s.reg a) :
    t.InForce gen now := by
  refine ⟨(hr _ (by decide)).trans h.gen, ?_, ?_⟩
  · rw [reg64, hr _ (by decide), hr _ (by decide)]
    exact h.swapped
  · rw [bitAt, hr _ (by decide)]
    exact h.event
theorem swapGeneration_inForce (gen : Nat) : (s.swapGeneration gen).InForce gen s.now := by
  obtain ⟨m, hm⟩ := s.swapGeneration_eq gen
  rw [hm]
  refine ⟨?_, ?_, ?_⟩
  · rw [reg_event_ne _ 1 (by decide), reg_setReg64, if_neg (by decide), if_neg (by decide), reg_setReg_same]
  · rw [reg64, reg_event_ne _ 1 (by decide), reg_event_ne _ 1 (by decide)]
    exact reg64_setReg64 _ _ _ _ (by decide)
  · exact (bitAt_event _ CFG_STATUS 1 CFG_STATUS 1 (by decide)).trans (by simp)
theorem reg_swapGeneration_ne (gen : Nat) {a : Nat}
    (ha : a ∉ [CFG_ACTIVE_GEN, CFG_LAST_SWAP_GCC_LO, CFG_LAST_SWAP_GCC_HI, CFG_STATUS]) :
    (s.swapGeneration gen).reg a = s.reg a := by
  obtain ⟨m, hm⟩ := s.swapGeneration_eq gen
  simp only [List.mem_cons, List.not_mem_nil, or_false, not_or] at ha
  obtain ⟨hg, hl, hh, hs⟩ := ha
  rw [hm, reg_event_ne _ 1 hs, reg_setReg64, if_neg hh, if_neg hl, reg_setReg_ne _ _ hg]
  rfl

/-- After the loads that follow it the generation is in force, the fields are locked and the queues stand as they did. -/
theorem startGeneration_spec (g : ImageSet) (gen : Nat) (l : List Nat) : s.RunKept (s.startGeneration g gen l) ∧
    (s.startGeneration g gen l).InForce gen s.now ∧ (s.startGeneration g gen l).cfg.locked = true ∧
    (s.startGeneration g gen l).cfg.shadow = s.cfg.shadow ∧
    ∀ a, 0x100000 ≤ a → a < 0x140000 → (s.startGeneration g gen l).reg a = s.reg a := by
  have hk : (s.swapGeneration gen).HubKept true (s.startGeneration g gen l) := (HubKept.refl _).forEach fun _ _ h => h.loadTsets
  obtain ⟨m, hm⟩ := s.swapGeneration_eq gen
  have hrun : s.RunKept (s.swapGeneration gen) := by rw [hm]; exact ⟨rfl, rfl, rfl⟩
  refine ⟨hrun.trans hk.run, s.swapGeneration_inForce gen |>.keep fun a ha => hk.regs a ?_, ?_, ?_, fun a hlo hhi => ?_⟩
  · simp only [List.mem_cons, List.not_mem_nil, or_false] at ha
    rcases ha with rfl | rfl | rfl | rfl <;> (unfold hubReg; decide)
  · rw [hk.cfg, hm]
    rfl
  · rw [hk.cfg, hm]
    rfl
  · refine (hk.regs a (.inr ⟨hlo, hhi⟩)).trans (reg_swapGeneration_ne gen ?_)
    simp only [List.mem_cons, List.not_mem_nil, or_false, CFG_ACTIVE_GEN, CFG_LAST_SWAP_GCC_LO, CFG_LAST_SWAP_GCC_HI, CFG_STATUS]
    omega

/-! The exchange. -/

theorem exchange_parts (g : ImageSet) (asn : Option Asn) (old : Option ImageSet) : s.exchange g asn old =
    { s with regs := (s.exchange g asn old).regs,
             cfg := { s.cfg with active := some g, shadow := if asn.isSome then old else none, swap := none } } := by
  have hact : s.putActive (some g) = { s with regs := (s.putActive (some g)).regs, cfg := { s.cfg with active := some g } } :=
    showSet_same (s := { s with cfg := { s.cfg with active := some g } }) ..
  have hsh (u : State) (x : Option ImageSet) :
      u.putShadow x = { u with regs := (u.putShadow x).regs, cfg := { u.cfg with shadow := x } } :=
    showSet_same (s := { u with cfg := { u.cfg with shadow := x } }) ..
  unfold exchange
  extract_lets u
  have hu : u = { s with regs := u.regs, cfg := { s.cfg with active := some g, shadow := if asn.isSome then old else none } } := by
    have h1 := hsh (s.putActive (some g)) (if asn.isSome then old else none)
    rw [hact] at h1
    exact h1
  rw [hu]
  rfl
theorem reg_exchange_ne (g : ImageSet) (asn : Option Asn) (old : Option ImageSet) {a : Nat}
    (ha : a ∉ [CFG_SHADOW_STATE, CFG_ACTIVE_IMAGE_ID, CFG_ACTIVE_VERSION, CFG_SHADOW_IMAGE_ID, CFG_SHADOW_VERSION] ∧
      (a < 0x20060 ∨ 0x200A0 ≤ a)) : (s.exchange g asn old).reg a = s.reg a := by
  obtain ⟨hne, hd⟩ := ha
  simp only [List.mem_cons, List.not_mem_nil, or_false, not_or] at hne
  obtain ⟨hs, hai, hav, hsi, hsv⟩ := hne
  refine (reg_setReg_ne _ _ hs).trans ((reg_putShadow_ne _ ⟨?_, by omega⟩).trans (reg_putActive_ne _ ⟨?_, by omega⟩))
  · simp only [List.mem_cons, List.not_mem_nil, or_false, not_or]
    exact ⟨hsi, hsv⟩
  · simp only [List.mem_cons, List.not_mem_nil, or_false, not_or]
    exact ⟨hai, hav⟩
theorem reg_exchange_active (g : ImageSet) (asn : Option Asn) (old : Option ImageSet) :
    (s.exchange g asn old).reg CFG_ACTIVE_IMAGE_ID = BitVec.ofNat 32 g.imageId ∧
    (s.exchange g asn old).reg CFG_ACTIVE_VERSION = BitVec.ofNat 32 g.version ∧
    (s.exchange g asn old).reg CFG_SHADOW_STATE = BitVec.ofNat 32 (if asn.isSome then 5 else 0) := by
  refine ⟨?_, ?_, reg_setReg_same ..⟩
  · refine (reg_setReg_ne _ _ (by decide)).trans ((reg_putShadow_ne _ (by decide)).trans ?_)
    exact (reg_showSet _ (by decide)).trans ((if_neg (by decide)).trans (if_pos rfl))
  · refine (reg_setReg_ne _ _ (by decide)).trans ((reg_putShadow_ne _ (by decide)).trans ?_)
    exact (reg_showSet _ (by decide)).trans (if_pos rfl)

/-! The swap. -/

/-- What the hub shows after a swap that takes `g` with the generation and the CONFIG_SWAP of `x` at `now`; `old` was active. -/
structure Swapped (t : State) (g : ImageSet) (x : Swap) (old : Option ImageSet) (now : Nat) : Prop where
  cfg : t.cfg.active = some g ∧ t.cfg.swap = none ∧ t.cfg.shadow = (if x.asn.isSome then old else none) ∧ t.cfg.locked = true
  inForce : t.InForce x.gen now
  image : t.reg CFG_ACTIVE_IMAGE_ID = BitVec.ofNat 32 g.imageId
  version : t.reg CFG_ACTIVE_VERSION = BitVec.ofNat 32 g.version
  shadow : t.reg CFG_SHADOW_STATE = BitVec.ofNat 32 (if x.asn.isSome then 5 else 0)
  opened : ∀ r ∈ g.queues, r.queue < 4096 → old.bind (fun o => o.queueRec r.queue) = none → t.Opened r.queue

/-- It stays where the registers of the hub stay. -/
theorem Swapped.keep {g : ImageSet} {x : Swap} {old : Option ImageSet} {now : Nat} (h : s.Swapped g x old now) (hc : t.cfg = s.cfg)
    (hr : ∀ a, hubReg a → t.reg a = s.reg a) : t.Swapped g x old now := by
  have hcfg {a : Nat} (ha : 0x20000 ≤ a ∧ a < 0x30000) : t.reg a = s.reg a := hr a (.inl ha)
  refine ⟨hc ▸ h.cfg, h.inForce.keep fun a ha => hr a ?_, (hcfg (by decide)).trans h.image, (hcfg (by decide)).trans h.version,
    (hcfg (by decide)).trans h.shadow, fun r hr' hq ho => (h.opened r hr' hq ho).keep fun o ho =>
      hr _ (.inr ⟨by omega, by omega⟩)⟩
  simp only [List.mem_cons, List.not_mem_nil, or_false] at ha
  rcases ha with rfl | rfl | rfl | rfl <;> (unfold hubReg; decide)

theorem swapSets_swapped (g : ImageSet) (x : Swap) :
    s.RunKept (s.swapSets g x) ∧ (s.swapSets g x).Swapped g x s.cfg.active s.now := by
  rw [swapSets_eq]
  generalize s.freshIslands = l
  have h1 : s.RunKept (s.loadBefore g s.cfg.active) := ((HubKept.refl (w := true) s).loadBefore).run
  generalize s.loadBefore g s.cfg.active = u1 at h1
  have h2 := h1.trans (u1.swapQueues_run (fun q => s.cfg.active.bind (fun o => o.queueRec q)) g)
  have hopen : ∀ r ∈ g.queues, s.cfg.active.bind (fun o => o.queueRec r.queue) = none →
      (u1.swapQueues (fun q => s.cfg.active.bind (fun o => o.queueRec q)) g).Opened r.queue :=
    fun r hr ho => opened_swapQueues (List.mem_map_of_mem hr) ho
  generalize u1.swapQueues (fun q => s.cfg.active.bind (fun o => o.queueRec q)) g = u2 at h2 hopen
  have hk3 : u2.HubKept true (u2.loadAfter g s.cfg.active) := (HubKept.refl u2).loadAfter
  generalize u2.loadAfter g s.cfg.active = u3 at hk3
  have h3 := h2.trans hk3.run
  obtain ⟨h4, hforce, hlocked, -, hqueue⟩ := u3.startGeneration_spec g x.gen l
  rw [show u3.now = s.now from congrArg Tb.gcc h3.2.2] at hforce
  generalize u3.startGeneration g x.gen l = u4 at h4 hforce hlocked hqueue
  have hparts := u4.exchange_parts g x.asn s.cfg.active
  obtain ⟨himage, hversion, hshadow⟩ := u4.reg_exchange_active g x.asn s.cfg.active
  have hne {a : Nat} (ha) : (u4.exchange g x.asn s.cfg.active).reg a = u4.reg a := reg_exchange_ne g x.asn s.cfg.active (a := a) ha
  generalize u4.exchange g x.asn s.cfg.active = u5 at hparts himage hversion hshadow hne
  have hk6 : u5.HubKept true (u5.markOwed g) := (HubKept.refl u5).markOwed
  have h5 : u4.RunKept u5 := by rw [hparts]; exact ⟨rfl, rfl, rfl⟩
  refine ⟨((h3.trans h4).trans h5).trans hk6.run, Swapped.keep (s := u5) ?_ hk6.cfg hk6.regs⟩
  refine ⟨by rw [hparts]; exact ⟨rfl, rfl, rfl, hlocked⟩, hforce.keep fun a ha => hne ?_, himage, hversion, hshadow,
    fun r hr hq ho => (hopen r hr ho).keep fun o ho' => ?_⟩
  · simp only [List.mem_cons, List.not_mem_nil, or_false] at ha
    rcases ha with rfl | rfl | rfl | rfl <;> decide
  · have hlo : 0x100000 ≤ 0x100000 + r.queue * 0x40 + o := by omega
    have hhi : 0x100000 + r.queue * 0x40 + o < 0x140000 := by omega
    generalize 0x100000 + r.queue * 0x40 + o = a at hlo hhi
    refine ((hne ⟨?_, by omega⟩).trans (hqueue a hlo hhi)).trans (hk3.regs a (.inr ⟨hlo, hhi⟩))
    simp only [List.mem_cons, List.not_mem_nil, or_false, CFG_SHADOW_STATE, CFG_ACTIVE_IMAGE_ID, CFG_ACTIVE_VERSION,
      CFG_SHADOW_IMAGE_ID, CFG_SHADOW_VERSION]
    omega

/-- The end of an operation, and of the swap's activity, leaves the hub's registers alone. -/
theorem EndFrame.hubRegs (h : s.EndFrame t) {a : Nat} (ha : hubReg a) : t.reg a = s.reg a := by
  refine h.2 a ?_
  rw [hubReg] at ha
  simp only [endReg, NRG_DENIED, NRG_EVENTS, Bool.or_eq_false_iff, decide_eq_false_iff_not, beq_eq_false_iff_ne]
  omega
theorem EndFrame.hubParts (h : s.EndFrame t) : t.cfg = s.cfg ∧ t.sec = s.sec ∧ t.tb = s.tb := by
  rw [h.1]
  exact ⟨rfl, rfl, rfl⟩
theorem Swapped.shadowState {g : ImageSet} {x : Swap} {old : Option ImageSet} {now : Nat} (h : s.Swapped g x old now) :
    s.shadowState = if x.asn.isSome then 5 else 0 := by
  rw [State.shadowState, fld, h.shadow]
  split <;> rfl

/-! The command. -/

/-- The swap with its end: the CONFIG_SWAP completes, or the activity of ACTIVATE ends. -/
def finishSwap (s : State) (g : ImageSet) (x : Swap) : State :=
  match x.asn with
  | some a => (s.swapSets g x).endOp a 0 0 0
  | none => (s.swapSets g x).mntEnd 1 0
theorem finishSwap_endFrame (g : ImageSet) (x : Swap) : (s.swapSets g x).EndFrame (s.finishSwap g x) := by
  unfold finishSwap
  split
  · exact endFrame_endOp ..
  · exact endFrame_mntEnd ..
theorem finishSwap_ended {g : ImageSet} {x : Swap} {a : Asn} {o : Op} (hx : x.asn = some a) (ho : s.op? a = some o)
    (hp : o.phase ≠ .ended) : (s.finishSwap g x).Ended o 0 0 s.now 0 := by
  obtain ⟨⟨hops, -, htb⟩, -⟩ := s.swapSets_swapped g x
  have ho' : (s.swapSets g x).op? a = some o := by rw [op?, hops]; exact ho
  have hend := ended_endOpAt (s.swapSets g x) a 0 0 (s.swapSets g x).now 0 o ho' hp
  rw [show (s.swapSets g x).now = s.now from congrArg Tb.gcc htb] at hend
  rw [finishSwap, hx]
  show ((s.swapSets g x).endOpAt a 0 0 (s.swapSets g x).now 0).Ended o 0 0 s.now 0
  rw [show (s.swapSets g x).now = s.now from congrArg Tb.gcc htb]
  exact hend

theorem exec_swapTick_due {g : ImageSet} {x : Swap} (hs : s.cfg.swap = some x) (hg : s.cfg.shadow = some g)
    (ha : s.aon.resetting = 0) (hd : x.tick ≤ s.now) (hm : s.mntRuns 1 0 = true) : exec .swapTick s = .next (s.finishSwap g x) := by
  show execSwapTick s = _
  simp only [execSwapTick, hs, ha, advanceTo_past s hd, swapDue, hg, hm, Nat.not_lt.mpr hd, ne_eq, not_true, if_false,
    Bool.not_true, reduceCtorEq, or_self]
  rfl
theorem exec_swapTick_none (h : s.cfg.swap = none ∨ s.aon.resetting ≠ 0) : exec .swapTick s = .next s := by
  show execSwapTick s = _
  unfold execSwapTick
  refine congrArg _ ?_
  split
  · next e => exact if_pos (h.resolve_left (by rw [e]; nofun))
  · rfl
theorem exec_swapTick_waits {x : Swap} (hs : s.cfg.swap = some x) (h : s.advanceTo x.tick = s)
    (hw : s.now < x.tick ∨ s.mntRuns 1 0 = false) : exec .swapTick s = .next s := by
  show execSwapTick s = _
  simp only [execSwapTick, hs, h, swapDue]
  refine congrArg _ ?_
  split
  · rfl
  · split
    · next e _ =>
      obtain rfl := Option.some.inj e
      exact if_pos (hw.imp_right fun hm => by rw [hm]; rfl)
    · rfl
end State
end Sys2Proof.Machine

open Sys2Proof Sys2Proof.Machine

/-- Settles O34: what the units load leaves the hub alone, and what the hub shows outlives the end of the CONFIG_SWAP. -/
theorem swapTickPutsTheSetInForce : Obligations.SwapTickPutsTheSetInForce := by
  unfold Obligations.SwapTickPutsTheSetInForce
  refine ⟨fun s g x hs hg ha hd hm => ?_, fun s h => State.exec_swapTick_none h, fun s x hs hd hm => ?_, fun s x hs hc hd => ?_⟩
  · obtain ⟨⟨-, hsec, htb⟩, hswap⟩ := s.swapSets_swapped g x
    have hend := s.finishSwap_endFrame g x
    obtain ⟨hcfg, hsec', htb'⟩ := State.EndFrame.hubParts hend
    have hfin : (s.finishSwap g x).Swapped g x s.cfg.active s.now :=
      hswap.keep hcfg fun a ha => State.EndFrame.hubRegs hend ha
    obtain ⟨hactive, hnone, hshadow, hlocked⟩ := hfin.cfg
    refine ⟨_, State.exec_swapTick_due hs hg ha hd hm, hactive, hnone, hshadow, hfin.shadowState, hfin.inForce.gen, hfin.image,
      hfin.version, hfin.inForce.swapped, hfin.inForce.event, hlocked, fun r hr hq ho => ?_, fun a hx o ho hp => ?_,
      hsec'.trans hsec, htb'.trans htb⟩
    · have hopen := hfin.opened r hr hq ho
      obtain ⟨hhead, htail, hchead, hctail, -⟩ := id hopen
      exact ⟨hhead, htail, hchead, hctail, hopen.nextSeq⟩
    · rw [hs] at hx
      exact State.finishSwap_ended hx ho hp
  · exact State.exec_swapTick_waits hs (State.advanceTo_past s hd) (.inr hm)
  · exact State.exec_swapTick_waits hs (if_neg (by rw [hc]; exact fun h => absurd h.1 nofun)) (.inl hd)
end

section
/-! CONFIG_SWAP (R41 to R45, R47): it begins where the governor admits it, and then it is armed or it fails; and the operations
before it that wait for later ones end (R42). -/

namespace Sys2Proof.Machine
namespace State
variable {s t w : State} {o p : Op}

theorem asn_of_op? {a : Asn} (h : s.op? a = some o) : o.asn = a := by
  have := List.find?_some h
  simpa using this

/-! The end of one operation after another. -/

/-- The end of an operation leaves another in its place, and changes nothing of it but its work. -/
theorem op?_endOpAt_ne {a b status reason gcc detail : Nat} (hb : b ≠ a) (h : s.op? b = some p) :
    ∃ x, (s.endOpAt a status reason gcc detail).op? b = some { p with work := x } := by
  unfold State.endOpAt
  split
  · exact ⟨p.work, h⟩
  rename_i o ho
  split
  · exact ⟨p.work, h⟩
  extract_lets s1 s2 s3 other
  have ha : o.asn = a := asn_of_op? ho
  have h1 : s1.op? b = some p := by
    refine (Op.find_map_keep _ b (fun q => ?_) s.ops).trans ((congrArg (Option.map _) h).trans ?_)
    · split
      · next e => exact (beq_iff_eq.mp e).symm
      · rfl
    · refine congrArg some (if_neg ?_)
      rw [asn_of_op? h]
      simpa [ha] using hb
  have h2 : s2.ops = (s1.producerEnds o).ops := by
    apply State.forEach_same State.ops
    intro t r hr
    split
    · have hk := State.cluster_of_resources _ o _ hr
      rw [(State.commitFrame_settleCommits _ hk).2.1]
      split
      · exact (State.commitFrame_syncReset t hk).2.1
      · rfl
    · split
      · next hc => exact (State.anaFrame_awgFree t hc.2.2).2
      · rfl
    · rfl
  have h3 : s3.ops = s2.ops := by
    unfold s3
    split <;> rfl
  have hops : ∀ t : State, t.ops = s2.ops → ∃ x, t.op? b = some { p with work := x } := by
    intro t ht
    obtain ⟨f, hf, hw⟩ := State.producerEnds_ops s1 o
    have hasn (q : Op) : (f q).asn = q.asn := by
      obtain ⟨x, hx⟩ := hw q
      rw [hx]
    obtain ⟨x, hx⟩ := hw p
    refine ⟨x, ?_⟩
    rw [op?, ht, h2, hf, Op.find_map_keep f b hasn, show s1.ops.find? (fun q => q.asn == b) = some p from h1, Option.map_some, hx]
  split
  · exact hops _ h3
  · split
    · exact hops _ h3
    · exact hops _ h3

/-- An operation that has ended keeps its outcome when another one's work ends. -/
theorem Ended.endOp {status reason gcc detail a st r d : Nat} (h : s.Ended o status reason gcc detail) :
    (s.endOp a st r d).Ended o status reason gcc detail := by
  obtain ⟨p, hp, hend, hgcc⟩ := h
  by_cases ha : o.asn = a
  · obtain ⟨-, -, -, -, -, hphase, -⟩ := id hend
    rw [endOp_of_ended (ha ▸ hp) hphase]
    exact ⟨p, hp, hend, hgcc⟩
  · obtain ⟨x, hx⟩ := op?_endOpAt_ne (status := st) (reason := r) (gcc := s.now) (detail := d) ha hp
    exact ⟨_, hx, hend, hgcc⟩
theorem endFrame_now (h : s.EndFrame t) : t.now = s.now := by
  rw [h.1]
  rfl
/-- Of operations whose work ends now, each that has its place ends with the outcome. -/
theorem ended_endOps {l : List Op} {st r : Nat} (hp : o.phase ≠ .ended)
    (h : s.Ended o st r s.now 0 ∨ o ∈ l ∧ ∃ x, s.op? o.asn = some { o with work := x }) :
    (s.forEach l (fun s p => s.endOp p.asn st r 0)).Ended o st r s.now 0 := by
  induction l generalizing s with
  | nil =>
    rcases h with h | ⟨hl, -⟩
    · exact h
    · exact nomatch hl
  | cons p l ih =>
    have hnow : (s.endOp p.asn st r 0).now = s.now := endFrame_now (endFrame_endOp ..)
    have hnext : (s.endOp p.asn st r 0).Ended o st r s.now 0 ∨
        o ∈ l ∧ ∃ x, (s.endOp p.asn st r 0).op? o.asn = some { o with work := x } := by
      rcases h with h | ⟨hl, x, hx⟩
      · exact .inl h.endOp
      · by_cases ha : o.asn = p.asn
        · exact .inl (ended_endOpAt s p.asn st r s.now 0 { o with work := x } (ha ▸ hx) hp)
        · obtain ⟨x', hx'⟩ := op?_endOpAt_ne (status := st) (reason := r) (gcc := s.now) (detail := 0) ha hx
          exact .inr ⟨(List.mem_cons.mp hl).resolve_left fun e => ha (e ▸ rfl), x', hx'⟩
    have := ih (s := s.endOp p.asn st r 0) (hnow.symm ▸ hnext)
    rwa [hnow] at this

/-! The begin. -/

/-- An operation that is scheduled runs. -/
def begunOp (s : State) (p : Op) : Op :=
  if p.phase = .scheduled then { p with phase := .running, started := true, startGcc := s.now, lastGcc := s.now } else p
/-- The state in which it does. -/
def begun (s : State) (p : Op) : State := if p.phase = .scheduled then s.beginOp p else s

theorem beginSwap_eq {a : Asn} (ho : s.op? a = some o) (hw : w = if o.phase = .waiting then s.examine else s)
    (hp : w.op? a = some p) : s.beginSwap a = w.begun p := by
  unfold beginSwap
  rw [ho]
  have he : (if (some o).map Op.phase = some .waiting then s.examine else s) = w := by simp [hw]
  simp only [he, hp, begun]
theorem begun_parts (p : Op) : w.begun p = { w with ops := (w.begun p).ops } := by
  unfold begun
  split <;> rfl
theorem op?_begun (hp : w.op? p.asn = some p) : (w.begun p).op? p.asn = some (w.begunOp p) := by
  unfold begun begunOp
  split
  · exact op?_setOp_same w { p with phase := .running, started := true, startGcc := w.now, lastGcc := w.now } p hp
  · exact hp

theorem begunOp_asn : (w.begunOp p).asn = p.asn := by
  unfold begunOp
  split <;> rfl
theorem begunOp_phase (hp : p.phase ≠ .ended) : (w.begunOp p).phase ≠ .ended := by
  unfold begunOp
  split
  · nofun
  · exact hp
/-- An end after the begin differs from one without it in whether the operation has started. -/
theorem endedAs_begunOp {q : Op} {status reason detail : Nat} (h : q.EndedAs (w.begunOp p) status reason detail) :
    q.EndedAs { p with started := q.started } status reason detail ∧ (p.phase = .scheduled → q.started = true) ∧
    (p.phase ≠ .scheduled → q.started = p.started) := by
  obtain ⟨hasn, hqueue, hseq, hdesc, hstarted, hend⟩ := h
  by_cases hp : p.phase = .scheduled
  · rw [begunOp, if_pos hp] at hasn hqueue hseq hdesc hstarted
    exact ⟨⟨hasn, hqueue, hseq, hdesc, rfl, hend⟩, fun _ => hstarted, fun h => absurd hp h⟩
  · rw [begunOp, if_neg hp] at hasn hqueue hseq hdesc hstarted
    exact ⟨⟨hasn, hqueue, hseq, hdesc, rfl, hend⟩, fun h => absurd h hp, fun _ => hstarted⟩
theorem swapReason_begun : (w.begun p).swapReason o = w.swapReason o := by
  unfold begun
  split <;> rfl
theorem running_begun (hp : w.op? p.asn = some p) (hph : p.phase = .scheduled ∨ p.phase = .running) (hop : p.opcode = 0xE) :
    (w.begun p).running? p.asn 0xE = some (w.begunOp p) ∧ (w.begunOp p).phase = .running ∧
      (w.begunOp p).startGcc = if p.phase = .running then p.startGcc else w.now := by
  have hrun : (w.begunOp p).phase = .running ∧ (w.begunOp p).opcode = 0xE ∧
      (w.begunOp p).startGcc = if p.phase = .running then p.startGcc else w.now := by
    unfold begunOp
    rcases hph with h | h
    · rw [if_pos h, h]
      exact ⟨rfl, hop, rfl⟩
    · rw [if_neg (by rw [h]; nofun), if_pos h]
      exact ⟨h, hop, rfl⟩
  obtain ⟨hphase, hopcode, hstart⟩ := hrun
  refine ⟨?_, hphase, hstart⟩
  rw [running?, op?_begun hp, Option.bind_some, hphase, hopcode]
  rfl

/-! The failure. -/

theorem endReg_swapFail : endReg CFG_SWAP_FAIL = false := by decide
/-- A CONFIG_SWAP that fails shows its reason and ends with it; the configuration, the security block and the store stay. -/
theorem failSwap_spec (reason gcc : Nat) (ho : s.op? o.asn = some p) (hp : p.phase ≠ .ended) :
    (s.failSwap o reason gcc).Ended p 9 reason gcc 0 ∧ (s.failSwap o reason gcc).reg CFG_SWAP_FAIL = BitVec.ofNat 32 reason ∧
    (s.failSwap o reason gcc).cfg = s.cfg ∧ (s.failSwap o reason gcc).sec = s.sec ∧
    (s.failSwap o reason gcc).store = s.store := by
  have hend : (s.setReg CFG_SWAP_FAIL (BitVec.ofNat 32 reason)).EndFrame (s.failSwap o reason gcc) := endFrame_endOpAt ..
  refine ⟨ended_endOpAt _ o.asn 9 reason gcc 0 p ho hp, (hend.2 _ endReg_swapFail).trans (reg_setReg_same ..), ?_⟩
  rw [hend.1]
  exact ⟨rfl, rfl, rfl⟩

theorem begun_kept : (w.begun p).cfg = w.cfg ∧ (w.begun p).sec = w.sec ∧ (w.begun p).store = w.store ∧
    (w.begun p).now = w.now ∧ (w.begun p).mntRuns 1 0 = w.mntRuns 1 0 := by
  rw [begun_parts]
  exact ⟨rfl, rfl, rfl, rfl, rfl⟩
/-- The same of one that begins first, if it has not. -/
theorem failSwap_begun (reason gcc : Nat) (hp : w.op? o.asn = some p) (hph : p.phase ≠ .ended) :
    ∃ q, ((w.begun p).failSwap o reason gcc).op? o.asn = some q ∧ q.EndedAs { p with started := q.started } 9 reason 0 ∧
      q.gcc = gcc ∧ (p.phase = .scheduled → q.started = true) ∧ (p.phase ≠ .scheduled → q.started = p.started) ∧
      ((w.begun p).failSwap o reason gcc).reg CFG_SWAP_FAIL = BitVec.ofNat 32 reason ∧
      ((w.begun p).failSwap o reason gcc).cfg = w.cfg ∧ ((w.begun p).failSwap o reason gcc).sec = w.sec ∧
      ((w.begun p).failSwap o reason gcc).store = w.store := by
  have hasn : p.asn = o.asn := asn_of_op? hp
  obtain ⟨⟨q, hq, hend, hgcc⟩, hreg, hcfg, hsec, hstore⟩ :=
    failSwap_spec (o := o) reason gcc (hasn ▸ op?_begun (hasn.symm ▸ hp)) (begunOp_phase (w := w) hph)
  obtain ⟨hend, hsched, hnot⟩ := endedAs_begunOp hend
  obtain ⟨hcfg', hsec', hstore', -⟩ := w.begun_kept (p := p)
  rw [begunOp_asn, hasn] at hq
  exact ⟨q, hq, hend, hgcc, hsched, hnot, hreg, hcfg.trans hcfg', hsec.trans hsec', hstore.trans hstore'⟩

/-! The arming. -/

theorem raiseFloors_eq (g : ImageSet) : s.raiseFloors g =
      { s with regs := (s.raiseFloors g).regs, aon := { s.aon with lt := (s.raiseFloors g).aon.lt },
               sec := { s.sec with cfgFloor := max s.sec.cfgFloor g.policy.floorMin,
                                   csFloor := max s.sec.csFloor g.policy.csFloorMin } } ∧
    s.RegsKept (s.raiseFloors g) [SEC_EVENTS] := by
  unfold raiseFloors
  extract_lets up _ u
  split
  · exact ⟨rfl, fun a ha => u.mramWrite.reg_event_ne 2 (fun e => ha (e ▸ List.mem_cons_self))⟩
  · exact ⟨rfl, RegsKept.refl _ _⟩
/-- The next generation is drawn, the floors rise, and nothing else changes. -/
theorem armSwap_eq (g : ImageSet) (tick : Nat) (asn : Option Nat) : s.armSwap g tick asn =
      { s with regs := (s.armSwap g tick asn).regs, aon := { s.aon with lt := (s.armSwap g tick asn).aon.lt },
               cfg := { s.cfg with before := s.shadowState, genCounter := s.cfg.genCounter + 1,
                                   swap := some ⟨tick, asn, s.cfg.genCounter + 1⟩ },
               sec := { s.sec with cfgFloor := max s.sec.cfgFloor g.policy.floorMin,
                                   csFloor := max s.sec.csFloor g.policy.csFloorMin } } ∧
    (s.armSwap g tick asn).shadowState = 4 ∧ s.RegsKept (s.armSwap g tick asn) [CFG_SHADOW_STATE, SEC_EVENTS] := by
  unfold armSwap
  extract_lets gen _ u
  obtain ⟨hu, hregs⟩ := u.mramWrite.raiseFloors_eq g
  refine ⟨?_, ?_, fun a ha => ?_⟩
  · rw [hu]
    rfl
  · rw [setShadow, shadowState, fld, reg_setReg_same]
    rfl
  · simp only [List.mem_cons, List.not_mem_nil, or_false, not_or] at ha
    exact (reg_setReg_ne _ _ ha.1).trans (hregs a (by simpa using ha.2))
/-- The same of a CONFIG_SWAP that begins first, if it has not. -/
theorem armSwap_begun (g : ImageSet) (hp : w.op? o.asn = some p) :
    ∃ t, (w.begun p).armSwap g ((w.begun p).swapTickOf o) (some o.asn) = t ∧ t.shadowState = 4 ∧
      t.cfg = { w.cfg with before := w.shadowState, genCounter := w.cfg.genCounter + 1,
                           swap := some ⟨max (swapTarget o) (w.now + 3200), some o.asn, w.cfg.genCounter + 1⟩ } ∧
      t.sec = { w.sec with cfgFloor := max w.sec.cfgFloor g.policy.floorMin, csFloor := max w.sec.csFloor g.policy.csFloorMin } ∧
      t.op? o.asn = some (w.begunOp p) ∧
      t = { w with regs := t.regs, cfg := t.cfg, sec := t.sec, ops := t.ops, aon := { w.aon with lt := t.aon.lt } } ∧
      w.RegsKept t [CFG_SHADOW_STATE, SEC_EVENTS] := by
  have hasn : p.asn = o.asn := asn_of_op? hp
  have hop : (w.begun p).op? o.asn = some (w.begunOp p) := hasn ▸ op?_begun (hasn.symm ▸ hp)
  obtain ⟨hparts, hshadow, hregs⟩ := (w.begun p).armSwap_eq g ((w.begun p).swapTickOf o) (some o.asn)
  have hbegun := w.begun_parts p
  generalize w.begun p = v at hparts hshadow hregs hop hbegun
  refine ⟨_, rfl, hshadow, ?_, ?_, ?_, ?_, fun a ha => (hregs a ha).trans (by rw [hbegun]; rfl)⟩
  · rw [hparts, hbegun]
    rfl
  · rw [hparts, hbegun]
  · rw [hparts]
    exact hop
  · rw [hparts, hbegun]

/-! The commands. -/

/-- The CONFIG_SWAP has asked the interlock. -/
def askSwap (s : State) (o : Op) : State := (s.mntAsk 1 0).modOp o.asn (fun p => { p with permitted := true })
theorem askSwap_parts : s.askSwap o = { s with mnt := (s.askSwap o).mnt, ops := (s.askSwap o).ops } := by
  unfold askSwap mntAsk
  extract_lets
  split
  · rfl
  · split <;> rfl
theorem op?_askSwap (ho : s.op? o.asn = some o) : (s.askSwap o).op? o.asn = some { o with permitted := true } := by
  have hops : (s.mntAsk 1 0).ops = s.ops := by
    unfold mntAsk
    extract_lets
    split
    · rfl
    · split <;> rfl
  have hmap : (s.askSwap o).ops = s.ops.map (fun p => if p.asn == o.asn then { p with permitted := true } else p) := by
    rw [← hops]
    rfl
  rw [op?, hmap, Op.find_map_keep _ o.asn (fun q => by split <;> rfl)]
  refine (congrArg (Option.map _) ho).trans (congrArg some (if_pos (beq_self_eq_true _)))

theorem exec_swap_none (h : s.swapWaiting = none) {c : Instr}
    (hc : c ∈ [Instr.configSwapDrainPoint, .configSwapLate, .depUnmeetable]) :
    exec c s = .next s := by
  simp only [List.mem_cons, List.not_mem_nil, or_false] at hc
  rcases hc with rfl | rfl | rfl
  · show execConfigSwapDrainPoint s = _
    rw [execConfigSwapDrainPoint, h]
  · show execConfigSwapLate s = _
    rw [execConfigSwapLate, h]
  · show execDepUnmeetable s = _
    rw [execDepUnmeetable, h]
theorem exec_drainPoint_early (hs : s.swapWaiting = some o) (hd : s.drained o = false) :
    exec .configSwapDrainPoint s = .next s := by
  show execConfigSwapDrainPoint s = _
  simp only [execConfigSwapDrainPoint, hs, hd, Bool.not_false, if_true]
theorem exec_drainPoint_waits (hs : s.swapWaiting = some o) (hd : s.drained o = true) (hm : (s.askSwap o).mntRuns 1 0 = false) :
    exec .configSwapDrainPoint s = .next (s.askSwap o) := by
  show execConfigSwapDrainPoint s = _
  unfold askSwap at hm ⊢
  simp only [execConfigSwapDrainPoint, hs, hd, hm, Bool.not_true, Bool.not_false, Bool.false_eq_true, if_false, true_or, if_true]
/-- With the permission the conditions of R45 decide, once the operation runs. -/
theorem exec_drainPoint_begins (hs : s.swapWaiting = some o) (hd : s.drained o = true) (hm : (s.askSwap o).mntRuns 1 0 = true) :
    exec .configSwapDrainPoint s =
      let v := (s.askSwap o).beginSwap o.asn
      if !v.mntRuns 1 0 ∨ (v.running? o.asn 0xE).isNone then .next v
      else match v.swapReason o, v.cfg.shadow with
        | 0, some g => .next (v.armSwap g (v.swapTickOf o) (some o.asn))
        | r, _ => .next (v.failSwap o r (if r = 3 then lateGcc o else v.now)) := by
  show execConfigSwapDrainPoint s = _
  unfold askSwap at hm ⊢
  simp only [execConfigSwapDrainPoint, hs, hd, hm, Bool.not_true, Bool.false_eq_true, if_false, if_true] <;> rfl
theorem exec_late_not (hs : s.swapWaiting = some o) (h : swapTarget o = 0 ∨ swapLateOk o = true ∨ s.pastDrain o = true) :
    exec .configSwapLate s = .next s := by
  show execConfigSwapLate s = _
  simp only [execConfigSwapLate, hs, if_pos h]
theorem exec_late (hs : s.swapWaiting = some o) (ht : swapTarget o ≠ 0) (hl : swapLateOk o = false) (hd : s.pastDrain o = false)
    (hn : lateGcc o ≤ (s.advanceTo (lateGcc o)).now) :
    exec .configSwapLate s = .next (((s.advanceTo (lateGcc o)).beginSwap o.asn).failSwap o 3 (lateGcc o)) := by
  show execConfigSwapLate s = _
  simp only [execConfigSwapLate, hs, ht, hl, hd, Bool.false_eq_true, or_self, if_false, if_neg (Nat.not_lt.mpr hn)]

theorem exec_depUnmeetable (hs : s.swapWaiting = some o) : exec .depUnmeetable s =
    .next (if (s.ops.filter (fun p => p.asn < o.asn)).all (fun p => p.phase == .waiting && s.namesLater o p)
      then s.forEach (s.ops.filter (fun p => p.asn < o.asn)) (fun s p => s.endOp p.asn 9 0x81 0) else s) := by
  show execDepUnmeetable s = _
  simp only [execDepUnmeetable, hs]
end State
end Sys2Proof.Machine

open Sys2Proof Sys2Proof.Machine

/-- Settles O33: the begin of the CONFIG_SWAP, then its arming or its failure, and the ends of the operations before it in turn. -/
theorem configSwapDrainsAndArms : Obligations.ConfigSwapDrainsAndArms := by
  unfold Obligations.ConfigSwapDrainsAndArms
  intro s
  refine ⟨fun hs c hc => State.exec_swap_none hs hc, fun o hs ho =>
    ⟨State.exec_drainPoint_early hs, ?_, State.exec_late_not hs, ?_, ?_⟩⟩
  · intro u w hd
    have hu : u.op? o.asn = some { o with permitted := true } := State.op?_askSwap ho
    refine ⟨fun hm => ⟨_, State.exec_drainPoint_waits hs hd hm, State.askSwap_parts⟩, fun hm p hp => ?_⟩
    have hv : u.beginSwap o.asn = w.begun p := State.beginSwap_eq hu rfl hp
    have hasn : p.asn = o.asn := State.asn_of_op? hp
    have hp' : w.op? p.asn = some p := hasn.symm ▸ hp
    have hexec := State.exec_drainPoint_begins hs hd hm
    rw [show s.askSwap o = u from rfl, hv] at hexec
    obtain ⟨hcfg, hsec, -, hnow, hmnt⟩ := w.begun_kept (p := p)
    refine ⟨fun hwait => ⟨w, hexec.trans ?_, rfl⟩, fun hph hwm _ hpop => ?_⟩
    · have hnot : w.begun p = w := if_neg (by rw [hwait]; nofun)
      rw [hnot]
      refine if_pos (.inr ?_)
      rw [State.running?, hp, Option.bind_some, hwait]
      rfl
    · obtain ⟨hrun, hphase, hstart⟩ := State.running_begun hp' hph hpop
      rw [hasn] at hrun
      have hgo : ¬ ((!(w.begun p).mntRuns 1 0) = true ∨ ((w.begun p).running? o.asn 0xE).isNone = true) := by
        rw [hmnt, hwm, hrun]
        nofun
      have hexec := hexec.trans (if_neg hgo)
      rw [State.swapReason_begun, hcfg] at hexec
      refine ⟨fun g hg hr => ?_, fun hr => ?_⟩
      · obtain ⟨t, ht, hshadow, hcfg', hsec', hop, hparts, hregs⟩ := State.armSwap_begun g hp
        rw [hr, hg] at hexec
        refine ⟨t, w.begunOp p, hexec.trans (congrArg _ ht), hshadow, ?_, ?_, hop, hphase, hstart, ?_, ?_,
          ?_, ?_, hparts, hregs⟩
        · rw [hcfg']
        · rw [hcfg']
        · rw [hcfg']
        · rw [hcfg']
        · rw [hsec']
        · rw [hsec']
      · have hph' : p.phase ≠ .ended := by rcases hph with h | h <;> (rw [h]; nofun)
        obtain ⟨q, hq, hend, hgcc, hsched, -, hrest⟩ := State.failSwap_begun (w.swapReason o)
          (if w.swapReason o = 3 then lateGcc o else w.now) hp hph'
        refine ⟨_, q, hexec.trans ?_, hq, hend, hgcc, hsched, hrest⟩
        split
        · next e _ => exact absurd e hr
        · rw [hnow]
  · intro u w ht hl hd hn p hp hph
    have hu : u.op? o.asn = some o := by rw [State.op?, State.advanceTo_ops]; exact ho
    have hv : u.beginSwap o.asn = w.begun p := State.beginSwap_eq hu rfl hp
    obtain ⟨q, hfail⟩ := State.failSwap_begun 3 (lateGcc o) hp hph
    exact ⟨_, q, (State.exec_late hs ht hl hd hn).trans (by rw [hv]), hfail⟩
  · intro all
    refine ⟨fun h => ?_, fun h => ?_⟩
    · rw [State.exec_depUnmeetable hs]
      exact congrArg _ (if_neg (by rw [h]; nofun))
    · refine ⟨_, (State.exec_depUnmeetable hs).trans (congrArg _ (if_pos h)), ?_, fun r hr hop => ?_⟩
      · exact State.endFrame_forEach _ _ (fun t p _ => State.endFrame_endOp ..) s
      · have hw : r.phase ≠ .ended := by
          have := List.all_eq_true.mp h r hr
          simp only [Bool.and_eq_true, beq_iff_eq] at this
          rw [this.1]
          nofun
        exact State.ended_endOps hw (.inr ⟨hr, r.work, hop⟩)
end

section
/-! The status of a queue (R69, R79, R81, R100): what the fields of WQ_STATUS hold after the operations that write them, and the
queue commands. -/

namespace Sys2Proof.Machine
namespace State
variable {s t : State} {q n : Nat}

/-! Reads of one register. -/

theorem fld_congr {a hi lo : Nat} (h : t.reg a = s.reg a) : t.fld a hi lo = s.fld a hi lo := by rw [fld, fld, h]
theorem bitAt_congr {a i : Nat} (h : t.reg a = s.reg a) : t.bitAt a i = s.bitAt a i := by rw [bitAt, bitAt, h]
theorem bitAt_of_fld_one {a i : Nat} (h : s.fld a i i = 1) : s.bitAt a i = true := by
  have := Word.testBit_field (s.reg a) i i 0
  rw [show (s.reg a).field i i = 1 from h] at this
  simpa [bitAt] using this.symm

/-! WQ_STATUS. -/

/-- The command result that a queue shows (R100). -/
theorem fld_wqResult (hn : n < 16) : (s.wqResult q n).fld (WQ_STATUS q) 7 4 = n :=
  (s.fld_setFld_same _ 7 4 n (by decide) (by decide)).trans (Nat.mod_eq_of_lt hn)
theorem fld_wqResult_above {hi lo : Nat} (h : 7 < lo) : (s.wqResult q n).fld (WQ_STATUS q) hi lo = s.fld (WQ_STATUS q) hi lo :=
  s.fld_setFld_ne _ 7 4 n _ _ _ (by decide) (by decide) (.inr (.inr h))
theorem bitAt_wqResult_below {i : Nat} (h : i < 4) : (s.wqResult q n).bitAt (WQ_STATUS q) i = s.bitAt (WQ_STATUS q) i :=
  (s.bitAt_setFld _ 7 4 n _ i (by decide) (by decide)).trans (if_neg (by omega))
theorem onlyRegs_wqResult {l : List Nat} (h : WQ_STATUS q ∈ l) : s.OnlyRegs (s.wqResult q n) l := s.onlyRegs_setFld _ _ _ _ l h

theorem bitAt_unhalt_one : (s.unhalt q).bitAt (WQ_STATUS q) 1 = false := by
  rw [unhalt, bitAt_setFld _ _ _ _ _ _ _ (by decide) (by decide), if_neg (by omega), bitAt_setBitAt _ _ _ _ _ _ (by decide),
    if_pos ⟨rfl, rfl⟩]
theorem bitAt_unhalt_two : (s.unhalt q).bitAt (WQ_STATUS q) 2 = s.bitAt (WQ_STATUS q) 2 := by
  rw [unhalt, bitAt_setFld _ _ _ _ _ _ _ (by decide) (by decide), if_neg (by omega), bitAt_setBitAt _ _ _ _ _ _ (by decide),
    if_neg (by omega)]
theorem fld_unhalt_code : (s.unhalt q).fld (WQ_STATUS q) 15 8 = 0 := fld_setFld_same _ _ 15 8 0 (by decide) (by decide)
theorem fld_unhalt_above {hi lo : Nat} (h : 15 < lo) : (s.unhalt q).fld (WQ_STATUS q) hi lo = s.fld (WQ_STATUS q) hi lo :=
  (fld_setFld_ne _ _ 15 8 0 _ _ _ (by decide) (by decide) (.inr (.inr h))).trans
    (s.fld_setBitAt _ 1 false _ _ _ (by decide) (.inr (.inr (by omega))))
theorem onlyRegs_unhalt {l : List Nat} (h : WQ_STATUS q ∈ l) : s.OnlyRegs (s.unhalt q) l :=
  (s.onlyRegs_setBitAt _ _ _ l h).trans (onlyRegs_setFld _ _ _ _ _ l h)

/-! The commands on an open queue. -/

theorem exec_resume (h : s.openQ q = true) :
    exec (.resume q) s = .next (((s.unhalt q).setBitAt (WQ_STATUS q) 2 false).wqResult q 0) := congrArg _ (if_pos h)
theorem exec_skip_halted (h : s.openQ q = true) (hh : s.bitAt (WQ_STATUS q) 1 = true) :
    exec (.skip q) s = .next (((s.unhalt q).setReg (WQ_SQ_HEAD q) (s.reg (WQ_SQ_HEAD q) + 1)).wqResult q 0) :=
  congrArg _ ((if_neg (by simp [h])).trans (if_neg (by simp [hh])))
theorem exec_skip_running (h : s.openQ q = true) (hh : s.bitAt (WQ_STATUS q) 1 = false) :
    exec (.skip q) s = .next (s.wqResult q 2) := congrArg _ ((if_neg (by simp [h])).trans (if_pos (by simp [hh])))
theorem exec_flush (h : s.openQ q = true) :
    exec (.flush q) s = .next (((s.unhalt q).setReg (WQ_SQ_HEAD q) (s.reg (WQ_SQ_TAIL q))).wqResult q 0) := congrArg _ (if_pos h)
theorem exec_pause (h : s.openQ q = true) :
    exec (.pause q) s = .next ((s.setBitAt (WQ_STATUS q) 2 true).wqResult q 0) := congrArg _ (if_pos h)

/-- A closed queue takes no queue command (R69). -/
theorem exec_queueCommand_closed (h : s.openQ q = false) {c : Instr}
    (hc : c ∈ [Instr.resume q, .skip q, .flush q, .pause q, .abortAll q, .abortSeq q]) : exec c s = .next s := by
  simp only [List.mem_cons, List.not_mem_nil, or_false] at hc
  have hclosed : ¬ s.openQ q = true := by simp [h]
  have hnot : (!s.openQ q) = true := by simp [h]
  rcases hc with rfl | rfl | rfl | rfl | rfl | rfl
  · exact congrArg _ (if_neg hclosed)
  · exact congrArg _ (if_pos hnot)
  · exact congrArg _ (if_neg hclosed)
  · exact congrArg _ (if_neg hclosed)
  · exact congrArg _ (if_neg hclosed)
  · exact congrArg _ (if_pos hnot)

/-- SKIP and FLUSH clear the halt, move SQ_HEAD and report OK (R81, R100). -/
theorem unhalt_moved (v : Word) : let t := ((s.unhalt q).setReg (WQ_SQ_HEAD q) v).wqResult q 0
    t.bitAt (WQ_STATUS q) 1 = false ∧ t.fld (WQ_STATUS q) 15 8 = 0 ∧ t.fld (WQ_STATUS q) 7 4 = 0 ∧
    t.bitAt (WQ_STATUS q) 2 = s.bitAt (WQ_STATUS q) 2 ∧ t.reg (WQ_SQ_HEAD q) = v ∧ s.OnlyRegs t [WQ_STATUS q, WQ_SQ_HEAD q] := by
  have hne : WQ_STATUS q ≠ WQ_SQ_HEAD q := by simp
  have hstatus : ((s.unhalt q).setReg (WQ_SQ_HEAD q) v).reg (WQ_STATUS q) = (s.unhalt q).reg (WQ_STATUS q) := reg_setReg_ne _ v hne
  refine ⟨?_, ?_, fld_wqResult (by decide), ?_, ?_, ?_⟩
  · rw [bitAt_wqResult_below (by decide), bitAt_congr hstatus, bitAt_unhalt_one]
  · rw [fld_wqResult_above (by decide), fld_congr hstatus, fld_unhalt_code]
  · rw [bitAt_wqResult_below (by decide), bitAt_congr hstatus, bitAt_unhalt_two]
  · exact (reg_setFld_ne _ _ _ _ hne.symm).trans (reg_setReg_same ..)
  · exact ((onlyRegs_unhalt (by simp)).trans (onlyRegs_setReg _ _ _ _ (by simp))).trans (onlyRegs_wqResult (by simp))

/-- RESUME clears the halt and the pause and reports OK (R79, R81, R100). -/
theorem resumed_spec : let t := ((s.unhalt q).setBitAt (WQ_STATUS q) 2 false).wqResult q 0
    t.bitAt (WQ_STATUS q) 1 = false ∧ t.bitAt (WQ_STATUS q) 2 = false ∧ t.fld (WQ_STATUS q) 15 8 = 0 ∧ t.fld (WQ_STATUS q) 7 4 = 0 ∧
    t.fld (WQ_STATUS q) 23 16 = s.fld (WQ_STATUS q) 23 16 ∧ s.OnlyRegs t [WQ_STATUS q] := by
  have hbit (i : Nat) := bitAt_setBitAt (s.unhalt q) (WQ_STATUS q) 2 false (WQ_STATUS q) i (by decide)
  have hfld {hi lo : Nat} (h : 2 < lo) := fld_setBitAt (s.unhalt q) (WQ_STATUS q) 2 false (WQ_STATUS q) hi lo (by decide) (.inr (.inr h))
  refine ⟨?_, ?_, ?_, fld_wqResult (by decide), ?_, ?_⟩
  · rw [bitAt_wqResult_below (by decide), hbit, if_neg (by omega), bitAt_unhalt_one]
  · rw [bitAt_wqResult_below (by decide), hbit, if_pos ⟨rfl, rfl⟩]
  · rw [fld_wqResult_above (by decide), hfld (by decide), fld_unhalt_code]
  · rw [fld_wqResult_above (by decide), hfld (by decide), fld_unhalt_above (by decide)]
  · exact ((onlyRegs_unhalt (by simp)).trans (onlyRegs_setBitAt _ _ _ _ _ (by simp))).trans (onlyRegs_wqResult (by simp))
/-- PAUSE pauses the queue and reports OK (R79, R100). -/
theorem paused_spec : let t := (s.setBitAt (WQ_STATUS q) 2 true).wqResult q 0
    t.bitAt (WQ_STATUS q) 2 = true ∧ t.fld (WQ_STATUS q) 7 4 = 0 ∧ t.bitAt (WQ_STATUS q) 1 = s.bitAt (WQ_STATUS q) 1 ∧
    s.OnlyRegs t [WQ_STATUS q] := by
  have hbit (i : Nat) := s.bitAt_setBitAt (WQ_STATUS q) 2 true (WQ_STATUS q) i (by decide)
  refine ⟨?_, fld_wqResult (by decide), ?_, (s.onlyRegs_setBitAt _ _ _ _ (by simp)).trans (onlyRegs_wqResult (by simp))⟩
  · rw [bitAt_wqResult_below (by decide), hbit, if_pos ⟨rfl, rfl⟩]
  · rw [bitAt_wqResult_below (by decide), hbit, if_neg (by omega)]

end State
end Sys2Proof.Machine

open Sys2Proof Sys2Proof.Machine

/-- Settles O11: each command writes WQ_STATUS and, where it moves the queue on, SQ_HEAD; a closed queue takes none. -/
theorem queueControlCommands : Obligations.QueueControlCommands := by
  unfold Obligations.QueueControlCommands
  refine ⟨fun q s ho => ⟨⟨_, State.exec_resume ho, State.resumed_spec⟩, fun hh => ?_, fun hh => ?_, ?_,
    ⟨_, State.exec_pause ho, State.paused_spec⟩⟩, fun q s ho c hc => State.exec_queueCommand_closed ho hc,
    fun v s => ⟨_, rfl, ?_, State.onlyRegs_setReg _ _ _ _ (by simp)⟩⟩
  · obtain ⟨hhalted, hcode, hresult, hpaused, hhead, honly⟩ := State.unhalt_moved (s := s) (q := q) (s.reg (WQ_SQ_HEAD q) + 1)
    exact ⟨_, State.exec_skip_halted ho hh, hhalted, hcode, hresult, hpaused, hhead, honly⟩
  · exact ⟨_, State.exec_skip_running ho hh, State.fld_wqResult (by decide), State.onlyRegs_wqResult (by simp)⟩
  · obtain ⟨hhalted, hcode, hresult, -, hhead, honly⟩ := State.unhalt_moved (s := s) (q := q) (s.reg (WQ_SQ_TAIL q))
    exact ⟨_, State.exec_flush ho, hhalted, hcode, hresult, hhead, honly⟩
  · rw [State.fld, State.reg_setReg_same, Word.field, BitVec.toNat_ofNat]
    omega
end

section
/-! Counts of a queue from outside (R69, R75, R97, R585): the write of WQ_CQ_HEAD that retires records, and the doorbell. -/

namespace Sys2Proof.Machine

/-- The difference of two counts modulo 2^32 is that of their words (R68). -/
theorem wrapSub_toNat (a b : Word) : wrapSub a.toNat b.toNat = (a - b).toNat := by
  rw [wrapSub, BitVec.toNat_sub]
  omega

namespace State
variable {s t u : State} {path q a n : Nat}

/-! Access flags and the registers of queues. -/

/-- An access flag of any path writes the registers of that path (R435, R572, R585, R586). -/
theorem rangeFlag_frame : let t := s.rangeFlag path a
    t = { s with regs := t.regs, flagged := true } ∧ s.RegsKept t (accessRegs path) := by
  by_cases hm : 0x401 ≤ path ∧ path < 0x412
  · obtain ⟨-, heq, hkept⟩ := accessFlag_msq_frame (s := s) (a := a) (b := 0) hm.1 hm.2
    exact ⟨heq, by rwa [accessRegs, if_pos hm]⟩
  by_cases hp : path ≤ 0x400
  · exact accessFlag_host_frame hp
  · have hl : accessRegs path = [GLB_ACCESS_STATUS, GLB_ACCESS_ADDR, GLB_ACCESS_SRC, SVC_STATUS] := if_neg hm
    have hr := (s.withFlag.onlyRegs_recordAccess (path := path) (a := a)).mono (m := accessRegs path) (by simp [hl])
    have hb := (s.withFlag.recordAccess path a).onlyRegs_setBitAt GLB_ACCESS_STATUS 0 true (accessRegs path) (by simp [hl])
    have hflag : s.rangeFlag path a = (s.withFlag.recordAccess path a).setBitAt GLB_ACCESS_STATUS 0 true := by
      refine (if_neg hm).trans ((if_neg (show ¬ path = 0x400 by omega)).trans ?_)
      by_cases h0 : s.reg GLB_ACCESS_STATUS = 0
      · rw [recordAccess, if_pos (show s.withFlag.reg GLB_ACCESS_STATUS = 0 from h0), if_pos h0]
        rfl
      · rw [recordAccess, if_neg (show ¬ s.withFlag.reg GLB_ACCESS_STATUS = 0 from h0), if_neg h0]
        rfl
    rw [hflag]
    exact hr.trans hb

/-- No path's access flag writes a register of a queue. -/
theorem not_mem_accessRegs {o : Nat} (hq : q < 4096) (ho : o < 0x40) : 0x100000 + q * 0x40 + o ∉ accessRegs path := by
  unfold accessRegs
  split
  · simp only [List.mem_singleton, MSQ_EVENTS, msqBase]
    split <;> omega
  · simp only [List.mem_cons, List.not_mem_nil, or_false, GLB_ACCESS_STATUS, GLB_ACCESS_ADDR, GLB_ACCESS_SRC, SVC_STATUS]
    omega
theorem reg_rangeFlag_queue {o : Nat} (hq : q < 4096) (ho : o < 0x40) :
    (s.rangeFlag path a).reg (0x100000 + q * 0x40 + o) = s.reg (0x100000 + q * 0x40 + o) :=
  rangeFlag_frame.2 _ (not_mem_accessRegs hq ho)

/-- An access out of range by an endpoint or the service port shows in GLB_ACCESS_STATUS (R585). -/
theorem bitAt_rangeFlag_host (h : path ≤ 0x400) : (s.rangeFlag path a).bitAt GLB_ACCESS_STATUS 0 = true :=
  bitAt_of_fld_one (accessFlag_host_regs h (by decide)).1
/-- That of a micro-sequencer shows in its events (R435). -/
theorem bitAt_rangeFlag_msq {m : Nat} (hm : m < 17) : (s.rangeFlag (msqPath m) a).bitAt (MSQ_EVENTS m) 3 = true := by
  have := (accessFlag_msq_frame (s := s) (a := a) (b := 0) (Nat.le_add_right 0x401 m) (show 0x401 + m < 0x412 by omega)).1
  rwa [Nat.add_sub_cancel_left] at this

/-! Retirement (R97). -/

theorem exec_cqHeadWrite_closed {h : Word} (ho : s.openQ q = false) : exec (.cqHeadWrite path q h) s = .next s :=
  congrArg _ (if_pos (by simp [ho]))
theorem exec_cqHeadWrite_legal {h : Word} (ho : s.openQ q = true)
    (hh : (h - s.reg (WQ_CQ_HEAD q)).toNat ≤ (s.reg (WQ_CQ_TAIL q) - s.reg (WQ_CQ_HEAD q)).toNat) :
    exec (.cqHeadWrite path q h) s = .next { s.setReg (WQ_CQ_HEAD q) h with
      kept := s.kept.filter (fun k => k.queue != q ||
        decide (wrapSub k.count h.toNat < wrapSub (s.reg (WQ_CQ_TAIL q)).toNat h.toNat)) } := by
  refine congrArg _ ((if_neg (by simp [ho])).trans (if_neg ?_))
  rw [wrapSub_toNat, wrapSub_toNat]
  exact Nat.not_lt.mpr hh
theorem exec_cqHeadWrite_illegal {h : Word} (ho : s.openQ q = true)
    (hh : (s.reg (WQ_CQ_TAIL q) - s.reg (WQ_CQ_HEAD q)).toNat < (h - s.reg (WQ_CQ_HEAD q)).toNat) :
    exec (.cqHeadWrite path q h) s = .next (s.rangeFlag path (WQ_CQ_HEAD q)) := by
  refine congrArg _ ((if_neg (by simp [ho])).trans (if_pos ?_))
  rw [wrapSub_toNat, wrapSub_toNat]
  exact hh

end State
end Sys2Proof.Machine

open Sys2Proof Sys2Proof.Machine

/-- Settles O14: the legal write sets CQ_HEAD and forgets records of its own queue, the illegal one is an access flag. -/
theorem recordsAreRetired : Obligations.RecordsAreRetired := by
  unfold Obligations.RecordsAreRetired
  intro path q h s hq
  refine ⟨State.exec_cqHeadWrite_closed, fun ho hh => ?_, fun ho hh => ?_⟩
  · refine ⟨_, State.exec_cqHeadWrite_legal ho hh, State.reg_setReg_same .., rfl,
      (s.onlyRegs_setReg (WQ_CQ_HEAD q) h [_] List.mem_cons_self).2, fun k hk => (List.mem_filter.mp hk).1, fun k hk hne => ?_⟩
    exact List.mem_filter.mpr ⟨hk, by simp [hne]⟩
  · obtain ⟨heq, hkept⟩ := State.rangeFlag_frame (s := s) (path := path) (a := WQ_CQ_HEAD q)
    refine ⟨_, State.exec_cqHeadWrite_illegal ho hh, State.reg_rangeFlag_queue (o := 0xC) hq (by decide),
      State.bitAt_rangeFlag_host, fun m hm hp => hp ▸ State.bitAt_rangeFlag_msq hm, ?_, hkept⟩
    rw [heq]
end

section
/-! Doorbells (R69, R75, R99, R538, R585): the code that the checks give, and what a doorbell writes that passes or fails them. -/

namespace Sys2Proof.Machine
namespace State
variable {s : State} {path q n c : Nat} {r : QRec}

/-! The code. -/

theorem dbCode_taken (hr : s.queueRec q = some r) (hb : s.barred q = false) (ha : s.accepting = true)
    (hh : wrapSub n (s.reg (WQ_SQ_HEAD q)).toNat ≤ 2 ^ r.sqLog2) (ht : wrapSub n (s.reg (WQ_SQ_TAIL q)).toNat ≤ 2 ^ r.sqLog2) :
    s.dbCode q n = 0 := by
  simp only [dbCode, hr]
  rw [if_neg (by simp [hb, ha]), if_neg (by simpa using ⟨hh, ht⟩)]
theorem dbCode_closed (h : s.queueRec q = none ∨ s.barred q = true ∨ s.accepting = false) : s.dbCode q n = 4 := by
  unfold dbCode
  split
  · rfl
  · next r hr => exact if_pos (by simpa [hr] using h)
theorem dbCode_beyond (hr : s.queueRec q = some r) (hb : s.barred q = false) (ha : s.accepting = true)
    (h : 2 ^ r.sqLog2 < wrapSub n (s.reg (WQ_SQ_HEAD q)).toNat ∨ 2 ^ r.sqLog2 < wrapSub n (s.reg (WQ_SQ_TAIL q)).toNat) :
    s.dbCode q n = 3 := by
  simp only [dbCode, hr]
  rw [if_neg (by simp [hb, ha]), if_pos (by simpa using h)]

/-! What a rejection leaves on the queue and the block. -/

/-- The event bit of a queue that a rejection raises, and its counts (R81, R585). -/
def noteReject (s : State) (q b : Nat) : State := ((s.wqEvent q b).incSat (WQ_REJECTS q)).incSat WKE_REJECTS

theorem onlyRegs_wqEvent (b : Nat) : s.OnlyRegs (s.wqEvent q b) [WQ_EVENTS q, WKE_EVENTS] :=
  (s.onlyRegs_setBitAt _ _ _ _ (by simp)).trans
    (onlyRegs_ite (onlyRegs_setBitAt _ _ _ _ _ (by simp)) (OnlyRegs.refl _ _))
theorem bitAt_wqEvent {b : Nat} (hb : b < 32) (hq : WQ_EVENTS q ≠ WKE_EVENTS) : (s.wqEvent q b).bitAt (WQ_EVENTS q) b = true := by
  have hset : (s.setBitAt (WQ_EVENTS q) b true).bitAt (WQ_EVENTS q) b = true := by
    rw [bitAt_setBitAt _ _ _ _ _ _ hb, if_pos ⟨rfl, rfl⟩]
  unfold wqEvent
  extract_lets u
  split
  · rw [bitAt_setBitAt _ _ _ _ _ _ (by decide), if_neg fun h => hq h.1]
    exact hset
  · exact hset

theorem onlyRegs_noteReject (b : Nat) :
    s.OnlyRegs (s.noteReject q b) [WQ_EVENTS q, WKE_EVENTS, WQ_REJECTS q, WKE_REJECTS] :=
  (((onlyRegs_wqEvent b).mono (by simp)).trans (onlyRegs_incSat _ _ _ (by simp))).trans (onlyRegs_incSat _ _ _ (by simp))
/-- A register of a queue is none of the block. -/
theorem wq_ne_wke {o : Nat} : 0x100000 + q * 0x40 + o ≠ WKE_EVENTS ∧ 0x100000 + q * 0x40 + o ≠ WKE_REJECTS := by
  unfold WKE_EVENTS WKE_REJECTS
  omega
theorem bitAt_noteReject {b : Nat} (hb : b < 32) : (s.noteReject q b).bitAt (WQ_EVENTS q) b = true := by
  have hne : WQ_EVENTS q ≠ WQ_REJECTS q := by simp
  obtain ⟨hevents, hcount⟩ := wq_ne_wke (q := q) (o := 0x2C)
  have hreg : (s.noteReject q b).reg (WQ_EVENTS q) = (s.wqEvent q b).reg (WQ_EVENTS q) :=
    (reg_setReg_ne _ _ hcount).trans (reg_setReg_ne _ _ hne)
  rw [bitAt_congr hreg, bitAt_wqEvent hb hevents]
/-- The queue counts the rejection (R81, R99). -/
theorem toNat_reg_noteReject (b : Nat) :
    ((s.noteReject q b).reg (WQ_REJECTS q)).toNat = min ((s.reg (WQ_REJECTS q)).toNat + 1) (2 ^ 32 - 1) := by
  obtain ⟨hevents, hcount⟩ := wq_ne_wke (q := q) (o := 0x34)
  have hkept : (s.wqEvent q b).reg (WQ_REJECTS q) = s.reg (WQ_REJECTS q) :=
    (onlyRegs_wqEvent b).2 _ (by simpa using hevents)
  have hreg : (s.noteReject q b).reg (WQ_REJECTS q) = ((s.wqEvent q b).incSat (WQ_REJECTS q)).reg (WQ_REJECTS q) :=
    reg_setReg_ne _ _ hcount
  rw [hreg, toNat_reg_incSat, hkept]

/-! The doorbell. -/

/-- A doorbell that finds the device awake, or WAKE_ON_DOORBELL off, outside a reset (R75, R126, R538). -/
theorem exec_doorbell {v : Word} (hr : s.aon.resetting = 0) (hw : s.bitAt AON_CFG 8 = true → s.deviceState ≠ 2)
    (hc : s.dbCode q v.toNat = c) : exec (.doorbell path q v) s = .next (let t := s.setFld (WQ_STATUS q) 23 16 c
      if c ≠ 0 then (t.noteReject q 2).rangeFlag path (WQ_SQ_TAIL q)
      else if path < 1024 then (t.setReg (WQ_SQ_TAIL q) v).setReg (WQ_NOTIFY_EP q) (BitVec.ofNat 32 (path + 2 ^ 15))
      else t.setReg (WQ_SQ_TAIL q) v) := by
  have hawake : (if s.bitAt AON_CFG 8 = true then s.wakeUp else s) = s := by
    split
    · next h => exact if_neg (hw h)
    · rfl
  have hquiet : ¬ (s.aon.resetting = 1 ∨ s.aon.resetting = 3) := by simp [hr]
  show execDoorbell path q v s = _
  rw [execDoorbell, if_neg hquiet, doorbell]
  simp only [hawake, hc, BitVec.ofNat_toNat, BitVec.setWidth_eq, noteReject]

theorem reg_withFlag (a : Nat) : s.withFlag.reg a = s.reg a := rfl

/-- The parts of a rejection: the result, the event, the counts and the access flag (R75, R585). -/
theorem rejectDoorbell_spec (hp : path ≤ 0x400) (hq : q < 4096) (hc : c < 256) :
    let t := ((s.setFld (WQ_STATUS q) 23 16 c).noteReject q 2).rangeFlag path (WQ_SQ_TAIL q)
    t.reg (WQ_SQ_TAIL q) = s.reg (WQ_SQ_TAIL q) ∧ t.fld (WQ_STATUS q) 23 16 = c ∧ t.bitAt (WQ_EVENTS q) 2 = true ∧
    (t.reg (WQ_REJECTS q)).toNat = min ((s.reg (WQ_REJECTS q)).toNat + 1) (2 ^ 32 - 1) ∧
    (s.reg GLB_ACCESS_STATUS = 0 → t.reg GLB_ACCESS_ADDR = BitVec.ofNat 32 (WQ_SQ_TAIL q)) ∧
    t = { s with regs := t.regs, flagged := true } ∧
    s.RegsKept t ([WQ_STATUS q, WQ_EVENTS q, WKE_EVENTS, WQ_REJECTS q, WKE_REJECTS] ++ accessRegs path) := by
  generalize hu : s.setFld (WQ_STATUS q) 23 16 c = u
  have hsu : s.OnlyRegs u [WQ_STATUS q] := hu ▸ s.onlyRegs_setFld _ _ _ _ _ (by simp)
  have hnote := onlyRegs_noteReject (s := u) (q := q) 2
  obtain ⟨heq, hflag⟩ := rangeFlag_frame (s := u.noteReject q 2) (path := path) (a := WQ_SQ_TAIL q)
  have hqueue (o : Nat) (ho : o < 0x40) := reg_rangeFlag_queue (s := u.noteReject q 2) (path := path) (a := WQ_SQ_TAIL q) hq ho
  refine ⟨?_, ?_, ?_, ?_, fun h0 => ?_, ?_, ?_⟩
  · rw [hqueue 0 (by decide), hnote.2 _ (by simp [WKE_EVENTS, WKE_REJECTS]; omega), hsu.2 _ (by simp)]
  · rw [fld_congr (hqueue 0x10 (by decide)), fld_congr (hnote.2 _ (by simp [WKE_EVENTS, WKE_REJECTS]; omega)), ← hu,
      fld_setFld_same _ _ _ _ _ (by decide) (by decide)]
    exact Nat.mod_eq_of_lt hc
  · rw [bitAt_congr (hqueue 0x2C (by decide)), bitAt_noteReject (by decide)]
  · rw [hqueue 0x34 (by decide), toNat_reg_noteReject, hsu.2 _ (by simp)]
  · obtain ⟨-, -, haddr, -⟩ := accessFlag_host_regs (s := u.noteReject q 2) (a := WQ_SQ_TAIL q) hp (by decide : 0 < 3)
    have hquiet : (u.noteReject q 2).reg GLB_ACCESS_STATUS = 0 := by
      rw [hnote.2 _ (by simp [GLB_ACCESS_STATUS, WKE_EVENTS, WKE_REJECTS]), hsu.2 _ (by simp [GLB_ACCESS_STATUS]), h0]
    exact haddr.trans (reg_recordAccess_of_zero ((reg_withFlag _).trans hquiet)).1
  · rw [heq, hnote.1, hsu.1]
  · refine ((hsu.2.mono ?_).trans (hnote.2.mono ?_)).trans (RegsKept.mono hflag ?_)
    · simp
    · simp
    · exact fun a ha => List.mem_append_right _ ha

end State
end Sys2Proof.Machine

open Sys2Proof Sys2Proof.Machine

/-- Settles O9: the code of the checks decides between the move of SQ_TAIL and the rejection, whose parts are said once. -/
theorem doorbellChecksAndMovesTheTail : Obligations.DoorbellChecksAndMovesTheTail := by
  unfold Obligations.DoorbellChecksAndMovesTheTail
  intro path q v s hp hq hr hw
  refine ⟨fun r hrec hb ha hh ht => ?_, fun code hcode => ?_⟩
  · have hexec := State.exec_doorbell (path := path) hr hw (State.dbCode_taken hrec hb ha hh ht)
    dsimp only at hexec
    rw [if_neg (by decide)] at hexec
    generalize hu : s.setFld (WQ_STATUS q) 23 16 0 = u at hexec
    have hcode : u.fld (WQ_STATUS q) 23 16 = 0 := hu ▸ State.fld_setFld_same _ _ _ _ _ (by decide) (by decide)
    have hsu : s.OnlyRegs (u.setReg (WQ_SQ_TAIL q) v) [WQ_SQ_TAIL q, WQ_STATUS q, WQ_NOTIFY_EP q] :=
      (hu ▸ s.onlyRegs_setFld _ _ _ _ _ (by simp)).trans (u.onlyRegs_setReg _ _ _ (by simp))
    have hstatus : (u.setReg (WQ_SQ_TAIL q) v).reg (WQ_STATUS q) = u.reg (WQ_STATUS q) := State.reg_setReg_ne _ _ (by simp)
    by_cases hpath : path < 1024
    · rw [if_pos hpath] at hexec
      refine ⟨_, hexec, ?_, ?_, fun _ => State.reg_setReg_same .., fun h => absurd (h ▸ hpath) (by decide),
        hsu.trans (State.onlyRegs_setReg _ _ _ _ (by simp))⟩
      · exact (State.reg_setReg_ne _ _ (by simp)).trans (State.reg_setReg_same ..)
      · exact (State.fld_congr ((State.reg_setReg_ne _ _ (by simp)).trans hstatus)).trans hcode
    · rw [if_neg hpath] at hexec
      refine ⟨_, hexec, State.reg_setReg_same .., (State.fld_congr hstatus).trans hcode, fun h => absurd h hpath,
        fun _ => ?_, hsu⟩
      rw [State.reg_setReg_ne _ _ (by simp), ← hu, State.reg_setFld_ne _ _ _ _ (by simp)]
  · have hdb : s.dbCode q v.toNat = code ∧ code ≠ 0 ∧ code < 256 := by
      rcases hcode with ⟨h, rfl⟩ | ⟨⟨r, hrec, hb, ha, h⟩, rfl⟩
      · exact ⟨State.dbCode_closed h, by decide⟩
      · exact ⟨State.dbCode_beyond hrec hb ha h, by decide⟩
    obtain ⟨hdb, hne, hlt⟩ := hdb
    have hexec := State.exec_doorbell (path := path) hr hw hdb
    dsimp only at hexec
    rw [if_pos hne] at hexec
    obtain ⟨htail, hresult, hevent, hcount, haddr, hframe⟩ := State.rejectDoorbell_spec (s := s) hp hq hlt
    exact ⟨_, hexec, htail, hresult, hevent, State.bitAt_rangeFlag_host hp, hcount, haddr, hframe⟩
end

section
/-! The host's aborts (R100, R101): an operation that has not started ends at once, one after another where a whole queue is
aborted. -/

namespace Sys2Proof.Machine
namespace State
variable {s t : State} {o p : Op} {q a b : Nat}

/-! An operation whose work has not begun, when another one ends. -/

/-- What an operation becomes when its work ends (R82, R93). -/
def withOutcome (s : State) (o : Op) (status reason gcc detail : Nat) : Op :=
  { o with phase := .ended, endNo := s.nextEnd, status := status, reason := reason, gcc := gcc, detail := detail % 2 ^ 64,
           lastGcc := s.now, candSince := none, holding := false, admitted := false, aborting := false, faulting := false }
/-- An end changes the operations in flight as its outcome and the end of what follows it say (R82, R323). -/
theorem ops_endOpAt {status reason gcc detail : Nat} (ho : s.op? a = some o) (hp : o.phase ≠ .ended) :
    (s.endOpAt a status reason gcc detail).ops =
      ((s.setOp (s.withOutcome o status reason gcc detail)).producerEnds o).ops := by
  unfold endOpAt
  split
  · next e => exact nomatch e.symm.trans ho
  next o' e =>
  obtain rfl := Option.some.inj (e.symm.trans ho)
  rw [if_neg hp]
  extract_lets s1 s2 s3 other
  have h2 : s2.ops = (s1.producerEnds o').ops := by
    apply State.forEach_same State.ops
    intro t r hr
    split
    · have hk := cluster_of_resources _ o' _ hr
      rw [(commitFrame_settleCommits _ hk).2.1]
      split
      · exact (commitFrame_syncReset t hk).2.1
      · rfl
    · split
      · next hc => exact (anaFrame_awgFree t hc.2.2).2
      · rfl
    · rfl
  have h3 : s3.ops = s2.ops := by
    unfold s3
    split <;> rfl
  refine Eq.trans ?_ (h3.trans h2)
  split
  · rfl
  · split <;> rfl
/-- The end of a producer leaves an operation whose work has not begun. -/
theorem producerEnds_idle : ∃ f : Op → Op, (s.producerEnds o).ops = s.ops.map f ∧ (∀ p, (f p).asn = p.asn) ∧
    ∀ p, p.work = .nothing → f p = p := by
  unfold producerEnds
  split
  · exact ⟨id, (List.map_id _).symm, fun _ => rfl, fun _ _ => rfl⟩
  · refine ⟨_, rfl, fun p => ?_, fun p hp => ?_⟩
    · repeat' split
      all_goals rfl
    · split
      · next h => exact nomatch hp.symm.trans h
      · rfl
/-- An operation whose work has not begun stays as it is when another one ends. -/
theorem op?_endOpAt_idle {status reason gcc detail : Nat} (hb : b ≠ a) (h : s.op? b = some p) (hw : p.work = .nothing) :
    (s.endOpAt a status reason gcc detail).op? b = some p := by
  cases ho : s.op? a with
  | none => rwa [endOpAt, ho]
  | some o =>
    by_cases hp : o.phase = .ended
    · rwa [show s.endOpAt a status reason gcc detail = s by simp only [endOpAt, ho, hp, if_true]]
    obtain ⟨f, hf, hasn, hidle⟩ := producerEnds_idle (s := s.setOp (s.withOutcome o status reason gcc detail)) (o := o)
    have ha : o.asn = a := asn_of_op? ho
    rw [op?, ops_endOpAt ho hp, hf, Op.find_map_keep f b hasn, setOp, Op.find_map_keep _ b, show s.ops.find? _ = some p from h]
    · rw [Option.map_some, if_neg, Option.map_some, hidle p hw]
      rw [asn_of_op? h]
      simpa [withOutcome, ha] using hb
    · intro p
      split
      · next h => exact (beq_iff_eq.mp h).symm
      · rfl

/-! Aborts. -/

/-- An operation that has not started and has no work yet ends at once when it is stopped (R101). -/
theorem stopOp_idle {status : Nat} (h : s.op? a = some o) (hp : o.phase = .waiting) (hw : o.work = .nothing) :
    s.stopOp a status = s.endOp a status 0 0 := by
  simp [stopOp, h, hp, hw]
theorem armedSwap_congr (h : t.cfg = s.cfg) : t.armedSwap a = s.armedSwap a := by rw [armedSwap, h, armedSwap]

/-- Operations that wait end one after another as a whole queue is aborted (R101). -/
theorem forEach_abort {l : List Op} (hd : (l.map Op.asn).Nodup) (h : ∀ o ∈ l, s.op? o.asn = some o ∧ o.phase = .waiting ∧
    o.work = .nothing ∧ s.armedSwap o.asn = false) :
    s.forEach l (fun s o => if s.armedSwap o.asn then s else s.stopOp o.asn 4) = s.forEach l (fun s o => s.endOp o.asn 4 0 0) := by
  induction l generalizing s with
  | nil => rfl
  | cons p l ih =>
    obtain ⟨hop, hph, hw, harm⟩ := h p List.mem_cons_self
    obtain ⟨hnot, hd⟩ := List.nodup_cons.mp hd
    rw [forEach_cons, forEach_cons, harm, if_neg (by decide), stopOp_idle hop hph hw]
    have hcfg : (s.endOp p.asn 4 0 0).cfg = s.cfg := by rw [(endFrame_endOp s p.asn 4 0 0).1]
    refine ih hd fun o ho => ?_
    obtain ⟨hop', hrest, hw', harm'⟩ := h o (List.mem_cons_of_mem _ ho)
    have hne : o.asn ≠ p.asn := fun e => hnot (e ▸ List.mem_map_of_mem ho)
    exact ⟨op?_endOpAt_idle hne hop' hw', hrest, hw', (armedSwap_congr hcfg).trans harm'⟩

/-- What ABORT_SEQ finds: the operation of its queue with the SEQ that the queue's argument gives (R100). -/
def namedByArg (s : State) (q : Nat) : Option Op :=
  (s.queueOps q).find? (fun o => o.seq == s.reg64 (WQ_ARG_LO q) (WQ_ARG_HI q) % 2 ^ 48 && o.phase != .ended)
theorem exec_abortSeq_notFound (ho : s.openQ q = true) (h : s.namedByArg q = none) :
    exec (.abortSeq q) s = .next (s.wqResult q 1) := by
  unfold namedByArg at h
  show execAbortSeq q s = _
  simp only [execAbortSeq, ho, h, Bool.not_true, Bool.false_eq_true, if_false]
theorem exec_abortSeq_armed (ho : s.openQ q = true) (h : s.namedByArg q = some o) (ha : s.armedSwap o.asn = true) :
    exec (.abortSeq q) s = .next (s.wqResult q 2) := by
  unfold namedByArg at h
  show execAbortSeq q s = _
  simp only [execAbortSeq, ho, h, ha, Bool.not_true, Bool.false_eq_true, if_false, if_true]
theorem exec_abortSeq_stops (ho : s.openQ q = true) (h : s.namedByArg q = some o) (ha : s.armedSwap o.asn = false) :
    exec (.abortSeq q) s = .next ((s.stopOp o.asn 4).wqResult q 0) := by
  unfold namedByArg at h
  show execAbortSeq q s = _
  simp only [execAbortSeq, ho, h, ha, Bool.not_true, Bool.false_eq_true, if_false]
theorem exec_abortAll (ho : s.openQ q = true) : exec (.abortAll q) s =
    .next ((s.forEach (s.queueOps q) (fun s o => if s.armedSwap o.asn then s else s.stopOp o.asn 4)).wqResult q 0) :=
  congrArg _ (if_pos ho)

/-- In a list of operations without a sequence number twice, each has its place. -/
theorem op?_of_mem (hd : (s.ops.map Op.asn).Nodup) (h : o ∈ s.ops) : s.op? o.asn = some o := by
  unfold op?
  generalize s.ops = l at hd h
  induction l with
  | nil => exact nomatch h
  | cons p l ih =>
    obtain ⟨hnot, hd⟩ := List.nodup_cons.mp hd
    rcases List.mem_cons.mp h with rfl | h
    · exact List.find?_cons_of_pos (beq_self_eq_true _)
    · rw [List.find?_cons_of_neg, ih hd h]
      simpa using fun e : p.asn = o.asn => hnot (e ▸ List.mem_map_of_mem h)

end State
end Sys2Proof.Machine

open Sys2Proof Sys2Proof.Machine

/-- Settles O12: ABORT_SEQ ends the operation that it names, ABORT_ALL the queue's one after another. -/
theorem abortsEndWaitingOperations : Obligations.AbortsEndWaitingOperations := by
  unfold Obligations.AbortsEndWaitingOperations
  intro q s hq ho
  refine ⟨fun o hfind hop => ⟨fun harm => ?_, fun harm hph hw => ?_⟩, fun hfind => ?_, fun hd hall => ?_⟩
  · exact ⟨_, State.exec_abortSeq_armed ho hfind harm, State.fld_wqResult (by decide), State.onlyRegs_wqResult (by simp)⟩
  · have hexec := State.exec_abortSeq_stops ho hfind harm
    rw [State.stopOp_idle hop hph hw] at hexec
    exact ⟨s.endOp o.asn 4 0 0, _, hexec, State.ended_endOpAt s o.asn 4 0 s.now 0 o hop (by rw [hph]; nofun),
      State.endFrame_endOp .., State.fld_wqResult (by decide), State.onlyRegs_wqResult (by simp)⟩
  · exact ⟨_, State.exec_abortSeq_notFound ho hfind, State.fld_wqResult (by decide), State.onlyRegs_wqResult (by simp)⟩
  · have hmem (o : Op) (h : o ∈ s.queueOps q) : s.op? o.asn = some o := State.op?_of_mem hd (List.mem_filter.mp h).1
    have hqd : ((s.queueOps q).map Op.asn).Nodup := hd.sublist (List.filter_sublist.map _)
    refine ⟨s.forEach (s.queueOps q) (fun s o => s.endOp o.asn 4 0 0), _, (State.exec_abortAll ho).trans ?_, fun o h => ?_,
      State.endFrame_forEach _ _ (fun t p _ => State.endFrame_endOp ..) s, State.fld_wqResult (by decide),
      State.onlyRegs_wqResult (by simp)⟩
    · rw [State.forEach_abort hqd fun o h => ⟨hmem o h, hall o h⟩]
    · obtain ⟨hph, -⟩ := hall o h
      exact State.ended_endOps (by rw [hph]; nofun) (.inr ⟨h, o.work, hmem o h⟩)
end

section
/-! Starts and ends that an instant decides (R83, R88 to R90, R161): TIMESTAMP, BARRIER, deadlines and missed check points. -/

namespace Sys2Proof.Machine
namespace State
variable {s t : State} {o p : Op} {a g : Nat}

/-! Start instants. -/

/-- While dispatch pauses a scheduled operation whose start has come does not start (R83, R113). -/
theorem dispatch_paused (h : o.startAt ≤ s.now) (hd : s.dispatching = false) : s.dispatch o = s := by
  simp only [dispatch, s.advanceTo_past h, hd, Bool.and_false, Bool.false_eq_true, if_false, Bool.not_false, or_true, if_true]
/-- An operation without a start GCC that names no site starts its work (R83). -/
theorem dispatch_untimed (ho : s.op? a = some o) (hp : o.phase = .scheduled) (hf : o.startField = 0) (h : o.startAt ≤ s.now)
    (hd : s.dispatching = true) (hs : s.allAbsent o = false) (hc : s.checkFamily o = s) : s.dispatch o = s.startFamily o := by
  have ha : s.op? o.asn = some o := asn_of_op? ho ▸ ho
  simp [dispatch, s.advanceTo_past h, hf, hd, hs, hc, Nat.not_lt.mpr h, ha, hp]
theorem exec_dispatchStart_scheduled (ho : s.op? a = some o) (hp : o.phase = .scheduled) :
    exec (.dispatchStart a) s = .next (s.dispatch o) := by
  show execDispatchStart a s = _
  simp [execDispatchStart, ho, hp]

/-! TIMESTAMP (R90). -/

/-- The RTC shows the seconds below bit 48 and above them the cycles of the second, which do not fall (R541; log entry 46). -/
theorem rtcNow_spec (h : s.aon.rtcSub < 32768) : ∃ n,
    s.rtcNow.1 = s.aon.rtcSec % 2 ^ 48 + 2 ^ 48 * n ∧ s.aon.rtcSub ≤ n ∧ n < 32768 ∧
    s.rtcNow.2 = { s with free := s.free + 1, aon := { s.aon with rtcSub := n } } := by
  refine ⟨_, rfl, Nat.le_add_right .., ?_, rfl⟩
  split
  · have := Nat.mod_lt (s.fresh 15).1 (show 0 < 32768 - s.aon.rtcSub by omega)
    omega
  · exact h
/-- A TIMESTAMP begins and ends with the reading of the RTC (R90). -/
theorem dispatch_timestamp (ho : s.op? a = some o) (hopc : o.opcode = 0x10) (hp : o.phase = .scheduled) (hf : o.startField = 0)
    (h : o.startAt ≤ s.now) (hd : s.dispatching = true) :
    s.dispatch o = (s.rtcNow.2.beginOp o).endOp o.asn 0 0 s.rtcNow.1 := by
  have hsites : s.allAbsent o = false := by
    cases hg : s.cfg.active <;> simp [allAbsent, hg, Op.sites, hopc]
  rw [dispatch_untimed ho hp hf h hd hsites (by simp [checkFamily, hopc])]
  simp [startFamily, hopc]

/-- Work that begins and ends at one instant: the operation has started, and ends with the outcome. -/
theorem ended_begun {status reason detail : Nat} (ho : s.op? a = some o) (hops : t.ops = s.ops) (hn : t.now = s.now)
    (hd : detail < 2 ^ 64) :
    ((t.beginOp o).endOp o.asn status reason detail).Ended { o with started := true } status reason s.now detail := by
  have ht : t.op? o.asn = some o := by rw [op?, hops]; exact asn_of_op? ho ▸ ho
  have hrun : (t.beginOp o).op? o.asn = some { o with phase := .running, started := true, startGcc := t.now, lastGcc := t.now } :=
    op?_setOp_same t { o with phase := .running, started := true, startGcc := t.now, lastGcc := t.now } o ht
  have hend := ended_endOpAt _ o.asn status reason s.now detail _ hrun (by nofun)
  rw [Nat.mod_eq_of_lt hd] at hend
  rw [endOp, show (t.beginOp o).now = s.now from hn]
  exact hend

/-! BARRIER (R89). -/

theorem exec_barrierComplete (ho : s.op? a = some o) (hopc : o.opcode = 0xF) (hp : o.phase = .running) :
    exec (.barrierComplete a) s = .next (if s.barrierWaits o = [] then s.endOp a 0 0 o.waited else s) := by
  show execBarrierComplete a s = _
  simp [execBarrierComplete, ho, hopc, hp]

/-! Deadlines (R88). -/

theorem exec_deadline_waiting (ho : s.op? a = some o) (hg : o.deadlineAt = some g) (hp : o.phase = .waiting)
    (hn : (s.advanceTo g).now = g) : exec (.deadline a) s =
      .next (if (s.advanceTo g).candidates.contains a then (s.advanceTo g).endOpAt a 0xA 0 g 0
        else (s.advanceTo g).endOpAt a 9 0x82 g 0) := by
  show execDeadline a s = _
  simp only [execDeadline, ho, hg, hp, hn, ne_eq, not_true_eq_false, false_and, lt_irrefl, if_false, if_true]
theorem exec_deadline_scheduled (ho : s.op? a = some o) (hg : o.deadlineAt = some g) (hp : o.phase = .scheduled)
    (hw : o.work = .nothing) (hn : (s.advanceTo g).now = g) :
    exec (.deadline a) s = .next ((s.advanceTo g).endOpAt a 9 0x82 g 0) := by
  show execDeadline a s = _
  simp [execDeadline, ho, hg, hp, hn, hw]

/-! Check points (R161). -/

theorem exec_startCheckPoint (ho : s.op? a = some o) (hp : o.phase = .waiting) (hf : o.startField ≠ 0)
    (hn : (s.advanceTo o.checkPoint).now = o.checkPoint) (hop : (s.advanceTo o.checkPoint).examine.op? a = some p) :
    exec (.startCheckPoint a) s = .next (if p.phase = .waiting ∧ !p.lateOk then (s.advanceTo o.checkPoint).examine.startLate p
      else (s.advanceTo o.checkPoint).examine) := by
  show execStartCheckPoint a s = _
  simp [execStartCheckPoint, ho, hp, hf, hn, hop]

end State
end Sys2Proof.Machine

open Sys2Proof Sys2Proof.Machine

/-- Settles O16: each command ends the operation or leaves it, and `State.ended_endOpAt` says what an end is. -/
theorem operationsStartAndCompleteOnTime : Obligations.OperationsStartAndCompleteOnTime := by
  unfold Obligations.OperationsStartAndCompleteOnTime
  intro a s o ho
  have hnow {g : Nat} (hc : s.counting = true) (h : s.now ≤ g) : (s.advanceTo g).now = g :=
    (s.now_advanceTo hc).trans (max_eq_right h)
  have hadv (g : Nat) : (s.advanceTo g).op? a = some o := by rw [State.op?, State.advanceTo_ops]; exact ho
  refine ⟨fun hp h hd => ?_, fun hopc hp hf h hd hsub => ?_, fun hopc hp => ⟨fun hw => ?_, fun hw => ?_⟩,
    fun g hg hp hc h => ?_, fun g hg hp hw hc h => ?_, fun hp hf hc h => ?_⟩
  · rw [State.exec_dispatchStart_scheduled ho hp, State.dispatch_paused h hd]
  · obtain ⟨n, hd1, hle, hlt, hd2⟩ := State.rtcNow_spec hsub
    refine ⟨s.rtcNow.2.beginOp o, _, s.rtcNow.1,
      (State.exec_dispatchStart_scheduled ho hp).trans (congrArg _ (State.dispatch_timestamp ho hopc hp hf h hd)), ?_,
      State.endFrame_endOp .., ?_, ?_, ?_, ?_⟩
    · rw [hd2]
      rfl
    · exact State.ended_begun ho (by rw [hd2]) (by rw [hd2]; rfl) (by rw [hd1]; omega)
    · rw [hd1]; omega
    · rw [hd1]; omega
    · rw [hd1]; omega
  · rw [State.exec_barrierComplete ho hopc hp, if_pos hw]
    exact ⟨_, rfl, State.ended_endOpAt s a 0 0 s.now o.waited o ho (by rw [hp]; nofun), State.endFrame_endOp ..⟩
  · rw [State.exec_barrierComplete ho hopc hp, if_neg hw]
  · have hend (st r : Nat) : ((s.advanceTo g).endOpAt a st r g 0).Ended o st r g 0 :=
      State.ended_endOpAt _ a st r g 0 o (hadv g) (by rw [hp]; nofun)
    have hexec := State.exec_deadline_waiting ho hg hp (hnow hc h)
    by_cases hcand : (s.advanceTo g).candidates.contains a = true
    · rw [if_pos hcand] at hexec
      have hframe := State.endFrame_endOpAt (s.advanceTo g) a 0xA 0 g 0
      exact ⟨_, hexec, hframe, (State.endFrame_now hframe).trans (hnow hc h), fun _ => hend ..,
        fun hno => absurd (hno.symm.trans hcand) (by decide)⟩
    · rw [if_neg hcand] at hexec
      have hframe := State.endFrame_endOpAt (s.advanceTo g) a 9 0x82 g 0
      exact ⟨_, hexec, hframe, (State.endFrame_now hframe).trans (hnow hc h), fun hyes => absurd hyes hcand, fun _ => hend ..⟩
  · exact ⟨_, State.exec_deadline_scheduled ho hg hp hw (hnow hc h), State.endFrame_endOpAt ..,
      State.ended_endOpAt _ a 9 0x82 g 0 o (hadv g) (by rw [hp]; nofun)⟩
  · intro u p hop
    have hexec := State.exec_startCheckPoint ho hp hf (hnow hc h) hop
    refine ⟨fun hlate => hexec.trans (congrArg _ (if_neg ?_)), fun hph hlate => ?_⟩
    · rcases hlate with h | h
      · exact fun e => h e.1
      · simp [h]
    · rw [if_pos ⟨hph, by simp [hlate]⟩] at hexec
      have hasn : p.asn = a := State.asn_of_op? hop
      exact ⟨_, hexec, State.ended_endOpAt u p.asn 9 1 _ 0 p (hasn ▸ hop) (by rw [hph]; nofun), State.endFrame_endOpAt ..⟩
end

section
/-! Records owed after a loss of power (R91, R92, R131 to R139): the bytes of a record in its ring, the copy that NOTIFY sends, and
the delivery and the discard of a slot. -/

namespace Sys2Proof

theorem length_leBytes (n v : Nat) : (leBytes n v).length = n := by
  induction n generalizing v with
  | zero => rfl
  | succ n ih => rw [leBytes, List.length_cons, ih]
/-- A number read back from its little-endian bytes (R7). -/
theorem leNat_leBytes (n v : Nat) : leNat (leBytes n v) = v % 256 ^ n := by
  induction n generalizing v with
  | zero => rw [pow_zero, Nat.mod_one]; rfl
  | succ n ih =>
    rw [leBytes, leNat, ih, BitVec.toNat_ofNat]
    exact ((congrArg (v % ·) (pow_succ' 256 n)).trans Nat.mod_mul).symm

end Sys2Proof

namespace Sys2Proof.Machine
namespace State
variable {s t : State} {r : QRec} {q a n : Nat}

/-! Bytes of the store. -/

/-- Bytes written and read back. -/
theorem bytes_writeBytes {bs : List Byte} {i : Nat} (h : i + n ≤ bs.length) :
    (s.writeBytes a bs).bytes (a + i) n = (bs.drop i).take n := by
  refine List.ext_getElem ?_ fun k hk _ => ?_
  · simp only [bytes, List.length_map, List.length_range, List.length_take, List.length_drop]
    omega
  · have hk : k < n := by simpa [bytes] using hk
    have := s.byte_writeBytes_in a (i + k) bs (by omega)
    simpa [bytes, Nat.add_assoc] using this
theorem le_writeBytes {bs : List Byte} {i : Nat} (h : i + n ≤ bs.length) :
    (s.writeBytes a bs).le (a + i) n = leNat ((bs.drop i).take n) := by rw [le, bytes_writeBytes h]
theorem byte_congr (h : t.store = s.store) (b : Nat) : t.byte b = s.byte b := by rw [byte, h, byte]
theorem le_congr (h : t.store = s.store) : t.le a n = s.le a n := by simp only [le, bytes, byte_congr h]

/-! Completion records (R91). -/

theorem length_recordBytes (q seq ph st opc fl rsn tag gcc det : Nat) :
    (recordBytes q seq ph st opc fl rsn tag gcc det).length = 32 := by
  simp [recordBytes, length_leBytes]
/-- The fields of a record in the store (R91). -/
theorem le_recordBytes (q seq ph st opc fl rsn tag gcc det : Nat) :
    let t := s.writeBytes a (recordBytes q seq ph st opc fl rsn tag gcc det)
    t.le a 6 = seq % 2 ^ 48 ∧ t.le (a + 6) 2 = (q % 4096 + 32768 * ph) % 2 ^ 16 ∧ t.le (a + 8) 1 = st % 256 ∧
    t.le (a + 9) 1 = opc % 256 ∧ t.le (a + 10) 1 = fl % 256 ∧ t.le (a + 11) 1 = rsn % 256 ∧
    t.le (a + 12) 4 = tag % 2 ^ 32 ∧ t.le (a + 16) 8 = gcc % 2 ^ 64 ∧ t.le (a + 24) 8 = det % 2 ^ 64 := by
  have hfield (i n v : Nat) (h : i + n ≤ 32)
      (hv : ((recordBytes q seq ph st opc fl rsn tag gcc det).drop i).take n = leBytes n v) :
      (s.writeBytes a (recordBytes q seq ph st opc fl rsn tag gcc det)).le (a + i) n = v % 256 ^ n := by
    rw [le_writeBytes (by rw [length_recordBytes]; exact h), hv, leNat_leBytes]
  exact ⟨hfield 0 6 _ (by decide) rfl, hfield 6 2 _ (by decide) rfl, hfield 8 1 _ (by decide) rfl, hfield 9 1 _ (by decide) rfl,
    hfield 10 1 _ (by decide) rfl, hfield 11 1 _ (by decide) rfl, hfield 12 4 _ (by decide) rfl, hfield 16 8 _ (by decide) rfl,
    hfield 24 8 _ (by decide) rfl⟩

/-- `t` differs from `s` in what a message that leaves may change: the ports, the flows, and the counts of what is dropped
(R508, R512). -/
def SendFrame (s t : State) : Prop :=
  t = { s with regs := t.regs, ports := t.ports, net := t.net } ∧ s.RegsKept t [APL_DROPS, APL_G_EVENTS]

theorem SendFrame.refl (s : State) : s.SendFrame s := ⟨rfl, RegsKept.refl s _⟩
theorem SendFrame.setMseq {dest vc m : Nat} {start : Bool} (h : s.SendFrame t) : s.SendFrame (t.setMseq dest vc m start) := by
  refine ⟨?_, h.2⟩
  rw [State.setMseq, h.1]
theorem sendFrame_enqueue {p vc : Nat} {fs : List Flit} : s.SendFrame (s.enqueue p vc fs) := by
  unfold enqueue
  extract_lets x
  split <;> exact ⟨rfl, RegsKept.refl s _⟩
theorem sendFrame_noRoute : s.SendFrame (s.noRoute n) := by
  obtain ⟨heq, hkept⟩ := (s.onlyRegs_addSat APL_DROPS n [APL_DROPS, APL_G_EVENTS] (by simp)).trans
    (onlyRegs_event _ APL_G_EVENTS 3 _ (by simp))
  refine ⟨?_, hkept⟩
  rw [noRoute, heq]
theorem sendFrame_send {dest vc op status tag arg addr : Nat} {body : List Byte} {pois : Nat → Bool} :
    s.SendFrame (s.send dest vc op status tag arg addr body pois) := by
  unfold send
  extract_lets x m fs
  split
  · exact ⟨rfl, RegsKept.refl s _⟩
  split
  · exact sendFrame_enqueue.setMseq
  · exact sendFrame_noRoute.setMseq

/-- A record goes into the next slot of its ring, CQ_TAIL advances, and a copy may leave (R92, R94, R98). -/
theorem putRecord_spec {bytes : Nat → List Byte} :
    let m := (s.reg (WQ_CQ_TAIL r.queue)).toNat
    let u := s.writeBytes (r.cqBase + 32 * (m % 2 ^ r.cqLog2)) (bytes (phaseOf m r.cqLog2))
    (u.setReg (WQ_CQ_TAIL r.queue) (BitVec.ofNat 32 (m + 1))).SendFrame (s.putRecord r bytes) := by
  unfold putRecord
  extract_lets m bs u1 u2
  split
  · exact sendFrame_send
  · exact SendFrame.refl _

theorem putRecord_parts {bytes : Nat → List Byte} : let t := s.putRecord r bytes
    t.cont = s.cont ∧ t.evq = s.evq ∧ t.ops = s.ops ∧ t.cfg = s.cfg ∧ t.sec = s.sec ∧ t.tb = s.tb ∧
    t.store = (s.writeBytes (r.cqBase + 32 * ((s.reg (WQ_CQ_TAIL r.queue)).toNat % 2 ^ r.cqLog2))
      (bytes (phaseOf (s.reg (WQ_CQ_TAIL r.queue)).toNat r.cqLog2))).store := by
  have h := putRecord_spec (s := s) (r := r) (bytes := bytes)
  dsimp only at h
  rw [writeBytes_eq] at h
  intro t
  rw [show t = _ from h.1]
  exact ⟨rfl, rfl, rfl, rfl, rfl, rfl, rfl⟩
theorem reg_putRecord_tail {bytes : Nat → List Byte} (hq : r.queue < 4096) :
    (s.putRecord r bytes).reg (WQ_CQ_TAIL r.queue) = BitVec.ofNat 32 ((s.reg (WQ_CQ_TAIL r.queue)).toNat + 1) := by
  have hne : WQ_CQ_TAIL r.queue ∉ [APL_DROPS, APL_G_EVENTS] := by
    simp only [APL_DROPS, APL_G_EVENTS, WQ_CQ_TAIL, List.mem_cons, List.not_mem_nil, or_false]
    omega
  exact (putRecord_spec.2 _ hne).trans (reg_setReg_same ..)

/-! The event of a slot (R139). -/

/-- `t` differs from `s` in what the log of an event may change: the event queue, its count of losses and lifetime counters
(R544, R589). -/
def LogFrame (s t : State) : Prop :=
  t = { s with regs := t.regs, evq := t.evq, aon := { s.aon with lt := t.aon.lt } } ∧ s.RegsKept t [GLB_EVQ_LOST]
theorem LogFrame.trans {u : State} (h : s.LogFrame t) (h' : t.LogFrame u) : s.LogFrame u := by
  refine ⟨?_, h.2.trans h'.2⟩
  obtain ⟨e, -⟩ := h
  obtain ⟨e', -⟩ := h'
  rw [e']
  rw [e]
theorem logFrame_ltAdd (i k : Nat) : s.LogFrame (s.ltAdd i k) := ⟨rfl, RegsKept.refl s _⟩
theorem logFrame_logEvent (code unit data : Nat) : s.LogFrame (s.logEvent code unit data) := by
  unfold logEvent
  extract_lets record u
  have hu : s.LogFrame u := by
    unfold u
    split
    · exact logFrame_ltAdd 14 1
    · exact ⟨rfl, RegsKept.refl s _⟩
  split
  · exact hu.trans ⟨rfl, RegsKept.refl u _⟩
  · exact hu.trans ⟨rfl, (onlyRegs_incSat _ GLB_EVQ_LOST _ (by simp)).2⟩

/-! Delivery and discard (R134, R136). -/

/-- The MRAM slot is emptied and the event of that is logged (R136, R139). -/
def freeSlotWith (s : State) (i code total : Nat) : State :=
  ({ s with cont := { s.cont with slots := s.cont.slots.set i pfSlotEmpty } } : State).mramWrite.logEvent code i total

/-- The record of an operation that a loss of power ended, by its PHASE (R91, R131). -/
def owedBytes (x : Owed) (ph : Nat) : List Byte :=
  recordBytes x.queue x.seq ph 5 x.opcode (if x.started then 1 else 0) 0 x.tag x.gcc x.detail

/-- The one record of a slot leaves for its ring, and the slot is free (R134, R137, R139). -/
theorem deliverOwed_last {i : Nat} {x : Owed} {sl : PfSlot} (hs : s.cont.slots.getD i pfSlotEmpty = sl) (ho : sl.owed = [x])
    (hx : x.queue = r.queue) (hr : s.cqRoom r = true) :
    s.deliverOwed r i = (s.putRecord r (owedBytes x)).freeSlotWith i 0x030E sl.total := by
  have hmine : (sl.owed.filter (fun y => y.queue == r.queue)).foldr insertOwed [] = [x] := by simp [ho, hx, insertOwed]
  obtain ⟨hcont, -⟩ := putRecord_parts (s := s) (r := r) (bytes := owedBytes x)
  have hrecord : (fun ph => recordBytes x.queue x.seq ph 5 x.opcode (if x.started then 1 else 0) 0 x.tag x.gcc x.detail) =
    owedBytes x := rfl
  unfold deliverOwed
  rw [hs, hmine, forEach_cons, forEach_nil, if_neg (by simp [hr]), hrecord]
  generalize s.putRecord r _ = u at hcont ⊢
  simp [freeSlotWith, hcont, hs, ho, -List.getD_eq_getElem?_getD]
/-- A slot that owes the queue nothing delivers nothing. -/
theorem deliverOwed_none {i : Nat} (h : (s.cont.slots.getD i pfSlotEmpty).owed = []) : s.deliverOwed r i = s := by
  rw [deliverOwed, h]
  rfl

/-- A slot that is emptied: its event is the newest, and nothing but what `LogFrame` names changes beside the slots. -/
theorem freeSlotWith_spec (i code total : Nat) : let t := s.freeSlotWith i code total
    t.cont.slots = s.cont.slots.set i pfSlotEmpty ∧ s.Logged t code i total ∧
    t = { s with regs := t.regs, evq := t.evq, cont := { s.cont with slots := t.cont.slots },
                 aon := { s.aon with lt := t.aon.lt } } ∧ s.RegsKept t [GLB_EVQ_LOST] := by
  intro t
  generalize hu : ({ s with cont := { s.cont with slots := s.cont.slots.set i pfSlotEmpty } } : State) = u
  have ht : t = u.mramWrite.logEvent code i total := by rw [← hu]; rfl
  have hlog : u.LogFrame t := ht ▸ (logFrame_ltAdd 15 1).trans (logFrame_logEvent code i total)
  have hslots : t.cont.slots = s.cont.slots.set i pfSlotEmpty := by rw [hlog.1, ← hu]
  refine ⟨hslots, ?_, ?_, fun a ha => (hlog.2 a ha).trans (by rw [← hu]; rfl)⟩
  · refine (congrArg (fun v : State => v.evq.recs) ht).trans ((logEvent_recs ..).trans ?_)
    rw [← hu]
    rfl
  · rw [hslots, hlog.1, ← hu]

theorem Logged.congr {u : State} {code unit data : Nat} (h : u.Logged t code unit data) (he : u.evq = s.evq) (hn : u.tb = s.tb) :
    s.Logged t code unit data := by
  unfold Logged at h ⊢
  rwa [he, now, hn] at h

/-- A record that leaves a slot free: what stands in the store, the ring, the slots and the event queue then, and what stays. -/
theorem putRecord_freeSlotWith {i code total : Nat} {bytes : Nat → List Byte} (hq : r.queue < 4096) :
    let m := (s.reg (WQ_CQ_TAIL r.queue)).toNat
    let t := (s.putRecord r bytes).freeSlotWith i code total
    t.store = (s.writeBytes (r.cqBase + 32 * (m % 2 ^ r.cqLog2)) (bytes (phaseOf m r.cqLog2))).store ∧
    t.reg (WQ_CQ_TAIL r.queue) = BitVec.ofNat 32 (m + 1) ∧ t.cont.slots = s.cont.slots.set i pfSlotEmpty ∧
    s.Logged t code i total ∧ t.ops = s.ops ∧ t.cfg = s.cfg ∧ t.sec = s.sec := by
  obtain ⟨hcont, hevq, hops, hcfg, hsec, htb, hstore⟩ := putRecord_parts (s := s) (r := r) (bytes := bytes)
  have htail := reg_putRecord_tail (s := s) (bytes := bytes) hq
  generalize s.putRecord r bytes = u at hcont hevq hops hcfg hsec htb hstore htail
  obtain ⟨hfree, hlog, heq, hkept⟩ := freeSlotWith_spec (s := u) i code total
  generalize u.freeSlotWith i code total = t at hfree hlog heq hkept
  have hne : WQ_CQ_TAIL r.queue ∉ [GLB_EVQ_LOST] := by simp only [WQ_CQ_TAIL, GLB_EVQ_LOST, List.mem_singleton]; omega
  refine ⟨?_, (hkept _ hne).trans htail, hfree.trans (by rw [hcont]), hlog.congr hevq htb, ?_, ?_, ?_⟩
  · rw [heq]
    exact hstore
  · rw [heq]
    exact hops
  · rw [heq]
    exact hcfg
  · rw [heq]
    exact hsec

theorem queue_of_queueRec (h : s.queueRec q = some r) : r.queue = q := by
  obtain ⟨g, -, hg⟩ := Option.bind_eq_some_iff.mp h
  simpa using List.find?_some hg
/-- The one slot that owes records is the older one. -/
theorem olderSlot_single {sl : PfSlot} (h : s.cont.slots = [sl, pfSlotEmpty] ∨ s.cont.slots = [pfSlotEmpty, sl])
    (ho : sl.owed ≠ []) :
    ∃ i, s.olderSlot = some i ∧ s.cont.slots.getD i pfSlotEmpty = sl ∧
      s.cont.slots.set i pfSlotEmpty = [pfSlotEmpty, pfSlotEmpty] ∧ (if s.cont.slots = [sl, pfSlotEmpty] then 0 else 1) = i := by
  have hempty : pfSlotEmpty.owed = [] := rfl
  rcases h with h | h
  · exact ⟨0, by simp [olderSlot, h, ho, hempty], by simp [h], by simp [h], if_pos h⟩
  · have hne : pfSlotEmpty ≠ sl := fun e => ho (e ▸ hempty)
    exact ⟨1, by simp [olderSlot, h, ho, hempty], by simp [h], by simp [h], if_neg (by simp [h, hne])⟩
theorem owed_getD_empty (i : Nat) : ([pfSlotEmpty, pfSlotEmpty].getD i pfSlotEmpty).owed = [] := by
  rcases i with _ | _ | i <;> rfl
theorem olderSlot_lt {i : Nat} (h : s.olderSlot = some i) : i < 2 := by
  unfold olderSlot at h
  extract_lets x y at h
  repeat' split at h
  all_goals cases h <;> decide

theorem exec_abortedPowerDelivery {i : Nat} (hr : s.queueRec q = some r) (hf : s.recordsFlow = true) (hd : s.deviceState = 1)
    (hs : s.olderSlot = some i) :
    exec (.abortedPowerDelivery q) s = .next ((s.deliverOwed r i).deliverOwed r (1 - i)) := by
  show execAbortedPowerDelivery q s = _
  simp [execAbortedPowerDelivery, hr, hf, hd, hs]
theorem exec_abortedPowerDelivery_not (h : s.queueRec q = none ∨ s.deviceState ≠ 1 ∨ s.olderSlot = none) :
    exec (.abortedPowerDelivery q) s = .next s := by
  show execAbortedPowerDelivery q s = _
  unfold execAbortedPowerDelivery
  refine congrArg _ ?_
  split
  · rfl
  next r hr =>
  split
  · rfl
  next hact =>
  rcases h with h | h | h
  · exact nomatch hr.symm.trans h
  · exact absurd (by simp [h]) hact
  · rw [h]
theorem exec_discardOldest {i : Nat} (h : s.olderSlot = some i) : exec .discardOldest s =
    .next (s.freeSlotWith i 0x030F (s.cont.slots.getD i pfSlotEmpty).owed.length) := by
  show execDiscardOldest s = _
  simp only [execDiscardOldest, discardOldest, h]
  rfl
theorem exec_discardOldest_none (h : s.olderSlot = none) : exec .discardOldest s = .next (s.rangeFlag 0 MEM_PF_CMD) := by
  show execDiscardOldest s = _
  simp only [execDiscardOldest, discardOldest, h]

end State
end Sys2Proof.Machine

open Sys2Proof Sys2Proof.Machine

/-- Settles O23: the record goes into the ring as any other does, and the slot that it empties reports itself. -/
theorem abortedPowerRecordsAreDelivered : Obligations.AbortedPowerRecordsAreDelivered := by
  unfold Obligations.AbortedPowerRecordsAreDelivered
  refine ⟨fun q s r x sl hq hr hf hd hslots howed hx hroom => ?_, fun q s h => State.exec_abortedPowerDelivery_not h,
    fun i s hi hlen => ?_, fun s h => ?_⟩
  · have hrq : r.queue = q := State.queue_of_queueRec hr
    subst hrq
    intro m at_
    obtain ⟨i, holder, hget, hset, hi⟩ := State.olderSlot_single hslots (by rw [howed]; nofun)
    have hexec := State.exec_abortedPowerDelivery hr hf hd holder
    rw [State.deliverOwed_last hget howed hx hroom] at hexec
    obtain ⟨hstore, htail, hslots', hlog, hops, hcfg, hsec⟩ :=
      State.putRecord_freeSlotWith (s := s) (i := i) (code := 0x030E) (total := sl.total) (bytes := State.owedBytes x) hq
    generalize (s.putRecord r (State.owedBytes x)).freeSlotWith i 0x030E sl.total = t at *
    rw [hset] at hslots'
    rw [State.deliverOwed_none (by rw [hslots']; exact State.owed_getD_empty _)] at hexec
    obtain ⟨hseq, hphase, hstatus, hopcode, hflags, hreason, htag, hgcc, hdetail⟩ := s.le_recordBytes (a := at_) x.queue x.seq
      (phaseOf m r.cqLog2) 5 x.opcode (if x.started then 1 else 0) 0 x.tag x.gcc x.detail
    have hle (a n : Nat) := State.le_congr (a := a) (n := n) hstore
    refine ⟨t, hexec, (hle _ _).trans hseq, (hle _ _).trans (hphase.trans ?_), (hle _ _).trans hstatus, (hle _ _).trans hopcode,
      (hle _ _).trans (hflags.trans ?_), (hle _ _).trans hreason, (hle _ _).trans htag, (hle _ _).trans hgcc,
      (hle _ _).trans hdetail, htail, hslots', hi ▸ hlog, fun b hb => ?_, hops, hcfg, hsec⟩
    · have : (m / 2 ^ r.cqLog2) % 2 < 2 := Nat.mod_lt _ (by decide)
      rw [hx, phaseOf]
      omega
    · split <;> rfl
    · rw [State.byte_congr hstore]
      exact s.byte_writeBytes_out _ _ _ (by rwa [State.owedBytes, State.length_recordBytes])
  · have hlt : i < s.cont.slots.length := hlen ▸ State.olderSlot_lt hi
    obtain ⟨hslots, hlog, hframe⟩ := State.freeSlotWith_spec (s := s) i 0x030F (s.cont.slots.getD i pfSlotEmpty).owed.length
    refine ⟨_, State.exec_discardOldest hi, ?_, fun j hj => ?_, hlog, hframe⟩
    · rw [hslots]
      simp [hlt]
    · rw [hslots, List.getElem?_set_ne (Ne.symm hj)]
  · obtain ⟨heq, hkept⟩ := State.rangeFlag_frame (s := s) (path := 0) (a := MEM_PF_CMD)
    exact ⟨_, State.exec_discardOldest_none h, State.bitAt_rangeFlag_host (by decide), heq, hkept⟩
end

section
/-! States that no run reaches and that two statements do not leave out: two operations with one acceptance sequence number, and an
effective priority above the eight classes of R86. -/

namespace Sys2Proof.Machine

/-- A set that opens queue 1, with rings of one slot. -/
def oneQueue : QRec := { queue := 1, cls := 0, mode := 0, sqLog2 := 0, cqLog2 := 0, sqBase := 0x100000, cqBase := 0x200000 }
def oneQueueSet : ImageSet :=
  { (default : ImageSet) with queues := [oneQueue], classes := [{ opmask := 0x7FFFF, prioMax := 7 }] }
/-- An ACTIVE chip with that set, a running timebase and the given operations in flight. -/
def activeWith (ops : List Op) : State :=
  let s : State := { State.reset with cfg := { State.reset.cfg with active := some oneQueueSet },
                                      aon := { State.reset.aon with resetting := 0 }, ops := ops }
  (s.setFld AON_PWR_STATUS 2 0 1).setFld GLB_TB_STATUS 1 0 1

/-- Acceptance of the next descriptor of a queue whose turn it is (R77, R78, R80). -/
theorem exec_descriptorAcceptance_accepted {s : State} {g : ImageSet} {r : QRec} {q : Nat} (hg : s.cfg.active = some g)
    (hr : s.queueRec q = some r) (ht : s.takes = true) (hp : s.posted r = true) (hi : s.itsTurn g q = true)
    (hc : acceptCheck g r (s.nextSeq q) (s.streamNow (s.slotDesc r (s.reg (WQ_SQ_HEAD q)).toNat))
      (s.slotDesc r (s.reg (WQ_SQ_HEAD q)).toNat) = 0) :
    exec (.descriptorAcceptance q) s =
      .next (({ s with served := q } : State).accept g q (s.slotDesc r (s.reg (WQ_SQ_HEAD q)).toNat)) := by
  show execDescriptorAcceptance q s = _
  simp only [execDescriptorAcceptance, hg, hr, ht, hp, hi, Bool.not_true, Bool.or_self, Bool.false_eq_true, if_false]
  exact congrArg _ (if_pos hc)

/-- An operation of queue 2 waits with the acceptance sequence number 1 that comes next, and its dependency has failed. -/
def sameAsn : Op := { (default : Op) with asn := 1, queue := 2, seq := 9, dep0 := .failed }
/-- A BARRIER is posted on queue 1 of a chip in which that operation waits. -/
def acceptSameAsn : State := ((activeWith [sameAsn]).setByte 0x100000 0x0F).setReg (WQ_SQ_TAIL 1) 1
/-- The failed dependency ends the operation under its number, and both operations of that number become the ended one (R87). -/
theorem accept_sameAsn : ∀ o ∈ (({ acceptSameAsn with served := 1 } : State).accept oneQueueSet 1 0x0F).ops, o.queue = 2 := by
  decide +kernel

/-- A TIMESTAMP that waits alone, judged and without dependencies, with the priority class 8. -/
def classEight : Op :=
  { (default : Op) with asn := 1, queue := 1, seq := 1, desc := 0x10, eff := 8, judged := true, dep0 := .absent, dep1 := .absent }
/-- No class of the examination is 8, so the operation goes on waiting (R86, R416). -/
theorem examine_classEight : ∀ o ∈ (activeWith [classEight]).examine.ops, o.phase = .waiting := by decide +kernel

end Sys2Proof.Machine

open Sys2Proof Sys2Proof.Machine

/-- Refutes O10: it asks that the operation accepted is in flight after the command, of every state, also of one in which another
operation bears the acceptance sequence number that comes next; where that one's dependency has failed, its end, which the acceptance
settles by that number, puts it in the place of the accepted one. -/
theorem not_acceptanceTakesTheNextDescriptor : ¬ Obligations.AcceptanceTakesTheNextDescriptor := by
  unfold Obligations.AcceptanceTakesTheNextDescriptor
  intro h
  have hdesc : acceptSameAsn.slotDesc oneQueue (acceptSameAsn.reg (WQ_SQ_HEAD 1)).toNat = 0x0F := by decide +kernel
  have htakes : acceptSameAsn.takes = true := by decide +kernel
  have hpaused : acceptSameAsn.paused oneQueue = false := by decide +kernel
  have hhalted : acceptSameAsn.bitAt (WQ_STATUS 1) 1 = false := by decide +kernel
  have hhead : acceptSameAsn.reg (WQ_SQ_HEAD 1) ≠ acceptSameAsn.reg (WQ_SQ_TAIL 1) := by decide +kernel
  have hposted : acceptSameAsn.posted oneQueue = true := by decide +kernel
  have hturn : acceptSameAsn.itsTurn oneQueueSet 1 = true := by decide +kernel
  have hcode : acceptCheck oneQueueSet oneQueue (acceptSameAsn.nextSeq 1) (acceptSameAsn.streamNow 0x0F) 0x0F = 0 := by decide +kernel
  obtain ⟨-, htake⟩ := h 1 acceptSameAsn oneQueueSet oneQueue (by decide) rfl rfl
  obtain ⟨haccept, -⟩ := htake htakes hpaused hhalted hhead hturn
  have hexec := exec_descriptorAcceptance_accepted (s := acceptSameAsn) (q := 1) rfl rfl htakes hposted hturn
    (by rw [hdesc]; exact hcode)
  rw [hdesc] at hexec haccept
  obtain ⟨t, ht, -, ⟨o, ho, -, hqueue, -⟩, -⟩ := haccept hcode
  obtain rfl := Host.Outcome.next.inj (hexec.symm.trans ht)
  exact absurd ((accept_sameAsn o ho).symm.trans hqueue) (by decide)

/-- Refutes O15: it leaves the effective priority of the operation open, and the examination goes through the classes 7 to 0 of R86
only; an operation of class 8, which no acceptance makes, is passed over. -/
theorem not_admissionTakesACandidate : ¬ Obligations.AdmissionTakesACandidate := by
  unfold Obligations.AdmissionTakesACandidate
  intro h
  obtain ⟨t, p, ht, hops, -, hphase, -⟩ := h (activeWith [classEight]) classEight rfl rfl rfl rfl rfl
    (by decide +kernel) (by decide +kernel) (by decide +kernel) (by decide +kernel) (by decide +kernel) (by decide +kernel)
    (by decide +kernel) (by decide +kernel)
  obtain rfl : (activeWith [classEight]).examine = t := Host.Outcome.next.inj ht
  have hwaits := examine_classEight p (hops ▸ List.mem_singleton_self p)
  exact absurd (hwaits.symm.trans hphase) (by decide)
end

section
/-! Warm resets begin (R525, R526, R528): what the command and a hub fault make of the state, and the causes that are ignored. -/

namespace Sys2Proof.Machine
namespace State
variable {s : State}

/-- Without a pending swap no swap is due. -/
theorem swapDue_none (h : s.cfg.swap = none) : s.swapDue = s := by simp [swapDue, h]

/-- The reset that begins is counted (R544). -/
def resetCounted (s : State) : State := { s.ltAdd 3 1 with aon := { (s.ltAdd 3 1).aon with resetting := 1 } }
/-- What STATE and the cause of the last reset show of a reset that begins. -/
def showReset (s : State) (cause : Nat) : State := (s.setFld AON_PWR_STATUS 2 0 0).setFld AON_PWR_STATUS 19 16 cause
/-- Step 1 of R528, where no reset is under way and no swap is pending. -/
def warmBegun (s : State) (cause : Nat) : State := (s.showReset cause).resetCounted

theorem warmBegin_eq {cause : Nat} (hb : s.resetBusy = false) (hw : s.cfg.swap = none) : s.warmBegin cause = s.warmBegun cause := by
  have hif : s.warmBegin cause = if s.resetBusy then s.event AON_EVENTS 5 else s.swapDue.warmBegun cause := rfl
  rw [hif, hb, swapDue_none hw]
  rfl
theorem warmBegin_busy {cause : Nat} (hb : s.resetBusy = true) : s.warmBegin cause = s.event AON_EVENTS 5 := by
  simp only [warmBegin, hb, if_true]

/-- What a warm reset that begins by a cause shows and changes. -/
structure WarmBegun (s t : State) (cause : Nat) : Prop where
  state : t.deviceState = 0
  shown : t.fld AON_PWR_STATUS 19 16 = cause
  counted : t.lifetime 3 = min (s.lifetime 3 + 1) (2 ^ 64 - 1)
  frame : t = { s with regs := t.regs, aon := { s.aon with resetting := 1, lt := t.aon.lt } }
  kept : s.RegsKept t [AON_PWR_STATUS]

theorem lifetime_congr {s t : State} {i : Nat} (h : t.aon = s.aon) : t.lifetime i = s.lifetime i := by rw [lifetime, lifetime, h]
theorem resetCounted_eq {v : State} (hv : v = { s with regs := v.regs }) :
    v.resetCounted = { s with regs := v.resetCounted.regs, aon := { s.aon with resetting := 1, lt := v.resetCounted.aon.lt } } := by
  rw [hv]
  rfl
theorem reg_resetCounted (a : Nat) : s.resetCounted.reg a = s.reg a := rfl
theorem lifetime_resetCounted : s.resetCounted.lifetime 3 = min (s.lifetime 3 + 1) (2 ^ 64 - 1) := lifetime_ltAdd ..

theorem onlyRegs_showReset (cause : Nat) : s.OnlyRegs (s.showReset cause) [AON_PWR_STATUS] :=
  (s.onlyRegs_setFld _ _ _ _ _ (by simp)).trans (onlyRegs_setFld _ _ _ _ _ _ (by simp))
theorem state_showReset (cause : Nat) : (s.showReset cause).fld AON_PWR_STATUS 2 0 = 0 :=
  (fld_setFld_ne _ _ _ _ _ _ _ _ (by decide) (by decide) (by decide)).trans (fld_setFld_same _ _ _ _ _ (by decide) (by decide))
theorem cause_showReset {cause : Nat} (hc : cause < 16) : (s.showReset cause).fld AON_PWR_STATUS 19 16 = cause :=
  (fld_setFld_same _ _ _ _ _ (by decide) (by decide)).trans (Nat.mod_eq_of_lt hc)
theorem warmBegun_spec {cause : Nat} (hc : cause < 16) : s.WarmBegun (s.warmBegun cause) cause := by
  have hshow := onlyRegs_showReset (s := s) cause
  have haon : (s.showReset cause).aon = s.aon := by rw [hshow.1]
  exact {
    state := (fld_congr (reg_resetCounted _)).trans (state_showReset cause)
    shown := (fld_congr (reg_resetCounted _)).trans (cause_showReset hc)
    counted := lifetime_resetCounted.trans (by rw [lifetime_congr haon])
    frame := resetCounted_eq hshow.1
    kept := fun a ha => (reg_resetCounted a).trans (hshow.2 a ha) }

/-! The commands. -/

theorem exec_resetCmd_wrongKey {key : Nat} (hk : key ≠ 0x5A17) {c : Instr} (hc : c ∈ [Instr.warmCmd key, .coldCmd key]) :
    exec c s = .next (s.rangeFlag 0 AON_RESET_CMD) := by
  rcases List.mem_pair.1 hc with rfl | rfl
  · exact congrArg Host.Outcome.next (if_pos hk)
  · exact congrArg Host.Outcome.next (if_pos hk)
theorem exec_warmCmd : exec (.warmCmd 0x5A17) s =
    .next ((s.warmBegin 4).setFld AON_PWR_STATUS 31 28 (if s.resetBusy then 2 else 0)) :=
  congrArg Host.Outcome.next (if_neg (by simp))
theorem exec_hubFaultReset_none (h : s.cont.hubFaultAt = none) : exec .hubFaultReset s = .next s := by
  show execHubFaultReset s = _
  simp only [execHubFaultReset, h]
/-- An instant that is not past is the one the machine is brought to, where the GCC counts; nothing else changes. -/
theorem advanceTo_counting {g : Nat} (hc : s.counting = true) (hg : s.now ≤ g) :
    s.advanceTo g = { s with tb := { s.tb with gcc := g } } := by
  unfold advanceTo
  split
  · rfl
  · next h =>
    have : s.tb.gcc = g := by
      have : ¬ s.tb.gcc < g := fun h' => h ⟨hc, h'⟩
      exact le_antisymm hg (by omega)
    rw [← this]

/-- The GCC stands at `n`. -/
def atGcc (s : State) (n : Nat) : State := { s with tb := { s.tb with gcc := n } }
/-- No hub fault waits for its reset. -/
def hubFaultOver (s : State) : State := { s with cont := { s.cont with hubFaultAt := none } }

theorem exec_hubFaultReset {g : Nat} (h : s.cont.hubFaultAt = some g) (hb : s.resetBusy = false) (hw : s.cfg.swap = none)
    (hc : s.counting = true) (hn : s.now ≤ g + 8000) : exec .hubFaultReset s = .next ((s.atGcc (g + 8000)).warmBegun 5).hubFaultOver := by
  have hadv := advanceTo_counting hc hn
  have hnow : ¬ (s.advanceTo (g + 8000)).now < g + 8000 := by rw [hadv]; exact lt_irrefl _
  show execHubFaultReset s = _
  simp only [execHubFaultReset, h, hnow, if_false]
  rw [hadv]
  exact congrArg (fun u => Host.Outcome.next (hubFaultOver u)) (warmBegin_eq (s := s.atGcc (g + 8000)) hb hw)
theorem WarmBegun.hubFaultOver {n cause : Nat} {u : State} (h : (s.atGcc n).WarmBegun u cause) :
    u.hubFaultOver.now = n ∧ u.hubFaultOver.deviceState = 0 ∧ u.hubFaultOver.fld AON_PWR_STATUS 19 16 = cause ∧
    u.hubFaultOver.aon.resetting = 1 ∧ u.hubFaultOver.cont.hubFaultAt = none ∧ u.hubFaultOver.ops = s.ops ∧
    u.hubFaultOver.store = s.store ∧ u.hubFaultOver.cfg = s.cfg ∧ s.RegsKept u.hubFaultOver [AON_PWR_STATUS] := by
  obtain ⟨hstate, hcause, -, heq, hkept⟩ := h
  refine ⟨?_, hstate, hcause, ?_, rfl, ?_, ?_, ?_, hkept⟩ <;> rw [heq] <;> rfl

theorem WarmBegun.frame_of_regs {cause : Nat} {u v : State} (h : s.WarmBegun u cause) (hv : v = { u with regs := v.regs }) :
    v = { s with regs := v.regs, aon := { s.aon with resetting := 1, lt := v.aon.lt } } := by
  have ha : v.aon = u.aon := by rw [hv]
  rw [ha]
  conv_lhs => rw [hv, h.frame]
/-- The accepted command shows 0 beside it. -/
theorem WarmBegun.accepted {cause : Nat} {u : State} (h : s.WarmBegun u cause) : s.WarmBegun (u.setFld AON_PWR_STATUS 31 28 0) cause where
  state := (fld_setFld_ne _ _ _ _ _ _ _ _ (by decide) (by decide) (by decide)).trans h.state
  shown := (fld_setFld_ne _ _ _ _ _ _ _ _ (by decide) (by decide) (by decide)).trans h.shown
  counted := (lifetime_congr (setFld_aon ..)).trans h.counted
  frame := h.frame_of_regs (u.onlyRegs_setFld _ _ _ _ [AON_PWR_STATUS] (by simp)).1
  kept := h.kept.trans (u.onlyRegs_setFld _ _ _ _ _ (by simp)).2

end State
end Sys2Proof.Machine

open Sys2Proof Sys2Proof.Machine

/-- Settles O24: the causes go through `State.warmBegin`, which is `warmBegun` outside resets and the power-fail states, and the flag
RESET_IGNORED in them. -/
theorem warmResetsBegin : Obligations.WarmResetsBegin := by
  unfold Obligations.WarmResetsBegin
  refine fun s => ⟨fun key hk c hc => ?_, fun hb hw => ⟨?_, fun g hg hc hn => ?_⟩, fun hb => ?_, State.exec_hubFaultReset_none⟩
  · obtain ⟨heq, hkept⟩ := State.rangeFlag_frame (s := s) (path := 0) (a := AON_RESET_CMD)
    exact ⟨_, State.exec_resetCmd_wrongKey hk hc, State.bitAt_rangeFlag_host (by decide), heq, hkept⟩
  · refine ⟨_, State.exec_warmCmd, ?_⟩
    rw [State.warmBegin_eq hb hw, hb]
    obtain ⟨hstate, hcause, hlife, heq, hkept⟩ := (State.warmBegun_spec (s := s) (cause := 4) (by decide)).accepted
    exact ⟨hstate, hcause, State.fld_setFld_same _ _ _ _ _ (by decide) (by decide), hlife, heq, hkept⟩
  · exact ⟨_, State.exec_hubFaultReset hg hb hw hc hn, (State.warmBegun_spec (cause := 5) (by decide)).hubFaultOver⟩
  · refine ⟨_, State.exec_warmCmd, ?_⟩
    rw [State.warmBegin_busy hb, hb, if_pos rfl]
    refine ⟨?_, State.fld_setFld_same _ _ _ _ _ (by decide) (by decide), ?_,
      (s.onlyRegs_event _ _ _ (by simp)).trans (State.onlyRegs_setFld _ _ _ _ _ _ (by simp))⟩
    · rw [State.bitAt_setFld _ _ _ _ _ _ _ (by decide) (by decide), if_neg (by decide), State.bitAt_event _ _ _ _ _ (by decide)]
      simp
    · exact (State.fld_setFld_ne _ _ _ _ _ _ _ _ (by decide) (by decide) (by decide)).trans
        (State.fld_setBitAt _ _ _ _ _ _ _ (by decide) (.inl (by decide)))
end

section
/-! Events of fault continuity (R113 to R115, R139): what a step that sets flags and logs an event leaves unchanged, and the
dispatch engines. -/

namespace Sys2Proof.Machine
namespace State
variable {s t u : State} {l l' : List Nat}

/-- `t` differs from `s` in registers of a list and in what the log of an event may change (R544, R589). -/
def EventFrame (s t : State) (l : List Nat) : Prop :=
  t = { s with regs := t.regs, evq := t.evq, aon := { s.aon with lt := t.aon.lt } } ∧ s.RegsKept t l
/-- `EventFrame`, and the records of fault continuity may change as well. -/
def ContFrame (s t : State) (l : List Nat) : Prop :=
  t = { s with regs := t.regs, cont := t.cont, evq := t.evq, aon := { s.aon with lt := t.aon.lt } } ∧ s.RegsKept t l

namespace EventFrame
theorem cont (h : s.EventFrame t l) : t.cont = s.cont := by rw [h.1]
theorem ops (h : s.EventFrame t l) : t.ops = s.ops := by rw [h.1]
theorem heldRecs (h : s.EventFrame t l) : t.heldRecs = s.heldRecs := by rw [h.1]
theorem segs (h : s.EventFrame t l) : t.segs = s.segs := by rw [h.1]
theorem cfg (h : s.EventFrame t l) : t.cfg = s.cfg := by rw [h.1]
theorem store (h : s.EventFrame t l) : t.store = s.store := by rw [h.1]
theorem tb (h : s.EventFrame t l) : t.tb = s.tb := by rw [h.1]
theorem inFlight (h : s.EventFrame t l) : t.inFlight = s.inFlight := by
  rw [State.inFlight, State.inFlight, h.ops, h.heldRecs]
theorem trans (h : s.EventFrame t l) (h' : t.EventFrame u l) : s.EventFrame u l := by
  refine ⟨?_, h.2.trans h'.2⟩
  obtain ⟨e, -⟩ := h
  obtain ⟨e', -⟩ := h'
  rw [e']
  rw [e]
theorem mono (h : s.EventFrame t l) (hl : ∀ a ∈ l, a ∈ l') : s.EventFrame t l' := ⟨h.1, h.2.mono hl⟩
theorem contFrame (h : s.EventFrame t l) : s.ContFrame t l := by
  refine ⟨?_, h.2⟩
  rw [h.cont]
  exact h.1
end EventFrame

theorem OnlyRegs.eventFrame (h : s.OnlyRegs t l) : s.EventFrame t l := by
  refine ⟨?_, h.2⟩
  have haon : t.aon = s.aon := by rw [h.1]
  have hevq : t.evq = s.evq := by rw [h.1]
  rw [haon, hevq]
  exact h.1
theorem eventFrame_logEvent (code unit data : Nat) (hl : GLB_EVQ_LOST ∈ l) : s.EventFrame (s.logEvent code unit data) l :=
  ⟨(logFrame_logEvent code unit data).1, (logFrame_logEvent code unit data).2.mono (by simpa using hl)⟩
/-- Flags are set and an event is logged. -/
theorem OnlyRegs.eventFrame_logEvent (h : s.OnlyRegs t l) (code unit data : Nat) (hl : GLB_EVQ_LOST ∈ l) :
    s.EventFrame (t.logEvent code unit data) l :=
  h.eventFrame.trans (State.eventFrame_logEvent code unit data hl)

theorem reg_logEvent {a : Nat} (code unit data : Nat) (ha : a ≠ GLB_EVQ_LOST) : (s.logEvent code unit data).reg a = s.reg a :=
  (logFrame_logEvent code unit data).2 a (by simpa using ha)
theorem bitAt_logEvent {a : Nat} (i code unit data : Nat) (ha : a ≠ GLB_EVQ_LOST) :
    (s.logEvent code unit data).bitAt a i = s.bitAt a i := bitAt_congr (reg_logEvent code unit data ha)
/-- The event of a state whose event queue and GCC are those of `s` is the newest. -/
theorem logged_logEvent (code unit data : Nat) (he : t.evq = s.evq) (hn : t.tb = s.tb) : s.Logged (t.logEvent code unit data) code unit data :=
  Logged.congr (t.logEvent_recs code unit data) he hn
theorem OnlyRegs.logged (h : s.OnlyRegs t l) (code unit data : Nat) : s.Logged (t.logEvent code unit data) code unit data :=
  logged_logEvent code unit data (by rw [h.1]) (by rw [h.1])

namespace ContFrame
theorem trans (h : s.ContFrame t l) (h' : t.ContFrame u l) : s.ContFrame u l := by
  refine ⟨?_, h.2.trans h'.2⟩
  obtain ⟨e, -⟩ := h
  obtain ⟨e', -⟩ := h'
  rw [e']
  rw [e]
theorem mono (h : s.ContFrame t l) (hl : ∀ a ∈ l, a ∈ l') : s.ContFrame t l' := ⟨h.1, h.2.mono hl⟩
theorem ops (h : s.ContFrame t l) : t.ops = s.ops := by rw [h.1]
end ContFrame
theorem contFrame_cont (c : Cont) : s.ContFrame { s with cont := c } l := ⟨rfl, RegsKept.refl s l⟩

/-! The engines. -/

/-- The flags that a fenced engine sets. -/
theorem onlyRegs_fenceFlags (e : Nat) :
    s.OnlyRegs (((s.setBitAt MEM_CONT_STATUS e true).setBitAt MEM_CONT_STATUS 2 true).event MEM_EVENTS 2)
      [MEM_CONT_STATUS, MEM_EVENTS, GLB_EVQ_LOST] :=
  ((s.onlyRegs_setBitAt _ _ _ _ (by simp)).trans (onlyRegs_setBitAt _ _ _ _ _ (by simp))).trans (onlyRegs_event _ _ _ _ (by simp))
theorem eventFrame_fenceEngine (e : Nat) (w : Word) :
    s.EventFrame (s.fenceEngine e w) [MEM_CONT_STATUS, MEM_EVENTS, GLB_EVQ_LOST] :=
  (onlyRegs_fenceFlags e).eventFrame_logEvent _ _ _ (by simp)
theorem logged_fenceEngine (e : Nat) (w : Word) : s.Logged (s.fenceEngine e w) 0x0301 e w.toNat := (onlyRegs_fenceFlags e).logged _ _ _
theorem bits_fenceEngine {e : Nat} (he : e < 32) (w : Word) : (s.fenceEngine e w).bitAt MEM_CONT_STATUS e = true ∧
    (s.fenceEngine e w).bitAt MEM_CONT_STATUS 2 = true ∧ (s.fenceEngine e w).bitAt MEM_EVENTS 2 = true := by
  refine ⟨?_, ?_, ?_⟩ <;> refine (bitAt_logEvent _ _ _ _ (by decide)).trans ?_ <;> rw [bitAt_event _ _ _ _ _ (by decide)]
  · rw [bitAt_setBitAt _ _ _ _ _ _ (by decide), bitAt_setBitAt _ _ _ _ _ _ he]
    simp
  · rw [bitAt_setBitAt _ _ _ _ _ _ (by decide)]
    simp
  · simp

/-- What a hub fault sets before it is logged. -/
def hubFlagged (s : State) : State := (s.setBitAt MEM_CONT_STATUS 3 true).event MEM_EVENTS 3
/-- The instant from which the reset that follows a hub fault counts. -/
def setHubFaultAt (s : State) (g : Option Nat) : State := { s with cont := { s.cont with hubFaultAt := g } }
theorem onlyRegs_hubFlagged : s.OnlyRegs s.hubFlagged [MEM_CONT_STATUS, MEM_EVENTS, GLB_EVQ_LOST] :=
  (s.onlyRegs_setBitAt _ _ _ _ (by simp)).trans (onlyRegs_event _ _ _ _ (by simp))
theorem hubFault_spec : ∃ g, s.hubFault = (s.hubFlagged.logEvent 0x0303 0 s.inFlight).setHubFaultAt g := by
  have heq : s.hubFault = (s.hubFlagged.logEvent 0x0303 0 s.hubFlagged.inFlight).setHubFaultAt
      (if (s.hubFlagged.logEvent 0x0303 0 s.hubFlagged.inFlight).bitAt AON_CFG 1 then
        some (s.hubFlagged.logEvent 0x0303 0 s.hubFlagged.inFlight).now else none) := rfl
  rw [onlyRegs_hubFlagged.eventFrame.inFlight] at heq
  exact ⟨_, heq⟩
theorem bitAt_setHubFaultAt (a i : Nat) (g : Option Nat) : (s.setHubFaultAt g).bitAt a i = s.bitAt a i := rfl
theorem mismatch_setHubFaultAt (g : Option Nat) : (s.setHubFaultAt g).cont.mismatch = s.cont.mismatch := rfl
theorem logged_setHubFaultAt {g : Option Nat} {code unit data : Nat} (h : s.Logged t code unit data) :
    s.Logged (t.setHubFaultAt g) code unit data := h
theorem contFrame_hubFault : s.ContFrame s.hubFault [MEM_CONT_STATUS, MEM_EVENTS, GLB_EVQ_LOST] := by
  obtain ⟨g, h⟩ := hubFault_spec (s := s)
  rw [h]
  exact (onlyRegs_hubFlagged.eventFrame_logEvent _ _ _ (by simp)).contFrame.trans (contFrame_cont _)
theorem mismatch_hubFault : s.hubFault.cont.mismatch = s.cont.mismatch := by
  obtain ⟨g, h⟩ := hubFault_spec (s := s)
  rw [h, mismatch_setHubFaultAt, (onlyRegs_hubFlagged.eventFrame_logEvent 0x0303 0 s.inFlight (by simp)).cont]
theorem logged_hubFault : s.Logged s.hubFault 0x0303 0 s.inFlight := by
  obtain ⟨g, h⟩ := hubFault_spec (s := s)
  rw [h]
  exact logged_setHubFaultAt (onlyRegs_hubFlagged.logged 0x0303 0 s.inFlight)
theorem bits_hubFlagged : s.hubFlagged.bitAt MEM_CONT_STATUS 3 = true ∧ s.hubFlagged.bitAt MEM_EVENTS 3 = true := by
  constructor <;> rw [hubFlagged, bitAt_event _ _ _ _ _ (by decide)]
  · rw [bitAt_setBitAt _ _ _ _ _ _ (by decide)]
    simp
  · simp
theorem bits_hubFault : s.hubFault.bitAt MEM_CONT_STATUS 3 = true ∧ s.hubFault.bitAt MEM_EVENTS 3 = true := by
  obtain ⟨g, h⟩ := hubFault_spec (s := s)
  rw [h, bitAt_setHubFaultAt, bitAt_setHubFaultAt, bitAt_logEvent _ _ _ _ (by decide), bitAt_logEvent _ _ _ _ (by decide)]
  exact bits_hubFlagged

/-- Resyncs of the last second, the one that takes place now among them. -/
def resyncsNow (s : State) : List Nat := s.cont.resyncs.filter (fun g => decide (s.now < g + 800000000)) ++ [s.now]
/-- The resync is remembered. -/
def withResync (s : State) : State := { s with cont := { s.cont with resyncs := s.resyncsNow } }
/-- A resync that is counted and logged. -/
def resynced (s : State) : State := (s.withResync.incSat MEM_DE_RESYNC).logEvent 0x0302 0 s.resyncsNow.length
theorem resync_eq (w : Word) : s.resync w = if 3 ≤ s.resyncsNow.length then s.resynced.fenceEngine 1 w else s.resynced := rfl

/-- The registers that a conclusion of the self-checks may change. -/
def deRegs : List Nat := [MEM_CONT_STATUS, MEM_EVENTS, MEM_DE_RESYNC, GLB_EVQ_LOST]

theorem onlyRegs_countResync : s.withResync.OnlyRegs (s.withResync.incSat MEM_DE_RESYNC) [MEM_DE_RESYNC, GLB_EVQ_LOST] :=
  onlyRegs_incSat _ _ _ (by simp)
theorem contFrame_resynced : s.ContFrame s.resynced [MEM_DE_RESYNC, GLB_EVQ_LOST] :=
  (contFrame_cont (s := s) s.withResync.cont).trans (onlyRegs_countResync.eventFrame_logEvent _ _ _ (by simp)).contFrame
theorem mismatch_resynced : s.resynced.cont.mismatch = s.cont.mismatch := by
  have h := (onlyRegs_countResync (s := s)).eventFrame_logEvent 0x0302 0 s.resyncsNow.length (by simp)
  have he : s.resynced.cont.mismatch = s.withResync.cont.mismatch := congrArg Cont.mismatch h.cont
  exact he
theorem logged_resynced : s.Logged s.resynced 0x0302 0 s.resyncsNow.length :=
  (onlyRegs_countResync.logged _ _ _).congr rfl rfl
theorem reg_resynced : (s.resynced.reg MEM_DE_RESYNC).toNat = min ((s.reg MEM_DE_RESYNC).toNat + 1) (2 ^ 32 - 1) :=
  (congrArg BitVec.toNat (reg_logEvent _ _ _ (by decide))).trans (s.withResync.toNat_reg_incSat _)

theorem contFrame_resync (w : Word) : s.ContFrame (s.resync w) deRegs := by
  rw [resync_eq]
  have h : s.ContFrame s.resynced deRegs := contFrame_resynced.mono (by simp [deRegs])
  split
  · exact h.trans ((eventFrame_fenceEngine 1 w).contFrame.mono (by simp [deRegs]))
  · exact h
theorem mismatch_resync (w : Word) : (s.resync w).cont.mismatch = s.cont.mismatch := by
  rw [resync_eq]
  split
  · exact (congrArg Cont.mismatch (eventFrame_fenceEngine 1 w).cont).trans mismatch_resynced
  · exact mismatch_resynced
theorem reg_resync (w : Word) : ((s.resync w).reg MEM_DE_RESYNC).toNat = min ((s.reg MEM_DE_RESYNC).toNat + 1) (2 ^ 32 - 1) := by
  rw [resync_eq]
  split
  · exact (congrArg BitVec.toNat ((eventFrame_fenceEngine 1 w).2 _ (by decide))).trans reg_resynced
  · exact reg_resynced

/-! The commands. -/

/-- The verdict of the self-checks in lockstep (R113, R115). -/
def deVerdict (s : State) (w : Word) : Bool → Bool → State
  | true, false => s.fenceEngine 1 w
  | false, true => s.fenceEngine 0 w
  | true, true => s.resync w
  | false, false => s.hubFault
/-- The pause of dispatch is over. -/
def agreed (s : State) : State := { s with cont := { s.cont with mismatch := false } }

theorem lockstep_iff : s.lockstep = true ↔ s.bitAt MEM_CONT_STATUS 2 = false ∧ s.bitAt MEM_CONT_STATUS 3 = false := by
  simp [lockstep]
theorem exec_deMismatch : exec .deMismatch s =
    .next (if s.lockstep then { s with cont := { s.cont with mismatch := true } } else s) := rfl
theorem exec_deSelfCheckDone_lockstep (aOk bOk : Bool) (w : Word) (h : s.lockstep = true) :
    exec (.deSelfCheckDone aOk bOk w) s = .next (if s.cont.mismatch then s.agreed.deVerdict w aOk bOk else s) := by
  obtain ⟨h2, h3⟩ := lockstep_iff.mp h
  show execDeSelfCheckDone aOk bOk w s = _
  simp only [execDeSelfCheckDone, h2, h3]
  cases s.cont.mismatch
  · rfl
  · cases aOk <;> cases bOk <;> rfl
theorem exec_deSelfCheckDone_simplex {aOk bOk : Bool} (w : Word) (h2 : s.bitAt MEM_CONT_STATUS 2 = true) (h3 : s.bitAt MEM_CONT_STATUS 3 = false)
    (h : (s.bitAt MEM_CONT_STATUS 0 = false ∧ aOk = false) ∨ (s.bitAt MEM_CONT_STATUS 1 = false ∧ bOk = false)) :
    exec (.deSelfCheckDone aOk bOk w) s = .next s.agreed.hubFault := by
  have hfail : ((!s.bitAt MEM_CONT_STATUS 0 && !aOk) || (!s.bitAt MEM_CONT_STATUS 1 && !bOk)) = true := by
    rcases h with ⟨hd, hf⟩ | ⟨hd, hf⟩ <;> simp [hd, hf]
  show execDeSelfCheckDone aOk bOk w s = _
  simp only [execDeSelfCheckDone, h2, h3, hfail]
  rfl

theorem contFrame_deVerdict (w : Word) (aOk bOk : Bool) : s.ContFrame (s.deVerdict w aOk bOk) deRegs := by
  cases aOk <;> cases bOk
  case false.false => exact contFrame_hubFault.mono (by simp [deRegs])
  case true.true => exact contFrame_resync w
  all_goals exact (eventFrame_fenceEngine _ w).contFrame.mono (by simp [deRegs])
theorem mismatch_deVerdict (w : Word) (aOk bOk : Bool) : (s.deVerdict w aOk bOk).cont.mismatch = s.cont.mismatch := by
  cases aOk <;> cases bOk
  case false.false => exact mismatch_hubFault
  case true.true => exact mismatch_resync w
  all_goals exact congrArg Cont.mismatch (eventFrame_fenceEngine _ w).cont

/-- Two passes resume lockstep; the third within a second fences DE-B as well (R115). -/
theorem resync_counts (w : Word) :
    ((s.cont.resyncs.filter (fun g => decide (s.now < g + 800000000))).length < 2 →
      (s.resync w).fld MEM_CONT_STATUS 3 0 = s.fld MEM_CONT_STATUS 3 0 ∧
      s.Logged (s.resync w) 0x0302 0 ((s.cont.resyncs.filter (fun g => decide (s.now < g + 800000000))).length + 1)) ∧
    (2 ≤ (s.cont.resyncs.filter (fun g => decide (s.now < g + 800000000))).length →
      (s.resync w).bitAt MEM_CONT_STATUS 1 = true ∧ (s.resync w).bitAt MEM_CONT_STATUS 2 = true) := by
  have hlen : s.resyncsNow.length = (s.cont.resyncs.filter (fun g => decide (s.now < g + 800000000))).length + 1 := by
    simp [resyncsNow]
  rw [← hlen, resync_eq]
  refine ⟨fun h => ?_, fun h => ?_⟩
  · rw [if_neg (by omega)]
    exact ⟨fld_congr (contFrame_resynced.2 _ (by decide)), logged_resynced⟩
  · rw [if_pos (by omega)]
    obtain ⟨hfenced, hsimplex, -⟩ := bits_fenceEngine (s := s.resynced) (e := 1) (by decide) w
    exact ⟨hfenced, hsimplex⟩

end State
end Sys2Proof.Machine

open Sys2Proof Sys2Proof.Machine

/-- Settles O19: `State.deVerdict` is what the self-checks conclude in lockstep, `State.hubFault` what a failed check of a lone
engine is. -/
theorem dispatchEnginesDisagree : Obligations.DispatchEnginesDisagree := by
  unfold Obligations.DispatchEnginesDisagree
  intro s
  refine ⟨fun h => ?_, fun h => ?_, fun aOk bOk w h hm => ?_, fun aOk bOk w h hm => ?_, fun aOk bOk w h2 h3 h => ?_⟩
  · rw [State.exec_deMismatch, if_pos h]
  · rw [State.exec_deMismatch, if_neg (by simp [h])]
  · refine ⟨_, (State.exec_deSelfCheckDone_lockstep aOk bOk w h).trans (by rw [if_pos hm]), ?_, ?_, ?_, ?_, ?_, ?_⟩
    · exact State.mismatch_deVerdict w aOk bOk
    · rintro rfl rfl
      obtain ⟨hfenced, hsimplex, hevent⟩ := State.bits_fenceEngine (s := s.agreed) (e := 1) (by decide) w
      exact ⟨hfenced, hsimplex, hevent, State.logged_fenceEngine 1 w⟩
    · rintro rfl rfl
      obtain ⟨hfenced, hsimplex, hevent⟩ := State.bits_fenceEngine (s := s.agreed) (e := 0) (by decide) w
      exact ⟨hfenced, hsimplex, hevent, State.logged_fenceEngine 0 w⟩
    · rintro rfl rfl
      obtain ⟨hfault, hevent⟩ := State.bits_hubFault (s := s.agreed)
      exact ⟨hfault, hevent, State.logged_hubFault⟩
    · rintro rfl rfl
      exact ⟨State.reg_resync w, State.resync_counts (s := s.agreed) w⟩
    · exact (State.contFrame_cont _).trans (State.contFrame_deVerdict w aOk bOk)
  · rw [State.exec_deSelfCheckDone_lockstep aOk bOk w h, if_neg (by simp [hm])]
  · obtain ⟨hfault, hevent⟩ := State.bits_hubFault (s := s.agreed)
    exact ⟨_, State.exec_deSelfCheckDone_simplex w h2 h3 h, hfault, hevent, State.logged_hubFault, State.contFrame_hubFault.ops⟩
end

section
/-! A segment entry that lies over other registers (R119): the directory of a state may name a segment beyond the 16,384 of the
device, whose words are the words of another block, and a lost group that clears it clears those. -/

namespace Sys2Proof.Machine
namespace State
variable {s : State}

/-- A pseudo-channel is declared faulted (R117). -/
def declarePc (s : State) (pc : Nat) : State := (s.setBitAt MEM_PC_FAULT pc true).event MEM_EVENTS 0
/-- A group is marked lost, and that is logged (R119). -/
def markGroupLost (s : State) (g pc : Nat) : State :=
  ((s.setBitAt MEM_GROUP_LOST g true).setBitAt MEM_STATUS 3 true).logEvent 0x0306 g pc

theorem onlyRegs_declarePc (pc : Nat) : s.OnlyRegs (s.declarePc pc) [MEM_PC_FAULT, MEM_EVENTS] :=
  (s.onlyRegs_setBitAt _ _ _ _ (by simp)).trans (onlyRegs_event _ _ _ _ (by simp))
theorem eventFrame_markGroupLost (g pc : Nat) : s.EventFrame (s.markGroupLost g pc) [MEM_GROUP_LOST, MEM_STATUS, GLB_EVQ_LOST] :=
  ((s.onlyRegs_setBitAt _ _ _ _ (by simp)).trans (onlyRegs_setBitAt _ _ _ _ _ (by simp))).eventFrame_logEvent _ _ _ (by simp)
theorem regsKept_countEcc (pc c r : Nat) : s.RegsKept (s.countEcc pc c r) [MEM_ECC_CORR, MEM_ECC_RECON] :=
  ((s.onlyRegs_addSat _ _ _ (by simp)).trans (onlyRegs_addSat _ _ _ _ (by simp))).2
theorem segs_countEcc (pc c r : Nat) : (s.countEcc pc c r).segs = s.segs := rfl

/-- The second faulted pseudo-channel of a group loses the group (R117, R119). -/
theorem exec_pcFault_second {pc c r g : Nat} (hpc : pc < 32) (hg : pc / 8 = g) (hf : (s.countEcc pc c r).bitAt MEM_PC_FAULT pc = false)
    (h1 : (s.countEcc pc c r).pcFaults g = 1) : ∃ b, exec (.pcFault pc c r true) s =
      .next ((((s.countEcc pc c r).declarePc pc).loseGroup g pc).setBitAt MEM_STATUS 1 b) := by
  have hlow : ¬ 32 ≤ pc := by omega
  show ∃ b, execPcFault pc c r true s = _
  simp only [execPcFault, hlow, hf, h1, hg, if_false, if_true, Bool.true_or, Bool.or_self, Bool.not_true, Bool.false_eq_true, one_ne_zero]
  exact ⟨_, rfl⟩

/-- What a lost journal copy changes is neither a segment nor a register beside its own (R111). -/
theorem reg_loseJournal {copy a : Nat} (ha : a ≠ MEM_STATUS) (hl : a ≠ GLB_EVQ_LOST) : (s.loseJournal copy).reg a = s.reg a := by
  have h : ((s.setBitAt MEM_STATUS 2 true).logEvent 0x0307 copy (s.setBitAt MEM_STATUS 2 true).inFlight).reg a = s.reg a :=
    (reg_logEvent _ _ _ hl).trans (reg_setBitAt_ne s 2 true ha)
  unfold loseJournal
  extract_lets single u
  split
  · exact h
  · exact h
/-- A lost group clears the one segment that lies in it (R119). -/
theorem reg_loseGroup {g pc n a : Nat} (hs : s.segs.map Prod.fst = [n]) (hin : (s.markGroupLost g pc).segInGroup n g = true)
    (hload : (s.seg n).loader = none) (ha : a ≠ MEM_STATUS) (hl : a ≠ GLB_EVQ_LOST) :
    (s.loseGroup g pc).reg a = ((s.markGroupLost g pc).emptySeg n).reg a := by
  have hsegs : (s.markGroupLost g pc).segs = s.segs := (eventFrame_markGroupLost g pc).segs
  have hlose : (s.markGroupLost g pc).loseSeg n = (s.markGroupLost g pc).emptySeg n := by
    rw [loseSeg, seg, hsegs, ← seg, hload]
  show (((s.markGroupLost g pc).forEach (((s.markGroupLost g pc).segs.map Prod.fst).filter
    (fun n => (s.markGroupLost g pc).segInGroup n g)) loseSeg).forEach _ loseJournal).reg a = _
  rw [hsegs, hs, List.filter_cons_of_pos (by simpa using hin), List.filter_nil, forEach_cons, forEach_nil, hlose]
  exact forEach_same (fun u : State => u.reg a) _ _ (fun u _ _ => reg_loseJournal ha hl) _

/-- A segment number whose directory entry lies over the words of MEM_PF_GCC_LO, MEM_PF_GCC_HI, MEM_PF_CMD and MEM_EVENTS. -/
def straySeg : Nat := 0x2BF003
/-- Each parity group has one faulted pseudo-channel, and the directory holds the stray segment, which reads as in use. -/
def strayState : State :=
  { State.reset with regs := [(MEM_PC_FAULT, 0x01010101), (MEM_PF_GCC_LO, 2)]
                     segs := [(straySeg, { crc := 0, size := 1, dataLen := 0, loader := none, armedBy := [], playedBy := [] })] }
/-- The group of the byte that the stray segment holds once a pseudo-channel has been declared faulted. -/
def strayGroup : Nat := (Config.parityGroup (2 ^ 32)).toNat

theorem strayState_faults : ∀ g < 4, strayState.bitAt MEM_PC_FAULT (8 * g + 1) = false ∧ strayState.pcFaults g = 1 := by decide
theorem strayState_words : strayState.reg MEM_EVENTS = 0 ∧ strayState.reg MEM_PF_CMD = 0 ∧ strayState.reg MEM_PF_GCC_LO = 2 := by
  decide
theorem straySeg_words : SEG_D_INFO straySeg = MEM_PF_GCC_LO ∧ SEG_D_BASE_LO straySeg = MEM_PF_CMD ∧ SEG_D_BASE_HI straySeg = MEM_EVENTS := by
  decide
theorem reg_declarePc_events {pc : Nat} (h : s.reg MEM_EVENTS = 0) : (s.declarePc pc).reg MEM_EVENTS = 1 := by
  rw [declarePc, event, setBitAt, setFld, reg_setReg, if_pos rfl, reg_setBitAt_ne _ _ _ (by decide), h]
  decide
theorem reg_emptySeg_baseHi (n : Nat) : (s.emptySeg n).reg (SEG_D_BASE_HI n) = 0 := by
  unfold emptySeg
  generalize ((s.setReg (SEG_D_INFO n) 0).setReg (SEG_D_VCOUNT n) 0).setReg (SEG_D_BASE_LO n) 0 = u
  exact reg_setReg_same u _ 0
theorem pcFaults_congr {t : State} {g : Nat} (h : t.reg MEM_PC_FAULT = s.reg MEM_PC_FAULT) : t.pcFaults g = s.pcFaults g := by
  simp only [pcFaults, bitAt, h]
/-- The stray segment lies in its group when the group is lost. -/
theorem segInGroup_stray {pc : Nat} (he : s.reg MEM_EVENTS = 1) (hc : s.reg MEM_PF_CMD = 0) (hi : s.reg MEM_PF_GCC_LO = 2)
    (hs : (s.seg straySeg).size = 1) : (s.markGroupLost strayGroup pc).segInGroup straySeg strayGroup = true := by
  have hframe := eventFrame_markGroupLost (s := s) strayGroup pc
  obtain ⟨hinfo, hlo, hhi⟩ := straySeg_words
  generalize s.markGroupLost strayGroup pc = t at hframe
  have hseg : (t.seg straySeg).size = 1 := by rw [seg, hframe.segs, ← seg, hs]
  have hstate : t.segState straySeg = 2 := by
    rw [segState, hinfo, fld, hframe.2 _ (by decide), hi]
    decide
  have hbase : t.segBase straySeg = 2 ^ 32 := by
    rw [segBase, hlo, hhi, reg64, hframe.2 _ (by decide), hframe.2 _ (by decide), he, hc]
    decide
  simp [segInGroup, hseg, hstate, hbase, strayGroup]

end State
end Sys2Proof.Machine

open Sys2Proof Sys2Proof.Machine

/-- Refutes O20: the statement quantifies over every state, and the directory of a state may name a segment beyond the 16,384 of the
device. In `State.strayState` the words of such an entry are those of MEM_EVENTS and its neighbours, and the segment lies in the
group that a second faulted pseudo-channel loses: the segment becomes EMPTY, its words read 0, and the event of the declared
fault is gone. -/
theorem not_memoryFaultsAreRiddenThrough : ¬ Obligations.MemoryFaultsAreRiddenThrough := by
  unfold Obligations.MemoryFaultsAreRiddenThrough
  rintro ⟨-, hfault, -⟩
  have hgroup : State.strayGroup < 4 := (Config.parityGroup (2 ^ 32)).isLt
  obtain ⟨hhealthy, hone⟩ := State.strayState_faults _ hgroup
  obtain ⟨hevents, hcmd, hgcc⟩ := State.strayState_words
  generalize hpc : 8 * State.strayGroup + 1 = pc at hhealthy
  obtain ⟨-, -, -, -, -, hdeclared⟩ := hfault pc 0 0 true State.strayState (by omega)
  obtain ⟨t, ht, -, hevent, -⟩ := hdeclared hhealthy (.inl rfl)
  have hkept := State.regsKept_countEcc (s := State.strayState) pc 0 0
  obtain ⟨b, hexec⟩ := State.exec_pcFault_second (by omega) (by omega : pc / 8 = State.strayGroup)
    ((State.bitAt_congr (hkept _ (by decide))).trans hhealthy) ((State.pcFaults_congr (hkept _ (by decide))).trans hone)
  have hsegs := State.segs_countEcc (s := State.strayState) pc 0 0
  generalize State.strayState.countEcc pc 0 0 = u at hkept hexec hsegs
  have hdecl := State.onlyRegs_declarePc (s := u) pc
  have hevents' := State.reg_declarePc_events (pc := pc) ((hkept _ (by decide)).trans hevents)
  have hsegs' : (u.declarePc pc).segs = State.strayState.segs := by rw [hdecl.eventFrame.segs, hsegs]
  have hin := State.segInGroup_stray (pc := pc) hevents' ((hdecl.2 _ (by decide)).trans ((hkept _ (by decide)).trans hcmd))
    ((hdecl.2 _ (by decide)).trans ((hkept _ (by decide)).trans hgcc)) (by rw [State.seg, hsegs']; rfl)
  have hclear := State.reg_loseGroup (pc := pc) (a := MEM_EVENTS) (by rw [hsegs']; rfl) hin (by rw [State.seg, hsegs']; rfl) (by decide) (by decide)
  obtain rfl : _ = t := Host.Outcome.next.inj (hexec.symm.trans ht)
  rw [State.bitAt, State.reg_setBitAt_ne _ _ _ (by decide), hclear,
    ← State.straySeg_words.2.2, State.reg_emptySeg_baseHi] at hevent
  exact absurd hevent (by decide)
end

section
/-! Faulted units (R122, R140): what the fault of a unit changes where no operation needs it, and where one waits for it. -/

namespace Sys2Proof.Machine
namespace State
variable {w : Bool} {s t : State} {cls ix : Nat}

theorem HubKept.setCtl {d v} (h : s.HubKept w t) : s.HubKept w (t.setCtl d v) := h.other
theorem HubKept.refreshPg {d stays} (h : s.HubKept w t) : s.HubKept w (t.refreshPg d stays) := by
  have hset : s.HubKept w (t.setBitAt (DPS_STATUS d) 3 (t.pgNow d)) := h.setBitAt (not_hubReg_above (by simp only [DPS_STATUS]; omega))
  exact .ite (hset.event (not_hubReg_above (by simp only [DPS_EVENTS]; omega))) hset
theorem HubKept.dpsFault {d} (h : s.HubKept w t) : s.HubKept w (t.dpsFault d) :=
  (h.setFld (not_hubReg_above (by simp only [DPS_STATUS]; omega))).refreshPg.setCtl
theorem HubKept.enterFault (h : s.HubKept w t) : s.HubKept w (t.enterFault cls ix) := by
  have han : ¬ hubReg (AN_EVENTS ix) := not_hubReg_above (by simp only [AN_EVENTS]; omega)
  unfold State.enterFault
  split
  · exact (HubKept.ite h h.setAnState.setAna).event han
  · exact h.event han
  · exact h.dpsFault.event (not_hubReg_above (by simp only [DPS_EVENTS]; omega))
  · exact h
theorem HubKept.stopAuto (h : s.HubKept w t) : s.HubKept w (t.stopAuto cls ix) := .ite h.setCal h

theorem evq_refreshPg (d : Nat) (stays : Bool) : (s.refreshPg d stays).evq = s.evq := by
  unfold refreshPg
  extract_lets old new u
  have hu : u.evq = s.evq := setBitAt_evq ..
  split
  · rw [event_evq, hu]
  · exact hu
theorem evq_dpsFault (d : Nat) : (s.dpsFault d).evq = s.evq := by
  unfold dpsFault
  extract_lets
  rw [setCtl_evq, setDpsState, evq_refreshPg, setFld_evq]
theorem evq_enterFault : (s.enterFault cls ix).evq = s.evq := by
  unfold enterFault
  split
  · rw [event_evq]
    split
    · rfl
    · rw [setAna_evq, setAnState, setFld_evq]
  · rw [event_evq]
  · rw [event_evq, evq_dpsFault]
  · rfl

/-- The channels whose PPMU leaves with a unit. -/
def faultChans (cls ix : Nat) : List Nat := if cls = 1 then [ix] else if cls = 6 then (List.range 32).map (fun j => 32 * ix + j) else []
/-- A unit counts as faulted, and its PPMUs have left; the operations that need it have not been stopped yet. -/
def marked (s : State) (cls ix : Nat) : State :=
  { s.pmuLeaves (faultChans cls ix) with
    cont := { (s.pmuLeaves (faultChans cls ix)).cont with faulted := (s.pmuLeaves (faultChans cls ix)).cont.faulted ++ [(cls, ix)] } }
/-- The unit itself acts on its fault. -/
def unitActs (s : State) (cls ix : Nat) : State := (s.enterFault cls ix).stopAuto cls ix

theorem hubKept_marked : s.HubKept w (s.marked cls ix) := (HubKept.refl s).pmuLeaves.other
theorem evq_marked : (s.marked cls ix).evq = s.evq := evq_pmuLeaves _
theorem hubKept_unitActs : s.HubKept w (s.unitActs cls ix) := (HubKept.refl s).enterFault.stopAuto
theorem evq_unitActs : (s.unitActs cls ix).evq = s.evq := (evq_stopAuto cls ix).trans evq_enterFault

/-- A unit that no operation needs. -/
theorem faultUnit_unneeded (hf : s.isFaulted cls ix = false) (hn : s.needing cls ix = []) :
    s.faultUnit cls ix = ((s.marked cls ix).unitActs cls ix).logEvent 0x030B (4096 * (if cls = 8 then 3 else cls) + ix) 0 := by
  have hp : s.markFaulted cls ix = ((s.marked cls ix).unitActs cls ix, 0) := by
    unfold markFaulted
    rw [hn]
    rfl
  rw [faultUnit, hf, hp]
  rfl
/-- A unit that one operation waits for, which has no work yet. -/
theorem faultUnit_awaited {o : Op} (hf : s.isFaulted cls ix = false) (hn : s.needing cls ix = [o]) (ho : s.op? o.asn = some o)
    (hph : o.phase = .waiting) (hw : o.work = .nothing) : s.faultUnit cls ix =
      (((s.marked cls ix).endOp o.asn 6 0 0).unitActs cls ix).logEvent 0x030B (4096 * (if cls = 8 then 3 else cls) + ix) 1 := by
  have ho' : (s.marked cls ix).op? o.asn = some o := by rw [op?, (hubKept_marked (w := false)).ops, ← op?, ho]
  have hstop := stopOp_idle (status := 6) ho' hph hw
  obtain ⟨p, hp, ⟨-, -, -, -, -, hended, hstatus, -, -⟩, -⟩ := ended_endOpAt _ o.asn 6 0 (s.marked cls ix).now 0 o ho' (by simp [hph])
  have hcount : ((s.marked cls ix).endOp o.asn 6 0 0).faultEnds o.asn = true := by
    rw [faultEnds, show ((s.marked cls ix).endOp o.asn 6 0 0).op? o.asn = some p from hp]
    simp [hended, hstatus]
  have hm : s.markFaulted cls ix = (((s.marked cls ix).endOp o.asn 6 0 0).unitActs cls ix, 1) := by
    have hlets : s.markFaulted cls ix = (((s.marked cls ix).forEach (s.needing cls ix) (fun s o => s.stopOp o.asn 6)).unitActs cls ix,
        ((s.needing cls ix).filter (fun o => ((s.marked cls ix).forEach (s.needing cls ix) (fun s o => s.stopOp o.asn 6)).faultEnds o.asn)).length) := rfl
    rw [hlets, hn, forEach_cons, forEach_nil, hstop, List.filter_singleton, hcount]
    rfl
  rw [faultUnit, hf, hm]
  rfl

/-- A unit that no operation needs is marked and reported, and nothing of the hub changes. -/
theorem faultUnit_unneeded_spec (hf : s.isFaulted cls ix = false) (hn : s.needing cls ix = []) :
    s.Logged (s.faultUnit cls ix) 0x030B (4096 * (if cls = 8 then 3 else cls) + ix) 0 ∧ s.HubKept false (s.faultUnit cls ix) := by
  rw [faultUnit_unneeded hf hn]
  have hkept : s.HubKept false ((s.marked cls ix).unitActs cls ix) := hubKept_marked.trans hubKept_unitActs
  exact ⟨logged_logEvent _ _ _ (evq_unitActs.trans evq_marked) hkept.tb, hkept.logEvent⟩
theorem EndFrame.hub (h : s.EndFrame t) : t.store = s.store ∧ t.cfg = s.cfg ∧ t.sec = s.sec ∧ t.tb = s.tb ∧ t.evq = s.evq := by
  rw [h.1]
  exact ⟨rfl, rfl, rfl, rfl, rfl⟩
theorem Ended.congr {o : Op} {status reason gcc detail : Nat} (h : s.Ended o status reason gcc detail) (ht : t.ops = s.ops) :
    t.Ended o status reason gcc detail := by
  obtain ⟨p, hp, hended⟩ := h
  exact ⟨p, by rw [op?, ht]; exact hp, hended⟩
/-- An operation that waits for the unit completes, and nothing else of the hub changes. -/
theorem faultUnit_awaited_spec {o : Op} (hf : s.isFaulted cls ix = false) (hn : s.needing cls ix = [o]) (ho : s.op? o.asn = some o)
    (hph : o.phase = .waiting) (hw : o.work = .nothing) : (s.faultUnit cls ix).Ended o 6 0 s.now 0 ∧
      s.Logged (s.faultUnit cls ix) 0x030B (4096 * (if cls = 8 then 3 else cls) + ix) 1 ∧ (s.faultUnit cls ix).store = s.store ∧
      (s.faultUnit cls ix).cfg = s.cfg ∧ (s.faultUnit cls ix).sec = s.sec := by
  rw [faultUnit_awaited hf hn ho hph hw]
  have hm : s.HubKept false (s.marked cls ix) := hubKept_marked
  have hnow : (s.marked cls ix).now = s.now := congrArg Tb.gcc hm.tb
  have ho' : (s.marked cls ix).op? o.asn = some o := by rw [op?, hm.ops, ← op?, ho]
  have hended : ((s.marked cls ix).endOp o.asn 6 0 0).Ended o 6 0 s.now 0 := by
    rw [endOp, hnow]
    exact ended_endOpAt _ o.asn 6 0 s.now 0 o ho' (by simp [hph])
  obtain ⟨hstore, hcfg, hsec, htb, hevq⟩ := (endFrame_endOp (s.marked cls ix) o.asn 6 0 0).hub
  generalize (s.marked cls ix).endOp o.asn 6 0 0 = u at hended hstore hcfg hsec htb hevq
  have hact : u.HubKept false (u.unitActs cls ix) := hubKept_unitActs
  have hkept : u.HubKept false ((u.unitActs cls ix).logEvent 0x030B (4096 * (if cls = 8 then 3 else cls) + ix) 1) := hact.logEvent
  exact ⟨hended.congr hkept.ops,
    logged_logEvent _ _ _ (evq_unitActs.trans (hevq.trans evq_marked)) (hact.tb.trans (htb.trans hm.tb)),
    (hkept.store rfl).trans (hstore.trans (hm.store rfl)), hkept.cfg.trans (hcfg.trans hm.cfg), hkept.sec.trans (hsec.trans hm.sec)⟩

/-! Lane groups (R385). -/

/-- Whether an operation holds a lane group depends on the set and on the loaded images only. -/
theorem lane_mem_resources {o : Op} {g : Nat} (hc : t.cfg = s.cfg) (hm : t.msqs = s.msqs) :
    Res.lane g ∈ t.resources o ↔ Res.lane g ∈ s.resources o := by
  have hentry : t.callEntry o = s.callEntry o := by rw [callEntry, callEntry, msq, msq, hm]
  unfold resources
  rw [hc, hentry]
  split
  · rfl
  · split
    case h_3 => simp
    all_goals rfl
theorem lane_mem_unitsOf {o : Op} {g : Nat} : (4, g) ∈ s.unitsOf o ↔ Res.lane g ∈ s.resources o := by
  unfold unitsOf
  simp only [List.mem_append, List.mem_filterMap, List.mem_map]
  constructor
  · rintro ((⟨r, hr, he⟩ | ⟨c, -, he⟩) | ⟨i, -, he⟩)
    · split at he <;> simp at he
      rwa [← he]
    · simp at he
    · split at he <;> simp at he
  · exact fun h => .inl (.inl ⟨_, h, rfl⟩)
theorem needing_lane {g : Nat} (ho : t.ops = s.ops) (hc : t.cfg = s.cfg) (hm : t.msqs = s.msqs) : t.needing 4 g = s.needing 4 g := by
  rw [needing, needing, ho]
  refine List.filter_congr fun o _ => ?_
  rw [Bool.eq_iff_iff]
  simp only [Bool.and_eq_true, List.contains_iff_mem, lane_mem_unitsOf, lane_mem_resources hc hm]
/-- A lane group has no PPMU, no state of its own and no calibration. -/
theorem faultUnit_lane {g : Nat} (hf : s.isFaulted 4 g = false) (hn : s.needing 4 g = []) :
    s.faultUnit 4 g = (s.marked 4 g).logEvent 0x030B (4096 * 4 + g) 0 := faultUnit_unneeded hf hn

theorem reg_marked (cls ix a : Nat) : (s.marked cls ix).reg a = (s.pmuLeaves (faultChans cls ix)).reg a := by
  unfold marked
  generalize s.pmuLeaves (faultChans cls ix) = u
  rfl
theorem pmuLeaves_nil : s.pmuLeaves [] = s := rfl
theorem reg_marked_lane (g a : Nat) : (s.marked 4 g).reg a = s.reg a := by
  have hnone : faultChans 4 g = [] := rfl
  rw [reg_marked, hnone, pmuLeaves_nil]

/-! Controllers (R390). -/

theorem dpsState_refreshPg (d e : Nat) (stays : Bool) : (s.refreshPg d stays).dpsState e = s.dpsState e := by
  have hpgood (b : Bool) : (s.setBitAt (DPS_STATUS d) 3 b).dpsState e = s.dpsState e :=
    fld_setBitAt _ _ _ _ _ _ _ (by decide) (.inr (.inl (by decide)))
  unfold refreshPg
  extract_lets old new u
  split
  · exact (fld_setBitAt _ _ _ _ _ _ _ (by decide) (.inl (by simp only [DPS_STATUS, DPS_EVENTS]; omega))).trans (hpgood new)
  · exact hpgood new
theorem dpsState_setDpsState (d e v : Nat) (hv : v < 8) : (s.setDpsState d v).dpsState e = if e = d then v else s.dpsState e := by
  rw [setDpsState, dpsState_refreshPg, dpsState]
  split
  · next h => rw [h, fld_setFld_same _ _ _ _ _ (by decide) (by decide)]; exact Nat.mod_eq_of_lt hv
  · next h => exact fld_setFld_ne _ _ _ _ _ _ _ _ (by decide) (by decide) (.inl (by simp only [DPS_STATUS]; omega))
theorem dpsState_setCtl (d e : Nat) (v : Dps) : (s.setCtl d v).dpsState e = s.dpsState e := rfl
theorem dpsState_dpsFault (d : Nat) : (s.dpsFault d).dpsState d = 5 := by
  unfold dpsFault
  extract_lets
  rw [dpsState_setCtl, dpsState_setDpsState _ _ _ (by decide), if_pos rfl]
theorem ctl_dpsFault (d : Nat) : ((s.dpsFault d).ctl d).weir = false := by
  unfold dpsFault
  extract_lets
  rw [ctl_setCtl, if_pos rfl]
theorem stopAuto_parts : (s.stopAuto cls ix).regs = s.regs ∧ (s.stopAuto cls ix).dpss = s.dpss := by
  unfold stopAuto
  extract_lets
  split <;> exact ⟨rfl, rfl⟩
/-- The controller of a fault is FAULTED with its weir off, and its event is set. -/
theorem unitActs_dps (d : Nat) : (s.unitActs 5 d).dpsState d = 5 ∧ ((s.unitActs 5 d).ctl d).weir = false ∧
    (s.unitActs 5 d).bitAt (DPS_EVENTS d) 4 = true := by
  have henter : s.enterFault 5 d = (s.dpsFault d).event (DPS_EVENTS d) 4 := rfl
  obtain ⟨hregs, hdpss⟩ := stopAuto_parts (s := s.enterFault 5 d) (cls := 5) (ix := d)
  have hreg (a : Nat) : (s.unitActs 5 d).reg a = ((s.dpsFault d).event (DPS_EVENTS d) 4).reg a := by
    rw [unitActs, reg, hregs, henter, reg]
  refine ⟨(fld_congr (hreg _)).trans ?_, ?_, (bitAt_congr (hreg _)).trans ?_⟩
  · exact (fld_setBitAt _ _ _ _ _ _ _ (by decide) (.inl (by simp only [DPS_STATUS, DPS_EVENTS]; omega))).trans (dpsState_dpsFault d)
  · rw [unitActs, ctl, hdpss, henter, event_dpss, ← ctl, ctl_dpsFault]
  · rw [bitAt_event _ _ _ _ _ (by decide)]
    simp

/-! The commands. -/

/-- The PLL of a lane group has not locked: its event is set, and it locks no longer (R385). -/
def pllFailed (s : State) (g : Nat) : State :=
  ({ s with relocks := s.relocks.filter (fun x => x.1 != g) } : State).event (LG_EVENTS g) 2
theorem exec_lanePllTimeout {g c n : Nat} (hr : s.relocks.find? (fun x => x.1 == g) = some (g, c)) (hn : c + 800000 = n)
    (hc : s.counting = true) (hle : s.now ≤ n) :
    exec (.lanePllTimeout g) s = .next (if s.isFaulted 4 g then s.advanceTo n else ((s.advanceTo n).pllFailed g).faultUnit 4 g) := by
  have hadv := advanceTo_counting hc hle
  have hnow : ¬ (s.advanceTo n).now < n := by rw [hadv]; exact lt_irrefl _
  have hfault : (s.advanceTo n).isFaulted 4 g = s.isFaulted 4 g := by rw [hadv]; rfl
  subst hn
  show execLanePllTimeout g s = _
  simp only [execLanePllTimeout, hr, hnow, false_or, hfault]
  cases s.isFaulted 4 g <;> rfl
theorem pllFailed_parts (g : Nat) : (s.pllFailed g).ops = s.ops ∧ (s.pllFailed g).cfg = s.cfg ∧ (s.pllFailed g).msqs = s.msqs ∧
    (s.pllFailed g).store = s.store ∧ (s.pllFailed g).tb = s.tb ∧ (s.pllFailed g).evq = s.evq ∧ (s.pllFailed g).cont = s.cont := by
  rw [pllFailed, (onlyRegs_event _ (LG_EVENTS g) 2 [LG_EVENTS g] (by simp)).1]
  exact ⟨rfl, rfl, rfl, rfl, rfl, rfl, rfl⟩

/-- A lane group that no operation needs is faulted after its rate change (R122, R385). -/
theorem pllFailed_faultUnit {g : Nat} (hf : s.isFaulted 4 g = false) (hn : s.needing 4 g = []) :
    ((s.pllFailed g).faultUnit 4 g).now = s.now ∧ ((s.pllFailed g).faultUnit 4 g).isFaulted 4 g = true ∧
    ((s.pllFailed g).faultUnit 4 g).bitAt (LG_EVENTS g) 2 = true ∧ s.Logged ((s.pllFailed g).faultUnit 4 g) 0x030B (4096 * 4 + g) 0 ∧
    ((s.pllFailed g).faultUnit 4 g).ops = s.ops ∧ ((s.pllFailed g).faultUnit 4 g).store = s.store := by
  obtain ⟨hops, hcfg, hmsqs, hstore, htb, hevq, hcont⟩ := s.pllFailed_parts g
  have hevent : (s.pllFailed g).bitAt (LG_EVENTS g) 2 = true := by
    rw [pllFailed, bitAt_event _ _ _ _ _ (by decide)]
    simp
  have hf' : (s.pllFailed g).isFaulted 4 g = false := by rw [isFaulted, hcont, ← isFaulted, hf]
  have hn' : (s.pllFailed g).needing 4 g = [] := (needing_lane hops hcfg hmsqs).trans hn
  generalize s.pllFailed g = u at *
  obtain ⟨hlog, hkept⟩ := faultUnit_unneeded_spec hf' hn'
  refine ⟨congrArg Tb.gcc (hkept.tb.trans htb), isFaulted_faultUnit 4 g, ?_, hlog.congr hevq htb, hkept.ops.trans hops,
    (hkept.store rfl).trans hstore⟩
  rw [faultUnit_lane hf' hn', bitAt_logEvent _ _ _ _ (by simp only [LG_EVENTS, GLB_EVQ_LOST]; omega)]
  exact (bitAt_congr (reg_marked_lane g _)).trans hevent

end State
end Sys2Proof.Machine

open Sys2Proof Sys2Proof.Machine

/-- Settles O21: `State.faultUnit_unneeded_spec` and `State.faultUnit_awaited_spec` say what a fault changes; a lane group and a
controller are units of their own classes. -/
theorem faultedUnitsStopWhatNeedsThem : Obligations.FaultedUnitsStopWhatNeedsThem := by
  unfold Obligations.FaultedUnitsStopWhatNeedsThem
  refine ⟨fun cls ix s h => ?_, fun cls ix s hf hn => ?_, fun cls ix s o hf hn ho hph hw => ?_, fun g s h => ?_,
    fun g c s _ hr hc hle => ⟨fun hf => ?_, fun hf hn => ?_⟩, fun d s _ hf hn => ?_⟩
  · exact congrArg Host.Outcome.next (if_pos h)
  · obtain ⟨hlog, hkept⟩ := State.faultUnit_unneeded_spec hf hn
    exact ⟨_, rfl, State.isFaulted_faultUnit cls ix, hlog, hkept.ops, hkept.store rfl, hkept.cfg, hkept.sec, hkept.tb⟩
  · exact ⟨_, rfl, State.isFaulted_faultUnit cls ix, State.faultUnit_awaited_spec hf hn ho hph hw⟩
  · have hnone : s.relocks.find? (fun x => x.1 == g) = none := List.find?_eq_none.mpr fun x hx => by simpa using h x hx
    show execLanePllTimeout g s = _
    rw [execLanePllTimeout, hnone]
  · rw [State.exec_lanePllTimeout hr rfl hc hle, if_pos hf]
  · have hadv := State.advanceTo_counting hc hle
    have hexec := State.exec_lanePllTimeout hr rfl hc hle
    generalize c + 800000 = n at *
    rw [hf, if_neg (by simp)] at hexec
    have hnow : (s.advanceTo n).now = n := by rw [hadv]; rfl
    have hf' : (s.advanceTo n).isFaulted 4 g = false := by rw [hadv]; exact hf
    have hn' : (s.advanceTo n).needing 4 g = [] := (State.needing_lane (by rw [hadv]) (by rw [hadv]) (by rw [hadv])).trans hn
    have hparts : (s.advanceTo n).ops = s.ops ∧ (s.advanceTo n).store = s.store := by rw [hadv]; exact ⟨rfl, rfl⟩
    obtain ⟨hnow', hfaulted, hevent, hlog, hops, hstore⟩ := State.pllFailed_faultUnit hf' hn'
    exact ⟨_, hexec, hnow'.trans hnow, hfaulted, hevent, hlog, hops.trans hparts.1, hstore.trans hparts.2⟩
  · obtain ⟨hlog, hkept⟩ := State.faultUnit_unneeded_spec hf hn
    obtain ⟨hstate, hweir, hevent⟩ := State.unitActs_dps (s := s.marked 5 d) d
    have hne (o : Nat) : 0x03200000 + d * 0x400 + o ≠ GLB_EVQ_LOST := by simp only [GLB_EVQ_LOST]; omega
    refine ⟨_, rfl, State.isFaulted_faultUnit 5 d, ?_, ?_, ?_, hlog, hkept.ops, hkept.store rfl⟩ <;>
      rw [State.faultUnit_unneeded hf hn]
    · exact (State.fld_congr (State.reg_logEvent _ _ _ (hne 0))).trans hstate
    · rw [State.ctl, (State.eventFrame_logEvent (l := [GLB_EVQ_LOST]) _ _ _ (by simp)).1]
      exact hweir
    · exact (State.bitAt_logEvent _ _ _ _ (hne 0x44)).trans hevent
end

section
/-! What the end of all work leaves alone (R123, R129, R528): where a reset or a power failure stops the runs, marks the loads and
puts the units away, the operations keep their outcome and their place, the records that are held stay, and so do the records of
the power failures, the keys in force, the test port and what the always-on block shows. The lemmas go through the steps in the
order of the model's files. -/

namespace Sys2Proof.Machine

/-- An operation without its progress. -/
def Op.core (o : Op) : Op := { o with work := .nothing, lastGcc := 0, progress := 0 }
/-- The keys and floors in force stay where none of them is being written (R40, R551). -/
def Sec.InForce (x y : Sec) : Prop := x.writing = none → x.floorWrite = none →
  y.writing = none ∧ y.floorWrite = none ∧ y.keys = x.keys ∧ y.kseq = x.kseq ∧ y.cfgFloor = x.cfgFloor ∧ y.csFloor = x.csFloor

/-- A register that the end of work may write; with `late` no register of a controller. -/
def haltReg (late : Bool) (a : Nat) : Prop :=
  (a < 0x40000 ∨ 0x50000 ≤ a ∧ a < 0x80000 ∨ 0xA0000 ≤ a) ∧ (late = true → a < 0x3200000 ∨ 0x3210000 ≤ a)

/-- What the end of all work keeps, as a relation of the state before and after. Until the controllers discharge nothing is
logged (`late = false`); from then on they keep their state (`late = true`). -/
structure State.HaltKept (late : Bool) (s t : State) : Prop where
  ops : t.ops.map Op.core = s.ops.map Op.core
  heldRecs : t.heldRecs = s.heldRecs
  kept : t.kept = s.kept
  evq : late = false → t.evq = s.evq
  active : t.cfg.active = s.cfg.active
  sec : s.sec.InForce t.sec
  slots : t.cont.slots = s.cont.slots
  order : t.cont.pfOrder = s.cont.pfOrder
  jtag : t.jtag = s.jtag
  life : t.lifetime 4 = s.lifetime 4
  wake : t.bitAt WKE_STATUS 3 = s.bitAt WKE_STATUS 3
  regs : ∀ a, a = AON_PWR_STATUS ∨ (late = true ∧ 0x3200000 ≤ a ∧ a < 0x3210000) → t.reg a = s.reg a

theorem haltReg_low {late : Bool} {a : Nat} (h : a < 0x40000) : haltReg late a := ⟨.inl h, fun _ => .inl (by omega)⟩
theorem haltReg_svc {late : Bool} {a : Nat} (h : 0x50000 ≤ a ∧ a < 0x80000) : haltReg late a := ⟨.inr (.inl h), fun _ => .inl (by omega)⟩
theorem haltReg_units {late : Bool} {a : Nat} (h : 0xA0000 ≤ a ∧ a < 0x3200000) : haltReg late a :=
  ⟨.inr (.inr h.1), fun _ => .inl h.2⟩
theorem haltReg_ports {late : Bool} {a : Nat} (h : 0x3210000 ≤ a) : haltReg late a := ⟨.inr (.inr (by omega)), fun _ => .inr h⟩
theorem haltReg_early {a : Nat} (h : 0xA0000 ≤ a) : haltReg false a := ⟨.inr (.inr h), nofun⟩
theorem haltReg_block {b o n : Nat} (h : 0xA0000 ≤ b := by omega) : haltReg false (b + o + n) := haltReg_early (by omega)
theorem haltReg_cl {k o : Nat} : haltReg false (clBase k + o) := haltReg_early (by unfold clBase; omega)
theorem haltReg_chan {c o : Nat} : haltReg false (chBase c + o) := haltReg_early (by unfold chBase clBase; omega)
theorem haltReg_msq {m o : Nat} : haltReg false (msqBase m + o) := haltReg_early (by unfold msqBase; split <;> omega)

namespace State
variable {late : Bool} {s t u : State}

theorem HaltKept.refl (s : State) : s.HaltKept late s :=
  ⟨rfl, rfl, rfl, fun _ => rfl, rfl, fun hw hf => ⟨hw, hf, rfl, rfl, rfl, rfl⟩, rfl, rfl, rfl, rfl, rfl, fun _ _ => rfl⟩
theorem inForce_trans {x y z : Sec} (h : x.InForce y) (h' : y.InForce z) : x.InForce z := fun hw hf => by
  obtain ⟨hw1, hf1, hk, hq, hc, hs⟩ := h hw hf
  obtain ⟨hw2, hf2, hk', hq', hc', hs'⟩ := h' hw1 hf1
  exact ⟨hw2, hf2, hk'.trans hk, hq'.trans hq, hc'.trans hc, hs'.trans hs⟩
theorem HaltKept.trans (h : s.HaltKept late t) (h' : t.HaltKept late u) : s.HaltKept late u where
  ops := h'.ops.trans h.ops
  heldRecs := h'.heldRecs.trans h.heldRecs
  kept := h'.kept.trans h.kept
  evq := fun he => (h'.evq he).trans (h.evq he)
  active := h'.active.trans h.active
  sec := inForce_trans h.sec h'.sec
  slots := h'.slots.trans h.slots
  order := h'.order.trans h.order
  jtag := h'.jtag.trans h.jtag
  life := h'.life.trans h.life
  wake := h'.wake.trans h.wake
  regs := fun a ha => (h'.regs a ha).trans (h.regs a ha)

/-- An update of other parts of the state. -/
theorem HaltKept.other {live store poison hold rdata flagged tb served chans clus fnts segs trg basinGaps anas relocks dpss gov msqs
    cals mnt ports net svc free pending} (h : s.HaltKept late t) :
    s.HaltKept late ⟨t.regs, live, store, poison, hold, rdata, flagged, tb, t.cfg, t.ops, t.kept, t.heldRecs, served, chans,
    clus, fnts, segs, trg, basinGaps, anas, relocks, dpss, gov, msqs, cals, mnt, ports, net, t.cont, t.aon, t.sec, svc, t.jtag,
    t.evq, free, pending⟩ :=
  h.trans ⟨rfl, rfl, rfl, fun _ => rfl, rfl, fun hw hf => ⟨hw, hf, rfl, rfl, rfl, rfl⟩, rfl, rfl, rfl, rfl, rfl, fun _ _ => rfl⟩
theorem HaltKept.ite {c : Prop} {_ : Decidable c} (ht : s.HaltKept late t) (hu : s.HaltKept late u) :
    s.HaltKept late (if c then t else u) := by split <;> assumption
theorem HaltKept.forEach {α : Type} {l : List α} {f : State → α → State} (h : s.HaltKept late t)
    (hf : ∀ u, ∀ x ∈ l, s.HaltKept late u → s.HaltKept late (f u x)) : s.HaltKept late (t.forEach l f) :=
  State.forEach_keeps _ l f hf t h

theorem HaltKept.setReg {a : Nat} {v : Word} (h : s.HaltKept late t) (ha : haltReg late a) : s.HaltKept late (t.setReg a v) := by
  have hwake : WKE_STATUS ≠ a := by rintro rfl; exact absurd ha.1 (by decide)
  have hregs (b : Nat) (hb : b = AON_PWR_STATUS ∨ (late = true ∧ 0x3200000 ≤ b ∧ b < 0x3210000)) : b ≠ a := by
    rintro rfl
    rcases hb with rfl | ⟨hl, hb⟩
    · exact absurd ha.1 (by decide)
    · have := ha.2 hl
      omega
  exact h.trans ⟨rfl, rfl, rfl, fun _ => rfl, rfl, fun hw hf => ⟨hw, hf, rfl, rfl, rfl, rfl⟩, rfl, rfl, rfl, rfl,
    bitAt_congr (t.reg_setReg_ne v hwake), fun b hb => t.reg_setReg_ne v (hregs b hb)⟩
theorem HaltKept.setFld {a hi lo v : Nat} (h : s.HaltKept late t) (ha : haltReg late a) : s.HaltKept late (t.setFld a hi lo v) := h.setReg ha
theorem HaltKept.setBitAt {a i : Nat} {b : Bool} (h : s.HaltKept late t) (ha : haltReg late a) : s.HaltKept late (t.setBitAt a i b) := h.setReg ha
theorem HaltKept.event {a i : Nat} (h : s.HaltKept late t) (ha : haltReg late a) : s.HaltKept late (t.event a i) := h.setReg ha
theorem HaltKept.addSat {a n : Nat} (h : s.HaltKept late t) (ha : haltReg late a) : s.HaltKept late (t.addSat a n) := h.setReg ha
theorem HaltKept.setReg64 {lo hi v : Nat} (h : s.HaltKept late t) (hlo : haltReg late lo) (hhi : haltReg late hi) :
    s.HaltKept late (t.setReg64 lo hi v) := (h.setReg hlo).setReg hhi
theorem HaltKept.ltAdd {i n : Nat} (h : s.HaltKept late t) (hi : i ≠ 4) : s.HaltKept late (t.ltAdd i n) :=
  h.trans ⟨rfl, rfl, rfl, fun _ => rfl, rfl, fun hw hf => ⟨hw, hf, rfl, rfl, rfl, rfl⟩, rfl, rfl, rfl,
    (lifetime_ltAdd t i n 4).trans (if_neg (Ne.symm hi)), rfl, fun _ _ => rfl⟩
/-- Changes of the operations that leave all but their progress. -/
theorem HaltKept.mapOps {f : Op → Op} (h : s.HaltKept late t) (hf : ∀ o, (f o).core = o.core) :
    s.HaltKept late { t with ops := t.ops.map f } :=
  h.trans ⟨by simp [hf], rfl, rfl, fun _ => rfl, rfl, fun hw hf => ⟨hw, hf, rfl, rfl, rfl, rfl⟩, rfl, rfl, rfl, rfl, rfl, fun _ _ => rfl⟩
theorem HaltKept.modOp {a f} (h : s.HaltKept late t) (hf : ∀ o : Op, (f o).core = o.core) : s.HaltKept late (t.modOp a f) :=
  h.mapOps fun o => by split; exacts [hf o, rfl]
theorem HaltKept.setRun {a w} (h : s.HaltKept late t) : s.HaltKept late (t.setRun a w) := h.modOp fun _ => rfl
theorem HaltKept.setProgress {a n} (h : s.HaltKept late t) : s.HaltKept late (t.setProgress a n) := h.modOp fun _ => rfl
theorem HaltKept.writeBytes {a bs} (h : s.HaltKept late t) : s.HaltKept late (t.writeBytes a bs) := by
  rw [State.writeBytes_eq]
  exact h.other

end State
end Sys2Proof.Machine
end

section
/-! The stop of the runs and the marks of the loads (R109, R252, R528 step 2, R129 step 2). -/

namespace Sys2Proof.Machine.State
variable {late : Bool} {s t : State}

/-! Trigger lines (R310 to R313). -/

theorem HaltKept.addFire {l due system} (h : s.HaltKept late t) : s.HaltKept late (t.addFire l due system) :=
  .ite h.other (HaltKept.other ((h.addSat (haltReg_low (by decide))).event (haltReg_low (by decide))))
theorem HaltKept.enqueue {p vc fs} (h : s.HaltKept late t) : s.HaltKept late (t.enqueue p vc fs) := .ite h.other h.other
theorem HaltKept.broadcast {op arg addr} (h : s.HaltKept late t) : s.HaltKept late (t.broadcast op arg addr) :=
  .other (h.forEach fun _ _ _ h1 => h1.enqueue)
theorem HaltKept.source {kind unit arg t'} (h : s.HaltKept late t) : s.HaltKept late (t.source kind unit arg t') := by
  unfold State.source
  split
  · exact h
  · refine h.forEach fun _ _ _ h1 => ?_
    unfold State.lineEvent
    split
    · exact h1.addFire
    · exact (HaltKept.ite h1.broadcast h1).addFire
    · exact h1

/-! Segments, pins and fountains of a run (R194, R226, R242, R281). -/

theorem HaltKept.setSegState {n v} (h : s.HaltKept false t) : s.HaltKept false (t.setSegState n v) := h.setFld haltReg_block
theorem HaltKept.drainSeg {n a} (h : s.HaltKept false t) : s.HaltKept false (t.drainSeg n a) :=
  .ite h (.ite h.other (.ite h.other.setSegState h.other.setSegState))
theorem HaltKept.unarmSeg {n a} (h : s.HaltKept false t) : s.HaltKept false (t.unarmSeg n a) := by
  unfold State.unarmSeg
  extract_lets
  split
  · exact h
  · exact .ite h.other.setSegState h.other
theorem HaltKept.drainAhead {a} (h : s.HaltKept false t) : s.HaltKept false (t.drainAhead a) := by
  unfold State.drainAhead
  split
  · exact h
  · split
    · exact .ite h.drainSeg h
    · exact h
theorem HaltKept.collide {k j n} (h : s.HaltKept false t) : s.HaltKept false (t.collide k j n) :=
  .ite h ((h.addSat haltReg_cl).setReg haltReg_cl)
theorem HaltKept.holdCluster {g w k cut} (h : s.HaltKept false t) : s.HaltKept false (t.holdCluster g w k cut) :=
  .ite h (.other (h.forEach fun _ _ _ h1 => .ite (HaltKept.collide h1.other) h1))
theorem HaltKept.holdEnded {a} (h : s.HaltKept false t) : s.HaltKept false (t.holdEnded a) := by
  unfold State.holdEnded
  split
  · split
    · exact h.forEach fun _ _ _ h1 => h1.holdCluster
    · exact h
  · exact h
theorem HaltKept.putFountain {n r} (h : s.HaltKept false t) : s.HaltKept false (t.putFountain n r) := by
  unfold State.putFountain
  extract_lets _ u1 u2 u3 u4 u5 u6
  have h1 : s.HaltKept false u1 := HaltKept.setFld h.other haltReg_block
  have h2 : s.HaltKept false u2 := h1.forEach fun _ _ _ h2 => h2.setReg haltReg_block
  have h3 : s.HaltKept false u3 := (h2.setFld haltReg_block).setBitAt haltReg_block
  have h4 : s.HaltKept false u4 := .ite h3 ((h3.addSat haltReg_block).event haltReg_block)
  have h5 : s.HaltKept false u5 := .ite h4 ((h4.addSat haltReg_block).event haltReg_block)
  have h6 : s.HaltKept false u6 := .ite ((h5.setBitAt haltReg_block).event haltReg_block) h5
  exact .ite ((h6.setFld haltReg_block).event haltReg_block) h6
theorem HaltKept.fountainAhead {f limit n} (h : s.HaltKept false t) : s.HaltKept false (t.fountainAhead f limit n) := by
  induction n generalizing t with
  | zero => exact h
  | succ n ih => exact .ite (ih (.ite h.putFountain h)) h
theorem HaltKept.runAhead {f} (h : s.HaltKept false t) : s.HaltKept false (t.runAhead f) := .ite (HaltKept.fountainAhead h.other) h

/-! Vectors and the stop point (R162 to R170, R252). -/

theorem HaltKept.playPin {k j n t' start sym} (h : s.HaltKept false t) : s.HaltKept false (t.playPin k j n t' start sym) := by
  unfold State.playPin
  have h1 {c ch p} : s.HaltKept false ((t.setChan c ch).collide k j p) := HaltKept.collide h.other
  have h2 {c ch p} : s.HaltKept false ((((t.setChan c ch).collide k j p).orReg (LV_BAND_VIOL_PINS k) (2 ^ j)).event (CH_EVENTS c) 3) :=
    (h1.setReg haltReg_cl).event haltReg_chan
  exact .ite ((HaltKept.addSat (.ite h2 h1) haltReg_chan).event haltReg_chan) (.ite h2 h1)
theorem HaltKept.leadVector {a w n start} (h : s.HaltKept false t) : s.HaltKept false (t.leadVector a w n start) := by
  unfold State.leadVector
  have h1 : s.HaltKept false ((t.ltAdd 7 1).setRun a { w with vectors := n + 1, vaddr := some (vecAddr w n) }) :=
    (h.ltAdd (by decide)).setRun
  refine (h1.forEach fun _ _ _ h2 => (h2.setReg64 haltReg_block haltReg_block).setReg64 haltReg_block haltReg_block).forEach
    fun u f _ h2 => ?_
  split
  · exact h2
  · next c _ =>
    have h3 : s.HaltKept false (((((u.setReg64 (FNT_CYCLES_LO f) (FNT_CYCLES_HI f) (n + 1)).setReg (FNT_X f) (BitVec.ofNat 32 c.x)).setReg
        (FNT_Y f) (BitVec.ofNat 32 c.y)).setReg (FNT_Z f) (BitVec.ofNat 32 c.z)).setFld (FNT_STATUS f) 31 22 c.instr) :=
      ((((h2.setReg64 haltReg_block haltReg_block).setReg haltReg_block).setReg haltReg_block).setReg haltReg_block).setFld haltReg_block
    exact .ite h3.source h3
theorem HaltKept.playVector {g o w k} (h : s.HaltKept false t) : s.HaltKept false (t.playVector g o w k) := by
  unfold State.playVector
  extract_lets u n start tset sb u1 u2 u3
  have h1 : s.HaltKept false u1 := .ite h.leadVector.drainAhead h
  have h2 : s.HaltKept false u2 := h1.forEach fun _ _ _ h2 => .ite h2.playPin h2
  have h3 : s.HaltKept false (u3.setFld (TE_STATUS k) 13 8 tset) := HaltKept.setFld h2.other haltReg_cl
  exact HaltKept.holdEnded (h3.forEach fun _ _ _ h4 => h4.other)
theorem HaltKept.catchUp {g a k lim n} (h : s.HaltKept false t) : s.HaltKept false (t.catchUp g a k lim n) := by
  induction n generalizing t with
  | zero => exact h
  | succ n ih =>
    unfold State.catchUp
    split
    · exact .ite (ih h.playVector) h
    · exact h
theorem HaltKept.closeRun {a w} (h : s.HaltKept false t) : s.HaltKept false (t.closeRun a w) := by
  unfold State.closeRun
  extract_lets u1 u2 u3 u4
  have h1 : s.HaltKept false u1 := h.forEach fun _ _ _ h1 => h1.unarmSeg
  have h2 : s.HaltKept false u2 := h1.forEach fun _ _ _ h1 => h1.drainSeg
  have h3 : s.HaltKept false u3 := h2.forEach fun _ _ _ h1 =>
    (((h1.setBitAt haltReg_block).setReg haltReg_block).setReg haltReg_block).forEach fun _ _ _ h2 =>
      h2.setReg (haltReg_early (by simp only [SEG_Q_LOOP0]; omega))
  have h4 : s.HaltKept false u4 := h3.forEach fun _ _ _ h1 => HaltKept.setBitAt h1.runAhead.other haltReg_block
  exact h4.forEach fun _ _ _ h1 => .ite (HaltKept.setFld h1.other haltReg_cl) h1
theorem HaltKept.advanceTo {g} (h : s.HaltKept late t) : s.HaltKept late (t.advanceTo g) := .ite h.other h
theorem HaltKept.stopAllAt {g o w at_} (h : s.HaltKept false t) : s.HaltKept false (t.stopAllAt g o w at_) := by
  unfold State.stopAllAt
  extract_lets u1 u2 u3 u4 u5
  have h2 : s.HaltKept false u2 := h.advanceTo.forEach fun _ _ _ h1 => h1.holdCluster
  have h3 : s.HaltKept false u3 := h2.forEach fun _ _ _ h1 => (h1.setBitAt haltReg_block).setReg64 haltReg_block haltReg_block
  have h5 : s.HaltKept false u5 := h3.closeRun.forEach fun _ _ _ h1 => h1.setBitAt haltReg_block
  exact h5.setRun
theorem HaltKept.haltAt {a cut} (h : s.HaltKept false t) : s.HaltKept false (t.haltAt a cut) := by
  unfold State.haltAt
  split
  · refine .ite h ?_
    extract_lets u1
    have h1 : s.HaltKept false u1 := h.forEach fun _ _ _ h1 => h1.catchUp
    split
    · exact h1.stopAllAt
    · exact h1
  · exact h
theorem HaltKept.copyMarks (h : s.HaltKept false t) : s.HaltKept false t.copyMarks := by
  refine h.forEach fun _ _ _ h1 => ?_
  unfold State.copyOn
  split
  · exact .ite h1 (.ite h1.setProgress (.ite h1.other (HaltKept.writeBytes h1.other).setProgress))
  · exact h1

end Sys2Proof.Machine.State
end

section
/-! The units are put away (R390, R451, R349, R373, R192, R283, R475, R554): routines, controllers, analog channels, lanes, feeders,
clusters, fountains, maintenance and the work of the hub. -/

namespace Sys2Proof.Machine.State
variable {late : Bool} {s t : State}

/-! Routines (R451, R460). -/

theorem HaltKept.dropDeferred {m} (h : s.HaltKept false t) : s.HaltKept false (t.dropDeferred m) :=
  HaltKept.setReg (HaltKept.other (h.addSat haltReg_msq)) haltReg_msq
theorem HaltKept.clearFrames {m} (h : s.HaltKept false t) : s.HaltKept false (t.clearFrames m) :=
  h.forEach fun _ _ _ h1 => (h1.setReg (haltReg_early (by simp only [MSQ_FRAME0, msqBase]; split <;> omega))).setReg
    (haltReg_early (by simp only [MSQ_FRAME1, msqBase]; split <;> omega))
theorem HaltKept.freeMsq {m} (h : s.HaltKept false t) : s.HaltKept false (t.freeMsq m) := by
  have h1 : s.HaltKept false (t.setWait m none) := HaltKept.setBitAt h.other haltReg_msq
  exact HaltKept.other (((h1.setBitAt haltReg_msq).setBitAt haltReg_msq).setFld haltReg_msq)
theorem HaltKept.dropRoutines (h : s.HaltKept false t) : s.HaltKept false t.dropRoutines :=
  h.forEach fun _ _ _ h1 => h1.dropDeferred.clearFrames.freeMsq

/-! Controllers (R390, R393). -/

theorem HaltKept.setDpsState {d v} (h : s.HaltKept false t) : s.HaltKept false (t.setDpsState d v) := by
  have hs : haltReg false (DPS_STATUS d) := haltReg_block
  have he : haltReg false (DPS_EVENTS d) := haltReg_block
  unfold State.setDpsState State.refreshPg
  extract_lets old new u
  have h1 : s.HaltKept false u := (h.setFld hs).setBitAt hs
  exact .ite (h1.event he) h1
theorem HaltKept.dpsOff {d} (h : s.HaltKept false t) : s.HaltKept false (t.dpsOff d) := by
  unfold State.dpsOff
  extract_lets u1 u2 _ u3
  have h1 : s.HaltKept false u1 := ((h.setFld haltReg_block).setBitAt haltReg_block).setReg haltReg_block
  have h2 : s.HaltKept false (u1.setRef d 0) := HaltKept.setReg h1.other haltReg_block
  have h3 : s.HaltKept false u3 := HaltKept.other h2.setDpsState
  split
  · exact .ite h3.other h3
  · exact h3
theorem HaltKept.dischargeAll (h : s.HaltKept false t) : s.HaltKept false t.dischargeAll := by
  refine h.forEach fun u d _ h1 => ?_
  have h2 : s.HaltKept false (((u.setReg (DPS_SETPOINT d) 0).setDpsState d 3).startMotion d 0 0 true) :=
    HaltKept.other (h1.setReg haltReg_block).setDpsState
  exact .ite (.ite h2.dpsOff h2) h1

/-! Analog channels, lanes and feeders (R297, R349, R373). -/

theorem HaltKept.allAnTo {st} (h : s.HaltKept late t) : s.HaltKept late (t.allAnTo st) := by
  refine h.forEach fun u a ha h1 => ?_
  have ha' := List.mem_range.mp ha
  have hreg (n : Nat) (hn : n < 0x10000) : haltReg late (0x03000000 + a * 0x10000 + n) := haltReg_units (by omega)
  extract_lets u1 u2 u3
  have h2 : s.HaltKept late u1 := .ite h1 (h1.setFld (hreg 0 (by decide)))
  have h3 : s.HaltKept late u2 := (h2.setFld (hreg 0x2C (by decide))).setFld (hreg 0x2C (by decide))
  exact HaltKept.other ((h3.setReg64 (hreg 0x4C (by decide)) (hreg 0x50 (by decide))).setReg (hreg 0x54 (by decide)))
theorem HaltKept.allLanesOff (h : s.HaltKept late t) : s.HaltKept late t.allLanesOff := by
  refine HaltKept.forEach h.other fun u g hg h1 => ?_
  have hg' := List.mem_range.mp hg
  have hstatus : haltReg late (LG_STATUS g) := haltReg_units (by simp only [LG_STATUS]; omega)
  refine (HaltKept.setBitAt (h1.forEach fun v i hi h2 => h2.setReg ?_) hstatus).setReg hstatus
  have hi' := List.mem_range.mp hi
  exact haltReg_units (by simp only [LN_STATUS]; omega)
theorem HaltKept.dropFeeders (h : s.HaltKept late t) : s.HaltKept late t.dropFeeders := by
  refine h.forEach fun u k _ h1 => ?_
  extract_lets v u1 gaps u2
  have h2 : s.HaltKept late u1 := h1.forEach fun _ _ _ h2 => by
    split
    · exact h2.writeBytes
    · exact h2
  exact h2.other

/-! Clusters, fountains and maintenance (R192, R255, R283, R475). -/

theorem HaltKept.dropClusters (h : s.HaltKept late t) : s.HaltKept late t.dropClusters := by
  unfold State.dropClusters
  extract_lets u1 u2
  have h1 : s.HaltKept late u1 := h.forEach fun v k hk h1 => by
    have hk' := List.mem_range.mp hk
    have hreg (n : Nat) (hn : n < 0x100000) : haltReg late (clBase k + n) := haltReg_units (by unfold clBase; omega)
    exact ((HaltKept.setFld h1.other (hreg _ (by decide))).setBitAt (hreg 0x40000 (by decide))).setBitAt (hreg 0x40000 (by decide))
  have h2 : s.HaltKept late u2 := h1.forEach fun v q hq h2 => by
    have hq' := List.mem_range.mp hq
    exact (h2.setBitAt (haltReg_units (by simp only [SEG_Q_STATUS]; omega))).setReg (haltReg_units (by simp only [SEG_Q_REQ]; omega))
  exact h2.other
theorem HaltKept.dropFountains (h : s.HaltKept late t) : s.HaltKept late t.dropFountains := by
  refine HaltKept.other (h.forEach fun v f hf h1 => ?_)
  have hf' := List.mem_range.mp hf
  have hreg : haltReg late (FNT_STATUS f) := haltReg_units (by simp only [FNT_STATUS]; omega)
  exact (h1.setBitAt hreg).setBitAt hreg
theorem HaltKept.calDrop {u} (h : s.HaltKept late t) : s.HaltKept late (t.calDrop u) := by
  unfold State.calDrop
  extract_lets x v
  have hv : s.HaltKept late v := h.other
  exact .ite h (.ite hv.other hv)
theorem HaltKept.dropMaint (h : s.HaltKept late t) : s.HaltKept late t.dropMaint := by
  unfold State.dropMaint
  extract_lets u
  have hu : s.HaltKept late u := h.forEach fun _ _ _ h1 => h1.calDrop
  exact hu.other

/-! The hub (R36, R149, R551, R554). -/

/-- Changes of the configuration manager, the security block and the records of fault continuity beside what a halt keeps. -/
theorem HaltKept.hub {x : Sec} {c : Cfg} {d : Cont} (h : s.HaltKept late t) (hx : t.sec.InForce x) (hc : c.active = t.cfg.active)
    (hs : d.slots = t.cont.slots) (ho : d.pfOrder = t.cont.pfOrder) : s.HaltKept late { t with sec := x, cfg := c, cont := d } :=
  h.trans ⟨rfl, rfl, rfl, fun _ => rfl, hc, hx, hs, ho, rfl, rfl, rfl, fun _ _ => rfl⟩
theorem inForce_refl (x : Sec) : x.InForce x := fun hw hf => ⟨hw, hf, rfl, rfl, rfl, rfl⟩
theorem HaltKept.leaveArmed {n} (h : s.HaltKept late t) : s.HaltKept late (t.leaveArmed n) := by
  have h1 : s.HaltKept late (t.setTb n) := h.setFld (haltReg_low (by decide))
  have hne (a : Nat) (ha : a = AON_PWR_STATUS ∨ (late = true ∧ 0x3200000 ≤ a ∧ a < 0x3210000)) : a ≠ WKE_STATUS := by
    rintro rfl
    rcases ha with ha | ⟨-, ha, -⟩
    · exact absurd ha (by decide)
    · exact absurd ha (by decide)
  exact h1.trans ⟨rfl, rfl, rfl, fun _ => rfl, rfl, inForce_refl _, rfl, rfl, rfl, rfl,
    (bitAt_setBitAt _ _ _ _ _ _ (by decide)).trans (if_neg (by decide)), fun a ha => reg_setBitAt_ne _ _ _ (hne a ha)⟩
theorem HaltKept.dropHub (h : s.HaltKept late t) : s.HaltKept late t.dropHub := by
  refine h.trans ?_
  have hsec : t.sec.InForce t.dropHub.sec := fun hw hf => ⟨rfl, rfl, dropHub_sec t hw hf⟩
  revert hsec
  unfold State.dropHub
  extract_lets u p v x y w
  intro hsec
  have hu : t.HaltKept late u := .ite (HaltKept.refl t).leaveArmed (HaltKept.refl t)
  have hv : t.HaltKept late v ∧ v.sec = t.sec := by
    have husec : u.sec = t.sec := by
      unfold u
      split
      · exact (setBitAt_sec ..).trans (setFld_sec ..)
      · rfl
    unfold v p
    split
    · exact ⟨hu.other, husec⟩
    · exact ⟨hu, husec⟩
  exact hv.1.hub (hv.2 ▸ hsec) rfl rfl rfl
theorem HaltKept.putShadow {g} (h : s.HaltKept late t) : s.HaltKept late (t.putShadow g) := by
  have h1 : s.HaltKept late { t with cfg := { t.cfg with shadow := g } } := h.hub (inForce_refl t.sec) rfl rfl rfl
  unfold State.putShadow State.showSet
  generalize ({ t with cfg := { t.cfg with shadow := g } } : State) = v at h1
  refine ((h1.setReg (haltReg_low (by decide))).setReg (haltReg_low (by decide))).forEach fun u i hi h2 => h2.setReg (haltReg_low ?_)
  have hi' := List.mem_range.mp hi
  simp only [CFG_SHADOW_DIGEST]
  omega
theorem HaltKept.setShadow {n} (h : s.HaltKept late t) : s.HaltKept late (t.setShadow n) := h.setReg (haltReg_low (by decide))

end Sys2Proof.Machine.State
end

section
/-! The power-fail sequence begins (R127, R129, R131): the steps of POWER_FAIL_START by name, and what each one makes of the state. -/

namespace Sys2Proof.Machine.State
variable {s t : State}

/-! Step 1: the sequence is entered, counted and logged (R129, R139, R544). -/

/-- PPMUs that leave their pins count a transition (R544). -/
def countPpmus (s : State) : State :=
  s.forEach ((List.range 512).filter (fun c => pmuOn (s.liveMode c))) (fun s c => s.ltAdd (16 + c / 32) 1)
/-- The sequence shows itself. -/
def enterPf (s : State) : State := ((s.ltAdd 4 1).setBitAt WKE_STATUS 3 true).setFld AON_PWR_STATUS 2 0 4
/-- The instant from which the sequence counts is kept. -/
def startPf (s : State) (start : Nat) : State :=
  { s with free := s.free + 512, cont := { s.cont with pfStart := start, pfFree := s.free, hubFaultAt := none } }
/-- The number of UNIT that names the conditions. -/
def pfCauses (pfN det : Bool) : Nat := (if pfN then 1 else 0) + (if det then 2 else 0)
/-- The state after step 1. -/
def pfBegun (s : State) (pfN det : Bool) : State :=
  (s.countPpmus.enterPf.logEvent 0x030C 0 (pfCauses pfN det)).startPf s.now

/-- Lifetime counters may change, but not the one of power-fail sequences. -/
def OnlyCounts (s t : State) : Prop := (∃ l, t = { s with aon := { s.aon with lt := l } }) ∧ t.lifetime 4 = s.lifetime 4
theorem OnlyCounts.ltAdd {i n : Nat} (h : s.OnlyCounts t) (hi : i ≠ 4) : s.OnlyCounts (t.ltAdd i n) := by
  obtain ⟨⟨l, rfl⟩, hlife⟩ := h
  exact ⟨⟨_, rfl⟩, ((lifetime_ltAdd _ i n 4).trans (if_neg hi.symm)).trans hlife⟩
theorem onlyCounts_countPpmus : s.OnlyCounts s.countPpmus :=
  forEach_keeps s.OnlyCounts _ _ (fun _ _ _ h => h.ltAdd (by omega)) s ⟨⟨_, rfl⟩, rfl⟩
theorem enterPf_frame : s.enterPf = { s with regs := s.enterPf.regs, aon := { s.aon with lt := s.enterPf.aon.lt } } := by
  have h := ((s.ltAdd 4 1).onlyRegs_setBitAt WKE_STATUS 3 true [WKE_STATUS, AON_PWR_STATUS] (by simp)).trans
    (onlyRegs_setFld _ AON_PWR_STATUS 2 0 4 _ (by simp))
  have ha : s.enterPf.aon = (s.ltAdd 4 1).aon := by rw [enterPf, h.1]
  rw [ha, enterPf]
  exact h.1
theorem lifetime_logEvent {code unit data i : Nat} (hi : i ≠ 14) : (s.logEvent code unit data).lifetime i = s.lifetime i := by
  unfold logEvent
  extract_lets record u
  have hu : u.lifetime i = s.lifetime i := by
    unfold u
    split
    · exact (lifetime_ltAdd ..).trans (if_neg hi)
    · rfl
  split
  · exact hu
  · exact (lifetime_congr (incSat_aon ..)).trans hu
theorem enterPf_shows : s.enterPf.deviceState = 4 ∧ s.enterPf.bitAt WKE_STATUS 3 = true ∧
    s.enterPf.lifetime 4 = min (s.lifetime 4 + 1) (2 ^ 64 - 1) := by
  refine ⟨fld_setFld_same _ _ _ _ _ (by decide) (by decide), ?_, ?_⟩
  · rw [enterPf, bitAt_setFld _ _ _ _ _ _ _ (by decide) (by decide), if_neg (by decide), bitAt_setBitAt _ _ _ _ _ _ (by decide)]
    simp
  · rw [enterPf, lifetime_congr ((setFld_aon ..).trans (setBitAt_aon ..)), lifetime_ltAdd, if_pos rfl]

/-- `t` differs from `s` in registers, the event queue, lifetime counters and marks of fault continuity; the records of power
failures stay. -/
def BeginFrame (s t : State) : Prop :=
  t = { s with regs := t.regs, evq := t.evq, cont := t.cont, free := t.free, aon := t.aon } ∧ t.cont.slots = s.cont.slots ∧
  t.cont.pfOrder = s.cont.pfOrder
theorem BeginFrame.trans {u : State} (h : s.BeginFrame t) (h' : t.BeginFrame u) : s.BeginFrame u := by
  refine ⟨?_, h'.2.1.trans h.2.1, h'.2.2.trans h.2.2⟩
  obtain ⟨e, -⟩ := h
  obtain ⟨e', -⟩ := h'
  rw [e']
  rw [e]
theorem beginFrame_enterPf : s.BeginFrame s.enterPf := by
  rw [enterPf_frame]
  exact ⟨rfl, rfl, rfl⟩
theorem beginFrame_logEvent (code unit data : Nat) : s.BeginFrame (s.logEvent code unit data) := by
  rw [(logFrame_logEvent code unit data).1]
  exact ⟨rfl, rfl, rfl⟩
theorem beginFrame_countPpmus : s.BeginFrame s.countPpmus := by
  obtain ⟨⟨l, hl⟩, -⟩ := onlyCounts_countPpmus (s := s)
  rw [hl]
  exact ⟨rfl, rfl, rfl⟩
theorem beginFrame_startPf (start : Nat) : s.BeginFrame (s.startPf start) := ⟨rfl, rfl, rfl⟩
theorem aon_startPf (start : Nat) : (s.startPf start).aon = s.aon := rfl
theorem evq_startPf (start : Nat) : (s.startPf start).evq = s.evq := rfl
theorem reg_startPf (start a : Nat) : (s.startPf start).reg a = s.reg a := rfl
theorem beginFrame_entered : s.BeginFrame s.countPpmus.enterPf := beginFrame_countPpmus.trans beginFrame_enterPf
theorem beginFrame_pfBegun (pfN det : Bool) : s.BeginFrame (s.pfBegun pfN det) :=
  (beginFrame_entered.trans (beginFrame_logEvent 0x030C 0 (pfCauses pfN det))).trans (beginFrame_startPf _)
theorem logged_pfBegun (pfN det : Bool) : s.Logged (s.pfBegun pfN det) 0x030C 0 (pfCauses pfN det) := by
  obtain ⟨⟨l, hl⟩, -⟩ := onlyCounts_countPpmus (s := s)
  have hevq : s.countPpmus.enterPf.evq = s.evq := by rw [enterPf_frame, hl]
  have htb : s.countPpmus.enterPf.tb = s.tb := by rw [enterPf_frame, hl]
  have hlog := logged_logEvent 0x030C 0 (pfCauses pfN det) hevq htb
  rw [Logged] at hlog ⊢
  rw [pfBegun, evq_startPf, hlog]
theorem pfBegun_shows (pfN det : Bool) : (s.pfBegun pfN det).deviceState = 4 ∧ (s.pfBegun pfN det).bitAt WKE_STATUS 3 = true ∧
    (s.pfBegun pfN det).lifetime 4 = min (s.lifetime 4 + 1) (2 ^ 64 - 1) := by
  obtain ⟨hstate, hwake, hlife⟩ := enterPf_shows (s := s.countPpmus)
  obtain ⟨-, hcount⟩ := onlyCounts_countPpmus (s := s)
  rw [hcount] at hlife
  refine ⟨(fld_congr ?_).trans hstate, (bitAt_congr ?_).trans hwake, ?_⟩
  · exact (reg_startPf ..).trans (reg_logEvent _ _ _ (by decide))
  · exact (reg_startPf ..).trans (reg_logEvent _ _ _ (by decide))
  · exact (lifetime_congr (aon_startPf _)).trans ((lifetime_logEvent (by decide)).trans hlife)

end Sys2Proof.Machine.State
end

section
/-! The steps of the power-fail sequence from its begin to the idle device (R129, R131, R136, R137). -/

namespace Sys2Proof.Machine.State
variable {s t u : State} {start : Nat}

/-! Step 2: the runs stop. -/

/-- The instant at which the last run has stopped. -/
def quietAt (s : State) (start : Nat) : Nat := s.ops.foldl (fun m o => match o.work with
  | .run w => max m (w.stop.getD start)
  | _ => m) start
/-- The runs stop 10 µs after the start at the latest. -/
def haltRuns (s : State) (start : Nat) : State := s.forEach s.ops (fun s o => s.haltAt o.asn (some (start + 8000)))
def showQuiet (s : State) (start : Nat) : State := { s with cont := { s.cont with pfQuiet := min (s.quietAt start) (start + 8000) } }
/-- The state after step 2, with the marks of the loads. -/
def pfHalted (s : State) (start : Nat) : State := ((s.haltRuns start).showQuiet start).copyMarks

theorem HaltKept.cont {late : Bool} {d : Cont} (h : s.HaltKept late t) (hs : d.slots = t.cont.slots) (ho : d.pfOrder = t.cont.pfOrder) :
    s.HaltKept late { t with cont := d } :=
  h.trans ⟨rfl, rfl, rfl, fun _ => rfl, rfl, inForce_refl _, hs, ho, rfl, rfl, rfl, fun _ _ => rfl⟩
theorem haltKept_pfHalted : s.HaltKept false (s.pfHalted start) := by
  have h1 : s.HaltKept false (s.haltRuns start) := (HaltKept.refl s).forEach fun _ _ _ h => h.haltAt
  have h2 : s.HaltKept false ((s.haltRuns start).showQuiet start) := h1.cont rfl rfl
  exact h2.copyMarks

/-! Step 3: the record (R131, R136, R137). -/

theorem length_insertByAsn (o : Op) (l : List Op) : (insertByAsn o l).length = l.length + 1 := by
  induction l with
  | nil => rfl
  | cons p l ih =>
    unfold insertByAsn
    split
    · rfl
    · rw [List.length_cons, ih, List.length_cons]
theorem length_foldr_insertByAsn (l : List Op) : (l.foldr insertByAsn []).length = l.length := by
  induction l with
  | nil => rfl
  | cons o l ih => rw [List.foldr_cons, length_insertByAsn, ih, List.length_cons]
theorem pfSlot_lt : s.pfSlot < 2 := by
  unfold pfSlot
  extract_lets l
  split
  · next h => exact List.mem_range.mp (List.mem_of_find?_eq_some h)
  · split <;> omega
/-- The newest record stays in the event queue when another one is logged (R589). -/
theorem mem_logEvent {code unit data : Nat} {r : BitVec 130} {l : List (BitVec 130)} (h : s.evq.recs = l ++ [r]) :
    r ∈ (s.logEvent code unit data).evq.recs := by
  rw [logEvent_recs, h]
  split
  · simp
  · next hlen =>
    rw [List.length_append, List.length_singleton] at hlen
    rw [List.drop_append_of_le_length (by omega)]
    simp

/-- The event of a slot whose records are lost, before the slot takes a new record (R136). -/
def discardSlot (s : State) : State :=
  if (s.cont.slots.getD s.pfSlot pfSlotEmpty).owed.length = 0 then s
  else s.logEvent 0x030F s.pfSlot (s.cont.slots.getD s.pfSlot pfSlotEmpty).owed.length
/-- The operations that the record keeps, in acceptance order (R51, R111). -/
def pfOps (s : State) : List Op := ((s.heldRecs ++ s.ops).filter (fun o => !o.lost)).foldr insertByAsn []
/-- The slot as the sequence writes it. -/
def pfSlotOf (s : State) (start : Nat) : PfSlot :=
  { valid := false, epoch := s.lifetime 4 % 2 ^ 16, gcc := start, order := s.cont.pfOrder + 1, owed := s.pfOps.map (s.owedOf start),
    total := (s.pfOps.map (s.owedOf start)).length, nextSeqs := ((s.pfOps.map Op.queue).eraseDups).map (fun q => (q, s.nextSeq q)) }
/-- A slot takes a new record. -/
def putSlot (s : State) (i : Nat) (x : PfSlot) : State :=
  { s with cont := { s.cont with slots := s.cont.slots.set i x, pfOrder := s.cont.pfOrder + 1 } }
theorem pfRecord_eq : s.pfRecord start = s.discardSlot.putSlot s.pfSlot (s.discardSlot.pfSlotOf start) := rfl

theorem eventFrame_discardSlot : s.EventFrame s.discardSlot [GLB_EVQ_LOST] := by
  unfold discardSlot
  split
  · exact (OnlyRegs.refl s _).eventFrame
  · exact eventFrame_logEvent _ _ _ (by simp)
theorem lifetime_discardSlot : s.discardSlot.lifetime 4 = s.lifetime 4 := by
  unfold discardSlot
  split
  · rfl
  · exact lifetime_logEvent (by decide)
theorem mem_discardSlot {r : BitVec 130} {l : List (BitVec 130)} (h : s.evq.recs = l ++ [r]) : r ∈ s.discardSlot.evq.recs := by
  unfold discardSlot
  split
  · rw [h]
    simp
  · exact mem_logEvent h
theorem length_owed_pfSlotOf : (s.pfSlotOf start).owed.length = ((s.heldRecs ++ s.ops).filter (fun o => !o.lost)).length := by
  rw [pfSlotOf, List.length_map, pfOps, length_foldr_insertByAsn]
/-- The new record stands in one of two slots. -/
theorem mem_slots_pfRecord (h : s.cont.slots.length = 2) : s.discardSlot.pfSlotOf start ∈ (s.pfRecord start).cont.slots := by
  have hlen : s.pfSlot < s.discardSlot.cont.slots.length := by
    rw [eventFrame_discardSlot.cont, h]
    exact pfSlot_lt
  rw [pfRecord_eq]
  exact List.mem_set hlen _

/-! Steps 4 and 5: the work ends and the units are put away. -/

/-- An operation ends with ABORTED_POWER. -/
def powerFailedOp (o : Op) : Op :=
  { o with phase := .ended, status := 5, reason := 0, candSince := none, holding := false, aborting := false, faulting := false }
def endPf (s : State) : State := { s with ops := s.ops.map powerFailedOp }
/-- The units are put away, and the shadow set is EMPTY (R39). -/
def pfPutAway (s : State) : State :=
  ((((s.dropRoutines.dischargeAll.allAnTo 1).allLanesOff.dropFeeders.dropClusters.dropFountains.dropMaint.dropHub).putShadow none).setShadow
    0).setBitAt CFG_CMD_STATUS 8 false
/-- No swap is pending, no reset is under way and nothing wakes. -/
def pfSettled (s : State) : State :=
  { s with cfg := { s.cfg with swap := none }, aon := { s.aon with resetting := 0, waking := [], after := [] } }

theorem haltKept_pfPutAway : s.HaltKept false s.pfPutAway := by
  have h : s.HaltKept false ((s.dropRoutines.dischargeAll.allAnTo 1).allLanesOff.dropFeeders.dropClusters.dropFountains.dropMaint.dropHub) :=
    (HaltKept.refl s).dropRoutines.dischargeAll.allAnTo.allLanesOff.dropFeeders.dropClusters.dropFountains.dropMaint.dropHub
  exact h.putShadow.setShadow.setBitAt (haltReg_low (by decide))
theorem exec_powerFailStart {pfN det : Bool} (h : (!s.aon.vddCore || !s.aon.vaon || 3 < s.deviceState || !(pfN || det)) = false) :
    exec (.powerFailStart pfN det) s =
      .next (((s.pfBegun pfN det).pfHalted s.now).pfRecord s.now).endPf.pfPutAway.pfSettled := by
  show execPowerFailStart pfN det s = _
  unfold execPowerFailStart
  rw [if_neg (by rw [h]; exact Bool.false_ne_true)]
  extract_lets +onlyGivenNames start u1 u2 u3
  have h3 : s.countPpmus.enterPf.logEvent 0x030C 0 (pfCauses pfN det) = u3 := rfl
  clear_value u3
  extract_lets +onlyGivenNames c3 u4
  have h4 : u3.startPf start = u4 := rfl
  clear_value u4
  clear c3
  extract_lets +onlyGivenNames u5 quiet c5 u6
  have h6 : (u4.haltRuns start).showQuiet start = u6 := rfl
  clear_value u6
  clear c5 quiet u5
  extract_lets +onlyGivenNames u7 u8
  have h8 : (u6.copyMarks.pfRecord start).endPf = u8 := rfl
  clear_value u8
  clear u7
  extract_lets +onlyGivenNames u9 u10 u11
  have h11 : u8.pfPutAway = u11 := rfl
  clear_value u11
  clear u10 u9
  have hend : (((s.pfBegun pfN det).pfHalted s.now).pfRecord s.now).endPf.pfPutAway = u11 := by
    rw [← h11, ← h8, ← h6, ← h4, ← h3]
    rfl
  rw [hend]
  rfl

/-! What the sequence leaves. -/

/-- Every operation ends with ABORTED_POWER. -/
theorem powerFailed_pfPutAway : ∀ o ∈ s.endPf.pfPutAway.ops, o.phase = .ended ∧ o.status = 5 := by
  intro o ho
  have hcore : o.core ∈ s.endPf.pfPutAway.ops.map Op.core := List.mem_map_of_mem ho
  rw [haltKept_pfPutAway.ops] at hcore
  obtain ⟨p, hp, heq⟩ := List.mem_map.mp hcore
  obtain ⟨q, -, rfl⟩ := List.mem_map.mp hp
  have hphase : o.core.phase = .ended := by rw [← heq]; rfl
  have hstatus : o.core.status = 5 := by rw [← heq]; rfl
  exact ⟨hphase, hstatus⟩
theorem map_asn_of_core {l l' : List Op} (h : l.map Op.core = l'.map Op.core) : l.map Op.asn = l'.map Op.asn := by
  have := congrArg (List.map Op.asn) h
  rwa [List.map_map, List.map_map] at this
theorem kept_of_core {l l' : List Op} (h : l.map Op.core = l'.map Op.core) :
    (l.filter (fun o => !o.lost)).length = (l'.filter (fun o => !o.lost)).length := by
  have := congrArg (List.countP (fun o => !o.lost)) h
  rwa [List.countP_map, List.countP_map, List.countP_eq_length_filter, List.countP_eq_length_filter] at this

theorem pfPutAway_shadow : s.pfPutAway.cfg.shadow = none ∧ s.pfPutAway.shadowState = 0 := by
  unfold pfPutAway
  generalize (s.dropRoutines.dischargeAll.allAnTo 1).allLanesOff.dropFeeders.dropClusters.dropFountains.dropMaint.dropHub = u
  constructor
  · rw [setBitAt_cfg, setShadow, setReg_cfg, putShadow, (showSet_same _ _ _ none : _)]
  · refine (fld_setBitAt _ _ _ _ _ _ _ (by decide) (.inl (by decide))).trans ?_
    rw [setShadow, fld, reg_setReg_same]
    decide
theorem pfRecord_parts : (s.pfRecord start).ops = s.ops ∧ (s.pfRecord start).heldRecs = s.heldRecs ∧ (s.pfRecord start).cfg = s.cfg ∧
    (s.pfRecord start).sec = s.sec ∧ (s.pfRecord start).jtag = s.jtag ∧ (s.pfRecord start).lifetime 4 = s.lifetime 4 ∧
    (s.pfRecord start).evq = s.discardSlot.evq ∧ ∀ a, a ≠ GLB_EVQ_LOST → (s.pfRecord start).reg a = s.reg a := by
  have h := eventFrame_discardSlot (s := s)
  have hlife := lifetime_discardSlot (s := s)
  rw [pfRecord_eq]
  generalize s.discardSlot = u at h hlife
  exact ⟨h.ops, h.heldRecs, h.cfg, by rw [h.1]; rfl, by rw [h.1]; rfl, hlife, rfl, fun a ha => h.2 a (by simpa using ha)⟩

/-- What the units that are put away leave, when the operations have ended. -/
theorem pfPutAway_kept : s.endPf.pfPutAway.reg AON_PWR_STATUS = s.reg AON_PWR_STATUS ∧
    s.endPf.pfPutAway.bitAt WKE_STATUS 3 = s.bitAt WKE_STATUS 3 ∧ s.endPf.pfPutAway.lifetime 4 = s.lifetime 4 ∧
    s.endPf.pfPutAway.evq = s.evq ∧ s.endPf.pfPutAway.ops.map Op.asn = s.ops.map Op.asn ∧ s.endPf.pfPutAway.heldRecs = s.heldRecs ∧
    s.endPf.pfPutAway.cont.slots = s.cont.slots ∧ s.endPf.pfPutAway.cfg.active = s.cfg.active ∧
    s.endPf.pfPutAway.jtag = s.jtag ∧ s.sec.InForce s.endPf.pfPutAway.sec := by
  have h := haltKept_pfPutAway (s := s.endPf)
  have hasn : s.endPf.ops.map Op.asn = s.ops.map Op.asn := by rw [endPf, List.map_map]; rfl
  exact ⟨h.regs _ (.inl rfl), h.wake, h.life, h.evq rfl, (map_asn_of_core h.ops).trans hasn, h.heldRecs, h.slots, h.active, h.jtag, h.sec⟩
/-- What is kept between the begin of the sequence and its record. -/
theorem pfHalted_pfRecord (hv : t.HaltKept false u) (start : Nat) : (u.pfRecord start).reg AON_PWR_STATUS = t.reg AON_PWR_STATUS ∧
    (u.pfRecord start).bitAt WKE_STATUS 3 = t.bitAt WKE_STATUS 3 ∧ (u.pfRecord start).lifetime 4 = t.lifetime 4 ∧
    (u.pfRecord start).ops.map Op.asn = t.ops.map Op.asn ∧ (u.pfRecord start).heldRecs = t.heldRecs ∧
    (u.pfRecord start).cfg.active = t.cfg.active ∧ (u.pfRecord start).jtag = t.jtag ∧ t.sec.InForce (u.pfRecord start).sec := by
  obtain ⟨hops, hheld, hcfg, hsec, hjtag, hlife, -, hreg⟩ := pfRecord_parts (s := u) (start := start)
  refine ⟨(hreg _ (by decide)).trans (hv.regs _ (.inl rfl)), (bitAt_congr (hreg _ (by decide))).trans hv.wake, hlife.trans hv.life,
    ?_, hheld.trans hv.heldRecs, ?_, hjtag.trans hv.jtag, hsec ▸ hv.sec⟩
  · rw [hops, map_asn_of_core hv.ops]
  · rw [hcfg, hv.active]
/-- The record of a sequence keeps an entry for each operation whose journal entry is not lost (R111, R131). -/
theorem slots_pfRecord (hv : t.HaltKept false u) (h : t.cont.slots.length = 2) : ∃ x ∈ (u.pfRecord start).cont.slots,
    x.order = t.cont.pfOrder + 1 ∧ x.valid = false ∧ x.gcc = start ∧
    x.owed.length = ((t.heldRecs ++ t.ops).filter (fun o => !o.lost)).length := by
  have hd := eventFrame_discardSlot (s := u)
  refine ⟨_, mem_slots_pfRecord (hv.slots ▸ h), ?_, rfl, rfl, ?_⟩
  · rw [pfSlotOf, hd.cont, hv.order]
  · rw [length_owed_pfSlotOf, hd.heldRecs, hd.ops, hv.heldRecs, List.filter_append, List.filter_append, List.length_append,
      List.length_append, kept_of_core hv.ops]

end Sys2Proof.Machine.State
end

section
/-! Controllers that go off (R390, R528 step 4, R129 step 4). -/

namespace Sys2Proof.Machine.State
variable {s t u : State} {d e : Nat}

/-- `t` differs from `s` in the controllers, their registers and the reservations. -/
def DpsFrame (s t : State) : Prop :=
  t = { s with regs := t.regs, dpss := t.dpss, gov := t.gov } ∧ ∀ a, ¬ (0x3200000 ≤ a ∧ a < 0x3400000) → t.reg a = s.reg a
theorem DpsFrame.refl (s : State) : s.DpsFrame s := ⟨rfl, fun _ _ => rfl⟩
theorem DpsFrame.trans (h : s.DpsFrame t) (h' : t.DpsFrame u) : s.DpsFrame u := by
  refine ⟨?_, fun a ha => (h'.2 a ha).trans (h.2 a ha)⟩
  obtain ⟨e, -⟩ := h
  obtain ⟨e', -⟩ := h'
  rw [e']
  rw [e]
theorem DpsFrame.setReg {a : Nat} {v : Word} (h : s.DpsFrame t) (ha : 0x3200000 ≤ a ∧ a < 0x3400000) : s.DpsFrame (t.setReg a v) :=
  h.trans ⟨rfl, fun _ hb => t.reg_setReg_ne v (fun e => hb (e ▸ ha))⟩
theorem DpsFrame.setCtl {v : Dps} (h : s.DpsFrame t) : s.DpsFrame (t.setCtl d v) := h.trans ⟨rfl, fun _ _ => rfl⟩
theorem DpsFrame.release {k i : Nat} (h : s.DpsFrame t) : s.DpsFrame (t.release k i) := h.trans ⟨rfl, fun _ _ => rfl⟩
theorem DpsFrame.setDpsState {v : Nat} (hd : d < 64) (h : s.DpsFrame t) : s.DpsFrame (t.setDpsState d v) := by
  have hreg (n : Nat) (hn : n < 0x400) : 0x3200000 ≤ 0x03200000 + d * 0x400 + n ∧ 0x03200000 + d * 0x400 + n < 0x3400000 := by omega
  unfold State.setDpsState State.refreshPg
  extract_lets old new u
  have hu : s.DpsFrame u := (h.setReg (hreg 0 (by decide))).setReg (hreg 0 (by decide))
  split
  · exact hu.setReg (hreg 0x44 (by decide))
  · exact hu
theorem DpsFrame.dpsOff (hd : d < 64) (h : s.DpsFrame t) : s.DpsFrame (t.dpsOff d) := by
  have hreg (n : Nat) (hn : n < 0x400) : 0x3200000 ≤ 0x03200000 + d * 0x400 + n ∧ 0x03200000 + d * 0x400 + n < 0x3400000 := by omega
  unfold State.dpsOff
  extract_lets u1 u2 _ u3
  have h1 : s.DpsFrame u1 :=
    ((h.setReg (hreg 0 (by decide))).setReg (hreg 0 (by decide))).setReg (hreg 0x20 (by decide))
  have h2 : s.DpsFrame (u1.setRef d 0) := DpsFrame.setReg h1.setCtl (hreg 0x24 (by decide))
  have h3 : s.DpsFrame u3 := DpsFrame.setCtl (h2.setDpsState hd)
  split
  · split
    · exact h3.release
    · exact h3
  · exact h3

theorem dpsState_setReg {a : Nat} {v : Word} (h : a ≠ DPS_STATUS e) : (s.setReg a v).dpsState e = s.dpsState e :=
  fld_congr (s.reg_setReg_ne v h.symm)
theorem dpsState_release (k i : Nat) : (s.release k i).dpsState e = s.dpsState e := rfl
theorem dpsState_dpsOff : (s.dpsOff d).dpsState e = if e = d then 0 else s.dpsState e := by
  have hfield : (s.setFld (DPS_STATUS d) 7 6 0).dpsState e = s.dpsState e :=
    fld_setFld_ne _ _ _ _ _ _ _ _ (by decide) (by decide) (by simp)
  have hbit : ((s.setFld (DPS_STATUS d) 7 6 0).setBitAt (DPS_STATUS d) 4 false).dpsState e = s.dpsState e :=
    (fld_setBitAt _ _ _ _ _ _ _ (by decide) (.inr (.inl (by decide)))).trans hfield
  unfold dpsOff
  extract_lets u1 u2 _ u3
  have h1 : u1.dpsState e = s.dpsState e := (dpsState_setReg (by simp only [DPS_SETPOINT, DPS_STATUS]; omega)).trans hbit
  have href : (u1.setRef d 0).dpsState e = u1.dpsState e :=
    (dpsState_setReg (by simp only [DPS_VREF, DPS_STATUS]; omega)).trans (dpsState_setCtl ..)
  have h3 : u3.dpsState e = if e = d then 0 else s.dpsState e :=
    (dpsState_setCtl ..).trans ((dpsState_setDpsState _ _ _ (by decide)).trans (by rw [href, h1]))
  split
  · split
    · exact (dpsState_release ..).trans h3
    · exact h3
  · exact h3
/-- The controllers of a list go off, one after another. -/
theorem dpsState_forEach_dpsOff (l : List Nat) : (s.forEach l dpsOff).dpsState e = if e ∈ l then 0 else s.dpsState e := by
  induction l generalizing s with
  | nil => rfl
  | cons d l ih =>
    rw [forEach_cons, ih, dpsState_dpsOff]
    by_cases he : e ∈ l <;> by_cases hd : e = d <;> simp [he, hd]
theorem dpsFrame_allDpsOff : s.DpsFrame s.allDpsOff :=
  forEach_keeps _ _ _ (fun _ _ hd h => h.dpsOff (List.mem_range.mp (List.mem_filter.mp hd).1)) s (DpsFrame.refl s)
/-- Every controller that was on is OFF. -/
theorem dpsState_allDpsOff (he : e < 64) : (s.allDpsOff.dpsState e = 0 ∨ s.allDpsOff.dpsState e = s.dpsState e) ∧
    s.allDpsOff.dpsState e ∉ [1, 2, 3] := by
  rw [allDpsOff, dpsState_forEach_dpsOff]
  split
  · exact ⟨.inl rfl, by decide⟩
  · next h =>
    refine ⟨.inr rfl, fun hon => h (List.mem_filter.mpr ⟨List.mem_range.mpr he, ?_⟩)⟩
    exact List.contains_iff_mem.mpr hon

end Sys2Proof.Machine.State
end

section
/-! The end of the power-fail sequence (R62, R128, R129 steps 6 to 8, R545), and the sequence as a whole. -/

namespace Sys2Proof.Machine.State
variable {s t : State}

/-- The record counts, the generation is in MRAM, and every channel is in the reset pin state. -/
def pfRecorded (s : State) : State :=
  { s with chans := [], cont := { s.cont with
      slots := s.cont.slots.map (fun x => if x.order == s.cont.pfOrder then { x with valid := true } else x), pfGen := s.activeGen } }
/-- The sequence is done. -/
def pfMarked (s : State) : State := { s with aon := { s.aon with pfDone := true } }
/-- The device idles. -/
def pfIdle (s : State) : State := (s.pfMarked.setBitAt MEM_STATUS 0 false).setFld AON_PWR_STATUS 2 0 5
/-- The state in which the sequence ends. -/
def pfDone (s : State) : State := s.pfRecorded.allDpsOff.mramWrite.mirrorWrite.pfIdle

theorem exec_pfSequenceEnd (h : s.deviceState = 4) :
    exec .pfSequenceEnd s = .next (if s.pfDone.aon.resetN then s.pfDone else s.pfDone.resetPin) := by
  show execPfSequenceEnd s = _
  unfold execPfSequenceEnd
  rw [if_neg (by rw [h]; decide)]
  extract_lets +onlyGivenNames slots c u1 u2
  have h2 : s.pfRecorded.allDpsOff.mramWrite.mirrorWrite = u2 := rfl
  clear_value u2
  rw [pfDone, h2]
  rfl
theorem mirrored_frame : ∃ a, s.mramWrite.mirrorWrite = { s with aon := a } ∧ a.resetN = s.aon.resetN := ⟨_, rfl, rfl⟩
theorem pfIdle_frame : s.pfIdle = { s with regs := s.pfIdle.regs, aon := { s.aon with pfDone := true } } ∧
    s.pfMarked.RegsKept s.pfIdle [MEM_STATUS, AON_PWR_STATUS] := by
  have h := (s.pfMarked.onlyRegs_setBitAt MEM_STATUS 0 false [MEM_STATUS, AON_PWR_STATUS] (by simp)).trans
    (onlyRegs_setFld _ AON_PWR_STATUS 2 0 5 _ (by simp))
  exact h
theorem chan_pinReset (h : s.chans = []) (c : Nat) : s.inPinReset c = true := by
  have hc : (s.chan c).pinReset = true := by rw [chan, h]; rfl
  rw [inPinReset, hc]
  rfl
/-- What stands when the sequence ends. -/
theorem pfDone_frame : ∃ a, s.pfDone = { s.pfRecorded.allDpsOff with regs := s.pfDone.regs, aon := a } ∧ a.pfDone = true ∧
    a.resetN = s.aon.resetN ∧ ∀ b, b ≠ AON_PWR_STATUS → b ≠ MEM_STATUS → s.pfDone.reg b = s.pfRecorded.allDpsOff.reg b := by
  have hoff := dpsFrame_allDpsOff (s := s.pfRecorded)
  have haon : s.pfRecorded.allDpsOff.aon.resetN = s.aon.resetN := by rw [hoff.1]; rfl
  rw [pfDone]
  generalize s.pfRecorded.allDpsOff = u at haon
  obtain ⟨a, ha, hn⟩ := mirrored_frame (s := u)
  obtain ⟨hidle, hregs⟩ := pfIdle_frame (s := u.mramWrite.mirrorWrite)
  rw [ha] at hidle hregs ⊢
  exact ⟨_, hidle, rfl, hn.trans haon, fun b hb hm => hregs b (by simp [hb, hm])⟩

/-- The parts of the state that the controllers and the marks leave. -/
theorem pfDone_parts : s.pfDone.cont = s.pfRecorded.cont ∧ s.pfDone.chans = [] ∧ s.pfDone.ops = s.ops ∧ s.pfDone.sec = s.sec ∧
    s.pfDone.store = s.store ∧ s.pfDone.cfg = s.cfg := by
  obtain ⟨a, h, -⟩ := pfDone_frame (s := s)
  rw [h, (dpsFrame_allDpsOff (s := s.pfRecorded)).1]
  exact ⟨rfl, rfl, rfl, rfl, rfl, rfl⟩
theorem deviceState_pfDone : s.pfDone.deviceState = 5 := fld_setFld_same _ _ _ _ _ (by decide) (by decide)
theorem dpsState_pfDone {d : Nat} (hd : d < 64) : s.pfDone.dpsState d = s.pfRecorded.allDpsOff.dpsState d := by
  obtain ⟨a, -, -, -, hregs⟩ := pfDone_frame (s := s)
  have hp : DPS_STATUS d ≠ AON_PWR_STATUS := by unfold DPS_STATUS AON_PWR_STATUS; omega
  have hm : DPS_STATUS d ≠ MEM_STATUS := by unfold DPS_STATUS MEM_STATUS; omega
  exact fld_congr (hregs _ hp hm)
theorem reg_pfDone {b : Nat} (hd : ¬ (0x3200000 ≤ b ∧ b < 0x3400000)) (hp : b ≠ AON_PWR_STATUS) (hm : b ≠ MEM_STATUS) :
    s.pfDone.reg b = s.reg b := by
  obtain ⟨a, -, -, -, hregs⟩ := pfDone_frame (s := s)
  exact (hregs b hp hm).trans (dpsFrame_allDpsOff.2 b hd)

/-- The hub gives up nothing of the power-fail state in MRAM. -/
theorem pfGen_dropHub : s.dropHub.cont.pfGen = s.cont.pfGen := by
  unfold dropHub
  extract_lets u p v x y w
  have hu : u.cont = s.cont := by
    unfold u
    split
    · rw [leaveArmed, setBitAt_cont, setTb, setFld_cont]
    · rfl
  have hv : v.cont = s.cont := by
    unfold v p
    split
    · exact hu
    · exact hu
  show v.cont.pfGen = s.cont.pfGen
  rw [hv]
theorem coldState_pfGen : s.coldState.cont.pfGen = s.dropHub.cont.pfGen := rfl
theorem coldState_aon : s.coldState.aon = { s.dropHub.aon with resetting := 2, powerStep := 0, waking := [], after := [] } := rfl
theorem coldState_chans : s.coldState.chans = [] := rfl
/-- What the power status shows as a cold reset begins. -/
def coldShown (s : State) (cause : Nat) : State :=
  ((s.setFld AON_PWR_STATUS 2 0 0).setBitAt AON_PWR_STATUS 8 false).setFld AON_PWR_STATUS 19 16 cause
theorem coldShown_parts (cause : Nat) : (s.coldShown cause).cont = s.cont ∧ (s.coldShown cause).aon = s.aon ∧
    (s.coldShown cause).chans = s.chans := by
  unfold coldShown
  exact ⟨by rw [setFld_cont, setBitAt_cont, setFld_cont], by rw [setFld_aon, setBitAt_aon, setFld_aon],
    by rw [setFld_chans, setBitAt_chans, setFld_chans]⟩
theorem coldBegin_eq (cause : Nat) : s.coldBegin cause = s.dropPins.coldState.coldShown cause := rfl
theorem coldState_pfDone {a : Aon} (h : s.dropHub.aon = a) : s.coldState.aon.pfDone = a.pfDone := by
  rw [coldState_aon, h]
theorem pfDone_of_endFrame (h : s.EndFrame t) : t.aon.pfDone = s.aon.pfDone := by
  obtain ⟨e, -⟩ := h
  rw [e]
theorem dropPins_cont : s.dropPins.cont = s.cont := by rw [s.endFrame_dropPins.1]
/-- A cold reset keeps the generation in MRAM and the mark of the sequence. -/
theorem coldBegin_pf (cause : Nat) : (s.coldBegin cause).cont.pfGen = s.cont.pfGen ∧ (s.coldBegin cause).aon.pfDone = s.aon.pfDone ∧
    (s.coldBegin cause).chans = [] := by
  have hdone := (coldState_pfDone s.dropPins.dropHub_kept.2.1).trans (pfDone_of_endFrame s.endFrame_dropPins)
  obtain ⟨hcont, haon, hchans⟩ := coldShown_parts (s := s.dropPins.coldState) cause
  rw [coldBegin_eq, hcont, haon, hchans, coldState_pfGen, coldState_chans, pfGen_dropHub, dropPins_cont]
  exact ⟨rfl, hdone, rfl⟩
/-- The conditions under which a loss of power begins nothing (R127). -/
theorem exec_powerFailStart_none {pfN det : Bool} (h : s.aon.vddCore = false ∨ s.aon.vaon = false ∨ 3 < s.deviceState ∨ (pfN || det) = false) :
    exec (.powerFailStart pfN det) s = .next s := by
  refine congrArg Host.Outcome.next (if_pos ?_)
  rcases h with h | h | h | h <;> simp [h]

end Sys2Proof.Machine.State
end

section
/-! The power-fail sequence as a whole (R127 to R131, R136, R137). -/
namespace Sys2Proof.Machine.State
variable {s t : State}

/-- The sequence from its begin to the state in which the work has ended (R127, R129, R131). -/
theorem powerFailStart_spec (pfN det : Bool) : let t := (((s.pfBegun pfN det).pfHalted s.now).pfRecord s.now).endPf.pfPutAway
    (t.deviceState = 4 ∧ t.bitAt WKE_STATUS 3 = true ∧ t.lifetime 4 = min (s.lifetime 4 + 1) (2 ^ 64 - 1)) ∧
    (t.ops.map Op.asn = s.ops.map Op.asn ∧ t.heldRecs = s.heldRecs ∧ t.cfg.active = s.cfg.active ∧ t.jtag = s.jtag ∧
      s.sec.InForce t.sec) ∧
    withParity (eventRecord s.now 0x030C 0 (pfCauses pfN det)) ∈ t.evq.recs ∧
    (s.cont.slots.length = 2 → ∃ x ∈ t.cont.slots, x.order = s.cont.pfOrder + 1 ∧ x.valid = false ∧ x.gcc = s.now ∧
      x.owed.length = ((s.heldRecs ++ s.ops).filter (fun o => !o.lost)).length) := by
  obtain ⟨hstate, hwake, hlife⟩ := s.pfBegun_shows pfN det
  obtain ⟨hbegin, hslots, horder⟩ := beginFrame_pfBegun (s := s) pfN det
  have hlog := s.logged_pfBegun pfN det
  generalize s.pfBegun pfN det = b at hstate hwake hlife hbegin hslots horder hlog ⊢
  have hv : b.HaltKept false (b.pfHalted s.now) := haltKept_pfHalted
  rw [Logged, ← hv.evq rfl] at hlog
  generalize b.pfHalted s.now = v at hv hlog ⊢
  obtain ⟨hreg1, hwake1, hlife1, hops1, hheld1, hact1, hjtag1, hsec1⟩ := pfHalted_pfRecord hv s.now
  have hrec := slots_pfRecord (start := s.now) hv
  have hevq1 := (pfRecord_parts (s := v) (start := s.now)).2.2.2.2.2.2.1
  generalize v.pfRecord s.now = w at *
  obtain ⟨hreg2, hwake2, hlife2, hevq2, hops2, hheld2, hslots2, hact2, hjtag2, hsec2⟩ := pfPutAway_kept (s := w)
  intro t
  refine ⟨⟨(fld_congr (hreg2.trans hreg1)).trans hstate, hwake2.trans (hwake1.trans hwake), hlife2.trans (hlife1.trans hlife)⟩,
    ⟨hops2.trans (hops1.trans ?_), hheld2.trans (hheld1.trans ?_), hact2.trans (hact1.trans ?_), hjtag2.trans (hjtag1.trans ?_),
      inForce_trans ?_ (inForce_trans hsec1 hsec2)⟩, ?_, fun h => ?_⟩
  · rw [hbegin]
  · rw [hbegin]
  · rw [hbegin]
  · rw [hbegin]
  · rw [hbegin]
    exact inForce_refl _
  · rw [hevq2, hevq1]
    exact mem_discardSlot hlog
  · obtain ⟨x, hx, ho, hvalid, hg, howed⟩ := hrec (by rw [hslots, h])
    exact ⟨x, hslots2 ▸ hx, by rw [ho, horder], hvalid, hg, by rw [howed, hbegin]⟩

/-- The record that the sequence wrote counts. -/
def validSlot (n : Nat) (x : PfSlot) : PfSlot := if x.order == n then { x with valid := true } else x
theorem slots_pfRecorded : s.pfRecorded.cont.slots = s.cont.slots.map (validSlot s.cont.pfOrder) := rfl
theorem owed_validSlot (n : Nat) (x : PfSlot) : (validSlot n x).owed = x.owed := by
  unfold validSlot
  split <;> rfl
theorem order_validSlot (n : Nat) (x : PfSlot) : (validSlot n x).order = x.order := by
  unfold validSlot
  split <;> rfl
theorem valid_validSlot {n : Nat} {x : PfSlot} (h : x.order = n) : (validSlot n x).valid = true := by
  rw [validSlot, if_pos (beq_iff_eq.mpr h)]
/-- What the end of the pending swap and of a wake leaves. -/
theorem pfSettled_parts : s.pfSettled.ops = s.ops ∧ s.pfSettled.heldRecs = s.heldRecs ∧ s.pfSettled.evq = s.evq ∧
    s.pfSettled.cont = s.cont ∧ s.pfSettled.jtag = s.jtag ∧ s.pfSettled.sec = s.sec ∧ s.pfSettled.cfg.active = s.cfg.active ∧
    s.pfSettled.cfg.shadow = s.cfg.shadow ∧ s.pfSettled.cfg.swap = none ∧
    s.pfSettled.lifetime 4 = s.lifetime 4 ∧ ∀ a, s.pfSettled.reg a = s.reg a := ⟨rfl, rfl, rfl, rfl, rfl, rfl, rfl, rfl, rfl, rfl, fun _ => rfl⟩

end Sys2Proof.Machine.State

open Sys2Proof Sys2Proof.Machine

/-- Settles O22: what stands between the begin of the sequence and the idle device is kept by `State.HaltKept`, step for step. -/
theorem powerFailSequenceRuns : Obligations.PowerFailSequenceRuns := by
  unfold Obligations.PowerFailSequenceRuns
  refine ⟨fun pfN det s hcore hvaon hstate hcause => ?_, fun pfN det s h => State.exec_powerFailStart_none h, fun s h hn => ?_,
    fun s h hn => ?_, fun s h => congrArg Host.Outcome.next (if_pos h)⟩
  · have hexec := State.exec_powerFailStart (s := s) (pfN := pfN) (det := det) (by
      rw [hcore, hvaon, hcause, decide_eq_false (by omega)]
      rfl)
    have hspec := State.powerFailStart_spec (s := s) pfN det
    have hended := State.powerFailed_pfPutAway (s := ((s.pfBegun pfN det).pfHalted s.now).pfRecord s.now)
    have hshadow := State.pfPutAway_shadow (s := (((s.pfBegun pfN det).pfHalted s.now).pfRecord s.now).endPf)
    dsimp only at hspec
    generalize (((s.pfBegun pfN det).pfHalted s.now).pfRecord s.now).endPf.pfPutAway = t at hexec hspec hended hshadow
    obtain ⟨pops, pheld, pevq, pcont, pjtag, psec, pact, pshadow, pswap, plife, preg⟩ := State.pfSettled_parts (s := t)
    obtain ⟨⟨hstate', hwake, hlife⟩, ⟨hops, hheld, hact, hjtag, hsec⟩, hlog, hrec⟩ := hspec
    generalize t.pfSettled = v at hexec pops pheld pevq pcont pjtag psec pact pshadow pswap plife preg
    refine ⟨v, hexec, (State.fld_congr (preg _)).trans hstate', (State.bitAt_congr (preg _)).trans hwake, plife.trans hlife, ?_, ?_,
      pheld.trans hheld, ?_, ?_, pact.trans hact, pshadow.trans hshadow.1,
      (State.fld_congr (preg _)).trans hshadow.2, pswap, pjtag.trans hjtag, fun hw hf => ?_⟩
    · rwa [pops]
    · rwa [pops]
    · rwa [pevq]
    · rwa [pcont]
    · rw [psec]
      exact (hsec hw hf).2.2
  · obtain ⟨hcont, hchans, hops, hsec, hstore, hcfg⟩ := State.pfDone_parts (s := s)
    obtain ⟨a, heq, hdone, hreset, -⟩ := State.pfDone_frame (s := s)
    have haon : s.pfDone.aon = a := by rw [heq]
    have hexec := State.exec_pfSequenceEnd h
    rw [haon, hreset, hn, if_pos rfl] at hexec
    have hdps (d : Nat) (hd : d < 64) := State.dpsState_allDpsOff (s := s.pfRecorded) hd
    refine ⟨s.pfDone, hexec, State.deviceState_pfDone, haon ▸ hdone, ?_, ?_, ?_, State.chan_pinReset hchans, fun d hd => ?_, fun d hd => ?_,
      hops, hsec, hstore, hcfg, fun b hd hp hm => State.reg_pfDone hd hp hm⟩
    · rw [hcont]
      rfl
    · rw [hcont, State.slots_pfRecorded, List.map_map]
      exact List.map_congr_left fun x _ => State.owed_validSlot _ x
    · intro x hx ho
      rw [hcont, State.slots_pfRecorded] at hx
      obtain ⟨y, -, rfl⟩ := List.mem_map.mp hx
      exact State.valid_validSlot ((State.order_validSlot _ y).symm.trans ho)
    · rw [State.dpsState_pfDone hd]
      exact (hdps d hd).1
    · rw [State.dpsState_pfDone hd]
      exact (hdps d hd).2
  · obtain ⟨a, heq, hdone, hreset, -⟩ := State.pfDone_frame (s := s)
    have haon : s.pfDone.aon = a := by rw [heq]
    have hexec := State.exec_pfSequenceEnd h
    rw [haon, hreset, hn, if_neg Bool.false_ne_true] at hexec
    have hcont := (State.pfDone_parts (s := s)).1
    have hgen : s.pfDone.cont.pfGen = s.activeGen := by rw [hcont]; rfl
    have hdone' : s.pfDone.aon.pfDone = true := haon ▸ hdone
    generalize s.pfDone = u at hexec hgen hdone'
    rw [State.resetPin] at hexec
    generalize (if u.fld AON_PWR_STATUS 19 16 = 0 ∨ u.aon.pfDone then 0 else 2) = cause at hexec
    obtain ⟨hstate, -⟩ := u.coldBegin_status cause
    obtain ⟨hres, -, hact, -, hops, -⟩ := u.coldBegin_reset cause
    obtain ⟨hpf, hmark, hchans⟩ := State.coldBegin_pf (s := u) cause
    exact ⟨_, hexec, hstate, hres, hmark.trans hdone', hpf.trans hgen, hops, hact, State.chan_pinReset hchans⟩
end

section
/-! What a warm reset puts away beside (R492, R528 steps 3 to 5, R566): ports, the service port, the pins, and the operations that
have not started. -/

namespace Sys2Proof.Machine.State
variable {late : Bool} {s t : State}

/-! Ports (R492, R510, R517). -/

/-- From the discharge of the controllers on, events are logged. -/
theorem HaltKept.setEvq {q : Evq} (h : s.HaltKept true t) : s.HaltKept true { t with evq := q } :=
  h.trans ⟨rfl, rfl, rfl, nofun, rfl, inForce_refl _, rfl, rfl, rfl, rfl, rfl, fun _ _ => rfl⟩
theorem HaltKept.logEvent {code unit data} (h : s.HaltKept true t) : s.HaltKept true (t.logEvent code unit data) := by
  unfold State.logEvent
  extract_lets r u
  have hu : s.HaltKept true u := .ite (h.ltAdd (by decide)) h
  exact .ite hu.setEvq (hu.setEvq.addSat (haltReg_low (by decide)))
theorem HaltKept.settleRoute {e} (h : s.HaltKept true t) : s.HaltKept true (t.settleRoute e) := by
  unfold State.settleRoute
  extract_lets new old others n u1 u2
  have h1 : s.HaltKept true u1 := h.other
  have h2 : s.HaltKept true u2 := h1.event (haltReg_ports (by decide))
  refine .ite h ?_
  clear_value u2
  clear u1 n others h1
  clear_value old new
  rcases old with - | x <;> rcases new with - | y
  · exact h2
  · exact HaltKept.other h2.logEvent
  · exact h2.logEvent
  · exact h2
theorem HaltKept.lapsePort {p} (h : s.HaltKept true t) : s.HaltKept true (t.lapsePort p) :=
  HaltKept.forEach h.other fun _ _ _ h1 => h1.settleRoute
theorem HaltKept.leaveUp {p why} (h : s.HaltKept true t) : s.HaltKept true (t.leaveUp p why) := by
  have h1 : s.HaltKept true (t.event (APL_EVENTS p) 1) := h.event (haltReg_ports (by simp only [APL_EVENTS]; omega))
  have h2 : s.HaltKept true ((t.event (APL_EVENTS p) 1).setPort p { t.port p with skewed := false }).refreshSkew :=
    HaltKept.setBitAt h1.other (haltReg_low (by decide))
  exact HaltKept.lapsePort (.ite h2 h2.logEvent)
theorem HaltKept.setPort {p v} (h : s.HaltKept late t) : s.HaltKept late (t.setPort p v) := h.other
theorem HaltKept.setPortState {p v} (h : s.HaltKept late t) : s.HaltKept late (t.setPortState p v) :=
  (h.setReg (haltReg_ports (by simp only [APL_STATUS]; omega))).setPort
theorem HaltKept.freshLine {p} (h : s.HaltKept late t) : s.HaltKept late (t.freshLine p) := h.setPort
theorem HaltKept.sendCtrl {p bs} (h : s.HaltKept late t) : s.HaltKept late (t.sendCtrl p bs) := h.setPort
theorem HaltKept.startExchanges {p} (h : s.HaltKept late t) : s.HaltKept late (t.startExchanges p) :=
  HaltKept.sendCtrl h.setPort.other
/-- The flows of the mesh are gone. -/
theorem HaltKept.dropFlows {n} (h : s.HaltKept late t) : s.HaltKept late { t with net := n } := h.other
theorem HaltKept.warmPorts (h : s.HaltKept true t) : s.HaltKept true t.warmPorts := by
  refine h.dropFlows.forEach fun v p _ h1 => ?_
  have hleft : s.HaltKept true (if v.portUp p then v.leaveUp p 0 else v) := .ite h1.leaveUp h1
  exact .ite hleft.setPort.setPortState.freshLine.sendCtrl.startExchanges hleft.setPort

/-! The service port (R564, R566). -/

theorem HaltKept.settleRole (h : s.HaltKept late t) : s.HaltKept late t.settleRole :=
  .ite h (h.setBitAt (haltReg_svc (by decide)))
theorem HaltKept.settleGpio {n} (h : s.HaltKept late t) : s.HaltKept late (t.settleGpio n) :=
  .ite (.ite h h.other) h.other
theorem HaltKept.warmSvc (h : s.HaltKept late t) : s.HaltKept late t.warmSvc := by
  unfold State.warmSvc
  extract_lets x y u
  have hu : s.HaltKept late u := h.other
  exact (hu.setBitAt (haltReg_svc (by decide))).settleRole.forEach fun _ _ _ h1 => h1.settleGpio

/-! Pins and the verification of a configuration (R36, R183, R185). -/

theorem haltReg_ch {c o : Nat} (hc : c < 512) (ho : o < 0x80) : haltReg late (chBase c + o) :=
  haltReg_units (by unfold chBase clBase; omega)
theorem HaltKept.pmuLeaves {cs} (hcs : ∀ c ∈ cs, c < 512) (h : s.HaltKept late t) : s.HaltKept late (t.pmuLeaves cs) := by
  refine h.forEach fun u c hc h1 => ?_
  have hreg : haltReg late (CH_PMU_STATUS c) := haltReg_ch (hcs c (List.mem_filter.mp hc).1) (by decide)
  extract_lets v
  have hv : s.HaltKept late v := .ite ((h1.ltAdd (by omega)).setBitAt hreg) h1
  exact hv.other
theorem HaltKept.clearModes (h : s.HaltKept late t) : s.HaltKept late t.clearModes := by
  refine h.forEach fun u c hc h1 => ?_
  have hreg : haltReg late (CH_CFG c) := haltReg_ch (List.mem_range.mp hc) (by decide)
  extract_lets v
  have hv : s.HaltKept late v := .ite h1 (h1.setFld hreg)
  exact .ite hv hv.other
theorem HaltKept.dropPins (h : s.HaltKept late t) : s.HaltKept late t.dropPins := by
  unfold State.dropPins
  extract_lets u
  have hu : s.HaltKept late u := (h.pmuLeaves fun _ => List.mem_range.mp).clearModes
  exact hu.other
theorem HaltKept.endVerify {e n} (h : s.HaltKept late t) : s.HaltKept late (t.endVerify e n) := by
  unfold State.endVerify
  extract_lets u
  have hu : s.HaltKept late u := h.setReg (haltReg_low (by decide))
  exact (hu.setShadow.setBitAt (haltReg_low (by decide))).event (haltReg_low (by decide))

/-! What operations give up (R123, R326). -/

theorem HaltKept.flushPartial {w} (h : s.HaltKept late t) : s.HaltKept late (t.flushPartial w) := by
  unfold State.flushPartial
  extract_lets p
  have hp : s.HaltKept late p.2 := h.other
  exact .ite h (.ite (hp.addSat (haltReg_ports (by decide))) hp)
theorem HaltKept.producerEnds {o} (h : s.HaltKept late t) : s.HaltKept late (t.producerEnds o) := by
  unfold State.producerEnds
  extract_lets sites
  refine .ite h (h.mapOps fun p => ?_)
  split
  · split
    · split <;> rfl
    · split <;> rfl
  · rfl

end Sys2Proof.Machine.State
end

section
/-! The begin of a warm reset (R123, R528 steps 2 to 5): what becomes of the operations, the controllers and the pins. -/

namespace Sys2Proof.Machine.State
variable {late : Bool} {s t u : State}

/-! Operations (R123). -/

theorem warmOp_asn (o : Op) : (s.warmOp o).asn = o.asn := by
  unfold warmOp
  split
  · rfl
  · rfl
  · rfl
  · split <;> rfl
/-- No operation stays scheduled, and only loads and uploads go on. -/
theorem warmOp_phase (o : Op) : (s.warmOp o).phase ≠ .scheduled ∧
    ((s.warmOp o).phase = .running → (s.warmOp o).opcode = 2 ∨ (s.warmOp o).opcode = 0xB) := by
  unfold warmOp
  split
  · next h => exact ⟨by rw [h]; decide, fun hrun => absurd (h.symm.trans hrun) (by decide)⟩
  · exact ⟨nofun, nofun⟩
  · exact ⟨nofun, nofun⟩
  · next h =>
    split
    · next hop => exact ⟨fun hs => absurd (h.symm.trans hs) (by decide), fun _ => .inl hop⟩
    · next hop _ => exact ⟨fun hs => absurd (h.symm.trans hs) (by decide), fun _ => .inr hop⟩
    · exact ⟨nofun, nofun⟩
    · exact ⟨nofun, nofun⟩
/-- The operations take their places for the reset. -/
def warmed (s : State) : State := { s with ops := s.ops.map s.warmOp }
theorem HaltKept.cfg {c : Cfg} (h : s.HaltKept late t) (hc : c.active = t.cfg.active) : s.HaltKept late { t with cfg := c } :=
  h.hub (inForce_refl _) hc rfl rfl
/-- What is done before and after that keeps what a halt keeps. -/
theorem warmOps_spec : ∃ u, s.HaltKept false u ∧ u.warmed.HaltKept false s.warmOps := by
  unfold warmOps
  extract_lets u1 u2 u3 u4 old u5 u6
  have h1 : s.HaltKept false u1 := ((HaltKept.refl s).forEach fun _ _ _ h => h.haltAt).copyMarks
  have h2 : s.HaltKept false u2 := h1.forEach fun _ _ _ h => by
    split
    · exact h.flushPartial
    · exact h
  have h3 : s.HaltKept false u3 := h2.forEach fun _ _ _ h => by
    split
    · exact h.closeRun
    · exact h
  have h4 : s.HaltKept false u4 := h3.forEach fun _ _ _ h => h.other
  have h6 : u4.warmed.HaltKept false u6 := (HaltKept.refl u4.warmed).forEach fun _ _ _ h => h.producerEnds
  refine ⟨u4, h4, ?_⟩
  clear_value u6
  split
  · exact HaltKept.cfg h6.setShadow rfl
  · exact h6
theorem phase_of_core {o p : Op} (h : p.core = o.core) : p.phase = o.phase ∧ p.opcode = o.opcode :=
  ⟨show p.core.phase = o.core.phase by rw [h], show p.core.opcode = o.core.opcode by rw [h]⟩
/-- The operations of a state that comes from the warmed one. -/
theorem ops_of_warmed (h : t.ops.map Op.core = u.warmed.ops.map Op.core) :
    (∀ o ∈ t.ops, o.phase = .running → o.opcode = 2 ∨ o.opcode = 0xB) ∧
    (∀ o ∈ t.ops, o.phase ≠ .scheduled) ∧ t.ops.map Op.asn = u.ops.map Op.asn := by
  have hcore {o : Op} (ho : o ∈ t.ops) : ∃ p, (u.warmOp p).core = o.core := by
    have hmem : o.core ∈ t.ops.map Op.core := List.mem_map_of_mem ho
    rw [h] at hmem
    obtain ⟨q, hq, heq⟩ := List.mem_map.mp hmem
    obtain ⟨p, -, rfl⟩ := List.mem_map.mp hq
    exact ⟨p, heq⟩
  refine ⟨fun o ho hrun => ?_, fun o ho hsched => ?_, ?_⟩
  · obtain ⟨p, heq⟩ := hcore ho
    obtain ⟨hphase, hop⟩ := phase_of_core heq
    rw [← hop]
    exact (u.warmOp_phase p).2 (hphase.trans hrun)
  · obtain ⟨p, heq⟩ := hcore ho
    exact (u.warmOp_phase p).1 ((phase_of_core heq).1.trans hsched)
  · rw [map_asn_of_core h, warmed, List.map_map]
    exact List.map_congr_left fun o _ => u.warmOp_asn o

/-! Controllers (R390). -/

/-- A step for each entry of a list, which no later step undoes. -/
theorem forEach_all {α : Type} {P : α → State → Prop} {f : State → α → State} (hstep : ∀ u x, P x (f u x))
    (hkeep : ∀ u x y, P y u → P y (f u x)) (l : List α) (s : State) : ∀ x ∈ l, P x (s.forEach l f) := by
  induction l generalizing s with
  | nil => exact nofun
  | cons y l ih =>
    rintro x (_ | ⟨_, hx⟩)
    · exact forEach_keeps (P y) l f (fun u z _ hu => hkeep u z y hu) _ (hstep s y)
    · exact ih _ x hx
/-- A controller neither ramps up nor regulates. -/
def Discharged (d : Nat) (s : State) : Prop := s.dpsState d ≠ 1 ∧ s.dpsState d ≠ 2
/-- A controller begins to discharge. -/
def dischargeFast (s : State) (d : Nat) : State := ((s.setReg (DPS_SETPOINT d) 0).setDpsState d 3).startMotion d 0 0 true
theorem dpsState_dischargeFast (d e : Nat) : (s.dischargeFast d).dpsState e = if e = d then 3 else s.dpsState e := by
  have hset : (s.setReg (DPS_SETPOINT d) 0).dpsState e = s.dpsState e := dpsState_setReg (by simp only [DPS_SETPOINT, DPS_STATUS]; omega)
  rw [dischargeFast, startMotion, dpsState_setCtl, dpsState_setDpsState _ _ _ (by decide), hset]
theorem discharge_eq (d : Nat) : s.discharge d 0 true = if s.dpsState d = 1 ∨ s.dpsState d = 2 ∨ (s.dpsState d = 3 ∧ true) then
    (if ((s.dischargeFast d).ctl d).ref = 0 then (s.dischargeFast d).dpsOff d else s.dischargeFast d) else s := rfl
theorem discharged_discharge {d e : Nat} (h : e = d ∨ s.Discharged e) : (s.discharge d 0 true).Discharged e := by
  have hfast : (s.dischargeFast d).Discharged e := by
    rw [Discharged, dpsState_dischargeFast]
    split
    · decide
    · next he => exact h.resolve_left he
  rw [discharge_eq]
  split
  · split
    · rw [Discharged, dpsState_dpsOff]
      split
      · decide
      · exact hfast
    · exact hfast
  · next hon =>
    rcases h with rfl | h
    · exact ⟨fun h1 => hon (.inl h1), fun h2 => hon (.inr (.inl h2))⟩
    · exact h
theorem discharged_dischargeAll {d : Nat} (hd : d < 64) : s.dischargeAll.Discharged d :=
  forEach_all (P := fun d s => s.Discharged d) (fun _ _ => discharged_discharge (.inl rfl)) (fun _ _ _ h => discharged_discharge (.inr h))
    _ s d (List.mem_range.mpr hd)

/-! Channels (R183). -/

theorem chans_setTrg (x : Trg) : ({ s with trg := x } : State).chans = s.chans := rfl
theorem chans_setFnts (x : Map Fnt) : ({ s with fnts := x } : State).chans = s.chans := rfl
theorem chans_dropClusters : s.dropClusters.chans = s.chans := by
  unfold dropClusters
  extract_lets u v
  have hu : u.chans = s.chans := forEach_same State.chans _ _ (fun t k _ => by
    rw [setBitAt_chans, setBitAt_chans, setFld_chans, setClu_chans]) s
  have hv : v.chans = u.chans := forEach_same State.chans _ _ (fun t q _ => by rw [setReg_chans, setBitAt_chans]) u
  exact (chans_setTrg _).trans (hv.trans hu)
theorem chans_dropFountains : s.dropFountains.chans = s.chans := by
  unfold dropFountains
  extract_lets u
  have hu : u.chans = s.chans := forEach_same State.chans _ _ (fun t f _ => by rw [setBitAt_chans, setBitAt_chans]) s
  exact (chans_setFnts _).trans hu
theorem chans_calDrop (u : Nat) : (s.calDrop u).chans = s.chans := by
  unfold calDrop
  extract_lets x v
  have hv : v.chans = s.chans := setCal_chans ..
  clear_value v x
  split
  · rfl
  · split
    · exact hv
    · exact hv
theorem chans_dropMaint : s.dropMaint.chans = s.chans := by
  unfold dropMaint
  extract_lets u
  have hu : u.chans = s.chans := forEach_same State.chans _ _ (fun t k _ => chans_calDrop k) s
  clear_value u
  exact hu
theorem chans_leaveArmed (n : Nat) : (s.leaveArmed n).chans = s.chans := by
  rw [leaveArmed, setBitAt_chans, setTb, setFld_chans]
theorem chans_dropHub : s.dropHub.chans = s.chans := by
  unfold dropHub
  extract_lets u p v x y w
  have hu : u.chans = s.chans := by
    unfold u
    split
    · exact chans_leaveArmed _
    · rfl
  have hv : v.chans = u.chans := by
    unfold v p
    split
    · rfl
    · rfl
  exact hv.trans hu
/-- A verification under way ends with ABORTED (R36). -/
def dropVerify (s : State) : State := if s.shadowState = 1 then s.endVerify (0x0E, 0, 0) 3 else s
theorem HaltKept.dropVerify (h : s.HaltKept late t) : s.HaltKept late t.dropVerify := .ite h.endVerify h
theorem chans_dropVerify : s.dropVerify.chans = s.chans := by
  unfold dropVerify endVerify
  split
  · rw [event_chans, setBitAt_chans, setShadow, setReg_chans, setReg_chans]
  · rfl

/-! The begin as a whole. -/

/-- The units are put away while the controllers discharge. -/
def warmPutAway (s : State) : State :=
  (s.allAnTo 0).allLanesOff.warmPorts.warmSvc.dropFeeders.dropPins.dropClusters.dropFountains.dropVerify.dropMaint.dropHub
theorem haltKept_warmPutAway : s.HaltKept true s.warmPutAway :=
  (HaltKept.refl s).allAnTo.allLanesOff.warmPorts.warmSvc.dropFeeders.dropPins.dropClusters.dropFountains.dropVerify.dropMaint.dropHub
theorem chans_warmPutAway : s.warmPutAway.chans = [] := by
  rw [warmPutAway, chans_dropHub, chans_dropMaint, chans_dropVerify, chans_dropFountains, chans_dropClusters]
  rfl
/-- The reset waits for its end. -/
def awaitEnd (s : State) : State :=
  { s with aon := { s.aon with resetting := 3, waking := [], after := [] }, cont := { s.cont with hubFaultAt := none } }
theorem awaitEnd_parts : s.awaitEnd.aon.resetting = 3 ∧ s.awaitEnd.chans = s.chans ∧ s.awaitEnd.ops = s.ops ∧
    s.awaitEnd.cfg = s.cfg ∧ s.awaitEnd.sec = s.sec ∧ s.awaitEnd.kept = s.kept ∧ s.awaitEnd.heldRecs = s.heldRecs ∧
    ∀ a, s.awaitEnd.reg a = s.reg a :=
  ⟨rfl, rfl, rfl, rfl, rfl, rfl, rfl, fun _ => rfl⟩
/-- The device shows that it waits. -/
def warmWaits (s : State) : State := (s.setBitAt AON_PWR_STATUS 8 true).awaitEnd
theorem exec_warmResetStart (h : s.aon.resetting = 1) :
    exec .warmResetStart s = .next s.warmOps.dropRoutines.dischargeAll.warmPutAway.warmWaits := by
  show execWarmResetStart s = _
  unfold execWarmResetStart
  rw [if_neg (by rw [h]; decide)]
  extract_lets +onlyGivenNames u1 u2 u3
  have h1 : (s.warmOps.dropRoutines.dischargeAll.allAnTo 0).allLanesOff = u1 := rfl
  clear_value u1
  have h2 : u1.warmPorts.warmSvc.dropFeeders.dropPins.dropClusters.dropFountains = u2 := rfl
  clear_value u2
  have h3 : u2.dropVerify = u3 := rfl
  clear_value u3
  rw [warmPutAway, h1, h2, h3]
  rfl
theorem warmWaits_parts : s.warmWaits.aon.resetting = 3 ∧ s.warmWaits.chans = s.chans ∧ s.warmWaits.ops = s.ops ∧
    s.warmWaits.cfg = s.cfg ∧ s.warmWaits.sec = s.sec ∧ s.warmWaits.kept = s.kept ∧ s.warmWaits.heldRecs = s.heldRecs := by
  obtain ⟨hres, hchans, hops, hcfg, hsec, hkept, hheld, -⟩ := awaitEnd_parts (s := s.setBitAt AON_PWR_STATUS 8 true)
  exact ⟨hres, hchans.trans (setBitAt_chans ..), hops.trans (setBitAt_ops ..), hcfg.trans (setBitAt_cfg ..), hsec.trans (setBitAt_sec ..),
    hkept.trans (setBitAt_kept ..), hheld.trans (setBitAt_heldRecs ..)⟩
theorem reg_warmWaits {a : Nat} (ha : a ≠ AON_PWR_STATUS) : s.warmWaits.reg a = s.reg a :=
  (awaitEnd_parts.2.2.2.2.2.2.2 a).trans (reg_setBitAt_ne _ _ _ ha)
theorem bitAt_warmWaits : s.warmWaits.bitAt AON_PWR_STATUS 8 = true :=
  (bitAt_congr (awaitEnd_parts.2.2.2.2.2.2.2 _)).trans ((bitAt_setBitAt _ _ _ _ _ _ (by decide)).trans (if_pos ⟨rfl, rfl⟩))

/-- What stands when the reset waits for its end. -/
theorem warmResetStart_spec (h : s.aon.resetting = 1) : ∃ u v w t, exec .warmResetStart s = .next t ∧ s.HaltKept false u ∧
    u.warmed.HaltKept false v ∧ (∀ d, d < 64 → v.Discharged d) ∧ v.HaltKept true w ∧ w.chans = [] ∧ t = w.warmWaits := by
  obtain ⟨u, hu, hv⟩ := warmOps_spec (s := s)
  exact ⟨u, _, _, _, exec_warmResetStart h, hu, hv.dropRoutines.dischargeAll, fun d hd => discharged_dischargeAll hd,
    haltKept_warmPutAway, chans_warmPutAway, rfl⟩

end Sys2Proof.Machine.State
end

section
/-! What the end of a warm reset leaves alone while it checks the memories and the units again (R529, R532): the store, the keys, the
active set, the time base, and the registers of the always-on block, of the controllers and of the two self-check results. -/

namespace Sys2Proof.Machine

/-- A register that the checks leave; `mem` says whether their results stay too. -/
def checkReg (mem : Bool) (a : Nat) : Prop :=
  0x40000 ≤ a ∧ a < 0x50000 ∨ 0x3200000 ≤ a ∧ a < 0x3210000 ∨ (mem = true ∧ (a = MEM_CONT_STATUS ∨ a = MEM_ISLAND_FENCED))

/-- What the checks keep, as a relation of the state before and after, when nothing is in flight. An island once without a
generation stays without one. -/
structure State.CheckKept (mem : Bool) (s t : State) : Prop where
  ops : s.ops = [] → t.ops = []
  sec : t.sec = s.sec
  store : t.store = s.store
  tb : t.tb = s.tb
  active : t.cfg.active = s.cfg.active
  gens : ∀ i, s.genOf i = 0 → t.genOf i = 0
  resetting : t.aon.resetting = s.aon.resetting
  regs : ∀ a, checkReg mem a → t.reg a = s.reg a

theorem checkReg_aon {mem : Bool} {a : Nat} (h : 0x40000 ≤ a ∧ a < 0x50000) : checkReg mem a := .inl h
theorem checkReg_dps {mem : Bool} {d : Nat} (hd : d < 64) : checkReg mem (DPS_STATUS d) := .inr (.inl (by simp only [DPS_STATUS]; omega))
theorem not_checkReg_low {mem : Bool} {a : Nat} (h : a < 0x40000) : ¬ checkReg mem a := by
  simp only [checkReg, MEM_CONT_STATUS, MEM_ISLAND_FENCED]
  omega
theorem not_checkReg_units {mem : Bool} {a : Nat} (h : 0x50000 ≤ a ∧ a < 0x3200000) : ¬ checkReg mem a := by
  simp only [checkReg, MEM_CONT_STATUS, MEM_ISLAND_FENCED]
  omega

namespace State
variable {mem : Bool} {s t u : State}

theorem CheckKept.refl (s : State) : s.CheckKept mem s := ⟨id, rfl, rfl, rfl, rfl, fun _ => id, rfl, fun _ _ => rfl⟩
theorem CheckKept.trans (h : s.CheckKept mem t) (h' : t.CheckKept mem u) : s.CheckKept mem u where
  ops := fun ho => h'.ops (h.ops ho)
  sec := h'.sec.trans h.sec
  store := h'.store.trans h.store
  tb := h'.tb.trans h.tb
  active := h'.active.trans h.active
  gens := fun i hi => h'.gens i (h.gens i hi)
  resetting := h'.resetting.trans h.resetting
  regs := fun a ha => (h'.regs a ha).trans (h.regs a ha)
/-- The results may change besides. -/
theorem CheckKept.weaken (h : s.CheckKept true t) : s.CheckKept mem t :=
  ⟨h.ops, h.sec, h.store, h.tb, h.active, h.gens, h.resetting, fun a ha => h.regs a (by
    rcases ha with ha | ha | ⟨-, ha⟩
    · exact .inl ha
    · exact .inr (.inl ha)
    · exact .inr (.inr ⟨rfl, ha⟩))⟩
/-- An update of other parts of the state. -/
theorem CheckKept.other {live poison hold rdata flagged kept heldRecs served chans clus fnts segs trg basinGaps anas relocks dpss gov
    msqs cals mnt ports net cont svc jtag evq free pending} (h : s.CheckKept mem t) :
    s.CheckKept mem ⟨t.regs, live, t.store, poison, hold, rdata, flagged, t.tb, t.cfg, t.ops, kept, heldRecs, served, chans,
    clus, fnts, segs, trg, basinGaps, anas, relocks, dpss, gov, msqs, cals, mnt, ports, net, cont, t.aon, t.sec, svc, jtag, evq,
    free, pending⟩ :=
  h.trans ⟨id, rfl, rfl, rfl, rfl, fun _ => id, rfl, fun _ _ => rfl⟩
theorem CheckKept.ite {c : Prop} {_ : Decidable c} (ht : s.CheckKept mem t) (hu : s.CheckKept mem u) : s.CheckKept mem (if c then t else u) := by
  split <;> assumption
theorem CheckKept.forEach {α : Type} {l : List α} {f : State → α → State} (h : s.CheckKept mem t)
    (hf : ∀ u, ∀ x ∈ l, s.CheckKept mem u → s.CheckKept mem (f u x)) : s.CheckKept mem (t.forEach l f) :=
  State.forEach_keeps _ l f hf t h
theorem CheckKept.setReg {a : Nat} {v : Word} (h : s.CheckKept mem t) (ha : ¬ checkReg mem a) : s.CheckKept mem (t.setReg a v) :=
  h.trans ⟨id, rfl, rfl, rfl, rfl, fun _ => id, rfl, fun _ hb => t.reg_setReg_ne v (fun e => ha (e ▸ hb))⟩
theorem CheckKept.setFld {a hi lo v : Nat} (h : s.CheckKept mem t) (ha : ¬ checkReg mem a) : s.CheckKept mem (t.setFld a hi lo v) := h.setReg ha
theorem CheckKept.setBitAt {a i : Nat} {b : Bool} (h : s.CheckKept mem t) (ha : ¬ checkReg mem a) : s.CheckKept mem (t.setBitAt a i b) := h.setReg ha
theorem CheckKept.event {a i : Nat} (h : s.CheckKept mem t) (ha : ¬ checkReg mem a) : s.CheckKept mem (t.event a i) := h.setReg ha
theorem CheckKept.addSat {a n : Nat} (h : s.CheckKept mem t) (ha : ¬ checkReg mem a) : s.CheckKept mem (t.addSat a n) := h.setReg ha
theorem CheckKept.setReg64 {lo hi v : Nat} (h : s.CheckKept mem t) (hlo : ¬ checkReg mem lo) (hhi : ¬ checkReg mem hi) :
    s.CheckKept mem (t.setReg64 lo hi v) := (h.setReg hlo).setReg hhi
theorem CheckKept.ltAdd {i n : Nat} (h : s.CheckKept mem t) : s.CheckKept mem (t.ltAdd i n) :=
  h.trans ⟨id, rfl, rfl, rfl, rfl, fun _ => id, rfl, fun _ _ => rfl⟩
theorem CheckKept.logEvent {code unit data} (h : s.CheckKept mem t) : s.CheckKept mem (t.logEvent code unit data) := by
  unfold State.logEvent
  extract_lets r u
  have hu : s.CheckKept mem u := .ite h.ltAdd h
  exact .ite hu.other (hu.other.addSat (not_checkReg_low (by decide)))
theorem CheckKept.resetWords {a n : Nat} (h : s.CheckKept mem t) (ha : ∀ b, a ≤ b → b < a + 4 * n → ¬ checkReg mem b) :
    s.CheckKept mem (t.resetWords a n) := by
  refine h.trans ⟨id, rfl, rfl, rfl, rfl, fun _ => id, rfl, fun b hb => ?_⟩
  have hout : decide (b < a) || decide (a + 4 * n ≤ b) := by
    simp only [Bool.or_eq_true, decide_eq_true_eq]
    by_contra hin
    exact ha b (by omega) (by omega) hb
  have hget := Map.get_filter regDefault t.regs _ (fun b => decide (b < a) || decide (a + 4 * n ≤ b)) (fun _ => rfl) b
  exact hget.trans (if_pos hout)
/-- What the end of an operation may change is nothing of it. -/
theorem EndFrame.checkKept (h : s.EndFrame t) (hops : s.ops = [] → t.ops = []) : s.CheckKept mem t := by
  obtain ⟨e, hregs⟩ := h
  have hend (a : Nat) (ha : checkReg mem a) : endReg a = false := by
    simp only [checkReg, MEM_CONT_STATUS, MEM_ISLAND_FENCED] at ha
    simp only [endReg, NRG_DENIED, NRG_EVENTS]
    grind
  refine ⟨hops, ?_, ?_, ?_, ?_, fun i hi => ?_, ?_, fun a ha => hregs a (hend a ha)⟩
  · rw [e]
  · rw [e]
  · rw [e]
  · rw [e]
  · rwa [genOf, e]
  · rw [e]

/-! The steps (R59, R141, R183, R475, R566). -/

theorem CheckKept.setCal {k v} (h : s.CheckKept mem t) : s.CheckKept mem (t.setCal k v) := h.other
theorem CheckKept.clearModes (h : s.CheckKept mem t) : s.CheckKept mem t.clearModes :=
  h.trans (EndFrame.checkKept t.endFrame_clearModes fun ho => by
    have hcore := ((HaltKept.refl (late := true) t).clearModes).ops
    rw [ho] at hcore
    exact List.map_eq_nil_iff.mp hcore)
theorem CheckKept.settleTe {k} (h : s.CheckKept mem t) (hk : k < 16) : s.CheckKept mem (t.settleTe k) := by
  obtain ⟨hframe, hops, -⟩ := t.commitFrame_settleTe hk
  exact h.trans (EndFrame.checkKept hframe hops.trans)
theorem CheckKept.syncReset {k} (h : s.CheckKept mem t) (hk : k < 16) : s.CheckKept mem (t.syncReset k) := by
  obtain ⟨hframe, hops, -⟩ := t.commitFrame_syncReset hk
  exact h.trans (EndFrame.checkKept hframe hops.trans)
theorem CheckKept.parkAn {n} (h : s.CheckKept mem t) (hn : n < 16) : s.CheckKept mem (t.parkAn n) := by
  obtain ⟨hframe, hops⟩ := t.anaFrame_parkAn hn
  exact h.trans (EndFrame.checkKept hframe hops.trans)
theorem CheckKept.pmuLeaves {cs} (h : s.CheckKept mem t) (hcs : ∀ c ∈ cs, c < 512) : s.CheckKept mem (t.pmuLeaves cs) :=
  h.trans (EndFrame.checkKept (t.endFrame_pmuLeaves cs hcs) ((HubKept.refl (w := false) t).pmuLeaves.ops).trans)
theorem CheckKept.settleGpio {n} (h : s.CheckKept mem t) : s.CheckKept mem (t.settleGpio n) := .ite (.ite h h.other) h.other
theorem CheckKept.loseRingItems {i} (h : s.CheckKept mem t) : s.CheckKept mem (t.loseRingItems i) := by
  refine .ite h (h.trans ⟨fun ho => ?_, rfl, rfl, rfl, rfl, fun _ => id, rfl, fun _ _ => rfl⟩)
  exact List.map_eq_nil_iff.mpr ho
theorem CheckKept.calLoad {k} (h : s.CheckKept mem t) (hk : k < 26) : s.CheckKept mem (t.calLoad k) := by
  have hr (o : Nat) (ho : 0x60000 ≤ o ∧ o < 0x61000) : ¬ checkReg mem (o + k * 32) := not_checkReg_units (by omega)
  have hvalid : ¬ checkReg mem MNT_CAL_VALID := not_checkReg_units (by decide)
  have hdue : ¬ checkReg mem MNT_CAL_DUE := not_checkReg_units (by decide)
  unfold State.calLoad
  extract_lets _ u1
  have h1 : s.CheckKept mem u1 := h.forEach fun _ _ _ h1 => (h1.event (not_checkReg_units (by decide))).logEvent
  split
  · exact (h1.setCal.setBitAt hvalid).setBitAt hdue
  · exact ((((h1.setCal.setReg (hr _ (by decide))).setReg (hr _ (by decide))).setReg64 (hr _ (by decide))
      (hr _ (by decide))).setBitAt hvalid).setFld (hr _ (by decide))
theorem CheckKept.calSettle {k} (h : s.CheckKept mem t) (hk : k < 26) : s.CheckKept mem (t.calSettle k) := .ite (h.setCal.calLoad hk) h
/-- With nothing in flight the loss of a cluster stops nothing (R141). -/
theorem CheckKept.loseCluster {k} (hk : k < 16) (ho : s.ops = []) (h : s.CheckKept mem t) : s.CheckKept mem (t.loseCluster k) := by
  have hcs : ∀ c ∈ (List.range 32).map (fun j => 32 * k + j), c < 512 := by
    intro c hc
    obtain ⟨j, hj, rfl⟩ := List.mem_map.mp hc
    have := List.mem_range.mp hj
    omega
  have hit : t.needing 6 k = [] := by rw [needing, h.ops ho, List.filter_nil]
  have hmark : s.CheckKept mem (t.markFaulted 6 k).1 := by
    unfold State.markFaulted
    rw [hit]
    have hleft : s.CheckKept mem (t.pmuLeaves ((List.range 32).map fun j => 32 * k + j)) := h.pmuLeaves hcs
    exact .ite hleft.other.setCal hleft.other
  exact .ite h hmark.logEvent

/-! The loss of an island (R59, R529). -/

/-- The island holds no generation. -/
def forgetIsland (s : State) (i : Nat) (l : List Nat) : State :=
  { s.setGen i 0 with cfg := { (s.setGen i 0).cfg with leftGen := Map.set natDefault (s.setGen i 0).cfg.leftGen i 0, lostRetention := l } }
theorem genOf_forgetIsland (i j : Nat) (l : List Nat) : (s.forgetIsland i l).genOf j = if j = i then 0 else s.genOf j := genOf_setGen 0 j
theorem CheckKept.forgetIsland {i l} (h : s.CheckKept mem t) : s.CheckKept mem (t.forgetIsland i l) := by
  refine h.trans ⟨id, rfl, rfl, rfl, rfl, fun j hj => ?_, rfl, fun _ _ => rfl⟩
  rw [genOf_forgetIsland, hj, ite_self]
/-- A cluster takes its reset values. -/
def wipeCluster (s : State) (i : Nat) : State :=
  { (s.resetWords (clBase i) 262144).setClu i default with
    chans := ((s.resetWords (clBase i) 262144).setClu i default).chans.filter (fun e => e.1 / 32 != i) }
theorem CheckKept.wipeCluster {i} (hi : i < 16) (h : s.CheckKept mem t) : s.CheckKept mem (t.wipeCluster i) := by
  have hw : s.CheckKept mem (t.resetWords (clBase i) 262144) := h.resetWords fun b hb hlt =>
    not_checkReg_units (by unfold clBase at hb hlt; omega)
  exact hw.other
theorem loseIsland_eq (i : Nat) :
    ∃ l, s.loseIsland i = if 16 ≤ i then s.forgetIsland i l else (s.forgetIsland i l).wipeCluster i := ⟨_, rfl⟩
theorem genOf_wipeCluster (i j : Nat) : (s.wipeCluster i).genOf j = s.genOf j := rfl
theorem genOf_loseIsland (i : Nat) : (s.loseIsland i).genOf i = 0 := by
  obtain ⟨l, h⟩ := loseIsland_eq (s := s) i
  have hg : (s.forgetIsland i l).genOf i = 0 := (genOf_forgetIsland i i l).trans (if_pos rfl)
  rw [h]
  split
  · exact hg
  · rw [genOf_wipeCluster, hg]
theorem CheckKept.loseIsland {i} (h : s.CheckKept mem t) : s.CheckKept mem (t.loseIsland i) := by
  obtain ⟨l, heq⟩ := loseIsland_eq (s := t) i
  rw [heq]
  split
  · exact h.forgetIsland
  · exact h.forgetIsland.wipeCluster (by omega)

end State
end Sys2Proof.Machine
end

section
/-! The end of a warm reset (R528 step 6, R529, R532, R141): the islands come back, what has lost retention is stale, the engines and
the control copies check themselves, and the device is ACTIVE. -/

namespace Sys2Proof.Machine

/-- The bits of a mask. -/
theorem maskOf_succ (n : Nat) (f : Nat → Bool) : maskOf (n + 1) f = if f n then maskOf n f + 2 ^ n else maskOf n f := by
  rw [maskOf, List.range_succ, List.foldl_append]
  rfl
theorem maskOf_lt (n : Nat) (f : Nat → Bool) : maskOf n f < 2 ^ n := by
  induction n with
  | zero => exact Nat.one_pos
  | succ n ih =>
    rw [maskOf_succ, pow_succ]
    split <;> omega
theorem testBit_maskOf (n i : Nat) (f : Nat → Bool) (hi : i < n) : (maskOf n f).testBit i = f i := by
  induction n with
  | zero => omega
  | succ n ih =>
    rw [maskOf_succ]
    rcases Nat.lt_succ_iff_lt_or_eq.mp hi with h | rfl
    · split
      · rw [Nat.add_comm, Nat.testBit_two_pow_add_gt h, ih h]
      · exact ih h
    · have hlt : (maskOf i f).testBit i = false := Nat.testBit_lt_two_pow (maskOf_lt i f)
      split
      · next hf => rw [Nat.add_comm, Nat.testBit_two_pow_add_eq, hlt, hf]; rfl
      · next hf => rw [hlt]; simpa using hf

namespace State
variable {mem : Bool} {s t u : State}

/-! The islands and the units come back. -/

/-- Every island is ON. -/
def islandsOn (s : State) : State := (s.setReg AON_ISL_MODE0 0).setReg AON_ISL_MODE1 0
def commitsSettled (s : State) : State := s.clearModes.forEach (List.range 16) settleTe
def islandsLost (s : State) (gone : List Nat) : State := s.forEach gone (fun s i => (s.loseRingItems i).loseIsland i)
def outputsParked (s : State) : State := s.forEach ((List.range 16).filter (fun a => s.anState a == 0)) parkAn
def calsSettled (s : State) : State := s.forEach (List.range 18) calSettle
/-- The islands whose memories fail, or that had lost retention while they were off. -/
def goneIslands (s : State) (upsets : List (Nat × Nat × Nat)) : List Nat :=
  (List.range 26).filter (fun i => !retentionHolds ((upsets.filter (fun x => x.1 == i)).map Prod.snd) ||
    (s.islandMode i != 0 && s.cfg.lostRetention.contains i))
/-- The units as they are at the self-checks. -/
def unitsBack (s : State) (gone : List Nat) : State := (s.commitsSettled.islandsLost gone).outputsParked.calsSettled

theorem CheckKept.islandsLost {gone} (h : s.CheckKept mem t) : s.CheckKept mem (t.islandsLost gone) :=
  h.forEach fun _ _ _ h1 => h1.loseRingItems.loseIsland
theorem CheckKept.backToWork (h : s.CheckKept mem t) : s.CheckKept mem t.outputsParked.calsSettled := by
  have hpark : s.CheckKept mem t.outputsParked := h.forEach fun _ _ hn h1 => h1.parkAn (List.mem_range.mp (List.mem_filter.mp hn).1)
  refine hpark.forEach fun _ k hk h1 => h1.calSettle ?_
  have := List.mem_range.mp hk
  omega
theorem checkKept_unitsBack (gone : List Nat) : s.CheckKept mem (s.unitsBack gone) := by
  have h : s.CheckKept mem s.commitsSettled := (CheckKept.refl s).clearModes.forEach fun _ _ hk h1 => h1.settleTe (List.mem_range.mp hk)
  exact h.islandsLost.backToWork
/-- An island that is lost holds no generation. -/
theorem genOf_unitsBack {gone : List Nat} {i : Nat} (hi : i ∈ gone) : (s.unitsBack gone).genOf i = 0 := by
  have hlost : (s.commitsSettled.islandsLost gone).genOf i = 0 :=
    forEach_all (P := fun i u => u.genOf i = 0) (fun _ _ => genOf_loseIsland _)
      (fun u x y hy => ((CheckKept.refl (mem := true) u).loseRingItems (i := x)).loseIsland.gens y hy) gone s.commitsSettled i hi
  exact ((CheckKept.refl (mem := true) (s.commitsSettled.islandsLost gone)).backToWork).gens i hlost
theorem mem_goneIslands {upsets : List (Nat × Nat × Nat)} {i : Nat} (hi : i < 26)
    (h : retentionHolds ((upsets.filter (fun x => x.1 == i)).map Prod.snd) = false) : i ∈ s.goneIslands upsets :=
  List.mem_filter.mpr ⟨List.mem_range.mpr hi, by rw [h]; rfl⟩
theorem reg_islandsOn {a : Nat} (h0 : a ≠ AON_ISL_MODE0) (h1 : a ≠ AON_ISL_MODE1) : s.islandsOn.reg a = s.reg a := by
  rw [islandsOn, reg_setReg_ne _ _ h1, reg_setReg_ne _ _ h0]
theorem modes_islandsOn : s.islandsOn.reg AON_ISL_MODE0 = 0 ∧ s.islandsOn.reg AON_ISL_MODE1 = 0 := by
  rw [islandsOn, reg_setReg_ne _ _ (by decide), reg_setReg_same, reg_setReg_same]
  exact ⟨rfl, rfl⟩
theorem islandMode_of_zero (h0 : s.reg AON_ISL_MODE0 = 0) (h1 : s.reg AON_ISL_MODE1 = 0) (i : Nat) : s.islandMode i = 0 := by
  rw [islandMode, fld, fld, h0, h1]
  simp [Word.field]

/-! The self-checks (R141). -/

/-- What the engines' self-checks show. -/
def deResult (d : Nat) : Nat := d % 4 + (if d % 4 = 1 ∨ d % 4 = 2 then 4 else 0)
def copiesFenced (s : State) (l : List (Nat × Nat)) : State := { s with cont := { s.cont with fencedCopies := l } }
/-- The registers take the results. -/
def resultsShown (s : State) (d c : Nat) : State :=
  (s.setFld MEM_CONT_STATUS 3 0 (deResult d)).setReg MEM_ISLAND_FENCED (BitVec.ofNat 32 (maskOf 16 (fun k => c / 4 ^ k % 4 != 0)))
/-- Clusters both of whose control copies fail. -/
def lostClusters (c : Nat) : List Nat :=
  ((List.range 16).filter (fun k => c / 4 ^ k % 4 != 0)).filter (fun k => c / 4 ^ k % 4 == 3)
def checked (s : State) (d c : Nat) (l : List (Nat × Nat)) : State := ((s.resultsShown d c).copiesFenced l).forEach (lostClusters c) loseCluster
theorem selfChecks_eq (d c : Nat) : ∃ l, s.selfChecks d c = if d % 4 = 3 then (s.checked d c l).hubFault else s.checked d c l := ⟨_, rfl⟩

/-- MEM_CONT_STATUS and MEM_ISLAND_FENCED show the results; `stopped` is the hub fault. -/
def ShowsResults (s : State) (d c : Nat) (stopped : Bool) : Prop :=
  s.fld MEM_CONT_STATUS 1 0 = d % 4 ∧ s.bitAt MEM_CONT_STATUS 2 = (d % 4 == 1 || d % 4 == 2) ∧
    s.bitAt MEM_CONT_STATUS 3 = stopped ∧ ∀ k, k < 16 → s.bitAt MEM_ISLAND_FENCED k = (c / 4 ^ k % 4 != 0)
theorem ShowsResults.congr {d c : Nat} {stopped : Bool} (h : s.ShowsResults d c stopped)
    (hcont : t.reg MEM_CONT_STATUS = s.reg MEM_CONT_STATUS) (hfenced : t.reg MEM_ISLAND_FENCED = s.reg MEM_ISLAND_FENCED) :
    t.ShowsResults d c stopped := by
  obtain ⟨hfail, hsimplex, hhub, hcopies⟩ := h
  exact ⟨(fld_congr hcont).trans hfail, (bitAt_congr hcont).trans hsimplex, (bitAt_congr hcont).trans hhub,
    fun k hk => (bitAt_congr hfenced).trans (hcopies k hk)⟩
theorem CheckKept.showsResults {d c : Nat} {stopped : Bool} (hk : s.CheckKept true t) (h : s.ShowsResults d c stopped) :
    t.ShowsResults d c stopped := h.congr (hk.regs _ (.inr (.inr ⟨rfl, .inl rfl⟩))) (hk.regs _ (.inr (.inr ⟨rfl, .inr rfl⟩)))
/-- The two low bits of a field. -/
theorem fld_of_low {a v : Nat} (h : s.fld a 3 0 = v) : s.fld a 1 0 = v % 4 := by
  simp only [fld, Word.field] at h ⊢
  omega
theorem deResult_bits (d : Nat) : deResult d % 2 ^ 4 % 4 = d % 4 ∧ (deResult d).testBit 2 = (d % 4 == 1 || d % 4 == 2) ∧
    (deResult d).testBit 3 = false := by
  have hlt : d % 4 < 4 := Nat.mod_lt _ (by decide)
  rw [deResult]
  generalize d % 4 = e at hlt
  interval_cases e <;> decide
theorem showsResults_resultsShown (d c : Nat) : (s.resultsShown d c).ShowsResults d c false := by
  obtain ⟨hlow, htwo, hthree⟩ := deResult_bits d
  have hcont : (s.resultsShown d c).reg MEM_CONT_STATUS = (s.setFld MEM_CONT_STATUS 3 0 (deResult d)).reg MEM_CONT_STATUS :=
    reg_setReg_ne _ _ (by decide)
  have hbit (i : Nat) (hi : i ≤ 3) : (s.resultsShown d c).bitAt MEM_CONT_STATUS i = (deResult d).testBit i := by
    rw [bitAt_congr hcont, bitAt_setFld _ _ _ _ _ _ _ (by decide) (by decide), if_pos ⟨rfl, Nat.zero_le _, hi⟩, Nat.sub_zero]
  refine ⟨?_, (hbit 2 (by decide)).trans htwo, (hbit 3 (by decide)).trans hthree, fun k hk => ?_⟩
  · rw [fld_congr hcont, fld_of_low (fld_setFld_same _ _ _ _ _ (by decide) (by decide)), hlow]
  · rw [resultsShown, bitAt, reg_setReg_same, BitVec.getLsbD_ofNat, testBit_maskOf _ _ _ hk, decide_eq_true (by omega), Bool.true_and]
theorem reg_copiesFenced (l : List (Nat × Nat)) (a : Nat) : (s.copiesFenced l).reg a = s.reg a := rfl
theorem checkKept_checked (ho : s.ops = []) (d c : Nat) (l : List (Nat × Nat)) : s.CheckKept false (s.checked d c l) ∧
    (s.checked d c l).ShowsResults d c false := by
  have hshown : s.CheckKept false ((s.resultsShown d c).copiesFenced l) :=
    CheckKept.other (((CheckKept.refl s).setFld (by unfold checkReg; decide)).setReg (by unfold checkReg; decide))
  have hres : ((s.resultsShown d c).copiesFenced l).ShowsResults d c false :=
    (showsResults_resultsShown d c).congr (reg_copiesFenced l _) (reg_copiesFenced l _)
  have hlost : ((s.resultsShown d c).copiesFenced l).CheckKept true (s.checked d c l) :=
    (CheckKept.refl _).forEach fun _ k hk h =>
      h.loseCluster (List.mem_range.mp (List.mem_filter.mp (List.mem_filter.mp hk).1).1) (hshown.ops ho)
  exact ⟨hshown.trans hlost.weaken, hlost.showsResults hres⟩

/-! A hub fault beside (R113). -/

theorem checkKept_hubFault : s.CheckKept false s.hubFault := by
  obtain ⟨e, hregs⟩ := contFrame_hubFault (s := s)
  have hkept (a : Nat) (ha : checkReg false a) : a ∉ [MEM_CONT_STATUS, MEM_EVENTS, GLB_EVQ_LOST] := by
    simp only [checkReg, Bool.false_eq_true, false_and, or_false] at ha
    simp only [MEM_CONT_STATUS, MEM_EVENTS, GLB_EVQ_LOST, List.mem_cons, List.not_mem_nil, or_false]
    omega
  refine ⟨fun ho => ?_, ?_, ?_, ?_, ?_, fun i hi => ?_, ?_, fun a ha => hregs a (hkept a ha)⟩
  · rw [e]
    exact ho
  · rw [e]
  · rw [e]
  · rw [e]
  · rw [e]
  · rwa [genOf, e]
  · rw [e]
theorem reg_setHubFaultAt (g : Option Nat) (a : Nat) : (s.setHubFaultAt g).reg a = s.reg a := rfl
theorem reg_hubFault {a : Nat} (ha : a ≠ GLB_EVQ_LOST) : s.hubFault.reg a = s.hubFlagged.reg a := by
  obtain ⟨g, h⟩ := hubFault_spec (s := s)
  rw [h, reg_setHubFaultAt, reg_logEvent _ _ _ ha]
theorem ShowsResults.hubFault {d c : Nat} {b : Bool} (h : s.ShowsResults d c b) : s.hubFault.ShowsResults d c true := by
  obtain ⟨hfail, hsimplex, -, hcopies⟩ := h
  have hset : s.hubFlagged.reg MEM_CONT_STATUS = (s.setBitAt MEM_CONT_STATUS 3 true).reg MEM_CONT_STATUS :=
    reg_setBitAt_ne _ _ _ (by decide)
  have hcont : s.hubFault.reg MEM_CONT_STATUS = (s.setBitAt MEM_CONT_STATUS 3 true).reg MEM_CONT_STATUS :=
    (reg_hubFault (by decide)).trans hset
  have hfenced : s.hubFault.reg MEM_ISLAND_FENCED = s.reg MEM_ISLAND_FENCED :=
    (reg_hubFault (by decide)).trans (onlyRegs_hubFlagged.2 _ (by decide))
  refine ⟨?_, ?_, bits_hubFault.1, fun k hk => (bitAt_congr hfenced).trans (hcopies k hk)⟩
  · rw [fld_congr hcont, fld_setBitAt _ _ _ _ _ _ _ (by decide) (.inr (.inl (by decide))), hfail]
  · rw [bitAt_congr hcont, bitAt_setBitAt _ _ _ _ _ _ (by decide), if_neg (by decide), hsimplex]
/-- The self-checks as a whole. -/
theorem checkKept_selfChecks (ho : s.ops = []) (d c : Nat) : s.CheckKept false (s.selfChecks d c) ∧
    (s.selfChecks d c).ShowsResults d c (d % 4 == 3) := by
  obtain ⟨l, h⟩ := selfChecks_eq (s := s) d c
  obtain ⟨hkept, hres⟩ := checkKept_checked ho d c l
  rw [h]
  split
  · next hd => exact ⟨hkept.trans checkKept_hubFault, by rw [hd]; exact hres.hubFault⟩
  · next hd => exact ⟨hkept, by rwa [beq_false_of_ne hd]⟩

end State
end Sys2Proof.Machine
end

section
/-! The warm reset as a whole (R123, R528, R529). -/

namespace Sys2Proof.Machine.State
variable {s t : State}

/-! The device is ACTIVE. -/

/-- ACTIVE, WARM_DONE set. -/
def activeShown (s : State) : State := ((s.setFld AON_PWR_STATUS 2 0 1).setBitAt AON_PWR_STATUS 8 false).event AON_EVENTS 4
def resetOver (s : State) : State := { s with aon := { s.aon with resetting := 0 } }
def clustersSynced (s : State) : State := s.forEach (List.range 16) syncReset
def gpioSettled (s : State) : State := s.forEach (List.range 8) settleGpio
/-- The operations whose records are owed after the reset. -/
def warmOwed (s : State) : List Asn := (s.byAsn.filter (fun o => o.phase == .ended)).map Op.asn
def uploadsResumed (s : State) : State := s.forEach (s.byAsn.filter (fun o => o.opcode == 0xB && o.phase == .running)) resumeUpload

theorem onlyRegs_activeShown : s.OnlyRegs s.activeShown [AON_PWR_STATUS, AON_EVENTS] :=
  ((s.onlyRegs_setFld _ _ _ _ _ (by simp)).trans (onlyRegs_setBitAt _ _ _ _ _ (by simp))).trans (onlyRegs_event _ _ _ _ (by simp))
theorem activeShown_shows : s.activeShown.deviceState = 1 ∧ s.activeShown.bitAt AON_EVENTS 4 = true := by
  constructor
  · have hevent : s.activeShown.reg AON_PWR_STATUS = ((s.setFld AON_PWR_STATUS 2 0 1).setBitAt AON_PWR_STATUS 8 false).reg AON_PWR_STATUS :=
      reg_setBitAt_ne _ _ _ (by decide)
    rw [deviceState, fld_congr hevent, fld_setBitAt _ _ _ _ _ _ _ (by decide) (.inr (.inl (by decide))),
      fld_setFld_same _ _ _ _ _ (by decide) (by decide)]
    decide
  · rw [activeShown, bitAt_event _ _ _ _ _ (by decide), decide_eq_true ⟨rfl, rfl⟩, Bool.true_or]
theorem resetOver_parts : s.resetOver.aon.resetting = 0 ∧ s.resetOver.ops = s.ops ∧ s.resetOver.sec = s.sec ∧
    s.resetOver.store = s.store ∧ s.resetOver.tb = s.tb ∧ s.resetOver.cfg = s.cfg ∧ ∀ a, s.resetOver.reg a = s.reg a :=
  ⟨rfl, rfl, rfl, rfl, rfl, rfl, fun _ => rfl⟩
/-- Without operations no record is owed, and WARM_RECOVERY counts none (R125). -/
theorem warmRecords_nil : s.warmRecords [] = s.logEvent 0x0310 0 0 := rfl
theorem byAsn_nil (h : s.ops = []) : s.byAsn = [] := by
  rw [byAsn, h]
  rfl
theorem warmOwed_nil (h : s.ops = []) : s.warmOwed = [] := by
  rw [warmOwed, byAsn_nil h]
  rfl
theorem uploadsResumed_nil (h : s.ops = []) : s.uploadsResumed = s := by
  rw [uploadsResumed, byAsn_nil h]
  rfl
theorem getLast_logEvent (code unit data : Nat) :
    (s.logEvent code unit data).evq.recs.getLast? = some (withParity (eventRecord s.now code unit data)) := by
  rw [logEvent_recs, List.getLast?_concat]

/-- The state at the self-checks. -/
def warmBack (s : State) (l : List (Nat × Nat × Nat)) : State := s.allDpsOff.islandsOn.unitsBack (s.allDpsOff.goneIslands l)
theorem exec_warmResetEnd (l : List (Nat × Nat × Nat)) (d c : Nat) (h : s.aon.resetting = 3) : exec (.warmResetEnd l d c) s =
    .next ((((s.warmBack l).selfChecks d c).clustersSynced.activeShown.resetOver.gpioSettled.warmRecords (s.warmBack l).warmOwed).uploadsResumed) := by
  show execWarmResetEnd l d c s = _
  unfold execWarmResetEnd
  rw [if_neg (by rw [h]; decide)]
  extract_lets +onlyGivenNames u1 gone u2 u3 u4 u5 u6
  have h6 : s.warmBack l = u6 := rfl
  clear_value u6
  extract_lets +onlyGivenNames owed u7 u8 u9 a9 u10 u11 u12
  rw [h6]
  have h8 : (u6.selfChecks d c).clustersSynced = u8 := rfl
  have ho : u6.warmOwed = owed := rfl
  clear_value u8 owed
  have h10 : u8.activeShown.resetOver = u10 := rfl
  clear_value u10
  rw [h8, h10, ho]
  rfl

theorem warmed_parts : s.warmed.heldRecs = s.heldRecs ∧ s.warmed.kept = s.kept ∧
    s.warmed.cfg.active = s.cfg.active ∧ s.warmed.sec = s.sec := ⟨rfl, rfl, rfl, rfl⟩
/-- What the memories' check leaves, from the state that enters the end of the reset. -/
theorem warmBack_spec (l : List (Nat × Nat × Nat)) : (s.ops = [] → (s.warmBack l).ops = []) ∧ (s.warmBack l).sec = s.sec ∧
    (s.warmBack l).store = s.store ∧ (s.warmBack l).tb = s.tb ∧ (s.warmBack l).cfg.active = s.cfg.active ∧
    (∀ i, i < 26 → retentionHolds ((l.filter (fun x => x.1 == i)).map Prod.snd) = false → (s.warmBack l).genOf i = 0) ∧
    (∀ d, d < 64 → (s.warmBack l).dpsState d ∉ [1, 2, 3]) ∧
    (s.warmBack l).reg AON_ISL_MODE0 = 0 ∧ (s.warmBack l).reg AON_ISL_MODE1 = 0 := by
  have hoff := (dpsFrame_allDpsOff (s := s)).1
  have hdps (d : Nat) (hd : d < 64) := (dpsState_allDpsOff (s := s) hd).2
  rw [warmBack]
  generalize hu : s.allDpsOff = u at hoff hdps
  have hon : u.OnlyRegs u.islandsOn [AON_ISL_MODE0, AON_ISL_MODE1] :=
    (u.onlyRegs_setReg _ _ _ (by simp)).trans (onlyRegs_setReg _ _ _ _ (by simp))
  have hgone {i : Nat} := genOf_unitsBack (s := u.islandsOn) (gone := u.goneIslands l) (i := i)
  have hk := checkKept_unitsBack (mem := true) (s := u.islandsOn) (u.goneIslands l)
  have hmodes := modes_islandsOn (s := u)
  generalize u.islandsOn.unitsBack (u.goneIslands l) = v at hgone hk
  refine ⟨fun ho => hk.ops ?_, hk.sec.trans ?_, hk.store.trans ?_, hk.tb.trans ?_, hk.active.trans ?_,
    fun i hi hr => hgone (mem_goneIslands hi hr), fun d hd => ?_, (hk.regs _ (checkReg_aon (by decide))).trans hmodes.1,
    (hk.regs _ (checkReg_aon (by decide))).trans hmodes.2⟩
  · rw [hon.1, hoff]
    exact ho
  · rw [hon.1, hoff]
  · rw [hon.1, hoff]
  · rw [hon.1, hoff]
  · rw [hon.1, hoff]
  · have hreg : u.islandsOn.reg (DPS_STATUS d) = u.reg (DPS_STATUS d) :=
      reg_islandsOn (by simp only [DPS_STATUS, AON_ISL_MODE0]; omega) (by simp only [DPS_STATUS, AON_ISL_MODE1]; omega)
    have hsame : v.dpsState d = u.dpsState d := fld_congr ((hk.regs _ (checkReg_dps hd)).trans hreg)
    rw [hsame]
    exact hdps d hd
/-- The device wakes: what the self-checks leave, and what shows that it is ACTIVE. -/
theorem activeShown_resetOver_spec : s.activeShown.resetOver.deviceState = 1 ∧ s.activeShown.resetOver.bitAt AON_EVENTS 4 = true ∧
    s.activeShown.resetOver.aon.resetting = 0 ∧ s.activeShown.resetOver.ops = s.ops ∧ s.activeShown.resetOver.sec = s.sec ∧
    s.activeShown.resetOver.store = s.store ∧ s.activeShown.resetOver.tb = s.tb ∧ s.activeShown.resetOver.cfg = s.cfg ∧
    ∀ a, a ≠ AON_PWR_STATUS → a ≠ AON_EVENTS → s.activeShown.resetOver.reg a = s.reg a := by
  obtain ⟨hstate, hdone⟩ := activeShown_shows (s := s)
  obtain ⟨e, hregs⟩ := onlyRegs_activeShown (s := s)
  generalize s.activeShown = u at hstate hdone e hregs
  obtain ⟨hres, hops, hsec, hstore, htb, hcfg, hreg⟩ := resetOver_parts (s := u)
  refine ⟨(fld_congr (hreg _)).trans hstate, (bitAt_congr (hreg _)).trans hdone, hres, hops.trans ?_, hsec.trans ?_, hstore.trans ?_,
    htb.trans ?_, hcfg.trans ?_, fun a hp he => (hreg a).trans (hregs a (by simp [hp, he]))⟩ <;> rw [e]

/-- The end from the check of the memories on, when nothing is in flight. -/
theorem warmResetEnd_spec (l : List (Nat × Nat × Nat)) (d c : Nat) (h : s.aon.resetting = 3) (hops : s.ops = []) :
    ∃ w t, exec (.warmResetEnd l d c) s = .next t ∧ (s.warmBack l).CheckKept false w ∧ w.ShowsResults d c (d % 4 == 3) ∧
      w.activeShown.resetOver.CheckKept true t ∧ t.evq.recs.getLast? = some (withParity (eventRecord s.now 0x0310 0 0)) := by
  obtain ⟨bops, -, -, btb, -⟩ := s.warmBack_spec l
  have hexec := exec_warmResetEnd (s := s) l d c h
  rw [warmOwed_nil (bops hops), warmRecords_nil] at hexec
  generalize s.warmBack l = b at bops btb hexec ⊢
  obtain ⟨hchecks, hres⟩ := checkKept_selfChecks (bops hops) d c
  generalize b.selfChecks d c = v at hchecks hres hexec
  have hsync : v.CheckKept true v.clustersSynced := (CheckKept.refl v).forEach fun _ _ hk h => h.syncReset (List.mem_range.mp hk)
  have hbw : b.CheckKept false v.clustersSynced := hchecks.trans hsync.weaken
  refine ⟨v.clustersSynced, _, hexec, hbw, hsync.showsResults hres, ?_⟩
  obtain ⟨-, -, -, wops, -, -, wtb, -⟩ := activeShown_resetOver_spec (s := v.clustersSynced)
  generalize v.clustersSynced.activeShown.resetOver = x at wops wtb
  have hgpio : x.CheckKept true x.gpioSettled := (CheckKept.refl x).forEach fun _ _ _ h => h.settleGpio
  have hlast : x.CheckKept true (x.gpioSettled.logEvent 0x0310 0 0) := hgpio.logEvent
  have hnow : x.gpioSettled.now = s.now := congrArg Tb.gcc (hgpio.tb.trans (wtb.trans (hbw.tb.trans btb)))
  rw [uploadsResumed_nil (hlast.ops (wops.trans (hbw.ops (bops hops)))), ← hnow]
  exact ⟨hlast, getLast_logEvent ..⟩

end Sys2Proof.Machine.State

open Sys2Proof Sys2Proof.Machine

/-- Settles O25: the begin keeps `State.HaltKept` around `State.warmOp`, and the end keeps `State.CheckKept` around the self-checks. -/
theorem warmResetRuns : Obligations.WarmResetRuns := by
  unfold Obligations.WarmResetRuns
  refine ⟨fun s h => congrArg Host.Outcome.next (if_pos h), fun l d c s h => congrArg Host.Outcome.next (if_pos h), fun s h => ?_,
    fun l d c s h hops _ => ?_⟩
  · obtain ⟨u, v, w, t, hexec, hu, hv, hdps, hw, hchans, rfl⟩ := State.warmResetStart_spec h
    obtain ⟨hres, pchans, pops, pcfg, psec, pkept, pheld⟩ := State.warmWaits_parts (s := w)
    obtain ⟨hrun, hsched, hasn⟩ := State.ops_of_warmed (hw.ops.trans hv.ops)
    obtain ⟨uheld, ukept, uactive, usec⟩ := State.warmed_parts (s := u)
    have hkeys := State.inForce_trans (State.inForce_trans hu.sec (usec ▸ hv.sec)) hw.sec
    refine ⟨_, hexec, hres, State.chan_pinReset (pchans.trans hchans), State.bitAt_warmWaits, ?_, ?_, ?_, ?_, fun d hd => ?_,
      fun hwr hf => ?_, ?_, ?_⟩
    · rwa [pops]
    · rwa [pops]
    · rw [pops, hasn, State.map_asn_of_core hu.ops]
    · rw [pcfg, hw.active, hv.active, uactive, hu.active]
    · have hreg := hw.regs (DPS_STATUS d) (.inr ⟨rfl, by simp only [DPS_STATUS]; omega⟩)
      have hp : DPS_STATUS d ≠ AON_PWR_STATUS := by unfold DPS_STATUS AON_PWR_STATUS; omega
      have hsame : w.warmWaits.dpsState d = v.dpsState d := State.fld_congr ((State.reg_warmWaits hp).trans hreg)
      rw [hsame]
      exact hdps d hd
    · obtain ⟨-, -, hk, -, hc, -⟩ := hkeys hwr hf
      rw [psec]
      exact ⟨hk, hc⟩
    · rw [pkept, hw.kept, hv.kept, ukept, hu.kept]
    · rw [pheld, hw.heldRecs, hv.heldRecs, uheld, hu.heldRecs]
  · obtain ⟨bops, bsec, bstore, -, bactive, bgens, bdps, bmode0, bmode1⟩ := s.warmBack_spec l
    obtain ⟨w, t, hexec, hbw, hres, hlast, hevent⟩ := State.warmResetEnd_spec l d c h hops
    generalize s.warmBack l = b at bops bsec bstore bactive bgens bdps bmode0 bmode1 hbw
    obtain ⟨hstate, hdone, hover, wops, wsec, wstore, -, wcfg, wreg⟩ := State.activeShown_resetOver_spec (s := w)
    generalize w.activeShown.resetOver = x at hstate hdone hover wops wsec wstore wcfg wreg hlast
    have htops : t.ops = [] := hlast.ops (wops.trans (hbw.ops (bops hops)))
    have hkeep (a : Nat) (ha : checkReg true a) (hp : a ≠ AON_PWR_STATUS) (he : a ≠ AON_EVENTS) : t.reg a = w.reg a :=
      (hlast.regs a ha).trans (wreg a hp he)
    have hunit (a : Nat) (ha : checkReg false a) (ha' : checkReg true a) (hp : a ≠ AON_PWR_STATUS) (he : a ≠ AON_EVENTS) :
        t.reg a = b.reg a := (hkeep a ha' hp he).trans (hbw.regs a ha)
    have hm0 : t.reg AON_ISL_MODE0 = 0 :=
      (hunit _ (checkReg_aon (by decide)) (checkReg_aon (by decide)) (by decide) (by decide)).trans bmode0
    have hm1 : t.reg AON_ISL_MODE1 = 0 :=
      (hunit _ (checkReg_aon (by decide)) (checkReg_aon (by decide)) (by decide) (by decide)).trans bmode1
    obtain ⟨hfail, hsimplex, hhub, hcopies⟩ := hres.congr
      (hkeep _ (.inr (.inr ⟨rfl, .inl rfl⟩)) (by decide) (by decide)) (hkeep _ (.inr (.inr ⟨rfl, .inr rfl⟩)) (by decide) (by decide))
    refine ⟨t, hexec, (State.fld_congr (hlast.regs _ (checkReg_aon (by decide)))).trans hstate,
      hlast.resetting.trans hover, (State.bitAt_congr (hlast.regs _ (checkReg_aon (by decide)))).trans hdone,
      fun i _ => State.islandMode_of_zero hm0 hm1 i, fun i hi hr => hlast.gens i ?_, fun d hd => ?_, hfail, hsimplex, hhub, hcopies, htops,
      ?_, ?_, ?_, hevent⟩
    · rw [State.genOf, wcfg]
      exact hbw.gens i (bgens i hi hr)
    · have hsame : t.dpsState d = b.dpsState d := State.fld_congr (hunit _ (checkReg_dps hd) (checkReg_dps hd)
        (by unfold DPS_STATUS AON_PWR_STATUS; omega) (by unfold DPS_STATUS AON_EVENTS; omega))
      rw [hsame]
      exact bdps d hd
    · rw [hlast.active, wcfg, hbw.active, bactive]
    · rw [hlast.sec, wsec, hbw.sec, bsec]
    · rw [hlast.store, wstore, hbw.store, bstore]
end
